-- ==== Sys2Proof/Word.lean ====
section
/-! DEFINITION. The word types of the Drelet parts, and the sparse tables that registers, counters and memory are held in. -/

namespace Sys2Proof

/-- One byte of a Drelet format (R10, R11). -/
abbrev Byte := BitVec 8

/-- A Lineside register, a Junction register, a 64-bit counter (R516, R527). -/
abbrev Word := BitVec 64

/-- A string of bytes, the one at the lowest address first (R11). -/
abbrev Bytes := List Byte

/-- A sparse table: keys strictly rising; what is not listed reads as a default the reader of the table names. -/
abbrev Tbl (α : Type) := List (Nat × α)

/-- The value at key `k`, or the default `d`. -/
def Tbl.get {α : Type} (d : α) : Tbl α → Nat → α
  | [], _ => d
  | (j, v) :: t, k => if k = j then v else if k < j then d else Tbl.get d t k

/-- Remove key `k`. -/
def Tbl.del {α : Type} : Tbl α → Nat → Tbl α
  | [], _ => []
  | (j, v) :: t, k => if k = j then t else if k < j then (j, v) :: t else (j, v) :: Tbl.del t k

/-- Insert `v` at `k` in rising order. -/
def Tbl.ins {α : Type} : Tbl α → Nat → α → Tbl α
  | [], k, v => [(k, v)]
  | (j, w) :: t, k, v =>
    if k = j then (k, v) :: t else if k < j then (k, v) :: (j, w) :: t else (j, w) :: Tbl.ins t k v

/-- Write `v` at `k`; writing the default removes the entry, so equal tables are equal lists. -/
def Tbl.put {α : Type} [DecidableEq α] (d : α) (t : Tbl α) (k : Nat) (v : α) : Tbl α :=
  if v = d then Tbl.del t k else Tbl.ins t k v

/-- Keys strictly rising, all above `lo`, no entry equal to the default. -/
def Tbl.okFrom {α : Type} [DecidableEq α] (d : α) : Nat → Tbl α → Bool
  | _, [] => true
  | lo, (j, v) :: t => decide (lo ≤ j) && decide (v ≠ d) && Tbl.okFrom d (j + 1) t

/-- The canonical form of a table. -/
def Tbl.ok {α : Type} [DecidableEq α] (d : α) (t : Tbl α) : Bool := Tbl.okFrom d 0 t

end Sys2Proof
end

