-- ==== Sys2Proof/Config.lean ====
section
/-! DEFINITION. What the spec leaves open, as constants without a body, and the functions it names by standard only. -/

namespace Sys2Proof.Config

/-- A value the spec leaves open: the k-th one taken in a run (log 2). -/
opaque freeValue : Nat → Word

/-- A choice the spec leaves open: the k-th one taken in a run (log 2). -/
opaque freeBool : Nat → Bool

/-- SHA-384 of a byte string, 48 bytes (FIPS 180-4, named by R466 to R474). -/
opaque sha384 : Bytes → Bytes

/-- ECDSA P-384 with SHA-384: public key, message, signature (R470, R472, R474, R479). -/
opaque ecdsaVerify : Bytes → Bytes → Bytes → Bool

/-- ML-DSA-87 with an empty context string: public key, message, signature (R470, R472). -/
opaque mldsaVerify : Bytes → Bytes → Bytes → Bool

/-- The x-coordinate of ECDH on P-384 of a private scalar and a public key (R468). -/
opaque ecdhX : Nat → Bytes → Bytes

/-- HKDF-SHA-384 (RFC 5869): input key, salt, info, length (R467, R468). -/
opaque hkdf : Bytes → Bytes → Bytes → Nat → Bytes

/-- RFC 3394 AES-256 key unwrap: key, wrapped key; none when the integrity check fails (R468). -/
opaque keyUnwrap : Bytes → Bytes → Option Bytes

/-- AES-256-GCM: key, IV, additional data, ciphertext, tag; none when the tag fails (R339, R341). -/
opaque gcmOpen : Bytes → Bytes → Bytes → Bytes → Bytes → Option Bytes

/-- The integrity check of a GCM-AES-XPN-256 frame: SAK, SSCI, salt, packet number, frame (R444, R475). -/
opaque macsecOk : Bytes → Word → Bytes → Nat → Bytes → Bool

/-- The P-384 public key of a private scalar, SEC1 uncompressed (R467, R482). -/
opaque p384Public : Nat → Bytes

/-- The group order n of P-384 less 2, so that the device key of R467 is defined by a successor. -/
opaque p384OrderPred : Nat

/-- PUF_HELPER, 256 bytes of helper data (R466). -/
opaque pufHelper : Bytes

/-- The PUF response R that helper data reconstructs (R466, R467). -/
opaque pufResponse : Bytes → Bytes

/-- DEVICE_SALT, 32 bytes written at manufacture (R466). -/
opaque deviceSalt : Bytes

/-- VENDOR_KEY_HASH, 48 bytes (R466). -/
opaque vendorKeyHash : Bytes

/-- SERIAL of the part (R482, R531). -/
opaque serial : Word

/-- The vendor certificate of DEVICE_PUB (R482). -/
opaque vendorCert : Bytes

/-- Shunting engines marked failed at manufacture, bit e for physical engine e (R491). -/
opaque enginesFused : BitVec 68

/-- SRAM rows repaired by fuse (R490, R531). -/
opaque rowsFused : BitVec 16

/-- The n-th nonce of the true random number generator, 48 bytes (R479). -/
opaque nonce : Nat → Bytes

/-- The memory keys of the n-th draw of the true random number generator, for the near tier (false) and the far tier (R348, log 91). -/
opaque memKey : Nat → Bool → Bytes

/-- AES-256-XTS encryption of a line: keys, line address, plaintext (R348). -/
opaque xts : Bytes → Nat → Bytes → Bytes

/-- The 8 check bytes of a line of a tier: its address and ciphertext; the code is not given (R348, R352). -/
opaque lineCheck : Bool → Nat → Bytes → Bytes

/-- The signal-to-noise ratio a receiver in lock measures, by port and station time, in 0.25 dB (R531, log 75). -/
opaque laneSnr : Nat → Nat → BitVec 8

/-- The IEEE 1588 timeSource value a root announces under PPS (0) or set time (1), which the spec leaves open (R180, log 89). -/
opaque timeSource : Nat → BitVec 8

end Sys2Proof.Config
end

