-- ==== Sys2Proof/Machine/Operands.lean ====
section
/-! DEFINITION. The operand forms of the commands: which part, which path, and what the outside world brings (log 8). -/

namespace Sys2Proof.Machine

/-- A link end: a link of the Lineside (false A, true B) or a port of the Junction in the numbering of R53. -/
inductive End where
  | ls (link : Bool)
  | jn (port : Nat)
deriving DecidableEq, Repr

/-- One of the two parts. -/
inductive Part where
  | ls | jn
deriving DecidableEq, Repr

/-- How a Lineside register is reached: a VC3 request on a link with its TXN (R519), or the debug segment (R521). -/
inductive LsVia where
  | vc3 (link : Bool) (txn : Nat)
  | debug
deriving DecidableEq, Repr

/-- How a register is reached: one of the Lineside's ways, or the Junction's BAR0 over PCIe or the TAP (R529). -/
inductive RegVia where
  | ls (via : LsVia)
  | bar (tap : Bool)
deriving DecidableEq, Repr

/-- The mailbox window register that a write of R443 reaches: CTRL, REQ_BASE or RPL_BASE (R442). -/
inductive MboxReg where
  | ctrl | reqBase | rplBase
deriving DecidableEq, Repr

/-- What a poisoned near-tier line belongs to (R353): a section of a bundle, a history block (context, far ring, tick), the firmware
area, or an area whose owner is found by its address. -/
inductive LineOwner where
  | section_ (bundle index : Nat)
  | history (ctx : Nat) (far : Bool) (tick : Nat)
  | firmware
  | byAddress
deriving DecidableEq, Repr

/-- A foreign master that Announce messages name (R176): what the best master clock algorithm compares. -/
structure Master where
  identity : Nat
  priority1 : Nat
  class_ : Nat
  accuracy : Nat
  variance : Nat
  priority2 : Nat
  steps : Nat
  source : Nat
  timeSource : Nat
  utcOffset : BitVec 16
  utcValid : Bool
  leap59 : Bool
  leap61 : Bool
  /-- log2 of the Sync interval and of the Announce interval it announces -/
  logSync : Int
  logAnnounce : Int
  /-- time run at its latest Announce -/
  seenAt : Nat
deriving DecidableEq, Repr

/-- A received IEEE 1588 message, decoded (R176): times in u, correction in 2^-16 ns. -/
structure PtpMsg where
  kind : Nat
  domain : Nat
  seq : Nat
  twoStep : Bool
  origin : Nat
  correction : Int
  /-- addressed to this port (Delay_Resp) -/
  toUs : Bool
  master : Master
deriving DecidableEq, Repr

/-- What a run of R486 finds: strap levels, failing known-answer runs (row, instance, first failing step), SRAM repair, units outside
the known-answer table, the CXL expanders, and the milliseconds from the reset to phase 4. -/
structure BootIn where
  straps : BitVec 3
  katFail : List (Nat × Nat × Nat)
  repaired : Nat
  spareRows : Nat
  badArrays : Nat
  stackFail : Bool
  storeFail : Bool
  farGiB : Nat
  ms : Nat
deriving DecidableEq, Repr

/-- What the host drives at the boundary in one LCLK (R68): increments by counter, stall vector, region stops, host reset, and the
EVT_GROUP_PRESENT tie-off, and what its scan chains hold, a word for each shift cycle to come (R82). -/
structure LclkIn where
  inc : List (Nat × Nat)
  stall : BitVec 256
  stopped : BitVec 16
  inReset : Bool
  present : BitVec 64
  chains : List Word
deriving DecidableEq, Repr

/-- What a self-test found (R496). -/
structure SelfResult where
  bist : BitVec 6
  tablet : BitVec 2
  crc : BitVec 4
  repaired : Nat
deriving DecidableEq, Repr

end Sys2Proof.Machine
end

