-- ==== Sys2Proof/Syntax.lean ====
section
/-! DEFINITION. The commands of the table, one constructor a row, with the operands their rules name (log 8). -/

namespace Sys2Proof

open Sys2Proof.Machine (End Part LsVia RegVia MboxReg LineOwner PtpMsg BootIn LclkIn SelfResult)

/-- A command to the Drelet parts. -/
inductive Instr where
  /-- R486: PORST_N deasserted: the Junction samples its straps, derives keys, verifies firmware, trains host interfaces, runs known-answer tests and selects its service state. -/
  | coldReset (boot : BootIn)
  /-- R511: A PORST_N low of 10 us or more puts the Junction in cold reset within 100 ns, prevailing over every other reset. -/
  | porstNAssert (ns : Nat)
  /-- R504: A rail stays below 92 % of nominal for 1 us, and the Junction holds itself in cold reset until PORST_N cycles. -/
  | supplyLoss
  /-- R507: A REFCLK loss of more than 64 ns unlocks the station clock, and a loss of 1 us or more puts the Junction in cold reset. -/
  | refclkLoss (ns : Nat)
  /-- R507: REFCLK has been stable for 100 us with PORST_N high, and the Junction leaves cold reset and runs the reset sequence. -/
  | refclkRestored (boot : BootIn)
  /-- R511: PERST_N resets only the PCIe endpoint. -/
  | perstAssert
  /-- R484: The management-core watchdog expires and causes a warm reset, or a cold reset before phase 4 of a warm reset. -/
  | watchdogExpiry (early : Bool) (boot : BootIn)
  /-- R163: The 100 us wait for Lineside residues before a commanded or watchdog reset ends, and the residues are committed. -/
  | flushWaitExpiry (boot : BootIn)
  /-- R162: PWRFAIL_N falls: the tray Junction sends FLUSH on every Lineside port, stops mailbox work other than status, and commits records to the Record Store. -/
  | powerFail (ns : Nat)
  /-- R162: All residues are committed, and the Junction records code 0x20. -/
  | powerFailFlushComplete
  /-- R510: The flush is complete and PWRFAIL_N has been high for 1 ms, so the Junction resumes mailbox work without a reset. -/
  | powerFailClear
  /-- R16: The command confirms level, twin and pair index against the straps, after which the ports the role uses enter TRAIN. -/
  | roleConfirm (m : Nat)
  /-- R30: Twin judging begins 40 ms after role confirmation when no twin port has become ACTIVE. -/
  | twinJudgingStart
  /-- R28: No valid twin exchange has completed for 2 consecutive ticks, so the Junction declares its twin lost and sets TWIN_LOST. -/
  | twinLost
  /-- R433: At the next sample edge a Twin B that has lost Twin A takes export duty and re-exports from the last acknowledged mirror sequence. -/
  | dutyTakeover
  /-- R29: The command schedules return of export duty to Twin A at a named tick. -/
  | dutyTransfer (m : Nat)
  /-- R434: At the transfer tick each export stream moves whole to the new holder, with the numbering continued. -/
  | dutyTransferEffect
  /-- R37: At t_n the Junction begins tick n, applies pending switches and step parts, issues Waybill lookups and sends tick marks and twin time messages. -/
  | sampleEdge (temps : List (Nat × Int))
  /-- R41: At D_FRAME the frame phase closes with what has arrived, the residual pass starts and shard digests are classified. -/
  | dFrameDeadline
  /-- R387: At D_TRAY the tray reduction closes with the presence words resolved, the partial is sent and the failure detector evaluates every die slot. -/
  | dTrayDeadline
  /-- R255: At D_RACK, D_POD or D_ROOT the reduction closes, the partial or published results leave and the output digest is formed. -/
  | reductionDeadline (phase : Nat)
  /-- R263: At D_BCAST the tray accepts or ages the fleet statistics, and fixed-function detector pairs become ready. -/
  | dBcastDeadline
  /-- R277: Scoring closes, verdicts not computed become late-missing, siding pages are abandoned and retiring bundles are freed. -/
  | dScoreEndDeadline
  /-- R277: The verdicts of tick n are written to the history, queued for export and written as history blocks. -/
  | dPublishDeadline
  /-- R250: A receive stream's arrival deadline passes, and an incomplete copy is late-missing, which may resolve a child slot. -/
  | streamArrivalDeadline (port stream tick : Nat)
  /-- R48: At each slot start the sender emits an owned, free-rotation, slack-replay or idle flit carrying the pending signal and credit fields. -/
  | flitSlotTransmit (e : End)
  /-- R201: A received block is FEC-decoded and lane parity is checked, which may fail its flits, retire the lane or retrain the link. -/
  | blockDecoded (e : End) (idx n : Nat) (rx : List Nat)
  /-- R216: A passing flit is classified by SEQ, delivered or held, and its acknowledgement, NAK and credit fields are applied. -/
  | flitReceived (e : End) (slot grid : Nat) (raw : Bytes)
  /-- R66: After mismatches in 2 consecutive ticks the direction is quarantined with an alarm. -/
  | timetableQuarantine (port : Nat)
  /-- R66: A full tick with every owned slot matching ends the quarantine. -/
  | quarantineEnd (port : Nat)
  /-- R218: 256 slots pass without progress on the oldest unacknowledged flit, so it becomes pending replay, or after 8 replays the link retrains. -/
  | replayTimeout (e : End)
  /-- R223: 1 ms after retirement the link retrains, or it stays HELD after the third retirement within 1 s. -/
  | retireTimeout (e : End)
  /-- R220: An enabled port leaves DOWN and sends training frames. -/
  | linkTrainStart (e : End)
  /-- R226: A training frame updates frame lock, leader handling and block lock, and may move the end to IDENT. -/
  | trainingFrameReceived (e : End) (samePhase : Bool) (header : Word)
  /-- R220: Training not done within 20 ms returns the link to DOWN. -/
  | trainTimeout (e : End)
  /-- R220: 10 ms after a training timeout the end enters TRAIN again. -/
  | trainRetry (e : End)
  /-- R227: The far end's IDENT message is checked under the cabling rules, and the end moves to ALIGN or HELD. -/
  | identReceived (e : End) (raw : Bytes)
  /-- R220: At slot 0 of the next tick an ALIGNed link enters ACTIVE, resetting sequences and credits. -/
  | linkActiveEntry (e : End)
  /-- R446: A received advertisement replaces the parent's set of pairs for that child slot. -/
  | subtreeAdvertisement (port : Nat)
  /-- R399: A distinct ABORT for a group slot moves an ARMED slot to PENDING or keeps the earlier instant, and a Junction relays it. -/
  | signalAbortReceived (e : End)
  /-- R390: A FENCE with a new epoch raises FENCE_HOLD and logs code 0x0F, while a stale FENCE is counted. -/
  | signalFenceReceived (link : Bool)
  /-- R140: STOP raises STOP_GATE at a Lineside and is relayed downstream by a Junction. -/
  | signalStopReceived (e : End)
  /-- R162: A Lineside records code 0x19, pauses read-outs and gives VC2 to Logbook messages until nothing is unflushed. -/
  | signalFlushReceived (link : Bool)
  /-- R207: ALARM sets the alarm-pending attention bit at a Junction. -/
  | signalAlarmReceived (e : End)
  /-- R127: TRACE triggers the Lineside trace. -/
  | signalTraceReceived (link : Bool)
  /-- R182: A tick mark yields an offset measurement, and the servo updates rate, state and step. -/
  | tickMarkReceived (e : End)
  /-- R181: Every 2^ECHO_PERIOD ticks the receiver sends a delay echo upward with T3 inserted on the fly. -/
  | delayEchoDue (e : End)
  /-- R181: The tick-mark sender captures t4 for return in its next tick mark. -/
  | delayEchoReceived (port : Nat)
  /-- R181: A twin time message gives a twin-port time measurement and counts as a valid exchange. -/
  | twinTimeMessageReceived (port : Nat)
  /-- R173: A source stops being selectable, and the clock moves to the next source or enters HOLDOVER. -/
  | sourceLoss (part : Part)
  /-- R173: A higher-priority source LOCKED for REVERT_TICKS is selected again. -/
  | sourceRevert (part : Part)
  /-- R168: The holdover error bound exceeds HOLDOVER_LIMIT, and the clock becomes UNLOCKED, except at the time root. -/
  | holdoverLimitExceeded (part : Part)
  /-- R176: The root processes an IEEE 1588 message for the best master clock algorithm, its offset and the UTC offset. -/
  | ptpMessageReceived (msg : PtpMsg)
  /-- R177: A PPS_IN rising edge marks a TAI second for the PPS reference. -/
  | ppsInEdge
  /-- R508: SYNCE_IN has run within tolerance for 1 s and is qualified. -/
  | synceQualified (ppt : Int)
  /-- R508: A missing edge or a deviation disqualifies SYNCE_IN. -/
  | synceDisqualified
  /-- R192: A timestamp input edge is captured into its queue, or dropped and counted. -/
  | tsInEdge (k : Nat) (falling wide : Bool)
  /-- R193: A trigger output drives its scheduled pulse edge and applies any pending configuration at pulse end. -/
  | trigOutEdge (k : Nat)
  /-- R194: PPS_OUT rises at each TAI second boundary unless the clock is unlocked. -/
  | ppsOutEdge
  /-- R121: A tray Junction checks a complete frame stream and accepts it or counts it missed or stale-epoch. -/
  | frameReceived (port : Nat)
  /-- R122: The partner's presence word is taken from T34 or T35 for the tray reduction. -/
  | presenceWordReceived (port : Nat)
  /-- R250: A complete child partial copy is checked and the child slot resolved and merged when both copies' fates are known. -/
  | partialReceived (port : Nat)
  /-- R252: A batch of ready lanes finishes merging in the marshalling units. -/
  | mergeBatchComplete
  /-- R257: The twin's digest stream arrives and counts as a valid exchange. -/
  | twinDigestReceived (port : Nat)
  /-- R262: A Junction above the tray relays each statistics flit in its owned slot, or sends it VOID if late. -/
  | statsFlitReceived (port index : Nat)
  /-- R263: A tray checks the statistics stream for tick, digests and timeliness, and picks the primary or cross copy. -/
  | statsStreamReceived (port : Nat)
  /-- R275: A batch of ready detector-entity pairs is evaluated, levels are updated under hysteresis and actions are taken. -/
  | detectorBatchReady (tick ctx : Nat)
  /-- R290: Unresolved features become missing at D_BCAST + FEATURE_DEADLINE, making walks ready. -/
  | featureDeadline (tick ctx ens : Nat)
  /-- R294: A Waybill lookup hits or misses and resolves the entity's WAYBILL features. -/
  | waybillLookupComplete (tick ctx entity : Nat) (error : Bool)
  /-- R295: A thread finishes walking one tree for one entity and adds the leaf to the exact sum. -/
  | treeWalkComplete (tick ctx ens entity tree : Nat) (fault : Option (Nat × Nat))
  /-- R303: A siding page is loaded into a frame, or retried or abandoned on error with code 0x25. -/
  | sidingPageFetchComplete (tick ctx : Nat) (ok : Bool)
  /-- R312: All residuals of the tick are delivered from the committed forecasts. -/
  | residualPassComplete
  /-- R329: At T_P a group's rows are staged with X, V, U, G and state, or reset to INIT. -/
  | forecasterUpdateStart
  /-- R324: The sequence engine executes the next program instruction after the previous one has written its last element. -/
  | sequenceInstruction (fault : Bool)
  /-- R330: At program END the in-scope rows commit state and forecast, and non-finite rows are reset. -/
  | groupCommit
  /-- R502: Every 10 s a unit's known-answer run is rerun, and a failure retires an engine or enters relay-only service. -/
  | runtimeSelfCheck (row unit : Nat) (ok : Bool)
  /-- R494: At the next sample edge after a required-unit failure the Junction enters relay-only service. -/
  | relayOnlyEntry
  /-- R352: Background scrub reads a line and writes back the corrected data. -/
  | scrubAccess (part : Part) (memory addr fate : Nat) (owner : LineOwner)
  /-- R356: Static wear levelling moves the least-erased block's data, at most once per second. -/
  | staticWearMove (failed : Bool)
  /-- R351: The near history ring copies a batch of blocks to the far ring. -/
  | historyFarCopy (ctx : Nat)
  /-- R156: A Logbook Bulk message from a Lineside delivers records for commit. -/
  | logbookMessageReceived (port : Nat)
  /-- R159: A record is committed, folded, taken as a duplicate, dropped from a full log or covered as a gap, and LS_LOG_COMMIT_SEQ is written. -/
  | logRecordCommit (log : Nat)
  /-- R454: An alarm detail record is queued for its context and for export. -/
  | alarmRecordReceived (port : Nat)
  /-- R430: Bytes of a relayed Bulk message are exported in fragments as they arrive. -/
  | bulkMessageReceived (port subch : Nat)
  /-- R430: A message is closed at its size limit or at tick end, compressed if set, and queued. -/
  | exportMessageClose (ctx kind : Nat)
  /-- R435: Between frames the port meters and sends the head of the highest-priority sendable queue. -/
  | exportQueueService (eth : Nat)
  /-- R432: After the last bit of a message leaves, a mirror acknowledgement is sent to the twin. -/
  | exportFrameComplete (eth : Nat)
  /-- R432: The twin discards held records up to the acknowledged key. -/
  | mirrorAckReceived (port : Nat)
  /-- R345: A bundle chunk is decrypted, forwarded on the primary downlinks, and checked at chunk 0. -/
  | bundleChunkReceived (port : Nat)
  /-- R341: After the last chunk, signature, tag, directory, timing and section checks stage or refuse the bundle. -/
  | bundleVerifyComplete (id : Nat)
  /-- R345: No chunk for 100 ms marks the bundle BUNDLE_INCOMPLETE. -/
  | bundleIncompleteTimeout (id : Nat)
  /-- R343: At EFFECTIVE_TICK the staged bundle becomes active and the previous one becomes retiring. -/
  | bundleActivation (ctx type : Nat)
  /-- R337: A context record takes effect at its tick, possibly entering DRAINING. -/
  | contextConfigEffect (ctx : Nat)
  /-- R337: The drain completes, resources are freed, the context becomes DISABLED and a latched enable applies. -/
  | contextDrainComplete (ctx : Nat)
  /-- R293: A Waybill write, insertion or removal takes effect at its tick. -/
  | waybillWriteEffect
  /-- R374: A staged reference table becomes active at its tick. -/
  | refTableActivate (slot : Nat)
  /-- R384: After the window the tray reads each die's results and logs code 0x2D. -/
  | testResultCollect
  /-- R386: A die configuration takes effect at its tick and sets WATCH, DEAD_N and the epoch. -/
  | dieConfigEffect (slot : Nat)
  /-- R393: From tick m a readmitted die is ALIVE with miss count 0, or OFF. -/
  | dieReadmitEffect (slot : Nat)
  /-- R394: On resumed digest exchange the twins exchange die states and epochs, and the higher epoch and DEAD prevail. -/
  | twinStateExchange (port : Nat)
  /-- R396: At t_m a membership entry applies, and the tray Junction has written or disabled the slot in its Linesides. -/
  | membershipEffect (slot : Nat)
  /-- R402: At the instant the Junction slot becomes ABORTED, GROUP_EPOCH increments, code 0x2F is logged and latched re-arms apply. -/
  | junctionAbortInstant (slot : Nat)
  /-- R402: At the instant the Lineside pulses ABORT_PULSE, logs code 0x10 and enters ABORTED. -/
  | linesideAbortInstant (slot : Nat)
  /-- R405: A unit takes the next queued job, alternating between queues, once it and its CRC engine are free. -/
  | ballastJobStart (unit : Nat)
  /-- R407: A compress or decompress job ends with a completion record. -/
  | ballastJobComplete (unit : Nat)
  /-- R443: The Junction reads a request by DMA when a reply slot is free, and advances REQ_HEAD. -/
  | mailboxRequestTake (m : Nat) (slot : Bytes)
  /-- R444: A MACsec-protected mailbox segment is accepted or discarded, raising a security event. -/
  | mailboxDatagramReceived (eth : Nat) (prot : Bool) (an pn source : Nat) (data : Bytes)
  /-- R444: A request whose segments have not all arrived within 10 ms is discarded without a reply. -/
  | mailboxSegmentTimeout (m : Nat)
  /-- R445: A relayed request is forwarded toward its target or executed in mailbox 16. -/
  | relayedRequestReceived (port : Nat)
  /-- R445: A reply returns along the reverse path to its origin. -/
  | relayedReplyReceived (port : Nat)
  /-- R445: No reply within 100 ms completes the command with TARGET_UNREACHABLE. -/
  | relayTimeout
  /-- R456: No HEARTBEAT for 4 ms expires the session, logs code 0x30 and posts notice 5. -/
  | sessionExpiry (m : Nat)
  /-- R463: Staged firmware verification ends, posting notice 4 or refusing the image. -/
  | fwVerifyComplete
  /-- R464: At the activation edge the Junction pauses request intake and starts the new image. -/
  | fwActivation
  /-- R464: The new image resumes taking requests and logs code 0x31. -/
  | fwResume
  /-- R465: A failed start-up check or a watchdog within 100 ms reverts to the previous image, with notice 3. -/
  | fwRevert
  /-- R476: The privilege mode changes at its tick. -/
  | modeSetEffect
  /-- R474: The command binds a mailbox to a context after the credential checks. -/
  | sessionOpen (m : Nat)
  /-- R455: The command ends the session after the commands already taken have replied. -/
  | sessionClose (m : Nat)
  /-- R456: The command keeps the session alive and returns service and time status. -/
  | heartbeat (m : Nat)
  /-- R457: The command returns unread notices, oldest first. -/
  | noticeRead (m : Nat)
  /-- R454: The command returns unread alarm detail records of the session context. -/
  | alarmRead (m : Nat)
  /-- R462: The command returns the counters of a port, group, context, field or the Junction. -/
  | counterRead (m : Nat)
  /-- R484: The command flushes and performs a warm reset of the Junction. -/
  | reset (m : Nat)
  /-- R18: The command maps a slot to a die ID or a child pair index. -/
  | portMap (m : Nat)
  /-- R56: The command loads a Timetable image into a bank and validates it. -/
  | ttLoad (m : Nat)
  /-- R59: The command arms a VALID bank pair for a switch tick after the Lineside and plan checks. -/
  | ttArm (m : Nat)
  /-- R59: The command returns an ARMED bank to VALID, or reports SWITCHED. -/
  | ttCancel (m : Nat)
  /-- R57: The command returns bank and plan states. -/
  | ttStatus (m : Nat)
  /-- R232: The command loads a marshalling plan into a bank and runs the load checks. -/
  | planLoad (m : Nat)
  /-- R60: At tick m the ARMED Timetable, plan and Lineside banks become ACTIVE and E is rebased. -/
  | bankSwitch
  /-- R60: At tick m+1 the previous bank becomes VALID. -/
  | bankPreviousRelease
  /-- R220: The command holds a port DOWN, enables it or retrains it. -/
  | linkControl (m : Nat)
  /-- R336: The command checks and schedules a context configuration record. -/
  | contextConfig (m : Nat)
  /-- R337: The command returns context state and bundles. -/
  | contextStatus (m : Nat)
  /-- R344: The command delivers a bundle chunk to the Junction. -/
  | bundleTransfer (m : Nat)
  /-- R462: The command returns bundle state and check results. -/
  | bundleStatus (m : Nat)
  /-- R293: The command schedules a Waybill write or removal for an effective tick. -/
  | waybillWrite (m : Nat)
  /-- R374: The command checks and stages a shard reference table. -/
  | refTableLoad (m : Nat)
  /-- R351: The command returns history blocks from a ring. -/
  | historyRead (m : Nat)
  /-- R152: The command sets the rate limit of a Junction Logbook code. -/
  | logConfig (m : Nat)
  /-- R159: The command returns records of a log. -/
  | logRead (m : Nat)
  /-- R159: The command releases records up to a SEQ and reclaims space. -/
  | logRelease (m : Nat)
  /-- R382: The command returns host-image bytes of the test pack. -/
  | testPackRead (m : Nat)
  /-- R384: The command returns a die's test-pack results. -/
  | testResult (m : Nat)
  /-- R386: The command schedules WATCH, DEAD_N, owner and fence epoch for a die slot. -/
  | dieConfig (m : Nat)
  /-- R393: The command readmits a DEAD die that has shown stale-epoch frames, rewriting its fence epoch. -/
  | dieReadmit (m : Nat)
  /-- R396: The command checks and schedules a collective membership entry. -/
  | membershipLoad (m : Nat)
  /-- R404: The command re-arms an ABORTED slot with a newer group epoch. -/
  | groupRearm (m : Nat)
  /-- R462: The command returns the slot entry, its state and the latch result. -/
  | membershipStatus (m : Nat)
  /-- R207: The command sends the TRACE signal field on a die's port. -/
  | traceSignal (m : Nat)
  /-- R167: The command sets the fleet epoch, reference, servo parameters, UTC offset or delays. -/
  | timeConfig (m : Nat)
  /-- R192: The command returns edge timestamp records of an input. -/
  | timestampRead (m : Nat)
  /-- R193: The command configures a TS_IN, TRIG_OUT or PPS_OUT pin. -/
  | timingIoConfig (m : Nat)
  /-- R142: The command arms or sends a stop or release to every Lineside in the subtree and relays it to child pairs. -/
  | fleetStop (m : Nat)
  /-- R462: The command reads Lineside registers over VC3. -/
  | lsRead (m : Nat)
  /-- R462: The command writes a masked Lineside register over VC3 and updates the shadow. -/
  | lsWrite (m : Nat)
  /-- R437: The command sets a destination, stream, export-list entry or policer. -/
  | exportConfig (m : Nat)
  /-- R460: The command writes data into the context's software area. -/
  | bufferWrite (m : Nat)
  /-- R460: The command returns data from the software area. -/
  | bufferRead (m : Nat)
  /-- R406: The command queues a Ballast job and replies when the job ends. -/
  | ballast (m : Nat)
  /-- R422: The command configures or binds a Junction CRC engine. -/
  | crcEngine (m : Nat)
  /-- R422: The command feeds a near-tier buffer to a software-fed engine and returns RESULT. -/
  | crcData (m : Nat)
  /-- R421: The command returns VALUE and RESULT of an engine. -/
  | crcValueRead (m : Nat)
  /-- R421: The command sets an engine's running VALUE. -/
  | crcValueWrite (m : Nat)
  /-- R463: The command writes a firmware chunk into staging and starts verification at TOTAL. -/
  | fwLoad (m : Nat)
  /-- R462: The command returns active and staged firmware state. -/
  | fwStatus (m : Nat)
  /-- R464: The command arms the verified image for a tick. -/
  | fwActivate (m : Nat)
  /-- R482: The command returns serial, device public key, fuse state and certificate. -/
  | deviceId (m : Nat)
  /-- R482: The command blows OWNER_KEY_HASH with the key that opened the session. -/
  | ownerProvision (m : Nat)
  /-- R469: The command installs a public key into a slot. -/
  | keyInstall (m : Nat)
  /-- R469: The command removes a key slot and closes sessions opened with it. -/
  | keyRemove (m : Nat)
  /-- R482: The command lists key slots. -/
  | keyList (m : Nat)
  /-- R475: The command installs or activates a MACsec association with a wrapped SAK. -/
  | macsecSa (m : Nat)
  /-- R476: The command schedules a privilege mode change. -/
  | modeSet (m : Nat)
  /-- R476: The command blows a mode lock fuse, cancelling a pending opposite MODE_SET. -/
  | fuseLock (m : Nat)
  /-- R473: The command blows rollback fuses up to the requested SVN. -/
  | rollbackAdvance (m : Nat)
  /-- R481: The command returns unread security events. -/
  | secEventRead (m : Nat)
  /-- R479: A TAP unlock response is verified and grants debug level 1 or 2, zeroising on level 2. -/
  | dbgResponse (level key : Nat) (pub sig : Bytes)
  /-- R479: The TAP returns a fresh TRNG nonce. -/
  | dbgChallenge
  /-- R443: A host write of JN_MBOX_REQ_TAIL posts requests or sets ERR if too far ahead. -/
  | mailboxReqTailWrite (tap : Bool) (m : Nat) (v : Nat)
  /-- R443: A host write of JN_MBOX_RPL_HEAD frees reply slots or sets ERR. -/
  | mailboxRplHeadWrite (tap : Bool) (m : Nat) (v : Nat)
  /-- R443: A JN_MBOX_CTRL write enables the mailbox, or clears ERR and restarts it with its indices at 0. -/
  | mailboxCtrlWrite (tap : Bool) (m : Nat) (reg : MboxReg) (v : Nat)
  /-- R528: A 4-byte read of a register's low half latches its high half. -/
  | jnRegLowHalfRead (tap : Bool) (off size : Nat)
  /-- R536: Writing 1 to VALID clears the capture and OVERFLOW unless an error arrives in the same JCLK. -/
  | jnErrCaptureClear (tap : Bool) (errors : List (Nat × Nat × Nat))
  /-- R518: A write to a register without a row of its own sets its fields or fails a configuration check with code 0x16. -/
  | registerWrite (via : RegVia) (addr size : Nat) (value mask : Word)
  /-- R519: A Lineside applies a configuration request's operations in consecutive LCLK and replies. -/
  | configMessageReceived (link : Bool)
  /-- R420: A pending engine enable takes effect after the message in progress completes. -/
  | crcEnableApply (part : Part) (i : Nat)
  /-- R521: An Update-DR on the debug segment applies a register read or write if unlocked. -/
  | debugSegmentUpdate (addr op : Nat) (value : Word)
  /-- R480: At EXPIRE_TICK the Lineside debug unlock clears. -/
  | debugUnlockExpiry
  /-- R88: PORST_N low resets both Lineside islands and unlocks station time. -/
  | lsColdReset
  /-- R88: LS_WARM_N low resets the main island and non-RWS fields while keeping time and comparators. -/
  | lsWarmReset
  /-- R71: AON_REFCLK lost for more than 64 ns unlocks the clock and marks samples untimed. -/
  | lsRefclkLoss
  /-- R496: The main island comes up, runs self-test, clears CONFIGURED, discards lag anchors and makes the session-start record. -/
  | mainIslandServiceEntry (r : SelfResult)
  /-- R496: The Lineside self-test finishes with pass or fail results. -/
  | lsSelftestComplete (r : SelfResult)
  /-- R497: A write to START reruns the self-test or is refused. -/
  | lsSelftestStart (via : LsVia)
  /-- R89: The host asks to remove main power, and the Lineside answers NAK or starts flushing its residue. -/
  | pwrOffReq
  /-- R89: Once the residue is flushed, or at 50 us without a link, the Lineside answers PWR_OFF_ACK. -/
  | pwrOffAck
  /-- R89: Main power is removed, losing the trace, counters and poison queue. -/
  | mainPowerOff
  /-- R90: An always-on comparator crossing is logged and raises MAIN_PWR_REQ if main power is off. -/
  | aonCmpCrossing
  /-- R94: At e_n the Lineside captures its atomic sample, commits selects, adds tokens, evaluates tick comparators and assembles frame n. -/
  | lsSampleEdge
  /-- R104: At e_m an armed lag anchor latches the LCLK count and comes into force. -/
  | lagAnchorEffect
  /-- R118: At the named tick the standby frame map becomes active. -/
  | frameMapSwitch
  /-- R96: Each LCLK the Milepost counters add their EVT_INC increments. -/
  | counterIncrement (x : LclkIn)
  /-- R97: The Lineside sends the next staged counter select to the host, one per LCLK. -/
  | selectSend
  /-- R74: A sensor conversion updates the channel value or is discarded as a boundary error. -/
  | sensorBeat (w : BitVec 32)
  /-- R102: A REGION_STRETCH pulse counts a stretched cycle. -/
  | regionStretchPulse (region : Nat)
  /-- R135: An issued bundle at the boundary is compared by the bundle-address comparators. -/
  | bundleIssue (addr : BitVec 48)
  /-- R124: At each sample point a running trace writes or drops a record. -/
  | traceSamplePoint
  /-- R128: POST_COUNT sample points after the trigger, the trace freezes and logs code 0x08. -/
  | tracePostComplete
  /-- R130: The last read-out flit is sent and a latched arm takes effect. -/
  | traceReadoutComplete
  /-- R80: The host acknowledges a descriptor read and the next read follows. -/
  | qsnapAck (data : BitVec 128)
  /-- R80: An unacknowledged read after 64 LCLK is recorded absent. -/
  | qsnapReadTimeout
  /-- R132: The last descriptor read completes the snapshot and logs code 0x09. -/
  | qsnapComplete
  /-- R134: The snapshot read-out completes, marks the snapshot read and starts a pending cause. -/
  | qsnapReadoutComplete
  /-- R133: 16 LCLK after STOP_GATE rises a snapshot starts if ON_STOP is set. -/
  | stopSnapshotDelay
  /-- R137: DRAIN_DONE moves the drain to DRAINED, or marks a late drain. -/
  | drainDoneRise
  /-- R138: 2,048 LCLK without DRAIN_DONE sets TIMEOUT, logs, alarms and may start a snapshot. -/
  | drainTimeout
  /-- R139: The drain returns to IDLE and a latched drain takes effect. -/
  | drainDoneFall
  /-- R86: HOST_IN_RESET rising ends a drain with HOST_RESET and removes the lag anchor. -/
  | hostResetRise
  /-- R141: The station clock reaches the armed T and STOP_GATE rises. -/
  | armedStopInstant
  /-- R144: The station clock reaches LS_RELEASE_AT and STOP_GATE falls. -/
  | armedReleaseInstant
  /-- R145: The scan finishes LS_SCAN_LEN shifts, reports DONE and applies a pending release; `chains`, where not empty, is what the
  host's chains hold from the next shift cycle on (R82). -/
  | scanShiftComplete (chains : List Word)
  /-- R146: A paused shift resumes when buffer room or a link returns. -/
  | scanResume
  /-- R367: A tap START beat opens a packet or shard digest, or leaves it undigested when none is free; the beat's 64-bit
  sideband (R78) comes as its bits 15:0, 31:16 and 63:32. -/
  | tapPacketStart (tap : Nat) (flags tag : BitVec 16) (value : BitVec 32)
  /-- R364: At an egress END beat the digest is driven, the witness closed, shards queued and TEST packets matched. -/
  | egressPacketEnd (flags tag : BitVec 16) (value : BitVec 32) (data : Bytes)
  /-- R365: At an ingress END beat the digest is checked, LOCAL and INPUT packets enter the witness and shards are queued. -/
  | ingressPacketEnd (flags tag : BitVec 16) (value : BitVec 32) (data : Bytes)
  /-- R370: A witness entry without OUTPUT after WITNESS_TICKS sample edges is discarded as stale. -/
  | witnessExpiry
  /-- R370: A group's witness suspension ends after WITNESS_TICKS sample edges. -/
  | witnessSuspendEnd
  /-- R360: A pending ENABLE takes effect after the started packets complete. -/
  | tabEnableApply (g : Nat)
  /-- R383: At the end of the window untaken test entries become MISSING. -/
  | testWindowEnd
  /-- R377: A poison event is accepted when the queue has room and is counted, logged or attributed to aborts. -/
  | poisonAccept (w : BitVec 96)
  /-- R220: LS_LINK_CTRL ACTION 1 moves a Lineside link from HELD or DOWN to TRAIN. -/
  | lsLinkEnable (via : LsVia) (link : Bool)
  /-- R221: LS_LINK_CTRL ACTION 2 retrains the link. -/
  | lsLinkRetrain (via : LsVia) (link : Bool)
  /-- R220: LS_LINK_CTRL ACTION 3 holds the link DOWN. -/
  | lsLinkHoldDown (via : LsVia) (link : Bool)
  /-- R524: LS_TT_CTRL.VALIDATE checks the standby Timetable bank. -/
  | lsTtValidate (via : LsVia)
  /-- R524: LS_TT_CTRL.ARM arms the standby bank for its switch tick, or sets ARM_ERR. -/
  | lsTtArm (via : LsVia)
  /-- R524: LS_TT_CTRL.CANCEL returns an ARMED bank to VALID. -/
  | lsTtCancel (via : LsVia)
  /-- R116: LS_FRAME_CTRL.VALIDATE checks the standby frame map. -/
  | lsFrameValidate (via : LsVia)
  /-- R118: LS_FRAME_CTRL.ARM_SWITCH arms a standalone frame-map switch, or sets SWITCH_ERR. -/
  | lsFrameArmSwitch (via : LsVia)
  /-- R118: LS_FRAME_CTRL.CANCEL_SWITCH cancels an armed standalone switch. -/
  | lsFrameCancelSwitch (via : LsVia)
  /-- R126: LS_TRACE_CTRL.ARM clears the buffer and enters RUNNING, or is latched during read-out. -/
  | lsTraceArm (via : LsVia)
  /-- R128: LS_TRACE_CTRL.DISARM freezes the trace without a trigger record. -/
  | lsTraceDisarm (via : LsVia)
  /-- R127: LS_TRACE_CTRL.TRIGGER triggers the trace. -/
  | lsTraceTrigger (via : LsVia)
  /-- R130: LS_TRACE_CTRL.READOUT sends the frozen buffer as a Bulk message. -/
  | lsTraceReadout (via : LsVia)
  /-- R129: Reading LS_TRACE_CAPTURED latches the other three trace counters. -/
  | lsTraceCapturedRead (via : LsVia)
  /-- R133: LS_QSNAP_CTRL.TAKE starts a hang snapshot. -/
  | lsQsnapTake (via : LsVia)
  /-- R134: LS_QSNAP_CTRL.READOUT sends the snapshot as a Bulk message. -/
  | lsQsnapReadout (via : LsVia)
  /-- R523: Reading LS_QSNAP_STATUS returns BUSY and clears it. -/
  | lsQsnapStatusRead (via : LsVia)
  /-- R145: LS_SCAN_CTRL.START begins shifting the host chains if the stop has held for 16 LCLK. -/
  | lsScanStart (via : LsVia)
  /-- R147: LS_SCAN_CTRL.RESTORE shifts the remaining cycles to restore the host state. -/
  | lsScanRestore (via : LsVia)
  /-- R137: LS_HALT_CTRL.DRAIN raises DRAIN_REQ. -/
  | lsHaltDrain (via : LsVia)
  /-- R139: LS_HALT_CTRL.RELEASE_DRAIN lowers DRAIN_REQ. -/
  | lsHaltReleaseDrain (via : LsVia)
  /-- R140: LS_HALT_CTRL.STOP_NOW raises STOP_GATE immediately. -/
  | lsHaltStopNow (via : LsVia)
  /-- R142: LS_HALT_CTRL.ARM_STOP arms a stop at LS_STOP_AT, or stops at once if the instant is too close. -/
  | lsHaltArmStop (via : LsVia)
  /-- R140: LS_HALT_CTRL.DISARM_STOP cancels an armed stop. -/
  | lsHaltDisarmStop (via : LsVia)
  /-- R144: LS_HALT_CTRL.RELEASE_STOP lowers STOP_GATE, or is latched during a shift. -/
  | lsHaltReleaseStop (via : LsVia)
  /-- R144: LS_HALT_CTRL.ARM_RELEASE arms a release at LS_RELEASE_AT, or releases at once if the instant has passed. -/
  | lsHaltArmRelease (via : LsVia)
  /-- R523: LS_HALT_CTRL.DISARM_RELEASE cancels an armed release. -/
  | lsHaltDisarmRelease (via : LsVia)
  /-- R151: LS_LOG_CTRL.MARK records a software mark with code 0x1F. -/
  | lsLogMark (via : LsVia)
  /-- R104: LS_LAG_CTRL.ARM arms a lag anchor, or sets ANCHOR_ERR. -/
  | lsLagArm (via : LsVia)
  /-- R97: A write to LS_CTR_SEL stages a counter select for commit. -/
  | lsCtrSelWrite (via : LsVia) (k : Nat) (v : Word)
  /-- R99: A write to LS_CTR_VALUE sets the counter plus any same-cycle increment and marks it discontinuous. -/
  | lsCtrValueWrite (via : LsVia) (k : Nat) (v : Word)
  /-- R156: A commit SEQ write within serial bounds flushes records, and any other is ignored. -/
  | lsLogCommitSeqWrite (via : LsVia) (v : Word)
  /-- R390: A write of the epoch matching RX_LOW lowers FENCE_HOLD. -/
  | lsFenceEpochWrite (via : LsVia) (v : Word)
  /-- R390: Reading LS_FENCE_STATUS returns IGNORED and clears it. -/
  | lsFenceStatusRead (via : LsVia)
  /-- R360: A Tablet group write applies from the next packet, and a disable discards open witnesses. -/
  | lsTabGroupWrite (via : LsVia) (g : Nat) (v : Word)
  /-- R480: A VC3 write unlocks or locks the Lineside debug segment subject to EXPIRE_TICK. -/
  | lsDebugCtrlWrite (via : LsVia) (v : Word)
  /-- R416: An engine configuration write is checked, applied at the next START or latched as PENDING. -/
  | lsCrcCfgWrite (via : LsVia) (i r : Nat) (v : Word)
  /-- R414: A feed write passes FEED_LEN bytes to a software-fed engine. -/
  | lsCrcFeedWrite (via : LsVia) (i : Nat) (v : Word)
  /-- R421: A write sets the engine's running VALUE ahead of same-cycle bytes. -/
  | lsCrcValueWrite (via : LsVia) (i : Nat) (v : Word)
  /-- R523: Reading LS_CRC_STATUS returns MISMATCHES and clears it. -/
  | lsCrcStatusRead (via : LsVia) (i : Nat)
  /-- R517: Reading LS_TIME_LO latches LS_TIME_HI. -/
  | lsTimeLoRead (via : LsVia)
  /-- R519: The tray Junction receives a Lineside configuration reply (TYPE 0x0011) that completes an LS_READ, LS_WRITE, replay or membership write toward that Lineside. -/
  | linesideConfigReplyReceived (port : Nat)
  /-- R221: An ACTIVE receiver finds no block marker in 4 consecutive block positions and retrains the link. -/
  | markerMissing (e : End)
  /-- R425: An Ethernet port goes down or comes up, which switches export between the preferred and alternate destinations and holds or releases staged messages. -/
  | ethernetLinkStateChange (eth : Nat) (up : Bool)
  /-- R424: A PAUSE or priority flow control frame received on an Ethernet port is discarded and counted. -/
  | ethernetControlFrameReceived (eth : Nat)
  /-- R176: At its configured interval the root, as an end-to-end PTP slave, sends a timestamped Delay_Req to the grandmaster. -/
  | ptpDelayReqDue
  /-- R166: The station clock reaches the TAI second LEAP_AT, so the pending UTC offset becomes the offset in force and the pending leap clears. -/
  | leapAtReached (part : Part)
  /-- R494: A near-tier stack reports an uncorrectable training or link error at run time, and the Junction enters relay-only service at the next sample edge. -/
  | nearTierStackError
deriving DecidableEq, Repr

end Sys2Proof
end

