-- ==== Sys2Proof/Machine/Bits.lean ====
section
/-! DEFINITION. Bit fields, byte order, CRCs and serial order: the helpers every format of the spec is read with. -/

namespace Sys2Proof.Machine

/-- Bits [lo+len-1 : lo] of a number (R10). -/
def fld (v lo len : Nat) : Nat := (v >>> lo) % 2 ^ len

/-- Bit `i` of a number (R10). -/
def bit (v i : Nat) : Bool := Nat.testBit v i

/-- 1 for true. -/
def b2n (b : Bool) : Nat := if b then 1 else 0

/-- A field value placed at bit `lo`. -/
def put (lo v : Nat) : Nat := v <<< lo

/-- A number with bits [lo+len-1 : lo] replaced. -/
def setFld (v lo len x : Nat) : Nat := v - put lo (fld v lo len) + put lo (x % 2 ^ len)

/-- Little-endian bytes of a number (R11). -/
def le : Nat → Nat → Bytes
  | 0, _ => []
  | n + 1, v => BitVec.ofNat 8 v :: le n (v / 256)

/-- The number little-endian bytes spell (R11). -/
def unle : Bytes → Nat
  | [] => 0
  | b :: t => b.toNat + 256 * unle t

/-- Bytes at an offset; what lies past the end is absent. -/
def sub (b : Bytes) (off len : Nat) : Bytes := (b.drop off).take len

/-- The little-endian number of `len` bytes at `off` (R11). -/
def rd (b : Bytes) (off len : Nat) : Nat := unle (sub b off len)

/-- `n` zero bytes. -/
def zeros (n : Nat) : Bytes := List.replicate n 0

/-- Bytes cut or padded with zeros to a length. -/
def fit (n : Nat) (b : Bytes) : Bytes := (b ++ zeros (n - b.length)).take n

/-- Bytes with `new` laid over them from `off`. -/
def overlay (b : Bytes) (off : Nat) (new : Bytes) : Bytes := b.take off ++ new ++ b.drop (off + new.length)

/-- Whether every byte is zero (R12). -/
def allZero (b : Bytes) : Bool := b.all (· == 0)

/-- A number read as two's complement of a width. -/
def signed (w v : Nat) : Int := if v % 2 ^ w < 2 ^ (w - 1) then (v % 2 ^ w : Nat) else (v % 2 ^ w : Nat) - (2 ^ w : Nat)

/-- The two's complement code of an integer. -/
def unsigned (w : Nat) (i : Int) : Nat := (i % (2 ^ w : Nat)).toNat

/-- The least of a value and a cap: a saturating count. -/
def sat (w v : Nat) : Nat := if v < 2 ^ w then v else 2 ^ w - 1

/-- Integers clamped to a range. -/
def clampI (lo hi x : Int) : Int := if x < lo then lo else if hi < x then hi else x

/-- Rationals clamped to a range. -/
def clampQ (lo hi x : Rat) : Rat := if x < lo then lo else if hi < x then hi else x

/-- Reverse the low `n` bits of a number. -/
def revBits : Nat → Nat → Nat
  | 0, _ => 0
  | n + 1, v => (v % 2) * 2 ^ n + revBits n (v / 2)

/-- Ceiling division. -/
def cdiv (a b : Nat) : Nat := (a + b - 1) / b

/-- a after b in serial order of 32-bit numbers (R537). -/
def after (a b : Nat) : Bool :=
  let d := (a + 2 ^ 32 - b % 2 ^ 32) % 2 ^ 32
  decide (1 ≤ d) && decide (d ≤ 2 ^ 31 - 1)

/-- a at or after b in serial order (R537). -/
def atOrAfter (a b : Nat) : Bool := decide (a % 2 ^ 32 = b % 2 ^ 32) || after a b

/-- The parity of a number's low `n` bits: true when odd. -/
def parity : Nat → Nat → Bool
  | 0, _ => false
  | n + 1, v => xor (Nat.testBit v n) (parity n v)

/-- The number of ones in the low `n` bits. -/
def popcount : Nat → Nat → Nat
  | 0, _ => 0
  | n + 1, v => b2n (Nat.testBit v n) + popcount n v

/-- The numbers i < n whose bit of v is set, rising. -/
def bitsSet (n v : Nat) : List Nat := (List.range n).filter (fun i => Nat.testBit v i)

/-! ## Configurable CRC (R414, R415) -/

/-- Parameters of a CRC: width 8 to 64, polynomial without its top term, initial value, reflection, final XOR (R414). -/
structure CrcParams where
  width : Nat
  poly : Nat
  init : Nat
  refIn : Bool
  refOut : Bool
  xorOut : Nat
deriving DecidableEq, Repr

/-- One message bit through the CRC register, most significant bit first. -/
def crcBit (w poly reg : Nat) (b : Bool) : Nat :=
  let top := xor (Nat.testBit reg (w - 1)) b
  let s := (reg * 2) % 2 ^ w
  if top then s ^^^ poly else s

/-- The bits of a byte from its bit 7 down. -/
def crcBits8 (w poly reg v : Nat) : Nat → Nat
  | 0 => reg
  | n + 1 => crcBits8 w poly (crcBit w poly reg (Nat.testBit v n)) v n

/-- Bytes through the CRC register: bits of a byte least significant first when REFIN, else most significant first (R414). -/
def crcFeed (c : CrcParams) (reg : Nat) : Bytes → Nat
  | [] => reg
  | b :: t => crcFeed c (crcBits8 c.width c.poly reg (if c.refIn then revBits 8 b.toNat else b.toNat) 8) t

/-- The result of a CRC register: reflected when REFOUT, then XOROUT (R414). -/
def crcResult (c : CrcParams) (reg : Nat) : Nat :=
  (if c.refOut then revBits c.width reg else reg) ^^^ c.xorOut

/-- The CRC of a byte string. -/
def crcOf (c : CrcParams) (b : Bytes) : Nat := crcResult c (crcFeed c c.init b)

/-- CRC-32 of images, frames and records (R55). -/
def crc32 : CrcParams := ⟨32, 0x04C11DB7, 0xFFFFFFFF, true, true, 0xFFFFFFFF⟩

/-- CRC-32 of flits (R204). -/
def crcFlit : CrcParams := ⟨32, 0x1EDC6F41, 0xFFFFFFFF, true, true, 0xFFFFFFFF⟩

/-- CRC-64 of log folds and twin output digests (R160, R256). -/
def crc64Ecma : CrcParams := ⟨64, 0x42F0E1EBA9EA3693, 0, false, false, 0⟩

/-- CRC-64 of transit digests and shards (R361). -/
def crc64Xz : CrcParams := ⟨64, 0x42F0E1EBA9EA3693, 0xFFFFFFFFFFFFFFFF, true, true, 0xFFFFFFFFFFFFFFFF⟩

/-- The 16-bit CRC of training frames (R226, R415). -/
def crc16 : CrcParams := ⟨16, 0x1021, 0xFFFF, false, false, 0⟩

/-- Bit k of a 32-bit mask set or cleared. -/
def setBit32 (v : BitVec 32) (k : Nat) (b : Bool) : BitVec 32 := if b then v ||| BitVec.ofNat 32 (2 ^ k) else v &&& ~~~(BitVec.ofNat 32 (2 ^ k))

end Sys2Proof.Machine
end

