-- ==== Sys2Proof/Machine/LinkState.lean ====
section
/-! DEFINITION. The state of a link end (R196 to R227) and of a station clock (R164 to R191). -/

namespace Sys2Proof.Machine

/-- Link states, in the order of their codes (R220). -/
inductive LinkSt where
  | down | train | ident | align | active | retired | held
deriving DecidableEq, Repr

/-- The state code that link status and Logbook code 0x0B report (R220). -/
def LinkSt.code : LinkSt → Nat
  | .down => 0 | .train => 1 | .ident => 2 | .align => 3 | .active => 4 | .retired => 5 | .held => 6

/-- Station clock states, in the order of their codes (R168). -/
inductive ClkSt where
  | unlocked | acquiring | locked | holdover
deriving DecidableEq, Repr

/-- The code of a clock state (R180). -/
def ClkSt.code : ClkSt → Nat
  | .unlocked => 0 | .acquiring => 1 | .locked => 2 | .holdover => 3

/-- The clock state of a code (R180). -/
def ClkSt.ofCode (n : Nat) : ClkSt :=
  if n % 4 = 0 then .unlocked else if n % 4 = 1 then .acquiring else if n % 4 = 2 then .locked else .holdover

/-- A flit: header, payload of 240 bytes, trailer marks (R202, R203). CRC and HPAR are computed from it. -/
structure Flit where
  signal : BitVec 16
  vc : BitVec 2
  seq : BitVec 12
  crVc : BitVec 2
  credit : BitVec 16
  ackSeq : BitVec 12
  nak : Bool
  kind : BitVec 2
  start : Bool
  fin : Bool
  lastLen : BitVec 8
  subch : BitVec 2
  payload : Bytes
deriving DecidableEq, Repr

/-- Parameters and binding of a CRC engine (R414, R415 registers, R422): BIND 0 software feed, 1 egress, 2 ingress, 3 Ballast. -/
structure CrcCfg where
  enable : Bool
  bind : Nat
  vc : Nat
  subch : Nat
  width : Nat
  refIn : Bool
  refOut : Bool
  order : Bool
  feedLen : Nat
  poly : Nat
  init : Nat
  xorOut : Nat
  port : Nat
deriving DecidableEq, Repr

/-- A CRC engine: the configuration last written, the one in force, the running value and status (R414 to R422). -/
structure CrcEng where
  cfg : CrcCfg
  act : CrcCfg
  value : Nat
  pending : Bool
  cfgErr : Bool
  mismatches : Nat
  owner : Option Nat
  jobUnit : Option Nat
deriving DecidableEq, Repr

/-- A message of VC1 to VC3 waiting to be sent: bytes still to send (R212), and whether a bound engine appends to it (R418). -/
structure TxMsg where
  vc : Nat
  subch : Nat
  started : Bool
  bytes : Bytes
  crc : Bool
  /-- what it carries: 1 trace, 2 snapshot, 3 scan, 4 Logbook, 5 configuration reply, 0 anything else -/
  tag : Nat
  /-- more bytes of the message are still to come (R145, R146) -/
  more : Bool
deriving DecidableEq, Repr

/-- A message delivered by a link (R212). -/
structure RxMsg where
  vc : Nat
  subch : Nat
  bytes : Bytes
  crc : Bool
  /-- station time of its first flit, and whether that came by replay (R181, R182) -/
  arrived : Nat
  replayed : Bool
  /-- bytes its ingress engine has processed; none before the engine has seen its START (R417, R419) -/
  fed : Option Nat
deriving DecidableEq, Repr

/-- A flit accepted by a receiver, with the time of its arrival. -/
structure HeldFlit where
  flit : Flit
  now : Nat
deriving DecidableEq, Repr

/-- A flit kept for replay: slots since it was last sent or A last advanced, replays so far, pending (R218). -/
structure Kept where
  flit : Flit
  slots : Nat
  replays : Nat
  pending : Bool
deriving DecidableEq, Repr

/-- A signal waiting for its copies: copies owed, and the block its first copy left in (R208). -/
structure SigEntry where
  sig : BitVec 16
  owed : Nat
  block : Nat
deriving DecidableEq, Repr

/-- A VC0 stream being received or received (R43, R65). -/
structure RxStream where
  id : Nat
  tick : Nat
  got : List (Nat × Bytes)
  void : Bool
  bad : Bool
  taken : Bool
  /-- station time of its latest flit, and whether any flit came by replay (R180, R182) -/
  arrived : Nat
  replayed : Bool
deriving DecidableEq, Repr

/-- A VC0 stream whose data is ready to be sent: the tick that owns the data (R46, R51). -/
structure TxStream where
  id : Nat
  tick : Nat
  bytes : Bytes
deriving DecidableEq, Repr

/-- Credit books of one credited VC (R213). -/
structure Credit where
  sent : Nat
  limit : Nat
  freed : Nat
deriving DecidableEq, Repr

/-- What an end says of itself in IDENT (R227). -/
structure Ident where
  id : Nat
  lineside : Bool
  valid : Bool
  configured : Bool
  confirmed : Bool
  port : Nat
deriving DecidableEq, Repr

/-- The time fields of a tick mark or twin time message (R180). -/
structure TimeMark where
  tick : Word
  t1 : BitVec 96
  echoT4 : BitVec 96
  echoSeq : BitVec 16
  state : BitVec 2
  followsTwin : Bool
  rootHoldover : Bool
  steps : BitVec 8
  utcOffset : BitVec 16
  leap : BitVec 2
  leapAt : BitVec 48
  epoch : BitVec 96
  gmIdentity : Word
  gmClass : BitVec 8
  timeSource : BitVec 8
  sender : BitVec 17
  errorNs : BitVec 32
deriving DecidableEq, Repr

/-- What a source last announced, as the selection of R172 needs it. -/
structure Source where
  mark : TimeMark
  /-- consecutive complete ticks that gave a valid measurement, and whether the current one has (R172) -/
  validRun : Nat
  validNow : Bool
  /-- consecutive ticks selectable and LOCKED (R173) -/
  run : Nat
  /-- carries another fleet epoch (R167) -/
  badEpoch : Bool
deriving DecidableEq, Repr

/-- Time state of a link end (R180 to R182). Times in units of 2^-16 ns. -/
structure PortTime where
  asym : Int
  /-- tick, T1 and arrival t2 of the last mark (R182) -/
  mark : Option (Nat × Nat × Nat)
  /-- next ECHO_SEQ to send (R181) -/
  echoSeq : Nat
  /-- echoes sent: sequence, t2 − t1 of the mark before it, t3 -/
  echoes : List (Nat × Int × Nat)
  /-- sequence and t4 of the latest echo received, to be returned (R180) -/
  returned : Nat × Nat
  /-- last eight delays (R182) -/
  delays : List Rat
  source : Option Source
  /-- ticks until the next delay echo falls due (R181) -/
  echoIn : Nat
deriving DecidableEq, Repr

/-- Training bookkeeping (R224, R226). -/
structure Training where
  good : Nat
  bad : Nat
  lock : Bool
  lockedRun : Nat
  responder : Bool
  sawLeader : Bool
  retry : Bool
  identOk : Bool
  /-- time run when the first training frame was sent, and the frames still to be sent once block lock holds (R224, R226) -/
  since : Option Nat
  extra : Option Nat
deriving DecidableEq, Repr

/-- A link end (R196 to R227). -/
structure Port where
  st : LinkSt
  hold : Bool
  rate400 : Bool
  unused : Bool
  -- transmit
  slot : Nat
  block : Nat
  blk : List Bytes
  wire : List Nat
  lastTx : Option Flit
  rotation : Nat
  q : List TxMsg
  vc0 : List TxStream
  sigq : List SigEntry
  nextSeq : Nat
  ackSeq : Nat
  replay : List Kept
  cr1 : Credit
  cr2 : Credit
  cr3 : Credit
  crNext : Nat
  -- receive
  expect : Nat
  heldFlits : List HeldFlit
  /-- the hole last asked for and the slots since (R217) -/
  nakSlots : Option (Nat × Nat)
  nakInBlock : Bool
  partials : List RxMsg
  inbox : List RxMsg
  recent : List (BitVec 16 × Nat)
  /-- signal fields taken from passing flits and not yet acted on (R209) -/
  sigIn : List (BitVec 16)
  streams : List RxStream
  badBlock : Option Nat
  uncorr : Nat
  stats : Tbl Word
  tr : Training
  identSent : Bool
  far : Option Ident
  retired : List Nat
  cablingErr : Bool
  quarantine : Bool
  paritySeen : Bool
  rxMismatch : Bool
  mmTick : Bool
  mmRun : Nat
  /-- ticks of a quarantined direction with the owned slots that matched in each (R66) -/
  rxTicks : List (Nat × Nat)
  corrected : Nat
  correctedTick : Nat
  recal : Nat
  blockLock : Bool
  time : PortTime
deriving DecidableEq, Repr

/-- Servo parameters (R183 table). -/
structure Servo where
  kpShift : Nat
  kiShift : Nat
  lockNs : Nat
  lockCount : Nat
  unlockNs : Nat
  unlockCount : Nat
  stepNs : Nat
  slewPpb : Nat
  lossTicks : Nat
  revertTicks : Nat
  holdoverLimit : Nat
  echoPeriod : Nat
deriving DecidableEq, Repr

/-- Defaults for tick-mark and twin sources (R183 table). -/
def Servo.tickDefault : Servo := ⟨2, 8, 3, 64, 50, 4, 1000, 10000, 4, 1024, 1000, 4⟩

/-- Defaults for the external reference (R183 table); LOSS_TICKS, HOLDOVER_LIMIT and ECHO_PERIOD do not apply to it. -/
def Servo.extDefault : Servo := ⟨3, 10, 100, 16, 1000, 4, 1000, 1000, 4, 1024, 1000, 4⟩

/-- A station clock (R164 to R191). Times in units of 2^-16 ns, E in ns. -/
structure Clock where
  time : Nat
  phase : Rat
  st : ClkSt
  epoch : Option Nat
  e : Int
  headway : Nat
  tick : Option Nat
  prov : Nat
  integ : Rat
  rate : Rat
  lockRun : Nat
  unlockRun : Nat
  lastIntegs : List Rat
  stepParts : List Int
  /-- the selected source: 0 none, else priority 1 to 3 of the node's table -/
  source : Nat
  rootHoldover : Bool
  steps : Nat
  errorNs : Nat
  /-- time run at entry to HOLDOVER and the error bound then (R185) -/
  holdFrom : Nat × Nat
  /-- time run at the last valid measurement and its offset in u (R184) -/
  lastMeas : Option (Nat × Rat)
  /-- a source was taken without a step: its offset is absorbed by slewing until it is once within STEP_NS (R168, R173, R179) -/
  slew : Bool
  utcOffset : BitVec 16
  leap : BitVec 2
  leapAt : Nat
  refLost : Bool
  /-- units of time run since cold reset, which steps leave alone -/
  up : Nat
  /-- station time of the last step (R192) -/
  steppedAt : Option Nat
  servo : Servo
deriving DecidableEq, Repr

end Sys2Proof.Machine
end

