-- ==== Sys2Proof/Machine/Ballast.lean ====
section
/-! DEFINITION. Ballast: the fixed-search DEFLATE compressor, the RFC 1951 decompressor, descriptors and completion records (R405 to R413). -/

namespace Sys2Proof.Machine

/-! ## Codes of RFC 1951 (R408, R410) -/

/-- The `n` bits of a value, least significant first. -/
def bitsLow (n v : Nat) : List Bool := (List.range n).map (fun i => Nat.testBit v i)

/-- The `n` bits of a Huffman code, most significant first. -/
def bitsHigh (n v : Nat) : List Bool := (bitsLow n v).reverse

/-- Base length and extra bits of length code 257 + i (RFC 1951). -/
def lenTable : List (Nat × Nat) :=
  [(3, 0), (4, 0), (5, 0), (6, 0), (7, 0), (8, 0), (9, 0), (10, 0), (11, 1), (13, 1), (15, 1), (17, 1), (19, 2), (23, 2), (27, 2)]
  ++ [(31, 2), (35, 3), (43, 3), (51, 3), (59, 3), (67, 4), (83, 4), (99, 4), (115, 4), (131, 5), (163, 5), (195, 5), (227, 5), (258, 0)]

/-- Base distance and extra bits of distance code i: two of each number of extra bits after the first four (RFC 1951). -/
def distEntry (i : Nat) : Nat × Nat := if i < 4 then (i + 1, 0) else let x := i / 2 - 1; ((2 + i % 2) * 2 ^ x + 1, x)

/-- The fixed literal/length code of a symbol: width and code (RFC 1951). -/
def fixedCode (s : Nat) : Nat × Nat :=
  if s < 144 then (8, 0x30 + s) else if s < 256 then (9, 0x190 + (s - 144)) else if s < 280 then (7, s - 256) else (8, 0xC0 + (s - 280))

def emitSym (s : Nat) : List Bool := let c := fixedCode s; bitsHigh c.1 c.2

/-- The last entry of a table whose base is at most v. -/
def lastBase (l : List (Nat × Nat)) (v : Nat) : Nat × (Nat × Nat) :=
  (List.zip (List.range l.length) l).foldl (fun a x => if x.2.1 ≤ v then (x.1, x.2) else a) (0, l.headD (0, 0))

/-- A match in fixed codes (R408). -/
def emitMatch (len dist : Nat) : List Bool :=
  let l := lastBase lenTable len
  let d := lastBase ((List.range 30).map distEntry) dist
  emitSym (257 + l.1) ++ bitsLow l.2.2 (len - l.2.1) ++ bitsHigh 5 d.1 ++ bitsLow d.2.2 (dist - d.2.1)

/-- Bytes equal at the heads of two strings, at most `n`. -/
def runLen : Nat → Bytes → Bytes → Nat
  | n + 1, a :: s, b :: t => if a = b then runLen n s t + 1 else 0
  | _, _, _ => 0

/-- `n` bytes of a bit string, least significant bit first, the last padded with zeros. -/
def packBytes : Nat → List Bool → Bytes
  | 0, _ => []
  | n + 1, l => BitVec.ofNat 8 ((List.zip (List.range 8) l).foldl (fun s x => s + put x.1 (b2n x.2)) 0) :: packBytes n (l.drop 8)

/-- The bytes of a bit string. -/
def packBits (l : List Bool) : Bytes := packBytes (cdiv l.length 8) l

/-- The search loop of R408 from position p: `fuel` bounds it, `rest` is the input from p. -/
def compressLoop (all : Bytes) : Nat → Nat → Bytes → Tbl Nat → List (List Bool) → List (List Bool)
  | 0, _, _, _, out => out
  | fuel + 1, p, rest, tbl, out =>
    match rest with
    | [] => out
    | b :: t =>
      let found : Nat × Nat × Tbl Nat :=
        if 4 ≤ rest.length then
          let h := (unle (rest.take 4) * 0x9E3779B1) % 2 ^ 32 / 2 ^ 20
          let q := Tbl.get 0 tbl h
          let tbl := Tbl.put 0 tbl h (p + 1)
          if q ≠ 0 && decide (p - (q - 1) ≤ 32768) then (runLen 258 (all.drop (q - 1)) rest, p - (q - 1), tbl) else (0, 0, tbl)
        else (0, 0, tbl)
      let (len, dist, tbl) := found
      if 4 ≤ len then compressLoop all fuel (p + len) (rest.drop len) tbl (emitMatch len dist :: out)
      else compressLoop all fuel (p + 1) t tbl (emitSym b.toNat :: out)

/-- The compressed stream (R408): one final fixed-Huffman block. -/
def deflate (b : Bytes) : Bytes :=
  packBits ([true, true, false] ++ (compressLoop b b.length 0 b [] []).reverse.flatten ++ emitSym 256)

/-- What a compressor had written when an input read failed after `b`: whole bytes only (log 40). -/
def deflateCut (b : Bytes) : Bytes :=
  let bits := [true, true, false] ++ (compressLoop b b.length 0 b [] []).reverse.flatten
  (packBits bits).take (bits.length / 8)

/-- The bound of R409. -/
def deflateBound (n : Nat) : Nat := cdiv (9 * n + 10) 8

/-! ## Decompression (R410 to R412) -/

/-- The decompressor: position in bits, bits left, output reversed, bytes out. -/
structure Inf where
  pos : Nat
  bits : List Bool
  out : Bytes
  n : Nat
deriving DecidableEq, Repr

/-- A step's result: go on, or a code at the first bit of the failing item. -/
inductive InfR (α : Type) where
  | ok (v : α) (s : Inf)
  | err (code bit : Nat) (s : Inf)

/-- The next `n` bits, least significant first; none past the end of the input. -/
def Inf.take (s : Inf) (n : Nat) : Option (Nat × Inf) :=
  if s.bits.length < n then none
  else some ((List.zip (List.range n) s.bits).foldl (fun a x => a + put x.1 (b2n x.2)) 0, { s with pos := s.pos + n, bits := s.bits.drop n })

/-- Canonical codes of a list of lengths: (length, code, symbol) (RFC 1951). -/
def huffTable (lens : List Nat) : List (Nat × Nat × Nat) :=
  let r := (List.range 16).foldl (fun (acc : Nat × List (Nat × Nat × Nat)) len =>
    if len = 0 then acc
    else
      let start := acc.1 * 2
      let syms := (List.range lens.length).filter (fun i => lens.getD i 0 == len)
      (start + syms.length, acc.2 ++ (List.zip (List.range syms.length) syms).map (fun x => (len, start + x.1, x.2)))) (0, [])
  r.2

/-- 2^15 times the code space that lengths use. -/
def huffSpace (lens : List Nat) : Nat := lens.foldl (fun a l => if l = 0 then a else a + 2 ^ (15 - l)) 0

/-- Read a symbol: none past the end of the input; `some none` as soon as no code begins with the bits read. -/
def huffRead (t : List (Nat × Nat × Nat)) : Nat → Nat → Nat → Inf → Option (Option Nat × Inf)
  | 0, _, _, s => some (none, s)
  | fuel + 1, len, code, s =>
    if !(t.any (fun x => decide (len < x.1) && x.2.1 / 2 ^ (x.1 - len) == code)) then some (none, s)
    else match s.bits with
    | [] => none
    | b :: r =>
      let s := { s with pos := s.pos + 1, bits := r }
      let len := len + 1
      let code := 2 * code + b2n b
      match t.find? (fun x => x.1 == len && x.2.1 == code) with
      | some x => some (some x.2.2, s)
      | none => huffRead t fuel len code s

def Inf.sym (s : Inf) (t : List (Nat × Nat × Nat)) : Option (Option Nat × Inf) := huffRead t 15 0 0 s

/-- The first failing bit and code of an input that ends (R411, R412). -/
def Inf.short {α : Type} (s : Inf) : InfR α := .err 5 (s.pos + s.bits.length) s

/-- Copy `len` bytes from `dist` back, one at a time, up to the capacity. -/
def copyBack (dist : Nat) : Nat → Bytes → Bytes
  | 0, out => out
  | n + 1, out => copyBack dist n (out.getD (dist - 1) 0 :: out)

/-- Symbols of a block until code 256 (R410 to R412). -/
def infSymbols (cap : Nat) (lit dist : List (Nat × Nat × Nat)) : Nat → Inf → InfR Unit
  | 0, s => s.short
  | fuel + 1, s =>
    let item := s.pos
    match s.sym lit with
    | none => s.short
    | some (none, _) => .err 1 item s
    | some (some v, s1) =>
      if v = 256 then .ok () s1
      else if v < 256 then
        if s1.n = cap then .err 3 item s else infSymbols cap lit dist fuel { s1 with out := BitVec.ofNat 8 v :: s1.out, n := s1.n + 1 }
      else if 285 < v then .err 1 item s
      else
        let l := lenTable.getD (v - 257) (3, 0)
        match s1.take l.2 with
        | none => s.short
        | some (x, s2) =>
          let len := l.1 + x
          let ditem := s2.pos
          match s2.sym dist with
          | none => s.short
          | some (none, _) => .err 1 ditem s
          | some (some d, s3) =>
            if 29 < d then .err 1 ditem s
            else
              let e := distEntry d
              match s3.take e.2 with
              | none => s.short
              | some (y, s4) =>
                let dd := e.1 + y
                if s4.n < dd then .err 2 ditem s
                else
                  let m := min len (cap - s4.n)
                  let s5 := { s4 with out := copyBack dd m s4.out, n := s4.n + m }
                  if m < len then .err 3 item s5 else infSymbols cap lit dist fuel s5

/-- Order of the code-length code's lengths (RFC 1951). -/
def clOrder : List Nat := [16, 17, 18, 0, 8, 7, 9, 6, 10, 5, 11, 4, 12, 3, 13, 2, 14, 1, 15]

/-- Code lengths of a dynamic block (R411): `want` lengths in all. -/
def infLens (t : List (Nat × Nat × Nat)) (want : Nat) : Nat → List Nat → Inf → InfR (List Nat)
  | 0, acc, s => .ok acc s
  | fuel + 1, acc, s =>
    if want ≤ acc.length then .ok acc s
    else
      let item := s.pos
      match s.sym t with
      | none => s.short
      | some (none, _) => .err 1 item s
      | some (some v, s1) =>
        let rep := fun (nb base val : Nat) =>
          match s1.take nb with
          | none => s.short
          | some (x, s2) => if want < acc.length + base + x then .err 1 item s else infLens t want fuel (acc ++ List.replicate (base + x) val) s2
        if v < 16 then infLens t want fuel (acc ++ [v]) s1
        else if v = 16 then (match acc.getLast? with | some p => rep 2 3 p | none => .err 1 item s)
        else if v = 17 then rep 3 3 0
        else rep 7 11 0

/-- The tables of a dynamic block (R410, R411); `head` is the first bit of the block header. -/
def infDynamic (head : Nat) (s : Inf) : InfR (List (Nat × Nat × Nat) × List (Nat × Nat × Nat)) :=
  match s.take 14 with
  | none => s.short
  | some (v, s1) =>
    let hlit := v % 32 + 257
    let hdist := fld v 5 5 + 1
    let hclen := fld v 10 4 + 4
    if 286 < hlit || 30 < hdist then .err 1 head s
    else match s1.take (3 * hclen) with
    | none => s.short
    | some (w, s2) =>
      let cl := (List.zip (List.range hclen) clOrder).foldl (fun (a : List Nat) x => a.set x.2 (fld w (3 * x.1) 3)) (List.replicate 19 0)
      if 2 ^ 15 < huffSpace cl then .err 1 head s
      else match infLens (huffTable cl) (hlit + hdist) (hlit + hdist) [] s2 with
      | .err c b s' => .err c b s'
      | .ok lens s3 =>
        let ll := lens.take hlit
        let dl := lens.drop hlit
        let used := (dl.filter (fun x => decide (x ≠ 0))).length
        if huffSpace ll ≠ 2 ^ 15 then .err 1 head s
        else if 2 ^ 15 < huffSpace dl || (huffSpace dl < 2 ^ 15 && 1 < used) then .err 1 head s
        else .ok (huffTable ll, huffTable dl) s3

/-- Lengths of the fixed literal/length code. -/
def fixedLens : List Nat := List.replicate 144 8 ++ List.replicate 112 9 ++ List.replicate 24 7 ++ List.replicate 8 8

/-- Whole bytes moved from input to output. -/
def infStored : Nat → Inf → Inf
  | 0, s => s
  | n + 1, s => match s.take 8 with
    | some (v, s1) => infStored n { s1 with out := BitVec.ofNat 8 v :: s1.out, n := s1.n + 1 }
    | none => s

/-- Blocks up to the final one (R410); the count of dynamic blocks goes with the result. -/
def infBlocks (cap : Nat) : Nat → Inf → InfR Unit
  | 0, s => s.short
  | fuel + 1, s =>
    let head := s.pos
    match s.take 3 with
    | none => s.short
    | some (h, s1) =>
      let next := fun (r : InfR Unit) => match r with
        | .err c b s' => InfR.err c b s'
        | .ok _ s' => if h % 2 = 1 then .ok () s' else infBlocks cap fuel s'
      match h / 2 with
      | 0 =>
        match s1.take ((8 - s1.pos % 8) % 8) with
        | none => s.short
        | some (_, s2) =>
          let item := s2.pos
          match s2.take 32 with
          | none => s.short
          | some (v, s3) =>
            let len := v % 65536
            if v / 65536 ≠ 65535 - len then .err 4 item s
            else
              let have_ := s3.bits.length / 8
              let m := min (min len have_) (cap - s3.n)
              let s4 := infStored m s3
              if m = len then next (.ok () s4) else if have_ ≤ m then s4.short else .err 3 item s4
      | 1 => next (infSymbols cap (huffTable fixedLens) (huffTable (List.replicate 32 5)) (s1.bits.length + 1) s1)
      | 2 => match infDynamic head s1 with
        | .err c b s' => .err c b s'
        | .ok t s2 => next (infSymbols cap t.1 t.2 (s2.bits.length + 1) s2)
      | _ => .err 1 head s

/-- What a decompress job gives: code, first failing bit, bytes consumed, trailing bytes, output (R410 to R412). `cut` says that
an uncorrectable error follows the input given (R411 code 6). -/
def inflate (cap : Nat) (cut : Bool) (b : Bytes) : Nat × Nat × Nat × Bool × Bytes :=
  let bits := (b.map (fun x => bitsLow 8 x.toNat)).flatten
  match infBlocks cap (bits.length + 1) ⟨0, bits, [], 0⟩ with
  | .ok _ s => let used := cdiv s.pos 8; (0, 0, used, cut || decide (used < b.length), s.out.reverse)
  | .err c bt s => let c := if c = 5 && cut then 6 else c; (c, bt, cdiv bt 8, false, s.out.reverse)

/-! ## Jobs (R405 to R407, R413) -/

/-- A descriptor (R406). -/
structure BallastJob where
  decompress : Bool
  ctx : Nat
  crcSel : Nat
  inLen : Nat
  inAddr : Nat
  outAddr : Nat
  outCap : Nat
  tag : Nat
  /-- a reserved bit is set -/
  junk : Bool
  /-- number given when queued -/
  id : Nat
deriving DecidableEq, Repr

def BallastJob.decode (b : Bytes) : BallastJob :=
  { decompress := bit (rd b 0 1) 0, ctx := rd b 1 1 % 16, crcSel := rd b 2 1, inLen := rd b 4 4, inAddr := rd b 8 8, outAddr := rd b 0x10 8,
    outCap := rd b 0x18 4, tag := rd b 0x1C 4,
    junk := decide (2 ≤ rd b 0 1) || decide (16 ≤ rd b 1 1) || decide (8 < rd b 2 1) || rd b 3 1 != 0, id := 0 }

/-- Refusal by the descriptor alone: 0 for none (R411). -/
def BallastJob.refusal (j : BallastJob) : Nat :=
  let cap := 268435456
  if j.junk || j.outCap = 0 || cap < j.outCap || (if j.decompress then decide (j.inLen = 0) || decide (cap < j.inLen) else decide (16777216 < j.inLen)) then 0x11
  else if !j.decompress && decide (j.outCap < deflateBound j.inLen) then 0x10
  else 0

/-- A completion record (R407). -/
def completion (tag status code : Nat) (trailing crcValid : Bool) (consumed produced errBit crc : Nat) : Bytes :=
  le 4 tag ++ le 1 status ++ le 1 code ++ le 2 (b2n trailing + put 1 (b2n crcValid)) ++ le 4 consumed ++ le 4 produced ++ le 8 errBit
  ++ le 8 (if crcValid then crc else 0)

/-- What a job does with its input: the completion's code, trailing flag, consumed, error bit, and the output (R408 to R412).
`cut` is the length of the input before its first uncorrectable line. -/
def BallastJob.work (j : BallastJob) (input : Bytes) (cut : Option Nat) : Nat × Bool × Nat × Nat × Bytes :=
  match cut with
  | some k =>
    if j.decompress then let r := inflate j.outCap true (input.take k); (r.1, r.2.2.2.1, r.2.2.1, r.2.1, r.2.2.2.2)
    else (6, false, k, 8 * k, deflateCut (input.take k))
  | none =>
    if j.decompress then let r := inflate j.outCap false input; (r.1, r.2.2.2.1, r.2.2.1, r.2.1, r.2.2.2.2)
    else (0, false, input.length, 0, deflate input)

/-- The two units and their queues (R405). Unit 0 compresses, unit 1 decompresses. `exportNext` is the queue whose turn it is. -/
structure Ballast where
  software : List BallastJob
  export_ : List BallastJob
  run0 : Option (BallastJob × Bool)
  run1 : Option (BallastJob × Bool)
  exportTurn0 : Bool
  exportTurn1 : Bool
  nextId : Nat
deriving DecidableEq, Repr

def Ballast.init : Ballast := ⟨[], [], none, none, true, true, 0⟩

end Sys2Proof.Machine
end

