-- ==== Sys2Proof/Machine/Export.lean ====
section
/-! DEFINITION. Export: destinations, streams, messages, queues, policers, duty and mirror books (R424 to R440). -/

namespace Sys2Proof.Machine

/-- An export destination (R425, EXPORT_CONFIG OP 0). -/
structure Dest where
  port : Nat
  ipv6 : Bool
  vlan : Option Nat
  udp : Nat
  mac : Bytes
  ip : Bytes
deriving DecidableEq, Repr

/-- A policer's configuration (R437). -/
structure PolicerCfg where
  cir : Nat
  pir : Nat
  cbs : Nat
  pbs : Nat
  enable : Bool
  defer : Bool
  green : Nat
  yellow : Nat
deriving DecidableEq, Repr

/-- A policer: buckets in units of 2^-16 B, tokens discarded at the caps and removed by clamping, messages by colour (R438, R439). -/
structure Policer where
  cfg : PolicerCfg
  tc : Nat
  tp : Nat
  lostC : Nat
  lostP : Nat
  clampC : Nat
  clampP : Nat
  nGreen : Nat
  nYellow : Nat
  nRed : Nat
  deferred : Bool
deriving DecidableEq, Repr

/-- The default policer of queue k, 1 to 7 (R437). -/
def Policer.init (k : Nat) : Policer :=
  ⟨⟨0, 0, 0, 0, false, decide (k ≤ 4) || k == 7, 0, 0⟩, 0, 0, 0, 0, 0, 0, 0, 0, 0, false⟩

/-- The configuration of 32 bytes (R437). -/
def PolicerCfg.decode (b : Bytes) : PolicerCfg :=
  ⟨rd b 0 8, rd b 8 8, rd b 0x10 4, rd b 0x14 4, bit (rd b 0x18 1) 0, bit (rd b 0x18 1) 1, rd b 0x19 1 % 64, rd b 0x1A 1 % 64⟩

/-- The fields of R437 in range: the byte offset of the first that is not. -/
def policerBad (b : Bytes) : Option Nat :=
  let c := PolicerCfg.decode b
  let top := 50000000000
  if top < c.cir then some 0 else if c.pir < c.cir || top < c.pir then some 8
  else if c.cbs < 9216 || 16777216 < c.cbs then some 0x10 else if c.pbs < c.cbs || 16777216 < c.pbs then some 0x14
  else if 4 ≤ rd b 0x18 1 then some 0x18 else if 64 ≤ rd b 0x19 1 then some 0x19 else if 64 ≤ rd b 0x1A 1 then some 0x1A
  else if !allZero (sub b 0x1B 5) then some 0x1B else none

/-- Tokens of a rate in one JCLK (R438). -/
def tokenGain (rate : Nat) : Nat := rate * 65536 / 1600000000

/-- One JCLK of refill (R438 item 1, R439). -/
def Policer.refill (p : Policer) : Policer :=
  if !p.cfg.enable then p
  else
    let c := p.tc + tokenGain p.cfg.cir
    let q := p.tp + tokenGain p.cfg.pir
    let capC := p.cfg.cbs * 65536
    let capP := p.cfg.pbs * 65536
    { p with tc := min c capC, tp := min q capP, lostC := p.lostC + (c - capC), lostP := p.lostP + (q - capP) }

/-- A configuration is applied (R438 item 2, R439): buckets full when enabled, clamped to the new caps otherwise. -/
def Policer.configure (p : Policer) (c : PolicerCfg) : Policer :=
  if c.enable && !p.cfg.enable then { p with cfg := c, tc := c.cbs * 65536, tp := c.pbs * 65536, deferred := false }
  else
    let capC := c.cbs * 65536
    let capP := c.pbs * 65536
    { p with cfg := c, tc := min p.tc capC, tp := min p.tp capP, clampC := p.clampC + (p.tc - capC), clampP := p.clampP + (p.tp - capP) }

/-- Colours of RFC 2698 in colour-blind mode (R438 item 3). -/
inductive Colour where
  | green | yellow | red
deriving DecidableEq, Repr

/-- Meter a message of B bytes (R438, R439). -/
def Policer.meter (p : Policer) (size : Nat) : Colour × Policer :=
  let b := size * 65536
  if !p.cfg.enable then (.green, { p with nGreen := p.nGreen + 1 })
  else if p.tp < b then (.red, if p.cfg.defer then { p with deferred := true } else { p with nRed := p.nRed + 1 })
  else if p.tc < b then (.yellow, { p with tp := p.tp - b, nYellow := p.nYellow + 1, deferred := false })
  else (.green, { p with tc := p.tc - b, tp := p.tp - b, nGreen := p.nGreen + 1, deferred := false })

/-! ## Streams and messages (R426 to R433) -/

/-- A record of a stream, with its place in the order of R428: tick first. -/
structure ExpRec where
  tick : Nat
  key : Nat
  data : Bytes
deriving DecidableEq, Repr

/-- A stream of one KIND for one context (R426, R428, R432): records built and not yet acknowledged, how many of them are in
messages, the number of the next one, the last acknowledged number, and the records lost since the previous message. -/
structure ExpStream where
  enable : Bool
  compress : Bool
  held : List ExpRec
  closed : Nat
  nextSeq : Nat
  acked : Option Nat
  dropped : Nat
deriving DecidableEq, Repr

def ExpStream.init : ExpStream := ⟨false, false, [], 0, 0, none, 0⟩

/-- A message (R429, R430). -/
structure ExpMsg where
  id : Nat
  ctx : Nat
  kind : Nat
  count : Nat
  seq : Nat
  key : Nat × Nat
  raw : Bytes
  /-- the compressed payload, when it is shorter (R431) -/
  packed : Option Bytes
  takeover : Bool
  frag : Bool
  abandoned : Bool
  last : Bool
  offset : Nat
  recordLen : Nat
  dropped : Nat
  /-- a fragment sent as its bytes arrived: no held record goes with it -/
  direct : Bool
deriving DecidableEq, Repr

/-- The datagram of a message: 48 bytes of header and the payload (R429). -/
def ExpMsg.bytes (m : ExpMsg) (sender : Nat) (yellow : Bool) : Bytes :=
  let pay := m.packed.getD m.raw
  le 4 0x50584544 ++ le 2 1 ++ le 1 m.kind
  ++ le 1 (b2n m.packed.isSome + put 1 (b2n m.takeover) + put 2 (b2n yellow) + put 3 (b2n m.frag) + put 4 (b2n m.abandoned))
  ++ le 4 sender ++ le 1 m.ctx ++ le 1 0 ++ le 2 m.count ++ le 8 m.seq ++ le 4 pay.length ++ le 4 m.raw.length ++ le 4 (crcOf crc32 m.raw)
  ++ le 4 (sat 32 m.dropped) ++ le 4 m.offset ++ le 4 m.recordLen ++ pay

/-- Bytes of the frame of a datagram, destination MAC address through FCS (R430, R438). -/
def frameSize (d : Dest) (datagram : Nat) : Nat := datagram + 8 + (if d.ipv6 then 40 else 20) + (if d.vlan.isSome then 4 else 0) + 14 + 4

/-- A frame on the line: message, destination, code point of its colour, and datagram (R425, R438). -/
structure Sending where
  msg : ExpMsg
  dest : Dest
  dscp : Nat
  frame : Bytes
deriving DecidableEq, Repr

/-- An Ethernet port (R424, R425, R435): up, control frames discarded, queue 0, policers of queues 1 to 7, the frame on the line. -/
structure EthPort where
  up : Bool
  control : Nat
  q0 : List Bytes
  pol : List Policer
  sending : Option (Option Sending)
deriving DecidableEq, Repr

def EthPort.init : EthPort := ⟨false, 0, [], (List.range 7).map (fun k => Policer.init (k + 1)), none⟩

/-- Export state. Streams are keyed 8·CTX + KIND, destinations 2·CTX + WHICH, list entries 65536·CTX + FIELD with DECIM + 1;
`bulk` holds bytes already sent of a Bulk record in fragments, by 16·(4·port + subchannel) + CTX. -/
structure Exp where
  dests : Tbl (Option Dest)
  fields : Tbl Nat
  streams : Tbl ExpStream
  queue : List ExpMsg
  packing : List ExpMsg
  e0 : EthPort
  e1 : EthPort
  bulk : Tbl Nat
  nextMsg : Nat
deriving DecidableEq, Repr

def Exp.init : Exp := ⟨[], [], [], [], [], EthPort.init, EthPort.init, [], 0⟩

def Exp.stream (e : Exp) (ctx kind : Nat) : ExpStream := Tbl.get ExpStream.init e.streams (8 * ctx + kind)
def Exp.setStream (e : Exp) (ctx kind : Nat) (s : ExpStream) : Exp := { e with streams := Tbl.put ExpStream.init e.streams (8 * ctx + kind) s }
def Exp.eth (e : Exp) (p : Nat) : EthPort := if p = 0 then e.e0 else e.e1
def Exp.setEth (e : Exp) (p : Nat) (x : EthPort) : Exp := if p = 0 then { e with e0 := x } else { e with e1 := x }

/-- Bytes a context holds in export staging (R436): records, and fragments that went into messages as they arrived. -/
def Exp.used (e : Exp) (ctx : Nat) : Nat :=
  (List.range 8).foldl (fun a k => (e.stream ctx k).held.foldl (fun a r => a + r.data.length) a) 0
  + (e.queue ++ e.packing).foldl (fun a m => if m.direct && m.ctx == ctx then a + m.raw.length else a) 0

/-- Key a before key b in one tick (R428). Keys from 2^64 on are those of Logbook records: SOURCE, then SEQ in the serial order of R537. -/
def keyBefore (a b : Nat) : Bool :=
  if 2 ^ 64 ≤ a && 2 ^ 64 ≤ b && a / 2 ^ 32 == b / 2 ^ 32 then after b a else decide (a < b)

/-- r before s in the order of R428. -/
def ExpRec.before (r s : ExpRec) : Bool := decide (r.tick < s.tick) || (r.tick == s.tick && keyBefore r.key s.key)

/-- Insert a record in stream order behind what messages already hold. -/
def insertRec (r : ExpRec) : List ExpRec → List ExpRec
  | [] => [r]
  | x :: t => if r.before x then r :: x :: t else x :: insertRec r t

/-- A record joins its stream (R426, R428, R436): with the share full it is dropped and counted. The flag says it was dropped. -/
def Exp.add (e : Exp) (ctx kind share : Nat) (r : ExpRec) : Exp × Bool :=
  let s := e.stream ctx kind
  if !s.enable then (e, false)
  else if share < e.used ctx + r.data.length then (e.setStream ctx kind { s with dropped := s.dropped + 1 }, true)
  else (e.setStream ctx kind { s with held := s.held.take s.closed ++ insertRec r (s.held.drop s.closed) }, false)

/-- The records of the next message: within one tick, at most 512, at most 8,192 B; a larger one alone (R430). -/
def packRecs : Nat → Nat → Nat → List ExpRec → List ExpRec
  | _, 0, _, _ => []
  | _, _, _, [] => []
  | tick, room + 1, size, r :: t =>
    if r.tick ≠ tick || 8192 < size + r.data.length then [] else r :: packRecs tick room (size + r.data.length) t

/-- Fragments of a record from an offset (R430). -/
def fragments (b : Bytes) : Nat → Nat → List (Nat × Bytes × Bool)
  | 0, _ => []
  | n + 1, off =>
    if b.length ≤ off + 9098 then [(off, b.drop off, true)] else (off, sub b off 9098, false) :: fragments b n (off + 9098)

/-- Queue a message, or hand it to Ballast when its stream compresses (R431). -/
def Exp.post (e : Exp) (compress : Bool) (m : ExpMsg) : Exp :=
  let m := { m with id := e.nextMsg }
  let e := { e with nextMsg := e.nextMsg + 1 }
  if compress then { e with packing := e.packing ++ [m] } else { e with queue := e.queue ++ [m] }

/-- Close the next message of a stream (R430, R433); `takeover` marks the messages of the takeover tick. -/
def Exp.close (e : Exp) (ctx kind : Nat) (takeover compress : Bool) : Exp :=
  let s := e.stream ctx kind
  match s.held.drop s.closed with
  | [] => e
  | r :: t =>
    let base : ExpMsg := { id := 0, ctx := ctx, kind := kind, count := 1, seq := s.nextSeq, key := (r.tick, r.key), raw := r.data, packed := none,
                           takeover := takeover, frag := false, abandoned := false, last := true, offset := 0, recordLen := 0, dropped := s.dropped, direct := false }
    if 9098 < r.data.length then
      let e := e.setStream ctx kind { s with closed := s.closed + 1, nextSeq := s.nextSeq + 1, dropped := 0 }
      (fragments r.data (r.data.length / 9098 + 1) 0).foldl (fun e f =>
        e.post compress { base with raw := f.2.1, frag := true, last := f.2.2, offset := f.1, recordLen := if f.2.2 then r.data.length else 0,
                                    dropped := if f.1 = 0 then s.dropped else 0 }) e
    else
      let rs := if 8192 < r.data.length then [r] else r :: packRecs r.tick 511 r.data.length t
      let z := rs.getLastD r
      (e.setStream ctx kind { s with closed := s.closed + rs.length, nextSeq := s.nextSeq + rs.length, dropped := 0 }).post compress
        { base with count := rs.length, key := (z.tick, z.key), raw := (rs.map (·.data)).flatten }

/-- A compress job of the exporter ended: the shorter of the two payloads goes (R431). -/
def Exp.packed (e : Exp) (id : Nat) (out : Bytes) : Exp :=
  match e.packing.find? (fun m => m.id == id) with
  | some m =>
    let m := if out.length < m.raw.length then { m with packed := some out } else m
    { e with packing := e.packing.filter (fun x => x.id != id), queue := e.queue ++ [m] }
  | none => e

/-- The destination in use for a context: the preferred one while its port is up, else the alternate (R425). -/
def Exp.dest (e : Exp) (ctx : Nat) : Option Dest :=
  let up := fun (d : Option Dest) => match d with | some x => if (e.eth x.port).up then some x else none | none => none
  match up (Tbl.get none e.dests (2 * ctx)) with
  | some d => some d
  | none => up (Tbl.get none e.dests (2 * ctx + 1))

/-- The head message of queue k at a port: streams of KIND k feed queue k (R426, R435). -/
def Exp.head (e : Exp) (port k : Nat) : Option (ExpMsg × Dest) :=
  (e.queue.find? (fun m => m.kind == k && (match e.dest m.ctx with | some d => d.port == port | none => false))).bind
    (fun m => (e.dest m.ctx).map (fun d => (m, d)))

/-- Remove a queued message. -/
def Exp.unqueue (e : Exp) (id : Nat) : Exp := { e with queue := e.queue.filter (fun m => m.id != id) }

/-- Count records of a stream as lost (R438). -/
def Exp.lose (e : Exp) (m : ExpMsg) : Exp :=
  let s := e.stream m.ctx m.kind
  let n := if m.direct then 0 else m.count
  e.setStream m.ctx m.kind { s with dropped := s.dropped + m.count, held := s.held.drop n, closed := s.closed - n }

/-- Service of queues 1 to 7 from queue k on (R435, R438). -/
def Exp.serveFrom (e : Exp) (sender port : Nat) : List Nat → Exp
  | [] => e
  | k :: t =>
    match e.head port k with
    | none => e.serveFrom sender port t
    | some (m, d) =>
      let x := e.eth port
      let p := x.pol.getD (k - 1) (Policer.init k)
      let (col, p) := p.meter (frameSize d (m.bytes sender false).length)
      let x := { x with pol := x.pol.set (k - 1) p }
      match col with
      | .red => if p.cfg.defer then (e.setEth port x).serveFrom sender port t else ((e.setEth port x).unqueue m.id).lose m
      | c =>
        let y := decide (c = .yellow)
        (e.setEth port { x with sending := some (some ⟨m, d, if y then p.cfg.yellow else p.cfg.green, m.bytes sender y⟩) }).unqueue m.id

/-- Between frames queue 0 is served, which holds mailbox and time frames (R435). -/
def Exp.serveMailbox (e : Exp) (port : Nat) : Exp :=
  let x := e.eth port
  if !x.up || x.sending.isSome then e
  else match x.q0 with
  | _ :: t => e.setEth port { x with q0 := t, sending := some none }
  | [] => e

/-- Between frames the port takes the next message: queue 0 first (R435). -/
def Exp.serve (e : Exp) (sender port : Nat) : Exp :=
  let x := e.eth port
  if !x.up || x.sending.isSome then e
  else if x.q0.length = 0 then e.serveFrom sender port [1, 2, 3, 4, 5, 6, 7] else e.serveMailbox port

/-- The last bit of a frame has left: the message's records are sent; what to acknowledge goes with the result (R432). -/
def Exp.sent (e : Exp) (port : Nat) : Exp × Option ExpMsg :=
  let x := e.eth port
  let e := e.setEth port { x with sending := none }
  match x.sending with
  | some (some s) =>
    let m := s.msg
    if m.frag && !m.last then (e, none)
    else
      let st := e.stream m.ctx m.kind
      let n := if m.direct then 0 else min m.count st.closed
      (e.setStream m.ctx m.kind { st with held := st.held.drop n, closed := st.closed - n }, some m)
  | _ => (e, none)

/-- A mirror acknowledgement: CTX, KIND, MIRROR_SEQ and key of the last record; the layout is the model's (log 41). -/
def mirrorAck (m : ExpMsg) : Bytes :=
  le 2 0x33 ++ le 1 m.ctx ++ le 1 m.kind ++ zeros 4 ++ le 8 (m.seq + m.count - 1) ++ le 8 m.key.1 ++ le 8 m.key.2

/-- The final acknowledgement of a stream whose duty moves at tick m: its last sequence number, over every record of earlier ticks (R434, log 41). -/
def finalAck (ctx kind seq m : Nat) : Bytes :=
  le 2 0x33 ++ le 1 ctx ++ le 1 kind ++ le 4 1 ++ le 8 seq ++ le 8 (m - 1) ++ le 8 (2 ^ 64 - 1)

/-- The twin discards every held record up to the acknowledged key and holds the number (R432). -/
def Exp.mirror (e : Exp) (b : Bytes) : Exp :=
  let ctx := rd b 2 1 % 16
  let kind := rd b 3 1 % 8
  let s := e.stream ctx kind
  let k : ExpRec := ⟨rd b 0x10 8, rd b 0x18 8 + (if kind = 4 then 2 ^ 64 else 0), []⟩
  let rest := s.held.filter (fun r => k.before r)
  e.setStream ctx kind { s with held := rest, closed := 0, acked := some (rd b 8 8), nextSeq := (rd b 8 8 + 1) % 2 ^ 64 }

/-- A twin takes duty: every held record is sent again under its number (R433). -/
def Exp.takeDuty (e : Exp) : Exp :=
  { e with queue := [], packing := [],
           streams := e.streams.map (fun x => (x.1, { x.2 with closed := 0, nextSeq := match x.2.acked with | some n => (n + 1) % 2 ^ 64 | none => x.2.nextSeq - x.2.closed })) }

/-- A twin gives duty up: what is not yet sent stays held (R434). -/
def Exp.giveDuty (e : Exp) : Exp :=
  { e with queue := [], packing := [], streams := e.streams.map (fun x => (x.1, { x.2 with closed := 0, nextSeq := x.2.nextSeq - x.2.closed })) }

/-- The streams that are enabled, as 8·CTX + KIND. -/
def Exp.enabled (e : Exp) : List Nat := (List.range 128).filter (fun k => (e.stream (k / 8) (k % 8)).enable)

/-- Every record of a stream built before tick m is gone (R434). -/
def Exp.drained (e : Exp) (m k : Nat) : Bool := !((e.stream (k / 8) (k % 8)).held.any (fun r => decide (r.tick < m)))

/-- One JCLK of every policer (R438). -/
def Exp.tick (e : Exp) : Exp :=
  { e with e0 := { e.e0 with pol := e.e0.pol.map Policer.refill }, e1 := { e.e1 with pol := e.e1.pol.map Policer.refill } }

/-- Start a stream: numbering from 0 when the context is enabled (R428). -/
def Exp.enableCtx (e : Exp) (ctx : Nat) : Exp :=
  (List.range 8).foldl (fun e k => let s := e.stream ctx k; e.setStream ctx k { s with held := [], closed := 0, nextSeq := 0, acked := none, dropped := 0 }) e

/-- Records of a context still queued; all of them discarded (R337). -/
def Exp.queued (e : Exp) (ctx : Nat) : Nat := (List.range 8).foldl (fun a k => a + (e.stream ctx k).held.length) 0
def Exp.discard (e : Exp) (ctx : Nat) : Exp :=
  let e := (List.range 8).foldl (fun e k => let s := e.stream ctx k; e.setStream ctx k { s with held := [], closed := 0, dropped := s.dropped + s.held.length }) e
  { e with queue := e.queue.filter (fun m => m.ctx != ctx), packing := e.packing.filter (fun m => m.ctx != ctx) }

/-- The offset that marks a record whose first fragment found the share full (R436). -/
def bulkLost : Nat := 2 ^ 40

/-- Bytes of a relayed Bulk message that have arrived (R430): fragments go as they fill; `done` ends the record, `gone` abandons it. A record
whose first fragment finds the share of its context full is dropped whole (R436). The flag says a record was dropped. -/
def Exp.bulkStep (e : Exp) (slot ctx share tick key : Nat) (holder takeover : Bool) (b : Bytes) (done gone : Bool) : Exp × Bool :=
  let off := Tbl.get 0 e.bulk slot
  let s := e.stream ctx 7
  if off = bulkLost && holder then (if done || gone then { e with bulk := Tbl.put 0 e.bulk slot 0 } else e, false)
  else if !s.enable then ({ e with bulk := Tbl.put 0 e.bulk slot 0 }, false)
  else if !holder then (let e := { e with bulk := Tbl.put 0 e.bulk slot 0 }; if done then e.add ctx 7 share ⟨tick, key, b⟩ else (e, false))
  else if off = 0 && done then e.add ctx 7 share ⟨tick, key, b⟩
  else if off = 0 && (gone || decide (9098 < b.length)) && decide (share < e.used ctx + min b.length 9098) then
    ({ e.setStream ctx 7 { s with dropped := s.dropped + 1 } with bulk := Tbl.put 0 e.bulk slot (if gone then 0 else bulkLost) }, true)
  else
    let base : ExpMsg := { id := 0, ctx := ctx, kind := 7, count := 1, seq := s.nextSeq, key := (tick, key), raw := [], packed := none,
                           takeover := takeover, frag := true, abandoned := false, last := false, offset := 0, recordLen := 0, dropped := 0, direct := true }
    let full := (List.range ((b.length - off) / 9098 + 1)).foldl (fun (x : Exp × Nat) _ =>
      if x.2 + 9098 < b.length then (x.1.post s.compress { base with raw := sub b x.2 9098, offset := x.2, dropped := if x.2 = 0 then s.dropped else 0 }, x.2 + 9098) else x) (e, off)
    let (e, at_) := full
    if done || gone then
      let m := { base with raw := b.drop at_, offset := at_, last := true, abandoned := gone && !done, recordLen := b.length }
      let e := e.post s.compress m
      ({ e.setStream ctx 7 { s with nextSeq := s.nextSeq + 1, dropped := 0 } with bulk := Tbl.put 0 e.bulk slot 0 }, false)
    else ({ e with bulk := Tbl.put 0 e.bulk slot at_ }, false)

end Sys2Proof.Machine
end

