-- ==== Sys2Proof/Machine/Fp.lean ====
section
/-! DEFINITION. Floating point by exact rationals rounded once, and the elementary functions the spec names (R239, R241, R261, R267, R269, R296, R313 to R320). -/

namespace Sys2Proof.Machine

/-- A floating-point value: NaN, an infinity, or a finite magnitude with its sign. -/
inductive Fp where
  | nan
  | inf (neg : Bool)
  | fin (neg : Bool) (mag : Rat)
deriving DecidableEq, Repr

/-- A binary format: exponent and fraction bits, and whether it has infinities (R313). -/
structure Fmt where
  eb : Nat
  mb : Nat
  hasInf : Bool
deriving DecidableEq, Repr

def fp64 : Fmt := ⟨11, 52, true⟩
def fp32 : Fmt := ⟨8, 23, true⟩
def bf16 : Fmt := ⟨8, 7, true⟩
def fp16 : Fmt := ⟨5, 10, true⟩
def e4m3 : Fmt := ⟨4, 3, false⟩
def e5m2 : Fmt := ⟨5, 2, true⟩

/-- 2^e. -/
def pow2 (e : Int) : Rat := if 0 ≤ e then ((2 ^ e.toNat : Nat) : Rat) else 1 / ((2 ^ (-e).toNat : Nat) : Rat)

/-- ⌊log2 q⌋ of a positive rational. -/
def flog2 (q : Rat) : Int :=
  let k : Int := (Nat.log2 q.num.natAbs : Int) - Nat.log2 q.den
  if pow2 k ≤ q then k else k - 1

/-- The natural number nearest a rational at or above 0, ties to even. -/
def rne (q : Rat) : Nat :=
  let f := q.num.natAbs / q.den
  let r := q.num.natAbs % q.den
  if 2 * r < q.den then f else if q.den < 2 * r then f + 1 else if f % 2 = 0 then f else f + 1

/-- The bias of a format. -/
def Fmt.bias (f : Fmt) : Int := (2 ^ (f.eb - 1) : Nat) - 1

/-- The largest finite value (R313). -/
def Fmt.maxFin (f : Fmt) : Rat :=
  if f.hasInf then pow2 f.bias * (2 - pow2 (-f.mb)) else 448

/-- A magnitude rounded to the precision of a format, to nearest, ties to even, without regard to overflow. -/
def Fmt.roundMag (f : Fmt) (q : Rat) : Rat :=
  if q = 0 then 0
  else
    let e := max (flog2 q) (1 - f.bias)
    let u := pow2 (e - f.mb)
    (rne (q / u) : Nat) * u

/-- A value rounded to a format: overflow gives an infinity. -/
def Fp.round (f : Fmt) : Fp → Fp
  | .fin s q => let r := f.roundMag q; if f.maxFin < r then .inf s else .fin s r
  | x => x

/-- The encoding of a value that the format holds; NaN is canonical (R313, R317). -/
def Fp.encode (f : Fmt) : Fp → Nat
  | .nan => if f.hasInf then put f.mb (2 ^ f.eb - 1) + put (f.mb - 1) 1 else 0x7F
  | .inf s => put (f.eb + f.mb) (b2n s) + put f.mb (2 ^ f.eb - 1)
  | .fin s q =>
    let sign := put (f.eb + f.mb) (b2n s)
    if q = 0 then sign
    else
      let e := max (flog2 q) (1 - f.bias)
      let n := rne (q / pow2 (e - f.mb))
      if n < 2 ^ f.mb then sign + n else sign + put f.mb (e + f.bias).toNat + (n - 2 ^ f.mb)

/-- The value that bits spell. -/
def Fp.decode (f : Fmt) (v : Nat) : Fp :=
  let s := bit v (f.eb + f.mb)
  let e := fld v f.mb f.eb
  let m := fld v 0 f.mb
  if f.hasInf && e = 2 ^ f.eb - 1 then (if m = 0 then .inf s else .nan)
  else if !f.hasInf && e = 2 ^ f.eb - 1 && m = 2 ^ f.mb - 1 then .nan
  else if e = 0 then .fin s (m * pow2 (1 - f.bias - f.mb))
  else .fin s ((m + 2 ^ f.mb : Nat) * pow2 ((e : Int) - f.bias - f.mb))

/-- A rational as a value; zero is +0. -/
def Fp.ofRat (q : Rat) : Fp := if q < 0 then .fin true (-q) else .fin false q

/-- The signed rational of a finite value, 0 of any other. -/
def Fp.toRat : Fp → Rat
  | .fin s q => if s then -q else q
  | _ => 0

def Fp.isNan : Fp → Bool
  | .nan => true
  | _ => false

def Fp.isFin : Fp → Bool
  | .fin _ _ => true
  | _ => false

def Fp.isZero : Fp → Bool
  | .fin _ q => q == 0
  | _ => false

/-- The sign of a value. -/
def Fp.isNeg : Fp → Bool
  | .nan => false
  | .inf s => s
  | .fin s _ => s

def Fp.neg : Fp → Fp
  | .nan => .nan
  | .inf s => .inf (!s)
  | .fin s q => .fin (!s) q

def Fp.abs : Fp → Fp
  | .nan => .nan
  | .inf _ => .inf false
  | .fin _ q => .fin false q

/-- −0 becomes +0 (R234, R289, R296). -/
def Fp.posZero : Fp → Fp
  | .fin s q => if q = 0 then .fin false 0 else .fin s q
  | x => x

/-- Exact addition with the signs of IEEE 754 under round to nearest. -/
def Fp.add : Fp → Fp → Fp
  | .nan, _ => .nan
  | _, .nan => .nan
  | .inf s, .inf t => if s = t then .inf s else .nan
  | .inf s, _ => .inf s
  | _, .inf t => .inf t
  | .fin s p, .fin t q =>
    let r : Rat := (if s then -p else p) + (if t then -q else q)
    if r = 0 then .fin (s && t) 0 else .ofRat r

def Fp.sub (a b : Fp) : Fp := a.add b.neg

/-- Exact multiplication. -/
def Fp.mul : Fp → Fp → Fp
  | .nan, _ => .nan
  | _, .nan => .nan
  | .inf s, .inf t => .inf (xor s t)
  | .inf s, .fin t q => if q = 0 then .nan else .inf (xor s t)
  | .fin s p, .inf t => if p = 0 then .nan else .inf (xor s t)
  | .fin s p, .fin t q => .fin (xor s t) (p * q)

/-- Exact division. -/
def Fp.div : Fp → Fp → Fp
  | .nan, _ => .nan
  | _, .nan => .nan
  | .inf _, .inf _ => .nan
  | .inf s, .fin t _ => .inf (xor s t)
  | .fin s _, .inf t => .fin (xor s t) 0
  | .fin s p, .fin t q => if q = 0 then (if p = 0 then .nan else .inf (xor s t)) else .fin (xor s t) (p / q)

/-- a < b (IEEE 754). -/
def Fp.lt : Fp → Fp → Bool
  | .nan, _ => false
  | _, .nan => false
  | .inf s, .inf t => s && !t
  | .inf s, .fin _ _ => s
  | .fin _ _, .inf t => !t
  | .fin s p, .fin t q => decide ((if s then -p else p) < (if t then -q else q))

/-- a ≤ b (IEEE 754). -/
def Fp.le (a b : Fp) : Bool := !a.isNan && !b.isNan && !(b.lt a)

/-- MAX and MIN of R317: NaN if either is NaN, +0 greater than −0. -/
def Fp.max (a b : Fp) : Fp :=
  if a.isNan || b.isNan then .nan else if a.lt b then b else if b.lt a then a else if a.isNeg then b else a

def Fp.min (a b : Fp) : Fp :=
  if a.isNan || b.isNan then .nan else if a.lt b then a else if b.lt a then b else if a.isNeg then a else b

/-! ## Rounded operations -/

def Fp.addR (f : Fmt) (a b : Fp) : Fp := (a.add b).round f
def Fp.subR (f : Fmt) (a b : Fp) : Fp := (a.sub b).round f
def Fp.mulR (f : Fmt) (a b : Fp) : Fp := (a.mul b).round f
def Fp.divR (f : Fmt) (a b : Fp) : Fp := (a.div b).round f
/-- a × b + c with one rounding. -/
def Fp.fmaR (f : Fmt) (a b c : Fp) : Fp := ((a.mul b).add c).round f

/-! ## Roots and constants -/

/-- The largest n with n^k ≤ x, built from bit `i` down. -/
def irootGo (k x : Nat) : Nat → Nat → Nat
  | 0, acc => acc
  | i + 1, acc => let c := acc + 2 ^ i; irootGo k x i (if c ^ k ≤ x then c else acc)

/-- ⌊x^(1/k)⌋ of a number whose root has at most `bits` bits. -/
def iroot (k bits x : Nat) : Nat := irootGo k x bits 0

/-- The number with `p` fraction bits nearest 2^(a/b), 0 ≤ a < b. -/
def rootOf2 (p a b : Nat) : Rat :=
  let n := iroot b (p + 1) (2 ^ (p * b + a))
  let up := decide ((2 * n + 1) ^ b ≤ 2 ^ ((p + 1) * b + a))
  ((if up then n + 1 else n : Nat) : Rat) / ((2 ^ p : Nat) : Rat)

/-- ln 2 to 30 digits, from which the constants of R319 and R320 are rounded. -/
def ln2 : Rat := 693147180559945309417232121458 / 1000000000000000000000000000000

/-- SQRT correctly rounded in fp32 (R320): the root of a nonzero magnitude with 40 extra bits and a sticky bit. -/
def Fp.sqrt32 : Fp → Fp
  | .nan => .nan
  | .inf s => if s then .nan else .inf false
  | .fin s q =>
    if q = 0 then .fin s 0
    else if s then .nan
    else
      let k : Int := 200
      let x := q * pow2 (2 * k)
      let n := iroot 2 (300) (x.num.natAbs / x.den)
      let exact := decide (((n * n : Nat) : Rat) = x)
      let r : Rat := ((2 * n + (if exact then 0 else 1) : Nat) : Rat) * pow2 (-k - 1)
      (Fp.fin false r).round fp32

/-! ## EXP2 and the function unit (R319, R320) -/

/-- An fp32 constant. -/
def c32 (q : Rat) : Fp := (Fp.ofRat q).round fp32

/-- EXP2 (R319). -/
def exp2 (x : Fp) : Fp :=
  match x with
  | .nan => .nan
  | .inf s => if s then .fin false 0 else .inf false
  | .fin _ _ =>
    let v := x.toRat
    if 128 ≤ v then .inf false
    else if v ≤ -150 then .fin false 0
    else
      let i := v.floor
      let f := v - i
      let j := (64 * f).floor.toNat
      let g := Fp.ofRat (f - (j : Rat) / 64)
      let c1 := c32 ln2
      let c2 := c32 (ln2 * ln2 / 2)
      let c3 := c32 (ln2 * ln2 * ln2 / 6)
      let p := Fp.fmaR fp32 (Fp.fmaR fp32 (Fp.fmaR fp32 c3 g c2) g c1) g (.fin false 1)
      let q := Fp.mulR fp32 (.fin false (rootOf2 23 j 64)) p
      (q.mul (.fin false (pow2 i))).round fp32

/-- EXP (R320). -/
def expSeq (x : Fp) : Fp := exp2 (Fp.mulR fp32 x (c32 (1 / ln2)))

/-- RECIP (R320). -/
def recip (x : Fp) : Fp := Fp.divR fp32 (.fin false 1) x

/-- The function unit's FUNC 0 to 9 on fp32 (R320). -/
def funcUnit (func : Nat) (x : Fp) : Fp :=
  let one := Fp.fin false 1
  match func with
  | 0 => exp2 x
  | 1 => expSeq x
  | 2 => recip (Fp.addR fp32 one (expSeq x.neg))
  | 3 =>
    let a := x.abs
    if x.isNan then .nan
    else if a.lt (.fin false (pow2 (-12))) then x
    else if (Fp.fin false 9).le a then .fin x.isNeg 1
    else
      let e := expSeq (Fp.mulR fp32 (.fin false 2) a)
      let t := Fp.subR fp32 one (Fp.mulR fp32 (.fin false 2) (recip (Fp.addR fp32 one e)))
      if x.isNeg then t.neg else t
  | 4 => recip x
  | 5 => x.sqrt32
  | 6 => recip x.sqrt32
  | 7 => x.abs
  | 8 => x.neg
  | _ => x.max (.fin false 0)

/-! ## Correctly rounded link functions (R296) -/

/-- Terms of the exponential series of a number at or below 1/2, scaled by 2^P and rounded down. -/
def expTerms (P : Nat) (xNum : Nat) : Nat → Nat → Nat → Nat → Nat
  | 0, _, _, acc => acc
  | n + 1, k, term, acc =>
    let t := term * xNum / 2 ^ P / k
    expTerms P xNum n (k + 1) t (acc + t)

/-- Square a scaled bound `s` times, rounding down or up. -/
def squareUp (P : Nat) (up : Bool) : Nat → Nat → Nat
  | 0, v => v
  | s + 1, v => squareUp P up s (v * v / 2 ^ P + b2n up)

/-- Bounds of e^x for 0 ≤ x ≤ 256: the lower and the upper one. -/
def expBounds (x : Rat) : Rat × Rat :=
  let P : Nat := 700
  let s : Nat := 9
  let xs := (x * pow2 ((P : Int) - (s : Int))).floor.toNat
  let lo := expTerms P xs 120 1 (2 ^ P) (2 ^ P)
  let hi := expTerms P (xs + 1) 120 1 (2 ^ P) (2 ^ P) + 300
  (((squareUp P false s lo : Nat) : Rat) * pow2 (-(P : Int)), ((squareUp P true s hi : Nat) : Rat) * pow2 (-(P : Int)))

/-- The fp32 value both bounds round to; they agree, since the exact value is no midpoint and the bounds are far tighter. -/
def roundBounds (lo hi : Rat) : Fp := (Fp.ofRat ((lo + hi) / 2)).round fp32

/-- LINK (R296): 0 identity, 1 logistic, 2 exp, 3 tanh; the nearest fp32, −0 delivered as +0. -/
def linkFn (link : Nat) (m : Fp) : Fp :=
  match m with
  | .nan => .nan
  | .inf s =>
    match link with
    | 0 => .inf s
    | 1 => if s then .fin false 0 else .fin false 1
    | 2 => if s then .fin false 0 else .inf false
    | _ => .fin s 1
  | .fin s q =>
    match link with
    | 0 => (Fp.fin s q).posZero
    | 1 =>
      if 128 ≤ q then (if s then .fin false 0 else .fin false 1)
      else
        let (l, h) := expBounds q
        if s then roundBounds (1 / (1 + h)) (1 / (1 + l)) else roundBounds (l / (1 + l)) (h / (1 + h))
    | 2 =>
      if 128 ≤ q then (if s then .fin false 0 else .inf false)
      else
        let (l, h) := expBounds q
        if s then roundBounds (1 / h) (1 / l) else roundBounds l h
    | _ =>
      if q = 0 then .fin false 0
      else if 64 ≤ q then .fin s 1
      else
        let (l, h) := expBounds (2 * q)
        let r := roundBounds ((l - 1) / (l + 1)) ((h - 1) / (h + 1))
        if s then r.neg else r

end Sys2Proof.Machine
end

