-- ==== Sys2Proof/Machine/Fec.lean ====
section
/-! DEFINITION. Blocks of flits and their Reed-Solomon code over GF(2^10) (R197 to R201). -/

namespace Sys2Proof.Machine

/-- Multiply in GF(2^10), field polynomial x^10 + x^3 + 1 (R197): the low `n` bits of b, most significant first. -/
def gfMulGo (a b : Nat) : Nat → Nat → Nat
  | 0, acc => acc
  | n + 1, acc =>
    let d := acc * 2
    let r := if 1024 ≤ d then d ^^^ 0x409 else d
    gfMulGo a b n (if Nat.testBit b n then r ^^^ a else r)

def gfMul (a b : Nat) : Nat := gfMulGo a b 10 0

/-- a^n in GF(2^10). -/
def gfPow (a : Nat) : Nat → Nat
  | 0 => 1
  | n + 1 => gfMul (gfPow a n) a

/-- The inverse a^1022 by repeated squaring. -/
def gfInv (a : Nat) : Nat :=
  let rec go (x : Nat) : Nat → Nat → Nat
    | 0, acc => acc
    | n + 1, acc => let y := gfMul x x; go y n (gfMul acc y)
  go a 9 1

/-- The element α^i; α is x = 2 (R197). -/
def gfAlpha (i : Nat) : Nat := gfPow 2 (i % 1023)

/-- A polynomial's value; coefficients highest power first. -/
def gfEval (x : Nat) : List Nat → Nat → Nat
  | [], acc => acc
  | c :: t, acc => gfEval x t (gfMul acc x ^^^ c)

/-- Product of polynomials, coefficients lowest power first. -/
def gfPolyMul (a b : List Nat) : List Nat :=
  (List.range (a.length + b.length - 1)).map (fun k =>
    (List.range a.length).foldl (fun s i => if i ≤ k then s ^^^ gfMul (a.getD i 0) (b.getD (k - i) 0) else s) 0)

/-- The generator polynomial ∏ (x − α^j), j = 0 to 29, lowest power first (R197). -/
def rsGen : List Nat := (List.range 30).foldl (fun g j => gfPolyMul g [gfAlpha j, 1]) [1]

/-- One message symbol through the division register, highest power first. -/
def rsStep (g : List Nat) (reg : List Nat) (m : Nat) : List Nat :=
  let f := m ^^^ reg.headD 0
  List.zipWith (fun r c => r ^^^ gfMul f c) (reg.drop 1 ++ [0]) g

/-- The message of a codeword filled to 514 symbols: the symbols after the last one sent are zero (R198). -/
def rsFill (msg : List Nat) : List Nat := msg ++ List.replicate (514 - msg.length) 0

/-- The 30 parity symbols of a message (R197, R198). -/
def rsParity (msg : List Nat) : List Nat :=
  let g := (rsGen.take 30).reverse
  (rsFill msg).foldl (rsStep g) (List.replicate 30 0)

/-- Berlekamp-Massey: the error locator of the syndromes, lowest power first. -/
def rsLocator (syn : List Nat) : List Nat :=
  let rec go : Nat → Nat → List Nat → List Nat → Nat → Nat → Nat → List Nat
    | 0, _, c, _, _, _, _ => c
    | k + 1, n, c, b, l, m, bb =>
      let d := (List.range (l + 1)).foldl (fun s i => if i ≤ n then s ^^^ gfMul (c.getD i 0) (syn.getD (n - i) 0) else s) 0
      if d = 0 then go k (n + 1) c b l (m + 1) bb
      else
        let f := gfMul d (gfInv bb)
        let sh := List.replicate m 0 ++ b
        let c' := (List.range (max c.length sh.length)).map (fun i => c.getD i 0 ^^^ gfMul f (sh.getD i 0))
        if 2 * l ≤ n then go k (n + 1) c' c (n + 1 - l) 1 d
        else go k (n + 1) c' b l (m + 1) bb
  go syn.length 0 [1] [1] 0 1 1

/-- A codeword's decoding: the corrected symbols and how many were wrong, or none when uncorrectable (R197).
Symbols come message first, highest power first (DEDUCED from "parity symbols following the message symbols", log 13). -/
def rsDecode (rx : List Nat) : Option (List Nat × Nat) :=
  let n := rx.length
  let syn := (List.range 30).map (fun j => gfEval (gfAlpha j) rx 0)
  if syn.all (· == 0) then some (rx, 0)
  else
    let loc := rsLocator syn
    let deg := ((List.range loc.length).filter (fun i => loc.getD i 0 ≠ 0)).foldl max 0
    let pos := (List.range n).filter (fun p => gfEval (gfAlpha (1023 - p)) loc.reverse 0 = 0)
    if deg = 0 || 15 < deg || pos.length ≠ deg then none
    else
      let om := (gfPolyMul syn loc).take 30
      let dl := (List.range loc.length).map (fun i => if i % 2 = 0 then loc.getD (i + 1) 0 else 0)
      let val := fun p => let xi := gfAlpha (1023 - p)
        gfMul (gfAlpha p) (gfMul (gfEval xi om.reverse 0) (gfInv (gfEval xi dl.reverse 0)))
      let fixed := (List.range n).map (fun i => if pos.contains (n - 1 - i) then rx.getD i 0 ^^^ val (n - 1 - i) else rx.getD i 0)
      if (List.range 30).all (fun j => gfEval (gfAlpha j) fixed 0 == 0) then some (fixed, deg) else none

/-- Decode a codeword of which `k` message symbols and the parity were sent; a symbol not sent must decode to zero (R198). -/
def rsDecodeShort (k : Nat) (msg par : List Nat) : Option (List Nat × Nat) :=
  match rsDecode (rsFill msg ++ par) with
  | some (c, e) => if (c.take 514).drop k |>.all (· == 0) then some (c.take k, e) else none
  | none => none

/-- Cut a number of `n` symbols of 10 bits, least significant bit first (R197). -/
def toSymbols : Nat → Nat → List Nat
  | 0, _ => []
  | n + 1, v => v % 1024 :: toSymbols n (v / 1024)

/-- The number symbols spell. -/
def ofSymbols : List Nat → Nat
  | [] => 0
  | s :: t => s + 1024 * ofSymbols t

/-- Symbols of the even or odd places. -/
def everyOther : List Nat → List Nat
  | [] => []
  | [a] => [a]
  | a :: _ :: t => a :: everyOther t

/-- Two lists of symbols interleaved, the first one leading (R197). -/
def interleave : List Nat → List Nat → List Nat
  | [], b => b
  | a :: t, [] => a :: t
  | a :: t, b :: u => a :: b :: interleave t u

/-- Even parity over the flit bits of a block (R198): the bit that makes the whole even. -/
def lanePar (flits : List Bytes) : Bool :=
  flits.foldl (fun p f => f.foldl (fun q b => xor q (parity 8 b.toNat)) p) false

/-- The message symbols of a block of up to 5 flits: 40 bits of overhead, then the flits (R197, R198). -/
def blockMessage (idx : Nat) (flits : List Bytes) : List Nat :=
  let head := 0xA5C + put 12 (idx % 4096) + put 24 (b2n (lanePar flits))
  let bits := 40 + 2048 * flits.length
  let v := head + put 40 (unle flits.flatten)
  toSymbols (cdiv bits 10) v

/-- A block on the wire: the message symbols, symbol i of codeword i mod 2, then the parities interleaved (R197, R198). -/
def encodeBlock (idx : Nat) (flits : List Bytes) : List Nat :=
  let m := blockMessage idx flits
  let c0 := everyOther m
  let c1 := everyOther (m.drop 1)
  m ++ interleave (rsParity c0) (rsParity c1)

/-- What the decoder says of a block (R201). -/
inductive BlockFate where
  | clean | corrected (symbols : Nat) | uncorrectable | laneParity (symbols : Nat)
deriving DecidableEq, Repr

/-- Flit bytes out of a block's message number. -/
def blockFlits (v : Nat) : Nat → List Bytes
  | 0 => []
  | n + 1 => le 256 v :: blockFlits (v / 2 ^ 2048) n

/-- Decode a received block of `n` flits: its fate and the flits recovered (R197, R201). -/
def decodeBlock (n : Nat) (rx : List Nat) : BlockFate × List Bytes :=
  let k := cdiv (40 + 2048 * n) 10
  let m := rx.take k
  let par := rx.drop k
  let m0 := everyOther m
  let m1 := everyOther (m.drop 1)
  match rsDecodeShort m0.length m0 (everyOther par), rsDecodeShort m1.length m1 (everyOther (par.drop 1)) with
  | some (a, e0), some (b, e1) =>
    let msg := interleave a b
    let v := ofSymbols msg
    let flits := blockFlits (v >>> 40) n
    if xor (Nat.testBit v 24) (lanePar flits) then (.laneParity (e0 + e1), flits)
    else if e0 + e1 = 0 then (.clean, flits) else (.corrected (e0 + e1), flits)
  | _, _ => (.uncorrectable, [])

end Sys2Proof.Machine
end

