-- ==== Sys2Proof/Machine/Time.lean ====
section
/-! DEFINITION. Station time: its format, tick arithmetic, source selection, the servo and steps (R36 to R38, R164 to R191). -/

namespace Sys2Proof.Machine

/-- Units of 2^-16 ns in one ns (R164). -/
def uNs : Nat := 65536

/-- Units in one TAI second. -/
def uSec : Nat := 1000000000 * 65536

/-- The 96-bit station time of a count of units (R164). -/
def packTime (u : Nat) : Nat := put 48 ((u / uSec) % 2 ^ 48) + u % uSec

/-- The count of units of a 96-bit station time; none when the nanoseconds exceed 999,999,999 (R164). -/
def unpackTime (v : Nat) : Option Nat :=
  if fld v 16 32 ≤ 999999999 then some (fld v 48 48 * uSec + v % 2 ^ 48) else none

/-- A time at the capture resolution of 2^-6 ns (R165). -/
def capture (u : Nat) : Nat := u - u % 1024

/-- The headway of a step, in ns (R36). -/
def hNs (s : Nat) : Nat := 2000 + 500 * s

/-- Plan S runs at a headway of 8 us or more (R39). -/
def planS (s : Nat) : Bool := decide (8000 ≤ hNs s)

/-- The slot time in ps (R47). -/
def slotPs (rate400 : Bool) : Nat := if rate400 then 5120 else 20480

/-- Slots per tick (R47). -/
def slotsOf (rate400 : Bool) (s : Nat) : Nat := hNs s * 1000 / slotPs rate400

/-- The sample edge t_n = E + n H of the clock, in units (R37). -/
def Clock.tickAt (c : Clock) (n : Nat) : Int := (c.e + (n * hNs c.headway : Nat)) * 65536

/-- The tick index of a station time: the greatest n with t_n at or before it (R37). -/
def Clock.tickOf (c : Clock) (u : Nat) : Nat := (((u : Int) - c.e * 65536) / (hNs c.headway * 65536 : Nat)).toNat

/-- The current tick index as registers read it: all ones while the clock has none (R170). -/
def Clock.tickWord (c : Clock) : Word := match c.tick with | some n => BitVec.ofNat 64 n | none => BitVec.allOnes 64

/-- The index a mark carries: the tick, or the provisional count (R170). -/
def Clock.markTick (c : Clock) : Nat := match c.tick with | some n => n | none => c.prov

/-- UNTIMED of records and frames (R169). -/
def Clock.untimed (c : Clock) : Bool := c.st == .unlocked || c.st == .acquiring

/-- Move a clock to an instant it has not passed (log 1). -/
def Clock.reach (c : Clock) (u : Int) : Clock := { c with time := max c.time u.toNat, up := c.up + (max c.time u.toNat - c.time) }

/-- One JCLK of 0.625 ns at the clock's rate (R184, log 1). -/
def Clock.advance (c : Clock) : Clock :=
  if c.refLost then c else
  let x : Rat := 40960 * (1 + c.rate) + c.phase
  { c with time := c.time + x.floor.toNat, phase := x - x.floor, up := c.up + x.floor.toNat }

/-- Error bound now: in HOLDOVER it has grown by 50 ns a second since entry (R185), rounded up as a bound and saturating (R180). -/
def Clock.errorNow (c : Clock) : Nat :=
  if c.st = .holdover then min (c.holdFrom.2 + cdiv (50 * (c.up - c.holdFrom.1)) uSec) 0xFFFFFFFF else c.errorNs

/-- The error bound has come to HOLDOVER_LIMIT (R168, R190). DESIGN CHOICE (log 89): reaching it counts, which gives the 20 s of R190 exactly. -/
def Clock.atLimit (c : Clock) : Bool := c.st == .holdover && decide (c.servo.holdoverLimit * uSec ≤ c.holdFrom.2 * uSec + 50 * (c.up - c.holdFrom.1))

/-- Enter UNLOCKED: no source (R168). -/
def Clock.unlock (c : Clock) : Clock :=
  { c with st := .unlocked, source := 0, lockRun := 0, unlockRun := 0, rootHoldover := false, errorNs := 0xFFFFFFFF, steps := 0, stepParts := [], slew := false }

/-- The clock at cold reset (R168, R170). -/
def Clock.init : Clock :=
  { time := 0, phase := 0, st := .unlocked, epoch := none, e := 0, headway := 12, tick := none, prov := 0,
    integ := 0, rate := 0, lockRun := 0, unlockRun := 0, lastIntegs := [], stepParts := [], source := 0,
    rootHoldover := false, steps := 0, errorNs := 0xFFFFFFFF, holdFrom := (0, 0), lastMeas := none, slew := false,
    utcOffset := 0, leap := 0, leapAt := 0, refLost := false, up := 0, steppedAt := none, servo := Servo.tickDefault }

/-! ## Sources (R172 to R175) -/

/-- A candidate source: its priority at this node, what it announces, whether it meets R172, and its run for R173. -/
structure Cand where
  prio : Nat
  st : ClkSt
  ok : Bool
  run : Nat
deriving DecidableEq, Repr

/-- A source delivered a valid measurement in each of the last LOSS_TICKS ticks, announces LOCKED or HOLDOVER, carries
the node's fleet epoch, and is no twin that follows this node (R172). -/
def Source.selectable (lossTicks : Nat) (twin : Bool) (s : Source) : Bool :=
  decide (lossTicks ≤ s.validRun + b2n s.validNow)
    && (s.mark.state == 2 || s.mark.state == 3)
    && !s.badEpoch
    && !(twin && s.mark.followsTwin)

/-- A candidate from a link's source. -/
def candOf (lossTicks prio : Nat) (twin : Bool) : Option Source → Cand
  | some s => ⟨prio, ClkSt.ofCode s.mark.state.toNat, s.selectable lossTicks twin, s.run⟩
  | none => ⟨prio, .unlocked, false, 0⟩

/-- The highest-priority selectable LOCKED source, else the highest-priority selectable HOLDOVER one (R172). -/
def bestSource (cs : List Cand) : Option Nat :=
  match cs.find? (fun c => c.ok && c.st == .locked) with
  | some c => some c.prio
  | none => (cs.find? (fun c => c.ok && c.st == .holdover)).map (·.prio)

/-- The mean of a list of rationals. -/
def meanQ (l : List Rat) : Rat := if l.length = 0 then 0 else l.foldl (· + ·) 0 / l.length

/-- The last rate (R185). Before the first update in LOCKED there is no mean: −integ alone (DESIGN CHOICE, log 89). -/
def Clock.lastRate (c : Clock) : Rat := if c.lastIntegs.length = 0 then -c.integ else meanQ c.lastIntegs

/-- Enter HOLDOVER at the last rate, or at a SyncE frequency (R178, R185). -/
def Clock.enterHoldover (c : Clock) (synce : Option Rat) : Clock :=
  { c with st := .holdover, source := 0, holdFrom := (c.up, c.errorNow), lockRun := 0, unlockRun := 0,
           rate := match synce with | some f => f | none => c.lastRate }

/-- Take a source: UNLOCKED moves to ACQUIRING, HOLDOVER to LOCKED. A change of source never steps, nor does the return from HOLDOVER
(R168, R173); a clock that acquires its first source, or its next one after UNLOCKED, may step. -/
def Clock.take (c : Clock) (p : Nat) : Clock :=
  if c.source = p then c
  else { c with source := p, lockRun := 0, unlockRun := 0,
                st := match c.st with | .unlocked => .acquiring | .holdover => .locked | x => x,
                slew := match c.st with | .unlocked => false | .acquiring => c.slew || (c.source != 0 && c.tick.isSome) | _ => true }

/-- Reselect (R168, R172, R173): keep the selected source while it is selectable, unless it announces HOLDOVER and a
LOCKED one of lower priority is selectable; drop it otherwise; with none left, LOCKED enters HOLDOVER. A clock with the
reference lost takes none. -/
def Clock.reselect (c : Clock) (cs : List Cand) (synce : Option Rat) : Clock :=
  if c.refLost then c else
  let cur := cs.find? (fun x => x.prio == c.source && x.ok)
  match cur with
  | some x =>
    if x.st == .locked then c
    else match cs.find? (fun y => y.ok && y.st == .locked && decide (c.source < y.prio)) with
      | some y => c.take y.prio
      | none => c
  | none =>
    match bestSource cs with
    | some p => c.take p
    | none =>
      match c.st with
      | .locked => c.enterHoldover synce
      | .acquiring => { c with source := 0 }
      | _ => { c with source := 0 }

/-- Return to a higher-priority source that has been selectable and LOCKED for REVERT_TICKS ticks (R173). -/
def Clock.revert (c : Clock) (cs : List Cand) : Clock :=
  match cs.find? (fun x => x.ok && x.st == .locked && decide (x.prio < c.source) && decide (c.servo.revertTicks ≤ x.run)) with
  | some x => c.take x.prio
  | none => c

/-! ## Steps and servo (R184 to R187) -/

/-- Cut a step into parts of at most `lim` (R187); `n` bounds the number of parts. -/
def splitStep (lim : Nat) (d : Int) : Nat → List Int
  | 0 => []
  | n + 1 =>
    if d.natAbs ≤ lim then [d]
    else if 0 < d then (lim : Int) :: splitStep lim (d - lim) n
    else -(lim : Int) :: splitStep lim (d + lim) n

/-- Move the clock by d units at once (R187). -/
def Clock.jump (c : Clock) (d : Int) : Clock :=
  let t := ((c.time : Int) + d).toNat
  { c with time := t, steppedAt := some t }

/-- A clock that has been stepped and has a fleet epoch has a tick index (R37, R167, R170). -/
def Clock.giveTick (c : Clock) : Clock :=
  if c.tick.isNone && c.steppedAt.isSome && c.epoch.isSome then { c with tick := some (c.tickOf c.time) } else c

/-- Step the clock by d units: the first step of a clock without a tick index is whole and gives it its tick index;
later ones are cut into parts of at most H/4, one at each following sample edge (R170, R187). -/
def Clock.step (c : Clock) (d : Int) : Clock :=
  match c.tick with
  | none => (c.jump d).giveTick
  | some _ =>
    let lim := hNs c.headway * uNs / 4
    if d.natAbs ≤ lim then c.jump d
    else { c with stepParts := splitStep lim d (d.natAbs / lim + 1) }

/-- One servo update with an offset in units, positive when the local clock is ahead (R168, R184). T runs on the clock's own rate and leaves
steps out. The offset of a source taken without a step is slewed, however large, until it is once within STEP_NS (R168, R173, R179). -/
def Clock.servoUpdate (c : Clock) (offset : Rat) : Clock :=
  let offNs : Rat := offset / 65536
  let sv := c.servo
  let c := match c.lastMeas with
    | some (t0, _) =>
      let tNs : Rat := (((c.up : Int) - t0 : Int) : Rat) / 65536
      if tNs ≤ 0 then c else
      let r := offNs / tNs
      let integ := clampQ (-200 / 1000000) (200 / 1000000) (c.integ + r / (2 ^ sv.kiShift : Nat))
      let lim : Rat := (sv.slewPpb : Rat) / 1000000000
      let p := clampQ (-lim) lim (r / (2 ^ sv.kpShift : Nat))
      { c with integ := integ, rate := -(integ + p) }
    | none => c
  let abs := if offNs < 0 then -offNs else offNs
  let c := if c.st == .locked then { c with lastIntegs := ((-c.integ) :: c.lastIntegs).take 64 } else c
  let lockRun := if abs ≤ sv.lockNs then c.lockRun + 1 else 0
  let unlockRun := if (sv.unlockNs : Rat) < abs then c.unlockRun + 1 else 0
  let c := { c with lastMeas := some (c.up, offset), slew := c.slew && decide ((sv.stepNs : Rat) < abs) }
  match c.st with
  | .acquiring =>
    if (sv.stepNs : Rat) < abs && c.stepParts.length == 0 && !c.slew then { c.step (-offset.floor) with lockRun := 0 }
    else if sv.lockCount ≤ lockRun then { c with st := .locked, lockRun := 0, unlockRun := 0 }
    else { c with lockRun := lockRun, unlockRun := 0 }
  | .locked =>
    if sv.unlockCount ≤ unlockRun then { c with st := .acquiring, lockRun := 0, unlockRun := 0 }
    else { c with unlockRun := unlockRun, lockRun := lockRun }
  | _ => c

/-- A sample edge at the clock: the next tick begins at its instant and, in ACQUIRING, one part of a split step applies (R37, R170, R186,
R187). -/
def Clock.edge (c : Clock) : Clock :=
  match c.tick with
  | some n =>
    let c := { c.reach (c.tickAt (n + 1)) with tick := some (n + 1) }
    match c.stepParts with
    | d :: t => if c.st = .acquiring then { c.jump d with stepParts := t } else { c with stepParts := [] }
    | [] => c
  | none => { c.reach ((((c.prov + 1) * hNs 12 * uNs : Nat)) : Int) with prov := c.prov + 1 }

/-- Rebase E at tick m so that t_m does not move (R37, R60). -/
def Clock.rebase (c : Clock) (m s : Nat) : Clock :=
  { c with e := c.e + (m * hNs c.headway : Nat) - (m * hNs s : Nat), headway := s }

/-- Adopt the fleet epoch of the first selected source; a source with another one is not eligible (R167). DESIGN CHOICE (log 89): a FLEET_EPOCH
of 0 is none, for a mark has no other way to say that its sender has none yet. -/
def Clock.adopt (c : Clock) (epoch : Nat) : Clock :=
  match c.epoch with
  | some _ => c
  | none => if epoch = 0 then c else ({ c with epoch := some epoch, e := (epoch / uNs : Nat) } : Clock).giveTick

/-- Take over what a selected source announces (R166, R172, R180). -/
def Clock.follow (c : Clock) (m : TimeMark) : Clock :=
  { c with rootHoldover := m.rootHoldover, steps := (m.steps.toNat + 1) % 256, errorNs := m.errorNs.toNat,
           utcOffset := m.utcOffset, leap := m.leap, leapAt := m.leapAt.toNat }

/-! ## Tick marks and delay echoes (R180 to R182) -/

/-- The 80 bytes of tick-mark stream data (R180). -/
def TimeMark.encode (m : TimeMark) : Bytes :=
  le 8 m.tick.toNat ++ le 12 m.t1.toNat ++ le 12 m.echoT4.toNat ++ le 2 m.echoSeq.toNat
  ++ le 1 (m.state.toNat + put 2 (b2n m.followsTwin) + put 3 (b2n m.rootHoldover))
  ++ le 1 m.steps.toNat ++ le 2 m.utcOffset.toNat ++ le 1 m.leap.toNat ++ le 1 0
  ++ le 8 m.leapAt.toNat ++ le 12 m.epoch.toNat ++ le 8 m.gmIdentity.toNat ++ le 1 m.gmClass.toNat
  ++ le 1 m.timeSource.toNat ++ le 2 0 ++ le 4 m.sender.toNat ++ le 4 m.errorNs.toNat

/-- The mark that stream data spells (R180). -/
def TimeMark.decode (b : Bytes) : TimeMark :=
  { tick := BitVec.ofNat 64 (rd b 0 8), t1 := BitVec.ofNat 96 (rd b 8 12), echoT4 := BitVec.ofNat 96 (rd b 0x14 12),
    echoSeq := BitVec.ofNat 16 (rd b 0x20 2), state := BitVec.ofNat 2 (rd b 0x22 1),
    followsTwin := bit (rd b 0x22 1) 2, rootHoldover := bit (rd b 0x22 1) 3, steps := BitVec.ofNat 8 (rd b 0x23 1),
    utcOffset := BitVec.ofNat 16 (rd b 0x24 2), leap := BitVec.ofNat 2 (rd b 0x26 1), leapAt := BitVec.ofNat 48 (rd b 0x28 8),
    epoch := BitVec.ofNat 96 (rd b 0x30 12), gmIdentity := BitVec.ofNat 64 (rd b 0x3C 8), gmClass := BitVec.ofNat 8 (rd b 0x44 1),
    timeSource := BitVec.ofNat 8 (rd b 0x45 1), sender := BitVec.ofNat 17 (rd b 0x48 4), errorNs := BitVec.ofNat 32 (rd b 0x4C 4) }

/-- The delay of an echo returned with its t4: the mean of both directions (R182). -/
def echoDelay (t21 : Int) (t3 t4 : Nat) : Rat := ((t21 : Rat) + (((t4 : Int) - t3 : Int) : Rat)) / 2

/-- Record the echo that a passing mark returns: its delay joins the last eight (R181, R182). -/
def PortTime.takeEcho (p : PortTime) (m : TimeMark) : PortTime :=
  match p.echoes.find? (fun e => e.1 == m.echoSeq.toNat), unpackTime m.echoT4.toNat with
  | some (q, d, t3), some t4 =>
    if m.echoT4 = 0 then p
    else { p with delays := (echoDelay d t3 t4 :: p.delays).take 8, echoes := p.echoes.filter (fun e => e.1 != q) }
  | _, _ => p

/-- The offset of a mark (R182): none when the measurement is not valid. -/
def PortTime.offset (p : PortTime) (m : TimeMark) (t2 : Nat) (bad : Bool) : Option Rat :=
  match unpackTime m.t1.toNat with
  | some t1 =>
    if bad || m.state == 0 || p.delays.length == 0 then none
    else some ((((t2 : Int) - t1 : Int) : Rat) - meanQ p.delays - (p.asym * 1024 : Int) / 2)
  | none => none

/-- Note a mark's arrival and the source it announces (R172, R182). A replayed mark gives the next echo its TICK, and no t2 − t1 (R182). -/
def PortTime.note (p : PortTime) (c : Clock) (m : TimeMark) (t2 : Nat) (replayed ok : Bool) : PortTime :=
  let wrong := match c.epoch with | some e => decide (unpackTime m.epoch.toNat ≠ some e) | none => false
  let old := p.source
  let src : Source := {
    mark := m
    validRun := match old with | some s => s.validRun | none => 0
    validNow := ok || (match old with | some s => s.validNow | none => false)
    run := match old with | some s => s.run | none => 0
    badEpoch := wrong }
  { p with mark := if replayed then p.mark.map (fun x => (m.tick.toNat, x.2)) else (unpackTime m.t1.toNat).map (fun t1 => (m.tick.toNat, t1, t2)),
           source := some src }

/-- A measurement from a mark on a link (R180 to R182): what the link then knows, and the offset where it is valid. -/
def PortTime.take (p : PortTime) (c : Clock) (m : TimeMark) (t2 : Nat) (replayed : Bool) : PortTime × Option Rat :=
  let p := if replayed then p else p.takeEcho m
  let off := p.offset m t2 replayed
  (p.note c m t2 replayed off.isSome, off)

/-- The delay echo that falls due every 2^ECHO_PERIOD ticks (R181): none before its tick, or while no mark has come. -/
def PortTime.echo (p : PortTime) (period sender : Nat) : Option (Bytes × PortTime) :=
  match p.echoIn, p.mark with
  | 0, some (tick, t1, t2) =>
    let q := p.echoSeq
    some (le 2 0x31 ++ le 2 q ++ le 4 sender ++ le 8 tick ++ le 12 0 ++ le 4 0,
      { p with echoIn := 2 ^ period, echoSeq := (q + 1) % 65536,
               echoes := (p.echoes ++ [(q, (t2 : Int) - t1, 0)]).drop (p.echoes.length + 1 - 16) })
  | _, _ => none

/-- A tick ends for a link's source: the runs of R172 and R173 advance or break, and the next echo comes a tick nearer (R181). -/
def PortTime.tickEnd (p : PortTime) (lossTicks : Nat) (twin : Bool) : PortTime :=
  let p := { p with echoIn := p.echoIn - 1 }
  match p.source with
  | some s =>
    let s := { s with validRun := if s.validNow then s.validRun + 1 else 0, validNow := false }
    let good : Bool := s.selectable lossTicks twin && (s.mark.state == (2 : BitVec 2))
    { p with source := some { s with run := if good then s.run + 1 else 0 } }
  | none => p

end Sys2Proof.Machine
end

