-- ==== Sys2Proof/Machine/Link.lean ====
section
/-! DEFINITION. The link layer: flits, slots, credits, replay, signals, link states, training and identification (R47 to R51, R62, R65, R66, R196 to R227). -/

namespace Sys2Proof.Machine

/-! ## Flits (R202 to R204) -/

/-- The 8 header bytes as a number (R202). -/
def Flit.header (f : Flit) : Nat :=
  f.signal.toNat + put 16 f.vc.toNat + put 18 f.seq.toNat + put 30 f.crVc.toNat + put 32 f.credit.toNat
  + put 48 f.ackSeq.toNat + put 60 (b2n f.nak) + put 62 f.kind.toNat

/-- HPAR: bit i is even parity over header byte i (R203). -/
def hparOf (h : Bytes) : Nat :=
  ((List.range 8).map (fun i => put i (b2n (parity 8 ((h.getD i 0).toNat))))).foldl (· + ·) 0

/-- Trailer bytes 252 to 255 and HPAR of 252, without the CRC (R203). -/
def Flit.trailerHigh (f : Flit) : Bytes :=
  le 4 (hparOf (le 8 f.header) + put 8 (b2n f.start) + put 9 (b2n f.fin) + put 10 f.lastLen.toNat + put 18 f.subch.toNat)

/-- The 256 bytes of a flit (R202 to R204): the CRC covers bytes 0 to 247 and 252 to 255. -/
def Flit.encode (f : Flit) : Bytes :=
  let head := le 8 f.header ++ fit 240 f.payload
  let hi := f.trailerHigh
  head ++ le 4 (crcOf crcFlit (head ++ hi)) ++ hi

/-- The fields of 256 flit bytes (R202, R203). -/
def Flit.decode (b : Bytes) : Flit :=
  let h := rd b 0 8
  let t := rd b 252 4
  { signal := BitVec.ofNat 16 h, vc := BitVec.ofNat 2 (fld h 16 2), seq := BitVec.ofNat 12 (fld h 18 12),
    crVc := BitVec.ofNat 2 (fld h 30 2), credit := BitVec.ofNat 16 (fld h 32 16), ackSeq := BitVec.ofNat 12 (fld h 48 12),
    nak := bit h 60, kind := BitVec.ofNat 2 (fld h 62 2), start := bit t 8, fin := bit t 9,
    lastLen := BitVec.ofNat 8 (fld t 10 8), subch := BitVec.ofNat 2 (fld t 18 2), payload := sub b 8 240 }

/-- The CRC of received flit bytes is correct (R204). -/
def flitCrcOk (b : Bytes) : Bool := decide (crcOf crcFlit (sub b 0 248 ++ sub b 252 4) = rd b 248 4)

/-- Every HPAR bit of received flit bytes checks (R204). -/
def flitHparOk (b : Bytes) : Bool := decide (hparOf (sub b 0 8) = rd b 252 1)

/-- An idle flit (R48, R202). -/
def Flit.idle : Flit :=
  { signal := 0, vc := 0, seq := 0, crVc := 0, credit := 0, ackSeq := 0, nak := false, kind := 1, start := false,
    fin := false, lastLen := 0, subch := 0, payload := zeros 240 }

/-! ## Slots (R47 to R51, R54, R62) -/

/-- What a slot map says of one slot (R54). -/
structure SlotEntry where
  cls : Nat
  stream : Nat
  index : Nat
deriving DecidableEq, Repr

/-- The bootstrap pattern on S slots: slot 0 the tick mark where the direction goes to the level below, slack at
k mod 32 = 31 and at S − 1, free elsewhere (R62). -/
def bootSlot (toBelow : Bool) (S k : Nat) : SlotEntry :=
  if k = 0 && toBelow then ⟨1, 0xFFFF, 0⟩
  else if k % 32 = 31 || k = S - 1 then ⟨2, 0, 0⟩ else ⟨0, 0, 0⟩

/-- The slot entry of a map, or of the bootstrap pattern where there is none (R54, R62). -/
def slotEntry (map : Option (List SlotEntry)) (toBelow : Bool) (S k : Nat) : SlotEntry :=
  match map with
  | some m => m.getD k ⟨0, 0, 0⟩
  | none => bootSlot toBelow S k

/-- The 4-byte stream tag of a VC0 flit (R51). -/
def streamTag (id idx tick : Nat) (void : Bool) : Bytes :=
  le 4 (id % 65536 + put 16 (idx % 4096) + put 28 (tick % 8) + put 31 (b2n void))

/-! ## Statistics (R525, R534) -/

/-- Statistic s of a link end. -/
def Port.stat (p : Port) (s : Nat) : Word := Tbl.get 0 p.stats s

/-- Add n to statistic s; statistics wrap at 64 bits (R525). -/
def Port.count (p : Port) (s n : Nat) : Port :=
  { p with stats := Tbl.put 0 p.stats s (p.stat s + BitVec.ofNat 64 n) }

/-! ## Books (R213, R215, R218) -/

/-- Credit books of VC v, 1 to 3. -/
def Port.credit (p : Port) (v : Nat) : Credit := if v = 1 then p.cr1 else if v = 2 then p.cr2 else p.cr3

def Port.setCredit (p : Port) (v : Nat) (c : Credit) : Port :=
  if v = 1 then { p with cr1 := c } else if v = 2 then { p with cr2 := c } else { p with cr3 := c }

/-- Receive buffer size of VC v at an end (R211). -/
def bufSize (lineside : Bool) (v : Nat) : Nat := if v = 2 then (if lineside then 64 else 128) else 32

/-- Credit a sender holds on v: (LIMIT − SENT) mod 2^16 (R213). -/
def Credit.avail (c : Credit) : Nat := (c.limit + 65536 - c.sent % 65536) % 65536

/-- Unacknowledged flits (N − A) mod 4,096 (R219). -/
def Port.unacked (p : Port) : Nat := (p.nextSeq + 4096 - p.ackSeq) % 4096

/-- Reset sequences, acknowledgements, replay and credits (R213, R220 ALIGN). `farLineside` is the far end's kind. -/
def Port.resetBooks (lineside farLineside : Bool) (p : Port) : Port :=
  { p with nextSeq := 0, ackSeq := 0, replay := [], crNext := 1, expect := 0, heldFlits := [], nakSlots := none,
           nakInBlock := false,
           cr1 := ⟨0, bufSize farLineside 1, bufSize lineside 1⟩
           cr2 := ⟨0, bufSize farLineside 2, bufSize lineside 2⟩
           cr3 := ⟨0, bufSize farLineside 3, bufSize lineside 3⟩ }

/-- No training done (R226). -/
def Training.fresh : Training := ⟨0, 0, false, 0, false, false, false, false, none, none⟩

/-- A link end at reset, with the buffers of its kind (log 3). -/
def Port.init (lineside farLineside : Bool) : Port :=
  { st := .down, hold := false, rate400 := false, unused := false, slot := 0, block := 0, blk := [], wire := [],
    lastTx := none, rotation := 0, q := [], vc0 := [], sigq := [], nextSeq := 0, ackSeq := 0, replay := [],
    cr1 := ⟨0, bufSize farLineside 1, bufSize lineside 1⟩, cr2 := ⟨0, bufSize farLineside 2, bufSize lineside 2⟩,
    cr3 := ⟨0, bufSize farLineside 3, bufSize lineside 3⟩, crNext := 1, expect := 0, heldFlits := [], nakSlots := none,
    nakInBlock := false, partials := [], inbox := [], recent := [], sigIn := [], streams := [], badBlock := none, uncorr := 0,
    stats := [], tr := Training.fresh, identSent := false, far := none, retired := [],
    cablingErr := false, quarantine := false, paritySeen := false, rxMismatch := false, mmTick := false, mmRun := 0, rxTicks := [],
    corrected := 0, correctedTick := 0, recal := 0, blockLock := false,
    time := ⟨0, none, 0, [], (0, 0), [], none, 0⟩ }

/-! ## CRC engines on a message path (R417 to R420) -/

/-- The CRC parameters of an engine's configuration (R414). -/
def CrcCfg.params (c : CrcCfg) : CrcParams := ⟨c.width, c.poly, c.init, c.refIn, c.refOut, c.xorOut⟩

/-- The configuration of the reset values of R415's registers. -/
def CrcCfg.reset : CrcCfg := ⟨false, 0, 2, 0, 32, true, true, false, 0, 0x04C11DB7, 0xFFFFFFFF, 0xFFFFFFFF, 0⟩

/-- An engine at reset (R415). -/
def CrcEng.init : CrcEng := ⟨CrcCfg.reset, CrcCfg.reset, 0xFFFFFFFF, false, false, 0, none, none⟩

/-- A configuration holds a message path: direction 1 egress, 2 ingress (R416, R417). -/
def CrcCfg.holds (c : CrcCfg) (dir port vc subch : Nat) : Bool :=
  c.enable && c.bind == dir && c.port == port && c.vc == vc && c.subch == subch

/-- RESULT of the running value (R414). -/
def CrcEng.result (e : CrcEng) : Nat := crcResult e.act.params e.value

/-- The field of an engine: F = ⌈W / 8⌉ bytes in the order ORDER selects (R417). -/
def CrcEng.field (e : CrcEng) : Bytes :=
  let b := le (cdiv e.act.width 8) e.result
  if e.act.order then b.reverse else b

/-- No message is in progress: the configuration written last comes into force (R420). -/
def CrcEng.atStart (e : CrcEng) : CrcEng := { e with act := e.cfg, pending := false }

/-- An ingress or egress message of an engine's path is in progress at a port (R420). -/
def CrcEng.busyAt (e : CrcEng) (port : Nat) (p : Port) : Bool :=
  (e.act.holds 1 port e.act.vc e.act.subch && p.q.any (fun m => m.started && m.crc && m.vc == e.act.vc && m.subch == e.act.subch))
  || (e.act.holds 2 port e.act.vc e.act.subch && p.partials.any (fun m => m.crc && m.vc == e.act.vc && m.subch == e.act.subch))

/-- A change of binding or parameters waits while a message is in progress only (R420). -/
def CrcEng.settle (e : CrcEng) (busy : Bool) : CrcEng := if busy then e else e.atStart

/-- Process bytes (R414). -/
def CrcEng.feed (e : CrcEng) (b : Bytes) : CrcEng := { e with value := crcFeed e.act.params e.value b }

/-- The bytes of an ingress message that are known to stand before its field: VALUE := INIT at START, the last F bytes held back (R417, R419). -/
def CrcEng.follow (e : CrcEng) (m : RxMsg) : CrcEng × RxMsg :=
  let e := if m.fed.isNone then { e.atStart with value := e.atStart.act.init } else e
  let at_ := m.fed.getD 0
  let upto := max at_ (m.bytes.length - cdiv e.act.width 8)
  (e.feed (sub m.bytes at_ (upto - at_)), { m with fed := some upto })

/-- A whole ingress message: the payload without its field, or none where the check fails (R419). -/
def CrcEng.strip (e : CrcEng) (m : RxMsg) : CrcEng × Option Bytes :=
  let (e, m) := e.follow m
  let f := cdiv e.act.width 8
  let x := m.bytes.drop (m.bytes.length - f)
  if m.bytes.length < f || unle (if e.act.order then x.reverse else x) ≠ e.result then ({ e with mismatches := sat 16 (e.mismatches + 1) }, none)
  else (e, some (m.bytes.take (m.bytes.length - f)))

/-! ## Signals (R205 to R209) -/

/-- Priority of a signal code: STOP, ABORT, FENCE, FLUSH, ALARM, TRACE (R208); lower is first. -/
def sigRank (s : BitVec 16) : Nat :=
  match fld s.toNat 13 3 with
  | 3 => 0 | 1 => 1 | 2 => 2 | 4 => 3 | 5 => 4 | 6 => 5 | _ => 6

/-- A signal field of a code and argument (R205). -/
def mkSignal (code arg : Nat) : BitVec 16 := BitVec.ofNat 16 (put 13 code + arg % 8192)

/-- The place of the lowest-priority, youngest entry. -/
def worstSig (q : List SigEntry) : Option (Nat × Nat) :=
  (List.range q.length).foldl (fun acc i =>
    let r := sigRank (q.getD i ⟨0, 0, 0⟩).sig
    match acc with
    | none => some (i, r)
    | some (_, r0) => if r0 ≤ r then some (i, r) else acc) none

/-- Queue a signal; a full queue displaces its lowest-priority, youngest entry if that ranks below it, else the signal is
dropped. Each loss is counted; the flag says a signal other than ALARM was lost, which owes an ALARM of class 0 (R208). -/
def Port.queueSig (p : Port) (s : BitVec 16) : Port × Bool :=
  let e : SigEntry := ⟨s, 2, 0⟩
  if p.sigq.length < 16 then ({ p with sigq := p.sigq ++ [e] }, false)
  else
    match worstSig p.sigq with
    | some (i, r) =>
      if sigRank s < r then
        let lost := (p.sigq.getD i e).sig
        ({ p.count 17 1 with sigq := p.sigq.eraseIdx i ++ [e] }, decide (sigRank lost ≠ 4))
      else (p.count 17 1, decide (sigRank s ≠ 4))
    | none => (p, false)

/-- Queue a signal on a port; a lost one queues an ALARM of class 0, whose own loss is counted only (R208). -/
def Port.signal (p : Port) (code arg : Nat) : Port :=
  let (q, lost) := p.queueSig (mkSignal code arg)
  if lost then (q.queueSig (mkSignal 5 0)).1 else q

/-- The place of the entry that may send a copy in this flit: a first copy in any flit, the second in the first flit of a
later block (R208). -/
def sigPick (q : List SigEntry) (block : Nat) (first : Bool) : Option Nat :=
  (List.range q.length).foldl (fun acc i =>
    let e := q.getD i ⟨0, 0, 0⟩
    if e.owed = 2 || (first && decide (e.block < block)) then
      match acc with
      | none => some i
      | some j => if sigRank e.sig < sigRank (q.getD j e).sig then some i else acc
    else acc) none

/-- The signal field of the next flit and the queue after it (R208). -/
def Port.takeSig (p : Port) (first : Bool) : BitVec 16 × Port :=
  match sigPick p.sigq p.block first with
  | none => (0, p)
  | some i =>
    let e := p.sigq.getD i ⟨0, 0, 0⟩
    if e.owed = 2 then (e.sig, { p with sigq := p.sigq.set i ⟨e.sig, 1, p.block⟩ })
    else (e.sig, { p with sigq := p.sigq.eraseIdx i })

/-! ## Transmission (R48 to R51, R213, R215, R217, R218) -/

/-- What the part gives a port for one slot. -/
structure TxEnv where
  /-- slots of the grid and the class of this slot -/
  slots : Nat
  entry : SlotEntry
  /-- tick that owns the slot's stream data (R51) -/
  owner : Nat
  /-- station time now, in units -/
  now : Nat
  /-- the tick mark of this instant, with T1 and the echo fields of this port to be filled (R180) -/
  mark : TimeMark
  /-- only Logbook messages on VC2 (R162) -/
  flush : Bool
  /-- IDENT payload (R227) -/
  ident : Bytes
  /-- the part's CRC engines and the number of this port among the paths they bind (R417) -/
  engs : List CrcEng
  port : Nat
  /-- the engines with a message in progress: one that starts on another path passes them unchanged (R420, log 94) -/
  held : List Nat
  /-- what its training frames say of the end (R226): LEADER, and bits [40:16] of the header; time run -/
  leader : Bool
  who : Nat
  run : Nat

/-- The mark that leaves on a port now: T1 captured at the reference point, and the latest echo's arrival and number (R165, R180, R181). -/
def Port.stamp (p : Port) (env : TxEnv) : TimeMark :=
  { env.mark with t1 := BitVec.ofNat 96 (packTime (capture env.now)),
                  echoT4 := BitVec.ofNat 96 (if p.time.returned.2 = 0 then 0 else packTime p.time.returned.2), echoSeq := BitVec.ofNat 16 p.time.returned.1 }

/-- The data of an owned slot: the tick mark is made as the flit leaves; other streams come from what is ready, whole or, where
they are relayed flit by flit (R262), under an ID raised by 65536·(index + 1); what is not ready goes VOID (R46, R51, R180). -/
def Port.ownedFlit (p : Port) (env : TxEnv) (isMark : Bool) : Flit :=
  let e := env.entry
  let body : Option Bytes :=
    if isMark then
      some (p.stamp env).encode
    else match p.vc0.find? (fun x => x.id == e.stream && x.tick == env.owner) with
      | some x => some (sub x.bytes (236 * e.index) 236)
      | none => (p.vc0.find? (fun x => x.id == e.stream + 65536 * (e.index + 1) && x.tick == env.owner)).map (·.bytes)
  let pay := match body with
    | some d => streamTag e.stream e.index env.owner false ++ fit 236 d
    | none => streamTag e.stream e.index env.owner true ++ zeros 236
  { Flit.idle with kind := 0, payload := pay }

/-- No message. -/
def TxMsg.none : TxMsg := ⟨0, 0, false, [], false, 0, false⟩

/-- The message of VC v that may send its next flit, a message still growing only while a full flit of it stands ready: in order within a subchannel; on VC2 Logbook messages first, which
gives them at least every second turn, and while a flush lasts Logbook only (R156, R162, R212). -/
def pickMsg (q : List TxMsg) (v : Nat) (flush : Bool) : Option Nat :=
  let able := fun (i : Nat) => let m := q.getD i TxMsg.none; m.vc == v && (!m.more || decide (240 < m.bytes.length))
  let is := fun (i : Nat) (log : Bool) => able i && ((q.getD i TxMsg.none).subch == 0) == log
  if v = 2 then
    match (List.range q.length).find? (fun i => is i true) with
    | some i => some i
    | none => if flush then none else (List.range q.length).find? (fun i => is i false)
  else (List.range q.length).find? able

/-- Rotation position i as a VC: Alarm, Bulk, Control, Bulk (R49). -/
def rotVc (i : Nat) : Nat := match i % 4 with | 0 => 1 | 1 => 2 | 2 => 3 | _ => 2

/-- The VC a free slot goes to: the one in turn, else the next in rotation order with a flit and credit (R49). -/
def Port.freeVc (p : Port) (flush : Bool) : Option Nat :=
  ([0, 1, 2, 3].map (fun i => rotVc (p.rotation + i))).find? (fun v =>
    (pickMsg p.q v flush).isSome && decide (0 < (p.credit v).avail))

/-- Patch a delay echo or twin time message as it leaves: T3 or T1 is inserted on the fly (R181). -/
def patchTime (p : Port) (env : TxEnv) (b : Bytes) : Bytes × Port :=
  if rd b 0 2 = 0x31 then
    let q := rd b 2 2
    let t3 := capture env.now
    (overlay b 0x10 (le 12 (packTime t3)),
     { p with time := { p.time with echoes := p.time.echoes.map (fun e => if e.1 = q && e.2.2 = 0 then (e.1, e.2.1, t3) else e) } })
  else if rd b 0 2 = 0x32 then
    (overlay b 4 (sub (p.stamp env).encode 0 80), p)
  else (b, p)

/-- The bytes a message still has to send once a bound engine has seen this flit's payload: VALUE := INIT at START, every
payload byte processed, the field added after the last one (R417, R418). -/
def crcOnFlit (engs : List CrcEng) (port : Nat) (held : List Nat) (m : TxMsg) (chunk rest : Bytes) : List CrcEng × Bool × Bytes :=
  match (List.range engs.length).find? (fun i =>
      let e := engs.getD i CrcEng.init
      if m.started then m.crc && e.act.bind == 1 && e.act.port == port && e.act.vc == m.vc && e.act.subch == m.subch
      else !(held.contains i) && (e.atStart).act.holds 1 port m.vc m.subch) with
  | some i =>
    let e := engs.getD i CrcEng.init
    let e := if m.started then e else { e.atStart with value := e.atStart.act.init }
    let e := e.feed chunk
    if rest.length = 0 then (engs.set i e, false, chunk ++ e.field) else (engs.set i e, true, chunk ++ rest)
  | none => (engs, false, chunk ++ rest)

/-- The next flit of a message and what is left of the queue (R212, R417, R418). -/
def Port.takeMsg (p : Port) (env : TxEnv) (i : Nat) : Flit × Port × List CrcEng :=
  let m := p.q.getD i TxMsg.none
  let (chunk, p) := if m.vc = 3 && m.subch = 2 && !m.started then patchTime p env (m.bytes.take 240) else (m.bytes.take 240, p)
  let (engs, crc, all) := crcOnFlit env.engs env.port env.held m chunk (m.bytes.drop 240)
  let fin := decide (all.length ≤ 240)
  let q := if fin then p.q.eraseIdx i else p.q.set i { m with started := true, bytes := all.drop 240, crc := crc }
  ({ Flit.idle with kind := 0, vc := BitVec.ofNat 2 m.vc, subch := BitVec.ofNat 2 m.subch, start := !m.started, fin := fin,
                    lastLen := if fin then BitVec.ofNat 8 all.length else 0, payload := fit 240 all },
   { p with q := q }, engs)

/-- A data flit leaves: it takes the next SEQ and is kept for replay (R215, R218). -/
def Port.sendData (p : Port) (f : Flit) : Flit × Port :=
  let f := { f with seq := BitVec.ofNat 12 p.nextSeq }
  (f, { p with nextSeq := (p.nextSeq + 1) % 4096, replay := p.replay ++ [⟨f, 0, 0, false⟩] })

/-- The acknowledgement fields of the next flit: NAK for the lowest hole in the first flit after it is found and every
64 slots while it stays, at most one a block, else the cumulative acknowledgement (R217). -/
def Port.ackFields (p : Port) (first : Bool) : BitVec 12 × Bool × Port :=
  let p := if first then { p with nakInBlock := false } else p
  let cum := BitVec.ofNat 12 ((p.expect + 4095) % 4096)
  if p.heldFlits.length = 0 then (cum, false, { p with nakSlots := none })
  else
    let due := match p.nakSlots with | none => true | some (h, n) => decide (h ≠ p.expect) || decide (64 ≤ n + 1)
    if due && !p.nakInBlock then
      (BitVec.ofNat 12 p.expect, true, { (p.count 9 1) with nakSlots := some (p.expect, 0), nakInBlock := true })
    else (cum, false, { p with nakSlots := p.nakSlots.map (fun x => (x.1, x.2 + 1)) })

/-- Put the header fields that every flit carries into it (R202, R208, R213, R217). -/
def Port.dress (p : Port) (f : Flit) (first : Bool) : Flit × Port :=
  let (sig, p) := p.takeSig first
  let (ack, nak, p) := p.ackFields first
  let v := p.crNext
  ({ f with signal := sig, ackSeq := ack, nak := nak, crVc := BitVec.ofNat 2 v, credit := BitVec.ofNat 16 (p.credit v).freed },
   { p with crNext := if v = 3 then 1 else v + 1 })

/-- The oldest pending replay flit (R218). -/
def Port.pendingReplay (p : Port) : Option Nat :=
  (List.range p.replay.length).find? (fun i => (p.replay.getD i ⟨Flit.idle, 0, 0, false⟩).pending)

/-- The content of a slot by its class, before the header fields (R48 to R50); the flag asks for a retrain, a data flit
being due with 1,024 flits unacknowledged (R218). -/
def Port.slotContent (p : Port) (env : TxEnv) (isMark : Bool) : Flit × Port × Bool × List CrcEng :=
  match env.entry.cls with
  | 1 =>
    if 1024 ≤ p.unacked then (Flit.idle, p, true, env.engs)
    else let (f, p) := p.sendData (p.ownedFlit env isMark); (f, p, false, env.engs)
  | 0 =>
    let turn := rotVc p.rotation
    let blocked := (pickMsg p.q turn env.flush).isSome && (p.credit turn).avail = 0
    match p.freeVc env.flush with
    | some v =>
      if 1024 ≤ p.unacked then (Flit.idle, p, true, env.engs)
      else
        match pickMsg p.q v env.flush with
        | some i =>
          let (f, p, engs) := p.takeMsg env i
          let c := p.credit v
          let (f, p) := (p.setCredit v { c with sent := (c.sent + 1) % 65536 }).sendData f
          (f, { (if v = 2 then p.count 21 1 else p) with rotation := (p.rotation + 1) % 4 }, false, engs)
        | none => (Flit.idle, p, false, env.engs)
    | none =>
      let p := (p.count 20 1)
      (Flit.idle, { (if blocked then p.count 19 1 else p) with rotation := (p.rotation + 1) % 4 }, false, env.engs)
  | c =>
    match p.pendingReplay with
    | some i =>
      let k := p.replay.getD i ⟨Flit.idle, 0, 0, false⟩
      ({ k.flit with kind := 2 }, { (p.count 8 1) with replay := p.replay.set i { k with slots := 0, replays := k.replays + 1, pending := false } }, false, env.engs)
    | none => (Flit.idle, { (p.count 20 1) with recal := if c = 3 then (p.recal + 1) % 2 ^ 32 else p.recal }, false, env.engs)

/-- One slot passes for the replay timers and the signal window (R209, R218). -/
def Port.ageSlot (p : Port) : Port :=
  { p with replay := p.replay.map (fun k => { k with slots := k.slots + 1 }),
           recent := (p.recent.map (fun r => (r.1, r.2 + 1))).filter (fun r => decide (r.2 < 12)) }

/-- The flit joins its block; the last slot of a block or tick puts the block on the wire (R197, R198). -/
def Port.frame (p : Port) (f : Flit) (slots : Nat) : Port :=
  let blk := p.blk ++ [f.encode]
  let last := decide (p.slot % 5 = 4) || decide (p.slot + 1 = slots)
  { p with lastTx := some f, slot := p.slot + 1, blk := if last then [] else blk,
           wire := if last then encodeBlock (p.slot / 5) blk else p.wire,
           block := if last then p.block + 1 else p.block }

/-- The flit of one slot in IDENT, from the first block boundary on (R226): the IDENT message in every 32nd slot, idle otherwise; no credit,
acknowledgement or replay applies (R227). -/
def Port.transmitIdent (p : Port) (env : TxEnv) : Port :=
  if env.slots ≤ p.slot then p
  else if p.blk.length = 0 && p.slot % 5 ≠ 0 then { p with slot := p.slot + 1 }
  else
    let f := if p.slot % 32 = 0 then
        { Flit.idle with kind := 0, vc := 3, start := true, fin := true, lastLen := 32, payload := fit 240 env.ident }
      else Flit.idle
    let p := if p.slot % 32 = 0 then { p with identSent := true } else p
    let p := (p.count 0 1).frame f env.slots
    if p.identSent && p.tr.identOk then { p with st := .align } else p

/-- Bits [40:16] of a training frame's header: ID, LINESIDE, PORT (R226). -/
def trainWho (id : Nat) (lineside : Bool) (port : Nat) : Nat := id + put 17 (b2n lineside) + put 18 port

/-- The 64-bit header of a training frame (R226). -/
def trainHeader (who : Nat) (leader locked responder : Bool) : Nat :=
  let h := 0x35A + put 12 (b2n leader) + put 13 (b2n locked) + put 14 (b2n responder) + put 16 who
  h + put 48 (crcOf crc16 (le 6 h))

/-- n bits of the PRBS31 sequence x^31 + x^28 + 1 from a generator of all ones, the first bit lowest (R226). DESIGN CHOICE (log 90): each bit is
the generator's last stage before it shifts. -/
def prbs31 (n : Nat) : Nat :=
  ((List.range n).foldl (fun (a : Nat × Nat) i => ((2 * a.1 + Nat.xor (a.1 / 2 ^ 30 % 2) (a.1 / 2 ^ 27 % 2)) % 2 ^ 31, a.2 + put i (a.1 / 2 ^ 30 % 2))) (2 ^ 31 - 1, 0)).2

/-- A training frame on the wire: 10,880 bits in 1,088 symbols of 10 (R226). -/
def trainWire (header : Nat) : List Nat :=
  toSymbols 1088 (header + put 64 (prbs31 10816))

/-- One slot of the grid passes in TRAIN (R221, R226). Training frames go back to back; the model puts one on the wire at each block position
(log 90). Once block lock holds, 16 more frames with LOCKED = 1 lead to IDENT. -/
def Port.transmitTrain (p : Port) (env : TxEnv) : Port :=
  if env.slots ≤ p.slot then p
  else if p.slot % 5 ≠ 0 then { p with slot := p.slot + 1 }
  else
    let t := p.tr
    let p := { p with slot := p.slot + 1, wire := trainWire (trainHeader env.who env.leader (t.lock || t.extra.isSome) t.responder),
                      tr := { t with since := some (t.since.getD env.run), extra := t.extra.map (· - 1) } }
    if t.extra = some 1 then { p with st := .ident, identSent := false } else p

/-- One slot of the grid passes in a state whose transmitter sends fill or nothing (R220). -/
def Port.transmitFill (p : Port) (env : TxEnv) : Port := if env.slots ≤ p.slot then p else { p with slot := p.slot + 1, wire := [] }

/-- The IDENT message of an end (R227). -/
def identBytes (i : Ident) (rate400 : Bool) (version : Nat) : Bytes :=
  le 2 0x30 ++ le 2 1
  ++ le 4 (i.id + put 17 (b2n i.lineside) + put 18 (b2n i.valid) + put 19 (b2n i.configured) + put 20 (b2n i.confirmed))
  ++ le 1 i.port ++ le 1 (b2n rate400) ++ le 2 0 ++ le 4 version ++ zeros 16

/-- The identity an IDENT message gives (R227). -/
def identOf (b : Bytes) : Ident :=
  let v := rd b 4 4
  { id := v % 2 ^ 17, lineside := bit v 17, valid := bit v 18, configured := bit v 19, confirmed := bit v 20, port := rd b 8 1 }

/-- Send a message on a link: it waits in its VC (R212). -/
def Port.sendTag (p : Port) (tag vc subch : Nat) (b : Bytes) : Port := { p with q := p.q ++ [⟨vc, subch, false, b, false, tag, false⟩] }

/-- Send a message that needs no name of its own. -/
def Port.send (p : Port) (vc subch : Nat) (b : Bytes) : Port := p.sendTag 0 vc subch b

/-! ## Leaving ACTIVE (R221, R222) -/

/-- Leave ACTIVE: streams not complete are late-missing, unacknowledged and part-sent messages and part-received ones are
discarded, signals of the port are discarded and the link stops being a time source (R222). -/
def Port.leave (p : Port) (st : LinkSt) : Port :=
  { p with st := st, replay := [], heldFlits := [], partials := [], sigq := [], blk := [],
           q := p.q.filter (fun m => !m.started), nakSlots := none, badBlock := none, uncorr := 0, blockLock := false, identSent := false,
           tr := Training.fresh, time := { p.time with source := none, echoes := [] } }

/-- Retrain an ACTIVE end: it enters TRAIN at once (R221). -/
def Port.retrain (p : Port) (responder : Bool) : Port :=
  if p.st = .active then
    let p := (p.count 11 1).leave .train
    { p with tr := { p.tr with responder := responder } }
  else p

/-- A protocol error: counted, and the link retrains (R211, R213, R216, R218). -/
def Port.protocolError (p : Port) : Port := (p.count 13 1).retrain false

/-- The flit of one slot in ACTIVE; a full replay window retrains the link (R48, R218). -/
def Port.transmit (p : Port) (env : TxEnv) (isMark : Bool) : Port × List CrcEng :=
  if env.slots ≤ p.slot then (p, env.engs)
  else
    let first := decide (p.slot % 5 = 0)
    let p := p.ageSlot
    let (f, p, bad, engs) := p.slotContent env isMark
    if bad then (p.protocolError, engs)
    else
      let (f, p) := p.dress f first
      ((p.count 0 1).frame f env.slots, engs)

/-! ## Reception (R201, R204, R209, R212, R213, R216 to R218) -/

/-- A decoded block's fate at the port: its flits fail when it is uncorrectable or its lane parity is wrong; more than 16
uncorrectable blocks in a tick retrain; a lane parity error retires the lane (R201, R221, R223). -/
def Port.blockDecoded (p : Port) (idx : Nat) (fate : BlockFate) (now : Nat) : Port :=
  if p.st ≠ .active then { p with badBlock := none }
  else match fate with
    | .clean => { p with badBlock := none }
    | .corrected n => { ((p.count 4 1).count 6 n) with badBlock := none, corrected := p.corrected + n }
    | .uncorrectable =>
      let p := { p.count 5 1 with badBlock := some idx, uncorr := p.uncorr + 1 }
      if 16 < p.uncorr then { p.retrain false with badBlock := some idx } else p
    | .laneParity _ =>
      let p := { (p.count 7 1).count 12 1 with paritySeen := true }
      { p.leave .retired with retired := (now :: p.retired).filter (fun t => decide (now < t + uSec)), badBlock := some idx }

/-- A received flit passes when its block did not fail, its CRC is correct and every HPAR bit checks (R204). -/
def Port.passes (p : Port) (slot : Nat) (raw : Bytes) : Bool :=
  decide (p.badBlock ≠ some (slot / 5)) && flitCrcOk raw && flitHparOk raw

/-- Apply a cumulative acknowledgement: flits up to it leave the replay buffer (R217, R218). -/
def Port.applyAck (p : Port) (ack : Nat) : Port :=
  let n := (ack + 1 + 4096 - p.ackSeq) % 4096
  if 0 < n && n ≤ p.unacked then
    { p with ackSeq := (p.ackSeq + n) % 4096, replay := (p.replay.drop n).map (fun k => { k with slots := 0 }) }
  else p

/-- Apply a NAK: the flit it names becomes pending, or the link retrains when it has been replayed 8 times (R217, R218). -/
def Port.applyNak (p : Port) (seq : Nat) : Port × Bool :=
  match (List.range p.replay.length).find? (fun i => (p.replay.getD i ⟨Flit.idle, 0, 0, false⟩).flit.seq.toNat == seq) with
  | some i =>
    let k := p.replay.getD i ⟨Flit.idle, 0, 0, false⟩
    if k.pending then (p, false)
    else if 8 ≤ k.replays then (p, true)
    else ({ p with replay := p.replay.set i { k with pending := true } }, false)
  | none => (p, false)

/-- Apply a credit field: a value that leaves more than B_v is a protocol error (R213). -/
def Port.applyCredit (p : Port) (farLineside : Bool) (v credit : Nat) : Port × Bool :=
  if v = 0 then (p, false)
  else
    let c := { p.credit v with limit := credit }
    if bufSize farLineside v < c.avail then (p, true) else (p.setCredit v c, false)

/-- A flit of a credited VC reaches its message; the buffer entry is released (R212, R213). `crcKeys` are the paths of the
ingress engines in force at this port (R419). -/
def Port.deliver (p : Port) (crcKeys : List Nat) (h : HeldFlit) : Port :=
  let f := h.flit
  let v := f.vc.toNat
  let sc := f.subch.toNat
  let c := p.credit v
  let p := p.setCredit v { c with freed := (c.freed + 1) % 65536 }
  let is := fun (x : RxMsg) => x.vc == v && x.subch == sc
  let rest := p.partials.filter (fun x => !is x)
  let data := if f.fin then f.payload.take f.lastLen.toNat else f.payload
  let fresh : RxMsg := ⟨v, sc, data, crcKeys.contains (4 * v + sc), h.now, f.kind == 2, none⟩
  match p.partials.find? is, f.start with
  | none, false => p.count 14 1
  | some _, true =>
    if f.fin then { p.count 14 1 with partials := rest, inbox := p.inbox ++ [fresh] } else { p.count 14 1 with partials := rest ++ [fresh] }
  | none, true => if f.fin then { p with inbox := p.inbox ++ [fresh] } else { p with partials := rest ++ [fresh] }
  | some m, false =>
    let m := { m with bytes := m.bytes ++ data }
    if f.fin then { p with partials := rest, inbox := p.inbox ++ [m] } else { p with partials := rest ++ [m] }

/-- E advances past every contiguous accepted SEQ, delivering the credited flits held (R216); `n` bounds the walk. -/
def Port.advance (p : Port) (crcKeys : List Nat) : Nat → Port
  | 0 => p
  | n + 1 =>
    match p.heldFlits.find? (fun h => h.flit.seq.toNat == p.expect) with
    | some h =>
      let p := { p with heldFlits := p.heldFlits.filter (fun g => g.flit.seq != h.flit.seq), expect := (p.expect + 1) % 4096 }
      (if h.flit.vc = 0 then p else p.deliver crcKeys h).advance crcKeys n
    | none => p

/-- A VC0 flit joins its stream (R43, R44, R51). -/
def Port.streamFlit (p : Port) (f : Flit) (tick now : Nat) : Port :=
  let t := rd f.payload 0 4
  let id := t % 65536
  let idx := fld t 16 12
  let data := f.payload.drop 4
  match p.streams.find? (fun s => s.id == id && s.tick == tick) with
  | some _ => { p with streams := p.streams.map (fun s => if s.id == id && s.tick == tick && !s.taken then { s with got := s.got.filter (fun g => g.1 != idx) ++ [(idx, data)], void := s.void || bit t 31, arrived := now, replayed := s.replayed || f.kind == 2 } else s) }
  | none => { p with streams := p.streams ++ [⟨id, tick, [(idx, data)], bit t 31, false, false, now, f.kind == 2⟩] }

/-- A stream is withdrawn for its tick: the slot check failed or the direction is quarantined (R65, R66). -/
def Port.streamBad (p : Port) (id tick : Nat) : Port :=
  match p.streams.find? (fun s => s.id == id && s.tick == tick) with
  | some _ => { p with streams := p.streams.map (fun s => if s.id == id && s.tick == tick then { s with bad := true } else s) }
  | none => { p with streams := p.streams ++ [⟨id, tick, [], false, true, false, 0, false⟩] }

/-- A Timetable mismatch at an owned receive slot (R65, R67). -/
def Port.mismatch (p : Port) : Port := { p.count 15 1 with mmTick := true, rxMismatch := true }

/-- An owned slot of a quarantined direction matches, in the grid of a tick (R66). -/
def Port.matched (p : Port) (grid : Nat) : Port :=
  { p with rxTicks := if p.rxTicks.any (fun t => t.1 == grid) then p.rxTicks.map (fun t => if t.1 = grid then (grid, t.2 + 1) else t)
                      else (p.rxTicks ++ [(grid, 1)]).drop (p.rxTicks.length + 1 - 4) }

/-- The tag of an owned receive slot agrees with the active map (R65). -/
def tagOk (e : SlotEntry) (owner : Nat) (f : Flit) : Bool :=
  let t := rd f.payload 0 4
  decide (t % 65536 = e.stream) && decide (fld t 16 12 = e.index) && decide (fld t 28 3 = owner % 8)

/-- The data part of a flit that passes: sequence, replay window and delivery (R216); the flag asks for a retrain. `tick` owns
the stream data of a VC0 flit. With `discard` the sequence moves on and the content is dropped, its buffer entry released (R65, R213). -/
def Port.accept (p : Port) (crcKeys : List Nat) (now : Nat) (f : Flit) (tick : Nat) (discard : Bool) : Port × Bool :=
  let d := (f.seq.toNat + 4096 - p.expect) % 4096
  if d < 1024 then
    if p.heldFlits.any (fun g => g.flit.seq == f.seq) then (p.count 10 1, false)
    else if discard then
      let v := f.vc.toNat
      let c := p.credit v
      let p := if v = 0 then p else p.setCredit v { c with freed := (c.freed + 1) % 65536 }
      (({ p with heldFlits := p.heldFlits ++ [(⟨{ f with vc := 0 }, now⟩ : HeldFlit)] }).advance crcKeys 1024, false)
    else
      let p := if f.vc = 0 then p.streamFlit f tick now else p
      (({ p with heldFlits := p.heldFlits ++ [(⟨f, now⟩ : HeldFlit)] }).advance crcKeys 1024, false)
  else if 3072 ≤ d then (p.count 10 1, false)
  else (p, true)

/-- The tick that a stream tag names, at or just before the tick of the slot grid (R51, R65). -/
def ownerOf (grid : Nat) (f : Flit) : Nat :=
  let low := fld (rd f.payload 0 4) 28 3
  grid - (grid + 8 - low) % 8

/-- The content of a flit that passes, against the slot it came in (R65 to R67, R202): in an owned slot a flit that is not VC0 data or replay
with the tag of the slot is a mismatch, its content discarded and its stream withdrawn; in quarantine every VC0 flit is withdrawn. The flag
asks for a retrain. -/
def Port.content (p : Port) (grid : Nat) (f : Flit) (check : Option (SlotEntry × Nat)) (crcKeys : List Nat) (now : Nat) : Port × Bool :=
  let data := f.kind = 0 || f.kind = 2
  let free : Port × Bool :=
    if !data then (p, false)
    else if p.quarantine && f.vc = 0 then
      (p.streamBad (rd f.payload 0 4 % 65536) (ownerOf grid f)).accept crcKeys now f (ownerOf grid f) true
    else p.accept crcKeys now f (ownerOf grid f) false
  match check with
  | some (e, own) =>
    if e.cls ≠ 1 then free
    else if !data then (p.mismatch.streamBad e.stream own, false)
    else if f.vc = 0 && tagOk e own f then
      (if p.quarantine then (p.matched grid).streamBad e.stream own else p).accept crcKeys now f own p.quarantine
    else (p.mismatch.streamBad e.stream own).accept crcKeys now f own true
  | none => free

/-- A flit received in ACTIVE (R204, R213, R216 to R218). The flits of a block that failed count as CRC failures, those too that come once the
block has taken the link out of service (R201). Its signal field waits for the part to act on it (R209).
`check`, where there is one, is the owned slot's entry and the tick that owns its data (R65). -/
def Port.receive (p : Port) (farLineside : Bool) (slot grid : Nat) (raw : Bytes) (check : Option (SlotEntry × Nat)) (crcKeys : List Nat) (now : Nat) : Port :=
  let f := Flit.decode raw
  if p.badBlock = some (slot / 5) then p.count 2 1
  else if p.st ≠ .active then p
  else if !flitHparOk raw || !flitCrcOk raw then
    let p := if flitCrcOk raw then p else p.count 2 1
    if flitHparOk raw then p else p.count 3 1
  else
    let p := p.count 1 1
    let (p, e1) := if f.nak then p.applyNak f.ackSeq.toNat else (p.applyAck f.ackSeq.toNat, false)
    let (p, e2) := p.applyCredit farLineside f.crVc.toNat f.credit.toNat
    let dup := p.recent.any (fun r => r.1 == f.signal)
    let sig : BitVec 16 := if f.signal = 0 || dup then 0 else f.signal
    let p := if sig = 0 then p else { p with recent := p.recent ++ [(sig, 0)] }
    let p := if fld f.signal.toNat 13 3 = 7 then (p.count 18 1).count 13 1 else p
    let sig : BitVec 16 := if fld f.signal.toNat 13 3 = 7 then 0 else sig
    let (p, e3) := p.content grid f check crcKeys now
    let p := if sig = 0 then p else { p with sigIn := p.sigIn ++ [sig] }
    if e1 || e2 || e3 then p.protocolError else p

/-- 256 slots have passed since the oldest unacknowledged flit was last sent and since A last advanced (R218): it becomes
pending, or the link retrains after 8 replays. -/
def Port.replayTimeout (p : Port) : Port :=
  match p.replay with
  | k :: t =>
    if p.st = .active && 256 ≤ k.slots && !k.pending then
      if 8 ≤ k.replays then p.protocolError else { p with replay := { k with pending := true } :: t }
    else p
  | [] => p

/-- A tick begins on the port: slot 0, rotation 0, per-tick counts, mismatch runs (R49, R66, R221). -/
def Port.tickStart (p : Port) : Port :=
  { p with slot := 0, rotation := 0, blk := [], block := p.block + 1, uncorr := 0, correctedTick := p.corrected, corrected := 0,
           mmRun := if p.mmTick then p.mmRun + 1 else 0, mmTick := false }

/-! ## Training and identification (R220, R223 to R227) -/

/-- Start training from DOWN (R220, R226). -/
def Port.startTrain (p : Port) : Port :=
  if p.st = .down && !p.hold && !p.unused then { p with st := .train, tr := Training.fresh, identSent := false } else p

/-- Training did not finish in 20 ms (R220). -/
def Port.trainTimeout (p : Port) : Port :=
  if p.st = .train then { p with st := .down, tr := { p.tr with retry := true } } else p

/-- TRAIN is entered again 10 ms after a timeout (R220). -/
def Port.trainRetry (p : Port) : Port := if p.tr.retry then p.startTrain else p

/-- A training frame's 64-bit header with a correct CHECK (R226). -/
def trainCheckOk (h : Nat) : Bool := decide (h % 4096 = 0x35A) && decide (crcOf crc16 (le 6 h) = fld h 48 16)

/-- A training frame arrives, with the time run (R221, R224, R226): in ACTIVE it makes the end a responder in TRAIN; in TRAIN it moves frame
lock and the LOCKED run, and the 1,000th frame with LOCKED = 1 in lock leaves 16 frames to send. A follower that first sees the leader's own
pattern within 50 us of its entry restarts. -/
def Port.trainFrame (p : Port) (leader samePhase : Bool) (h now : Nat) : Port :=
  let ok := trainCheckOk h
  match p.st with
  | .active => if ok then p.retrain true else p
  | .train =>
    let t := p.tr
    let first := ok && bit h 12 && !leader && !t.sawLeader
    let near := match t.since with | some u => decide (now ≤ u + 50000 * uNs) | none => true
    let t := if first then { t with sawLeader := true } else t
    let t := if first && near && !(bit h 14) && !t.responder then { t with good := 0, bad := 0, lock := false, lockedRun := 0, extra := none } else t
    let good := if ok && samePhase then t.good + 1 else if ok then 1 else 0
    let bad := if ok then 0 else t.bad + 1
    let lock := if 8 ≤ good then true else if 4 ≤ bad then false else t.lock
    let run := if lock && ok && bit h 13 then t.lockedRun + 1 else 0
    { p with tr := { t with good := good, bad := bad, lock := lock, lockedRun := run, extra := if t.extra.isNone && 1000 ≤ run then some 16 else t.extra }, blockLock := lock }
  | _ => p

/-- The far end's IDENT message (R227): a bad format or rate, or a neighbour that fails R26 or R498, is a cabling error and
the port goes to HELD; with the own message sent the end moves to ALIGN. -/
def Port.identReceived (p : Port) (lineside farLineside ok : Bool) (b : Bytes) : Port :=
  if p.st ≠ .ident then p
  else
    let bad := !(decide (rd b 0 2 = 0x30) && decide (rd b 2 2 = 1) && decide (rd b 9 1 = b2n p.rate400) && ok)
    if bad then { (p.count 26 1) with st := .held, cablingErr := true, far := some (identOf b) }
    else
      let p := { p with far := some (identOf b) }
      if p.identSent then { p.resetBooks lineside farLineside with st := .align } else { p with tr := { p.tr with identOk := true } }

/-- ALIGN becomes ACTIVE at slot 0 of the next tick (R213, R220). -/
def Port.enterActive (p : Port) (lineside farLineside : Bool) : Port :=
  if p.st = .align then
    { p.resetBooks lineside farLineside with st := .active, partials := [], slot := 0, rotation := 0, blk := [], streams := [], uncorr := 0, badBlock := none, mmRun := 0, mmTick := false, rxTicks := [], quarantine := false }
  else p

/-- Retirements in the last second (R223). -/
def Port.retire1s (p : Port) (now : Nat) : Nat := (p.retired.filter (fun t => decide (now < t + uSec))).length

/-- 1 ms after a retirement: TRAIN again, or HELD where it was the third within 1 s (R220, R223). The list holds the retirements of the second
that ended with the latest. -/
def Port.retireTimeout (p : Port) : Port :=
  if p.st = .retired then { p with st := if 3 ≤ p.retired.length then .held else .train, tr := Training.fresh } else p

/-- Link control: 1 enable, 2 retrain, 3 hold DOWN (R220, R221). -/
def Port.control (p : Port) (action : Nat) : Port :=
  match action with
  | 1 => if p.st = .held || p.st = .down then ({ p with st := .down, hold := false }).startTrain else { p with hold := false }
  | 2 => p.retrain false
  | 3 => { p.leave .down with hold := true }
  | _ => p

end Sys2Proof.Machine

namespace Sys2Proof.Machine

/-- Take the oldest message of a VC and subchannel that meets a test. -/
def Port.takeInbox (p : Port) (vc subch : Nat) (ok : Bytes → Bool) : Option RxMsg × Port :=
  match (List.range p.inbox.length).find? (fun i =>
      match p.inbox[i]? with | some m => m.vc == vc && m.subch == subch && ok m.bytes | none => false) with
  | some i => (p.inbox[i]?, { p with inbox := p.inbox.eraseIdx i })
  | none => (none, p)

/-- Take the oldest signal of a code that has arrived (R205, R209). -/
def Port.takeSigIn (p : Port) (code : Nat) : Option Nat × Port :=
  match (List.range p.sigIn.length).find? (fun i => fld (p.sigIn.getD i 0).toNat 13 3 == code) with
  | some i => (some ((p.sigIn.getD i 0).toNat % 8192), { p with sigIn := p.sigIn.eraseIdx i })
  | none => (none, p)

/-- The bytes of a message that reach its owner before its end: what an ingress engine holds back is no part of them (R419). -/
def RxMsg.seen (m : RxMsg) : Bytes := if m.crc then m.bytes.take (m.fed.getD 0) else m.bytes

/-- The ingress engine of a message: the one that has begun it, or the one its START falls to (R417, R420). -/
def ingressOf (engs : List CrcEng) (port : Nat) (m : RxMsg) : Option Nat :=
  if !m.crc then none
  else (List.range engs.length).find? (fun i =>
    let e := engs.getD i CrcEng.init
    (if m.fed.isSome then e else e.atStart).act.holds 2 port m.vc m.subch)

/-- Ingress engines check and strip the messages that ended after `n` of the inbox and follow those in progress; what fails is discarded, and
given back with the engine that failed it and its path (R417, R419). -/
def Port.stripInbox (p : Port) (engs : List CrcEng) (port n : Nat) : Port × List CrcEng × List (Nat × Nat × Bytes) :=
  let rec ended (done : List RxMsg) (engs : List CrcEng) (bad : List (Nat × Nat × Bytes)) : List RxMsg → List RxMsg × List CrcEng × List (Nat × Nat × Bytes)
    | [] => (done, engs, bad)
    | m :: t =>
      match ingressOf engs port m with
      | some i =>
        let e := engs.getD i CrcEng.init
        match e.strip m with
        | (e, some b) => ended (done ++ [{ m with bytes := b, crc := false, fed := none }]) (engs.set i e.atStart) bad t
        | (e, none) => ended done (engs.set i e.atStart) (bad ++ [(i, 4 * m.vc + m.subch, m.bytes.take (m.bytes.length - cdiv e.act.width 8))]) t
      | none => ended (done ++ [m]) engs bad t
  let rec running (done : List RxMsg) (engs : List CrcEng) : List RxMsg → List RxMsg × List CrcEng
    | [] => (done, engs)
    | m :: t =>
      match ingressOf engs port m with
      | some i => let (e, m) := (engs.getD i CrcEng.init).follow m; running (done ++ [m]) (engs.set i e) t
      | none => running (done ++ [m]) engs t
  let (l, engs, bad) := ended (p.inbox.take n) engs [] (p.inbox.drop n)
  let (r, engs) := running [] engs p.partials
  ({ p with inbox := l, partials := r }, engs, bad)

/-- The paths of the ingress engines at a port (R417); an engine whose message is in progress on another path takes no START (R420, log 94). -/
def crcKeysOf (engs : List CrcEng) (port : Nat) (held : List Nat) : List Nat :=
  ((List.range engs.length).filter (fun i =>
    let e := engs.getD i CrcEng.init
    e.cfg.enable && e.cfg.bind == 2 && e.cfg.port == port && !(held.contains i))).map (fun i =>
      let e := engs.getD i CrcEng.init
      4 * e.cfg.vc + e.cfg.subch)

/-- A change of an engine's configuration (R416, R420): refused, it sets CFG_ERR and the engine stays disabled or keeps its
previous parameters; over a message in progress it waits for the next START, and an enable after a disable is PENDING. -/
def CrcEng.configure (e : CrcEng) (c : CrcCfg) (busy conflict failed maxBind3 : Bool) : CrcEng :=
  let w := c.width
  let bad := failed || decide (w < 8) || decide (64 < w) || c.poly % 2 == 0 || decide (2 ^ w ≤ c.poly) || decide (2 ^ w ≤ c.init)
    || decide (2 ^ w ≤ c.xorOut) || (c.bind == 3 && !maxBind3) || c.vc == 0 || conflict
  if c.enable then
    if bad then { e with cfgErr := true, cfg := if e.cfg.enable then e.cfg else { c with enable := false } }
    else if busy then { e with cfg := c, pending := e.pending || !e.cfg.enable }
    else { e with cfg := c, act := c, pending := false }
  else if busy then { e with cfg := c, pending := false }
  else { e with cfg := c, act := c, pending := false }

/-- Another enabled engine already holds the path and direction of a binding (R416). -/
def crcConflict (engs : List CrcEng) (i : Nat) (c : CrcCfg) : Bool :=
  (c.bind == 1 || c.bind == 2) && (List.range engs.length).any (fun j =>
    let d := (engs.getD j CrcEng.init).cfg
    j != i && d.holds c.bind c.port c.vc c.subch)

end Sys2Proof.Machine
end

