-- ==== Sys2Proof/Machine/LsState.lean ====
section
/-! DEFINITION. The state of the Lineside (R33, R68 to R158, R358 to R404, R414 to R421, R480, R496 to R500, R516 to R526). -/

namespace Sys2Proof.Machine

/-- What the host drives at the boundary (R68, R75 to R77, R89). -/
structure LsHost where
  /-- what the 64 scan chains shift out next, one word a shift cycle: bit j is the bit of chain j (R82, R146) -/
  chains : List Word
  inReset : Bool
  bundleIdx : BitVec 48
  bundleAddr : BitVec 48
  issuedAt : Option Nat
  stall : BitVec 256
  present : BitVec 64
  stopped : BitVec 16
  drainDone : Bool
  mainGood : Bool
deriving DecidableEq, Repr

/-- What the Lineside drives at the boundary; pulses are held with the LCLK of the pulse (R68, R73, R79, R81, R82, R85, R89). -/
structure LsPins where
  selWrite : Option (Nat × Nat × BitVec 16)
  selCommit : Option Nat
  dig : Option (Nat × BitVec 16 × Word)
  abort : Option (Nat × BitVec 28)
  poisonAck : Option Nat
  qsnapReq : Option Nat
  scanEn : Bool
  /-- the 64 bits returned on SCAN_RET in the latest shift cycle (R82) -/
  scanRet : Word
  mainPwrReq : Bool
  pwrOffAck : Bool
  pwrOffNak : Bool
deriving DecidableEq, Repr

/-- A sensor channel: latest value, its error bit, and whether it came since the last sample edge (R74, R101). -/
structure Sensor where
  value : BitVec 16
  err : Bool
  fresh : Bool
deriving DecidableEq, Repr

/-- The capture of a sample edge e_n, until its frame is assembled (R93, R94, R98, R101, R102, R104 to R110). What stands at e_n is taken
there; the sensor and region inputs are complete one LCLK later (R94, R102), the counters EVT_LAT and the schedule position BUN_LAT
LCLK later, when the boundary shows event cycle e_n (R72, R76). -/
structure LsCap where
  tick : Nat
  /-- the LCLK count of e_n, and the latencies of LS_HOST_LATENCY then -/
  edge : Nat
  evt : Nat
  bun : Nat
  /-- the frame map and stream the frame ships under; none where its slots carry VOID flits -/
  ships : Option (Bool × Nat)
  /-- FLAGS without LAG_INVALID and LAG_SAT -/
  flags : Nat
  fence : Nat
  perTick : Nat
  /-- HOST_IN_RESET was high in the interval -/
  sawReset : Bool
  anchor : Option (Nat × Nat × Nat)
  first : Bool
  unsourced : Tbl Bool
  shards : List (Nat × Word)
  backlog : Nat
  /-- increases of the statistics over the interval -/
  stats : Tbl Nat
  sensorsOn : Bool
  sensors : Tbl Sensor
  frozen : BitVec 16
  stretch : Tbl Nat
  /-- counters that a CLEAR committed at e_n sets to 0 with event cycle e_n -/
  clears : List Nat
  disc : List Nat
  stallTotal : Tbl Nat
  stall : BitVec 256
  bundle : Nat
deriving DecidableEq, Repr

/-- Sampling state (R93 to R108, R114). -/
structure LsSample where
  lclk : Nat
  /-- fifths of a unit of 2^-16 ns since the last LCLK edge -/
  lclkAcc : Nat
  edgeLclk : Nat
  ctr : Tbl Word
  shadow : Tbl Word
  shadowPrev : Tbl Word
  /-- counters discontinuous since the last shadow (R100) -/
  disc : List Nat
  /-- the capture in progress -/
  cap : Option LsCap
  staged : Tbl Nat
  sent : Tbl Nat
  /-- the place from which the pass over staged selects goes on (R97) -/
  pass : Nat
  unsourced : Tbl Bool
  commitFlag : Bool
  restored : Bool
  sensors : Tbl Sensor
  frozen : BitVec 16
  stretch : Tbl Nat
  stallTotal : Tbl Nat
  sawReset : Bool
  sawStop : Bool
  sawDrain : Bool
  sawMismatch : Bool
  sawShardOverflow : Bool
  sawSensorOff : Bool
  boundaryPrev : Nat
  statPrev : Tbl Word
  firstEdge : Bool
deriving DecidableEq, Repr

/-- Lag anchor state (R104 to R106). -/
structure LsLag where
  armed : Option (Nat × Nat)
  anchor : Option (Nat × Nat × Nat)
  err : Bool
  /-- lag of the last tick when it was valid and not clamped -/
  last : Option Int
deriving DecidableEq, Repr

/-- Bank states of frame maps and Timetables (R57, R116, R539). -/
inductive BankSt where
  | empty | invalid | valid | armed | active
deriving DecidableEq, Repr

/-- The state code of a bank, in the order of R57. -/
def BankSt.code : BankSt → Nat
  | .empty => 0 | .invalid => 1 | .valid => 2 | .armed => 3 | .active => 4

/-- Frame maps and Timetable banks of the Lineside (R112 to R119, R524, R539). -/
structure LsBanks where
  f0 : BankSt
  f1 : BankSt
  fActive : Option Bool
  fArm : Option Nat
  fCheck : Nat
  fEntry : Nat
  fSwitchErr : Bool
  activeWrites : Nat
  t0 : BankSt
  t1 : BankSt
  tArm : Option Nat
  tCheck : Nat
  tSlot : Nat
  tArmErr : Bool
  /-- the bank that was ACTIVE before the last switch, VALID at the next edge (R60) -/
  tPrev : Option Bool
  /-- the tick of the last switch: received flits of earlier slot grids belong to the bank before it (R60, R65) -/
  tSince : Nat
  /-- the frame assembled last and its tick; none where the slots carry VOID (R109, R119) -/
  frame : Option (Nat × Bytes)
deriving DecidableEq, Repr

/-- Trace states (R126). -/
inductive TraceSt where
  | idle | running | post | frozen
deriving DecidableEq, Repr

/-- The code of a trace state. -/
def TraceSt.code : TraceSt → Nat
  | .idle => 0 | .running => 1 | .post => 2 | .frozen => 3

/-- The trace (R124 to R131). -/
structure LsTrace where
  st : TraceSt
  cfg : Nat
  recs : List Bytes
  captured : Nat
  overwritten : Nat
  dropped : Nat
  postLeft : Nat
  extra : Nat
  cfgErr : Bool
  trigDropped : Bool
  refused : Bool
  reading : Option Bool
  pending : Bool
  disarmed : Bool
  restart : Bool
  trigNext : Bool
  trigPos : Option Nat
  k : Nat
  /-- LCLK of the latest sample point and whether it wrote a record (R127) -/
  point : Option (Nat × Bool)
  /-- LCLK at which the boundary shows the cycle that the latest record describes (R124) -/
  fill : Option Nat
  /-- LCLK of the latest trigger: others of that LCLK count as one with it (R128) -/
  trigAt : Option Nat
  /-- HELD, OVERWRITTEN and DROPPED as a read of CAPTURED latched them, each until its next read (R129) -/
  latch : Option Word × Option Word × Option Word
deriving DecidableEq, Repr

/-- The hang snapshot (R132 to R134). -/
structure LsQsnap where
  st : Nat
  reading : Option Bool
  pending : Option (Nat × Nat)
  busy : Nat
  descs : List (Option (BitVec 128))
  count : Nat
  startTick : Nat
  endTick : Nat
  cause : Nat
  bp : Nat
  held : Bool
  readAt : Nat
  /-- LCLK of the latest cause and whether it started or was latched: others of that LCLK are one with it (R133) -/
  causeAt : Option (Nat × Bool)
deriving DecidableEq, Repr

/-- Breakpoints (R135, R136): HIT, PAST and the event-count comparators whose counter is at or above its value. -/
structure LsBp where
  hit : BitVec 32
  past : BitVec 32
  high : BitVec 32
deriving DecidableEq, Repr

/-- Drain, stop and release (R137 to R144); instants in units of 2^-16 ns. -/
structure LsHalt where
  drain : Nat
  drainReq : Bool
  drainAt : Nat
  drainPending : Bool
  drainHeld : Bool
  lateDrain : Bool
  stopGate : Bool
  stopAt : Nat
  stopArmed : Option Nat
  relArmed : Option Nat
  relPending : Option Nat
  stopLate : Bool
  stopUntimed : Bool
  relLate : Bool
  snapDue : Bool
deriving DecidableEq, Repr

/-- Scan-out (R145 to R147): state code of LS_SCAN_STATUS, completed shift cycles up to the last (re)start, the first cycle of the message
being sent, and the station time of the (re)start. Shifted words wait in the message's unsent bytes, at most 64 KiB. -/
structure LsScan where
  st : Nat
  refused : Bool
  shifted : Nat
  len : Nat
  offset : Nat
  startTime : Nat
  startTick : Nat
  link : Bool
  /-- bytes shifted and not sent when the link left service -/
  kept : Bytes
deriving DecidableEq, Repr

/-- The Logbook (R149 to R158): records held with their SEQ, books, buckets. -/
structure LsLog where
  recs : List (Nat × Bytes)
  nextSeq : Nat
  commitSeq : Nat
  tokens : Tbl Nat
  rateAct : Tbl Word
  rateDrop : Tbl Nat
  fullDrop : Nat
  flushing : Bool
deriving DecidableEq, Repr

/-- Configuration of a Tablet entry as a packet's START saw it (R359, R360). -/
structure TabEntry where
  g : Nat
  linear : Bool
  elem : Nat
  fanIn : Nat
  emin : Int
  actAbort : Bool
  wticks : Nat
  key : Nat
  epoch : Nat
deriving DecidableEq, Repr

/-- An open packet digest (R360, R367): tap 0 ingress, 1 egress; the entry it matched; undigested when none was free. -/
structure OpenPkt where
  tap : Nat
  cls : Nat
  tag : BitVec 16
  value : BitVec 28
  entry : Option TabEntry
  digested : Bool
  tick : Nat
deriving DecidableEq, Repr

/-- A witness entry (R368). -/
structure Witness where
  g : Nat
  chunk : Nat
  sum : Nat
  n : Nat
  edges : Nat
  limit : Nat
deriving DecidableEq, Repr

/-- An open shard digest (R371): running CRC and length. -/
structure OpenShard where
  tap : Nat
  ref : BitVec 28
  crc : Nat
  len : Nat
deriving DecidableEq, Repr

/-- The Tablet unit and test packs (R358 to R372, R383). -/
structure LsTab where
  pkts : List OpenPkt
  wits : List Witness
  suspended : List (Nat × Nat)
  shards : List OpenShard
  queue : List (Nat × Word)
  pend : List Nat
  results : Tbl Nat
  windowDone : Bool
deriving DecidableEq, Repr

/-- A group slot's abort state (R399): state code, flags, the held instant in units. -/
structure AbortSlot where
  st : Nat
  originated : Bool
  late : Bool
  low : Nat
  instant : Nat
deriving DecidableEq, Repr

/-- A group slot at reset. -/
def AbortSlot.disarmed : AbortSlot := ⟨0, false, false, 0, 0⟩

/-- Self-test (R496, R497). -/
structure LsSelf where
  st : Nat
  refused : Bool
  bist : BitVec 6
  tablet : BitVec 2
  crc : BitVec 4
  repaired : Nat
deriving DecidableEq, Repr

/-- Always-on comparators and power (R89, R90): BEYOND and run per comparator, PWR_OFF_REQ in progress since. -/
structure LsAon where
  beyond : BitVec 8
  run : Tbl Nat
  pwrReqAt : Option Nat
  /-- crossings found and not yet handled, and those held for the next session (R90): comparator and beat -/
  crossing : List (Nat × Nat)
  held : List (Nat × Nat)
deriving DecidableEq, Repr

/-- The Lineside. -/
structure Ls where
  clk : Clock
  mainOn : Bool
  inService : Bool
  die : BitVec 17
  dieValid : Bool
  configured : Bool
  regs : Tbl Word
  host : LsHost
  pins : LsPins
  smp : LsSample
  lag : LsLag
  banks : LsBanks
  trace : LsTrace
  qsnap : LsQsnap
  bp : LsBp
  halt : LsHalt
  scan : LsScan
  log : LsLog
  tab : LsTab
  poison : List (BitVec 96)
  slots : Tbl AbortSlot
  slotIgnored : Nat
  fenceHold : Bool
  fenceLow : BitVec 13
  fenceIgnored : Nat
  crc : List CrcEng
  istat : Tbl Word
  berrCount : Nat
  berrLast : Nat
  self : LsSelf
  aon : LsAon
  dbgUnlock : Bool
  dbgWrite : Bool
  dbgCapture : Word
  timeLatch : Option Word
  /-- the last VC3 write: LCLK, register and value (R87) -/
  vc3Last : Option (Nat × Nat × Nat)
  /-- a LS_LINK_CTRL write over its own link that waits for the reply to leave (R520) -/
  linkDefer : Option (Bool × Nat)
  /-- a configuration request that starts at the next sample edge (R519) -/
  cfgWait : Option Bool
  portA : Port
  portB : Port
deriving DecidableEq, Repr

end Sys2Proof.Machine
end

