-- ==== Sys2Proof/Machine/LsRegs.lean ====
section
/-! DEFINITION. The Lineside's register file: addresses, stored bits, reset values, ranges, and the state after cold reset (R13, R516 to R526). -/

namespace Sys2Proof.Machine

/-- Address ranges of registers that come in arrays. -/
def inRange (a lo n : Nat) : Bool := decide (lo ≤ a) && decide (a < lo + n)

/-- The bits of a register that are RW or RWS and stand in the register file; 0 where it has none (R523). -/
def regMask (a : Nat) : Nat :=
  if a = 0x2 then 0x1F1F
  else if a = 0x3 then 0xFF
  else if inRange a 0x8 8 then 2 ^ 64 - 1
  else if a = 0x13 then 2 ^ 64 - 1
  else if a = 0x14 then 2 ^ 32 - 1
  else if a = 0x24 then 2 ^ 64 - 1 - put 9 7 - put 47 1
  else if a = 0x25 then 2 ^ 54 - 1
  else if a = 0x26 || a = 0x27 then 2 ^ 32 - 1
  else if inRange a 0x30 8 then 2 ^ 44 - 1 - put 10 63
  else if a = 0x42 || a = 0x44 then 2 ^ 64 - 1
  else if a = 0x43 || a = 0x45 then 2 ^ 16 - 1
  else if inRange a 0x80 32 then 0x1F7FFF
  else if inRange a 0xA0 32 then 2 ^ 64 - 1
  else if inRange a 0xC0 32 then 2 ^ 48 - 1
  else if a = 0x100 then 2 ^ 23 - 1
  else if a = 0x103 then 2 ^ 32 - 1
  else if a = 0x110 then 0x33FFF
  else if a = 0x121 then 2 ^ 25 - 1
  else if a = 0x130 then 2 ^ 64 - 1
  else if a = 0x131 then 2 ^ 48 - 1
  else if a = 0x202 || a = 0x212 || a = 0x238 then 2 ^ 64 - 1
  else if a = 0x204 || a = 0x205 then 2 ^ 27 - 1
  else if a = 0x214 || a = 0x215 then 2 ^ 53 - 1
  else if inRange a 0x218 9 || inRange a 0x228 9 then 2 ^ 17 - 1
  else if a = 0x239 then 2 ^ 16 - 1
  else if a = 0x301 || a = 0x302 then 2 ^ 64 - 1
  else if inRange a 0x340 64 then (if a % 8 = 7 then 0 else 2 ^ 64 - 1)
  else if inRange a 0x380 64 then 2 ^ 15 - 1
  else if inRange a 0x400 480 || inRange a 0x600 480 then 2 ^ 32 - 1
  else if inRange a 0x800 98 || inRange a 0x880 98 || inRange a 0x900 98 || inRange a 0x980 98 then 2 ^ 64 - 1
  else if inRange a 0x1000 4096 then 2 ^ 17 - 1
  else if inRange a 0x3000 256 then 2 ^ 30 - 1
  else if inRange a 0x3100 256 then 2 ^ 22 - 1
  else if inRange a 0x3200 256 then 2 ^ 61 - 1
  else if inRange a 0x3300 256 then 2 ^ 32 - 1
  else if inRange a 0x3400 256 then 2 ^ 28 - 1
  else if inRange a 0x3500 256 then 2 ^ 10 - 1
  else if inRange a 0x3600 256 then 2 ^ 43 - 1
  else if inRange a 0x3700 256 then 2 ^ 64 - 1
  else 0

/-- The reset value of the stored bits (R523). -/
def regReset (a : Nat) : Nat :=
  if a = 0x2 then 0x0101
  else if a = 0x24 then 0x0400040440034082
  else if a = 0x25 then 0x00000A19000A0032
  else if inRange a 0x80 32 then 0x190000
  else if inRange a 0xC0 32 then 2 ^ 48 - 1
  else if a = 0x110 then 0x12000
  else if inRange a 0x340 64 then (if a % 8 = 7 then 0 else 2 ^ 64 - 1)
  else if inRange a 0x380 64 then 8
  else if inRange a 0x3100 256 then 0x13000A
  else if inRange a 0x3500 256 then 0xC8
  else 0

/-- Registers whose stored bits survive a warm reset (R13 RWS, R88, R523). -/
def regRws (a : Nat) : Bool :=
  a == 0x14 || a == 0x24 || a == 0x25 || a == 0x26 || a == 0x27 || inRange a 0x30 8 || inRange a 0x42 4

/-- Registers that hold no stored bits but are assigned (R523). -/
def regComputed (a : Nat) : Bool :=
  a ≤ 0x1 || a == 0x4 || a == 0x10 || a == 0x11 || a == 0x12 || a == 0x15 || inRange a 0x20 4
  || a == 0x40 || a == 0x41 || a == 0xE0 || a == 0xE1 || a == 0x101 || a == 0x102 || inRange a 0x104 4
  || a == 0x111 || a == 0x112 || a == 0x120 || a == 0x122 || a == 0x132 || inRange a 0x140 64 || inRange a 0x180 64
  || a == 0x200 || a == 0x201 || a == 0x210 || a == 0x211 || inRange a 0x240 8 || inRange a 0x250 4
  || inRange a 0x280 32 || a == 0x300 || inRange a 0x303 4 || inRange a 0x3C0 64 || inRange a 0x2000 4096
  || inRange a 0x3800 128

/-- The address names a register (R516). -/
def regAssigned (a : Nat) : Bool := decide (regMask a ≠ 0) || regComputed a

/-- The fields a write would set lie in their stated ranges (R518). Bank, trace and CRC registers are checked by their own rules. -/
def regInRange (a v : Nat) : Bool :=
  if a = 0x2 then decide (1 ≤ fld v 0 5) && decide (fld v 0 5 ≤ 16) && decide (1 ≤ fld v 8 5) && decide (fld v 8 5 ≤ 16)
  else if a = 0x24 then
    decide (fld v 12 4 ≤ 10) && decide (1 ≤ fld v 16 8) && decide (1 ≤ fld v 24 8) && decide (1 ≤ fld v 32 8)
    && decide (2 ≤ fld v 40 7) && decide (fld v 40 7 ≤ 64)
  else if a = 0x25 then
    decide (4 ≤ fld v 0 16) && decide (1 ≤ fld v 16 14) && decide (fld v 16 14 ≤ 10000) && decide (1 ≤ fld v 30 10)
    && decide (fld v 30 10 ≤ 1000) && decide (1 ≤ fld v 40 14) && decide (fld v 40 14 ≤ 10000)
  else if inRange a 0x30 8 then
    decide (fld v 2 8 ≤ 7) || (decide (96 ≤ fld v 2 8) && decide (fld v 2 8 ≤ 99))
  else if a = 0x42 || a = 0x44 then decide (fld v 0 32 ≤ 999999999)
  else if inRange a 0x80 32 then decide (fld v 1 2 ≠ 3)
  else if a = 0x110 then decide (1 ≤ fld v 0 14) && decide (fld v 0 14 ≤ 8192)
  else if a = 0x121 then decide (fld v 0 25 ≤ 16777216)
  else if a = 0x239 then decide (1 ≤ fld v 0 16)
  else if inRange a 0x3100 256 then decide (fld v 0 3 ≤ 4) && decide (1 ≤ fld v 18 4)
  else if inRange a 0x3500 256 then decide (120 ≤ fld v 0 10) && decide (fld v 0 10 ≤ 700)
  else true

/-- Stored bits of a register; the file keeps them as the difference from the reset value. -/
def Ls.reg (s : Ls) (a : Nat) : Nat := (Tbl.get 0 s.regs a).toNat ^^^ regReset a

/-- Set the stored bits of a register. -/
def Ls.setReg (s : Ls) (a v : Nat) : Ls :=
  { s with regs := Tbl.put 0 s.regs a (BitVec.ofNat 64 ((v &&& regMask a) ^^^ regReset a)) }

/-! ## Fields of stored registers -/

/-- LS_BOUNDARY_CFG bit i (R523). -/
def Ls.boundary (s : Ls) (i : Nat) : Bool := bit (s.reg 0x3) i

/-- The frame size code of bank b (R109, R112). -/
def Ls.frameSize (s : Ls) (b : Bool) : Nat := fld (s.reg (0x204 + b2n b)) 16 2

/-- Frame bytes of a size code (R109). -/
def sizeBytes (c : Nat) : Nat := 256 * 2 ^ c

/-- Flits of a size code (R51). -/
def sizeFlits (c : Nat) : Nat := match c with | 0 => 2 | 1 => 3 | 2 => 5 | _ => 9

/-- The servo parameters of LS_SERVO_CFG and LS_SERVO_LIMITS (R183 table, R523). -/
def Ls.servoOf (s : Ls) : Servo :=
  let c := s.reg 0x24
  let l := s.reg 0x25
  { kpShift := fld c 0 4, kiShift := fld c 4 5, lockNs := fld c 16 8, lockCount := fld c 24 8,
    unlockNs := fld l 0 16, unlockCount := fld c 32 8, stepNs := 100 * fld l 16 14, slewPpb := 100 * fld l 30 10,
    lossTicks := fld c 40 7, revertTicks := fld c 48 16, holdoverLimit := 100 * fld l 40 14, echoPeriod := fld c 12 4 }

/-- The station time of LS_STOP_AT or LS_RELEASE_AT, at `lo` and `lo + 1`, in units; bits [15:0] are 0 (R140). -/
def Ls.instantAt (s : Ls) (lo : Nat) : Nat :=
  (unpackTime (put 16 (s.reg lo) + put 80 (s.reg (lo + 1)))).getD 0

/-! ## Reset -/

/-- Sampling state when the main island comes up (R93, R100, R108). -/
def LsSample.init : LsSample :=
  { lclk := 0, lclkAcc := 0, edgeLclk := 0, ctr := [], shadow := [], shadowPrev := [], disc := [], cap := none,
    staged := [], sent := [], pass := 0, unsourced := [], commitFlag := false, restored := true, sensors := [], frozen := 0,
    stretch := [], stallTotal := [], sawReset := false, sawStop := false, sawDrain := false, sawMismatch := false,
    sawShardOverflow := false, sawSensorOff := false, boundaryPrev := 0, statPrev := [], firstEdge := true }

/-- The trace, idle and empty (R126, R131). -/
def LsTrace.init : LsTrace :=
  { st := .idle, cfg := 0, recs := [], captured := 0, overwritten := 0, dropped := 0, postLeft := 0, extra := 0,
    cfgErr := false, trigDropped := false, refused := false, reading := none, pending := false, disarmed := false,
    restart := false, trigNext := false, trigPos := none, k := 0, point := none, fill := none, trigAt := none,
    latch := (none, none, none) }

/-- No snapshot (R132). -/
def LsQsnap.init : LsQsnap :=
  { st := 0, reading := none, pending := none, busy := 0, descs := [], count := 0, startTick := 0, endTick := 0,
    cause := 0, bp := 0, held := false, readAt := 0, causeAt := none }

/-- No drain, stop or release (R137). -/
def LsHalt.init : LsHalt :=
  { drain := 0, drainReq := false, drainAt := 0, drainPending := false, drainHeld := false, lateDrain := false,
    stopGate := false, stopAt := 0, stopArmed := none, relArmed := none, relPending := none, stopLate := false,
    stopUntimed := false, relLate := false, snapDue := false }

/-- Banks at PORST_N (R57, R539). -/
def LsBanks.init : LsBanks :=
  { f0 := .empty, f1 := .empty, fActive := none, fArm := none, fCheck := 0, fEntry := 0, fSwitchErr := false,
    activeWrites := 0, t0 := .empty, t1 := .empty, tArm := none, tCheck := 0, tSlot := 0, tArmErr := false,
    tPrev := none, tSince := 0, frame := none }

/-- The Logbook at PORST_N: buckets full, COMMIT_SEQ all ones (R153, R523). -/
def LsLog.init : LsLog :=
  { recs := [], nextSeq := 0, commitSeq := 0xFFFFFFFF, tokens := [], rateAct := [], rateDrop := [], fullDrop := 0, flushing := false }

/-- The Tablet unit, empty (R371). -/
def LsTab.init : LsTab :=
  { pkts := [], wits := [], suspended := [], shards := [], queue := [], pend := [], results := [], windowDone := false }

/-- Host inputs before the host drives them (log 5). -/
def LsHost.init : LsHost :=
  { chains := [], inReset := false, bundleIdx := 0, bundleAddr := 0, issuedAt := none, stall := 0, present := 0, stopped := 0,
    drainDone := false, mainGood := false }

/-- Pins at reset (log 5). -/
def LsPins.init : LsPins :=
  { selWrite := none, selCommit := none, dig := none, abort := none, poisonAck := none, qsnapReq := none,
    scanEn := false, scanRet := 0, mainPwrReq := false, pwrOffAck := false, pwrOffNak := false }

/-- The Lineside after PORST_N (R88, R390, R399, R522, R523, R539). -/
def Ls.init : Ls :=
  { clk := Clock.init, mainOn := false, inService := false, die := 0, dieValid := false,
    configured := false, regs := [], host := LsHost.init, pins := LsPins.init, smp := LsSample.init,
    lag := ⟨none, none, false, none⟩, banks := LsBanks.init, trace := LsTrace.init, qsnap := LsQsnap.init,
    bp := ⟨0, 0, 0⟩, halt := LsHalt.init, scan := ⟨0, false, 0, 0, 0, 0, 0, false, []⟩, log := LsLog.init,
    tab := LsTab.init, poison := [], slots := [], slotIgnored := 0, fenceHold := false, fenceLow := 0, fenceIgnored := 0,
    crc := [CrcEng.init, CrcEng.init, CrcEng.init, CrcEng.init], istat := [], berrCount := 0, berrLast := 0,
    self := ⟨0, false, 0, 0, 0, 0⟩, aon := ⟨0, [], none, [], []⟩, dbgUnlock := false, dbgWrite := false, dbgCapture := 0,
    timeLatch := none, vc3Last := none, linkDefer := none, cfgWait := none, portA := Port.init true false, portB := Port.init true false }

end Sys2Proof.Machine
end

