-- ==== Sys2Proof/Machine/LsOps.lean ====
section
/-! DEFINITION. Shared operations of the Lineside: register reads, Logbook, alarms, links, time passing, drain, stop, trace and snapshot causes, aborts. -/

namespace Sys2Proof.Machine

/-- The current tick index as a number; all ones while the clock has none (R170, R523). -/
def Ls.tickW (s : Ls) : Nat := s.clk.tickWord.toNat

/-- Link l: false A, true B. -/
def Ls.port (s : Ls) (l : Bool) : Port := if l then s.portB else s.portA

/-- Replace link l. -/
def Ls.setPort (s : Ls) (l : Bool) (p : Port) : Ls := if l then { s with portB := p } else { s with portA := p }

/-- A link is in service only in ACTIVE (R220). -/
def Port.up (p : Port) : Bool := p.st == .active

/-- Apply a change to both links. -/
def Ls.onPorts (s : Ls) (f : Port → Port) : Ls := { s with portA := f s.portA, portB := f s.portB }

/-- Send a message on every link in service (R156). -/
def Ls.sendAll (s : Ls) (tag vc subch : Nat) (b : Bytes) : Ls :=
  s.onPorts (fun p => if p.up then p.sendTag tag vc subch b else p)

/-- Queue a signal on every link in service. -/
def Ls.signalAll (s : Ls) (code arg : Nat) : Ls := s.onPorts (fun p => if p.up then p.signal code arg else p)

/-- The preferred link for read-outs, as the last arm sampled it (R126), or the other one when it is not in service; none when
neither is (R130). -/
def Ls.readoutLink (s : Ls) : Option Bool :=
  let pref := bit s.trace.cfg 5
  if (s.port pref).up then some pref else if (s.port (!pref)).up then some (!pref) else none

/-! ## Scan-out in progress (R82, R145, R146) -/

/-- The unsent bytes of the scan message on its link, without the header (R145). -/
def Ls.scanUnsent (s : Ls) : Bytes :=
  match (s.port s.scan.link).q.find? (fun m => m.tag == 3) with
  | some m => if m.started then m.bytes else m.bytes.drop 32
  | none => []

/-- Shift cycles done since the last (re)start: SCAN_CLK is 1.0 GHz, and a scan stops at a full staging buffer of 8,192 words (R82, R145). -/
def Ls.scanProgress (s : Ls) : Nat :=
  let n := min (s.scan.len - s.scan.shifted) ((s.clk.time - s.scan.startTime) / uNs)
  if s.scan.st = 1 then min n (8192 - (s.scanUnsent.length + 7) / 8) else n

/-- The words of the next n shift cycles. -/
def scanWords (chains : List Word) (n : Nat) : List Word := (List.range n).map (fun i => chains.getD (i % chains.length) 0)

/-- The shift up to now: each word goes to SCAN_RET and back into the chains, and a scan's words join its message; a full staging buffer
lowers SCAN_EN and pauses it (R82, R145). -/
def Ls.scanAdvance (s : Ls) : Ls :=
  if s.scan.st = 1 || s.scan.st = 5 then
    let n := s.scanProgress
    let ws := scanWords s.host.chains n
    let add := fun (m : TxMsg) => if m.tag = 3 then { m with bytes := m.bytes ++ (ws.map (fun w => le 8 w.toNat)).flatten } else m
    let p := s.port s.scan.link
    let s := if s.scan.st = 1 then s.setPort s.scan.link { p with q := p.q.map add } else s
    let s := { s with host := { s.host with chains := s.host.chains.rotateLeft n }
                      pins := { s.pins with scanRet := ws.getLast?.getD s.pins.scanRet }
                      scan := { s.scan with shifted := s.scan.shifted + n, startTime := s.scan.startTime + n * uNs } }
    if s.scan.st = 1 && s.scan.shifted < s.scan.len && 65536 ≤ s.scanUnsent.length then
      { s with scan := { s.scan with st := 2 }, pins := { s.pins with scanEn := false } }
    else s
  else s

/-! ## Register reads (R517, R523) -/

/-- A count as a 64-bit register. -/
def w64 (n : Nat) : Word := BitVec.ofNat 64 n

/-- LS_HALT_STATUS (R523). -/
def Ls.haltStatus (s : Ls) : Nat :=
  let h := s.halt
  h.drain + put 3 (b2n h.drainPending) + put 4 (b2n h.lateDrain) + put 5 (b2n h.stopGate) + put 6 (b2n h.stopArmed.isSome)
  + put 7 (b2n h.relArmed.isSome) + put 8 (b2n h.relPending.isSome) + put 9 (b2n h.stopLate) + put 10 (b2n h.stopUntimed)
  + put 11 (b2n h.relLate)

/-- LS_BOUNDARY_ERR (R523). -/
def Ls.boundaryErr (s : Ls) : Nat := s.berrCount + put 32 s.berrLast

/-- Unflushed records (R158). -/
def LsLog.unflushed (l : LsLog) : Nat := (l.nextSeq + 2 ^ 32 - l.commitSeq - 1) % 2 ^ 32

/-- A CRC engine's LS_CRC_CFG (R415). -/
def CrcCfg.word (c : CrcCfg) : Nat :=
  b2n c.enable + put 1 c.bind + put 3 c.vc + put 5 c.subch + put 7 c.width + put 14 (b2n c.refIn) + put 15 (b2n c.refOut)
  + put 16 (b2n c.order) + put 17 c.feedLen

/-- BUSY of a Lineside engine: a bound message is in progress on either link. -/
def Ls.crcBusy (s : Ls) (e : CrcEng) : Bool := e.busyAt 0 s.portA || e.busyAt 0 s.portB

/-- The engines with a message in progress (R420). -/
def Ls.crcHeld (s : Ls) : List Nat := (List.range s.crc.length).filter (fun i => s.crcBusy (s.crc.getD i CrcEng.init))

/-- LS_TIME_STATUS (R523). -/
def Ls.timeStatus (s : Ls) : Nat :=
  s.clk.st.code + put 2 (b2n (s.clk.source == 2)) + put 3 (b2n s.clk.rootHoldover) + put 32 s.clk.errorNow

/-- LS_LINK_STATUS of a link (R523). -/
def Ls.linkStatus (s : Ls) (l : Bool) : Nat :=
  let p := s.port l
  p.st.code + put 3 (b2n (s.clk.source == 1 + b2n l)) + put 4 (p.retire1s s.clk.up % 256) + put 12 (b2n p.rxMismatch)

/-- The active Timetable bank: the bank in ACTIVE that is not being left (R57, R60). -/
def LsBanks.tActive (b : LsBanks) : Option Bool :=
  if b.t0 == .active && b.tPrev != some false then some false
  else if b.t1 == .active && b.tPrev != some true then some true else none

/-- The standby Timetable bank: the one not ACTIVE, bank 0 with none (R524). -/
def LsBanks.tStandby (b : LsBanks) : Bool := match b.tActive with | some x => !x | none => false

/-- State of a Timetable bank. -/
def LsBanks.tt (b : LsBanks) (i : Bool) : BankSt := if i then b.t1 else b.t0

def LsBanks.setTt (b : LsBanks) (i : Bool) (st : BankSt) : LsBanks := if i then { b with t1 := st } else { b with t0 := st }

/-- The standby frame-map bank (R117, R118). -/
def LsBanks.fStandby (b : LsBanks) : Bool := match b.fActive with | some x => !x | none => false

/-- State of a frame-map bank. -/
def LsBanks.fm (b : LsBanks) (i : Bool) : BankSt := if i then b.f1 else b.f0

def LsBanks.setFm (b : LsBanks) (i : Bool) (st : BankSt) : LsBanks := if i then { b with f1 := st } else { b with f0 := st }

/-- 64 flags of 64 registers' worth of counters: bit k mod 64 of register ⌊k/64⌋. -/
def flagWord (f : Nat → Bool) (r : Nat) : Nat :=
  (List.range 64).foldl (fun a i => a + put i (b2n (f (64 * r + i)))) 0

/-- A register as it stands after every update of the previous LCLK (R517); reads have no effect here. Reserved reads 0 (R516). -/
def Ls.readReg (s : Ls) (a : Nat) : Word :=
  if a = 0x0 then 0x20201
  else if a = 0x1 then w64 (s.die.toNat + put 30 (b2n s.configured) + put 31 (b2n s.dieValid))
  else if a = 0x4 then w64 s.boundaryErr
  else if a = 0x11 then
    w64 (s.self.st + put 2 (b2n s.self.refused) + put 3 s.self.bist.toNat + put 9 s.self.tablet.toNat + put 11 s.self.crc.toNat + put 15 s.self.repaired)
  else if a = 0x12 then w64 (b2n s.dbgUnlock + put 1 (b2n s.dbgWrite))
  else if a = 0x15 then w64 (b2n s.fenceHold + put 1 s.fenceLow.toNat + put 14 s.fenceIgnored)
  else if a = 0x20 then w64 (packTime (capture s.clk.time))
  else if a = 0x21 then (match s.timeLatch with | some v => v | none => w64 (packTime (capture s.clk.time) >>> 64))
  else if a = 0x22 then w64 s.timeStatus
  else if a = 0x23 then s.clk.tickWord
  else if inRange a 0x30 8 then w64 (s.reg a + put 44 (b2n (bit s.aon.beyond.toNat (a - 0x30))))
  else if a = 0x41 then w64 s.haltStatus
  else if a = 0xE0 then w64 s.bp.hit.toNat
  else if a = 0xE1 then w64 s.bp.past.toNat
  else if a = 0x102 then
    let t := s.trace
    w64 (t.st.code + put 2 (b2n t.cfgErr) + put 3 (b2n t.trigDropped) + put 4 (b2n t.refused) + put 5 (b2n t.reading.isSome)
      + put 6 (b2n t.pending) + put 8 t.extra + put 16 t.postLeft)
  else if a = 0x104 then w64 s.trace.captured
  else if a = 0x105 then (match s.trace.latch.1 with | some v => v | none => w64 s.trace.recs.length)
  else if a = 0x106 then (match s.trace.latch.2.1 with | some v => v | none => w64 s.trace.overwritten)
  else if a = 0x107 then (match s.trace.latch.2.2 with | some v => v | none => w64 s.trace.dropped)
  else if a = 0x112 then
    let q := s.qsnap
    w64 (q.st + put 2 (b2n q.reading.isSome) + put 3 (b2n q.pending.isSome) + put 8 q.busy + put 16 q.descs.length)
  else if a = 0x122 then
    let c := s.scanAdvance.scan
    w64 (c.st + put 3 (b2n c.refused) + put 32 c.shifted)
  else if a = 0x132 then w64 (put 1 (b2n s.lag.err) + put 2 (b2n s.lag.armed.isSome) + put 3 (b2n s.lag.anchor.isSome))
  else if inRange a 0x140 64 then w64 (flagWord (fun k => (s.smp.staged.any (fun x => x.1 == k)) || s.smp.sent.any (fun x => x.1 == k)) (a - 0x140))
  else if inRange a 0x180 64 then w64 (flagWord (fun k => Tbl.get false s.smp.unsourced k) (a - 0x180))
  else if a = 0x201 then
    let b := s.banks
    w64 (b2n (b.f0 == .valid || b.f0 == .active) + put 1 (b2n (b.f1 == .valid || b.f1 == .active)) + put 2 (b2n (b.fActive == some true))
      + put 3 (b2n b.fActive.isNone) + put 4 (b2n b.fArm.isSome) + put 5 b.fCheck + put 8 b.fEntry + put 17 (b2n b.fSwitchErr) + put 32 b.activeWrites)
  else if a = 0x211 then
    let b := s.banks
    w64 (b.t0.code + put 3 b.t1.code + put 8 b.tCheck + put 12 b.tSlot + put 24 (b2n b.tArmErr))
  else if inRange a 0x240 8 then
    w64 ((List.range 32).foldl (fun x i => x + put (2 * i) (Tbl.get 0 s.tab.results (32 * (a - 0x240) + i))) 0)
  else if a = 0x250 then w64 (s.linkStatus false)
  else if a = 0x251 then w64 (s.linkStatus true)
  else if inRange a 0x280 32 then
    let e := s.crc.getD ((a - 0x280) / 8) CrcEng.init
    match a % 8 with
    | 0 => w64 e.cfg.word
    | 1 => w64 (e.cfg.poly % 2 ^ e.cfg.width)
    | 2 => w64 (e.cfg.init % 2 ^ e.cfg.width)
    | 3 => w64 (e.cfg.xorOut % 2 ^ e.cfg.width)
    | 4 => w64 (e.value % 2 ^ e.act.width)
    | 5 => w64 e.result
    | 6 => 0
    | _ => w64 (b2n (s.crcBusy e) + put 1 (b2n e.pending) + put 2 (b2n e.cfgErr) + put 8 e.mismatches)
  else if a = 0x303 then w64 s.log.nextSeq
  else if a = 0x304 then w64 s.log.commitSeq
  else if a = 0x305 then w64 s.log.fullDrop
  else if a = 0x306 then w64 s.log.unflushed
  else if inRange a 0x3C0 64 then w64 (Tbl.get 0 s.log.rateDrop (a - 0x3C0))
  else if inRange a 0x2000 4096 then Tbl.get 0 s.smp.ctr (a - 0x2000)
  else if inRange a 0x3000 256 then w64 (s.reg a + put 30 (b2n (s.tab.pend.contains (a - 0x3000))))
  else if inRange a 0x3200 256 then 0
  else if inRange a 0x3500 256 then
    let k := Tbl.get AbortSlot.disarmed s.slots (a - 0x3500)
    w64 (s.reg a + put 10 k.st + put 12 (b2n k.originated) + put 13 (b2n k.late) + put 14 k.low)
  else if inRange a 0x3800 32 then (if a - 0x3800 ≤ 22 then s.portA.stat (a - 0x3800) else 0)
  else if inRange a 0x3820 32 then (if a - 0x3820 ≤ 22 then s.portB.stat (a - 0x3820) else 0)
  else if inRange a 0x3840 64 then Tbl.get 0 s.istat (a - 0x3840)
  else w64 (s.reg a)

/-! ## Logbook (R149 to R156, R538) -/

/-- The die's entity ID (R20). -/
def Ls.entity (s : Ls) : Nat := put 28 1 + s.die.toNat

/-- The addresses of a snapshot list, up to a count; 0xFFFF ends it (R150). -/
def Ls.listRegs (s : Ls) (l : Nat) : Nat → Nat → List Nat
  | _, 0 => []
  | i, n + 1 =>
    let a := fld (s.reg (0x340 + 8 * l + i / 4)) (16 * (i % 4)) 16
    if 28 ≤ i || a = 0xFFFF then [] else a :: Ls.listRegs s l (i + 1) n

/-- A record of 256 bytes (R149): header, words, zero fill. -/
def recordBytes (time : Nat) (utc : BitVec 16) (code : Nat) (untimed junction notLogged : Bool) (source seq tick : Nat) (words : List Word) : Bytes :=
  let ws := words.take 28
  le 12 (packTime (capture time)) ++ le 2 utc.toNat ++ le 1 (code + put 6 (b2n untimed) + put 7 (b2n junction))
  ++ le 1 (ws.length + put 5 (b2n notLogged)) ++ le 4 source ++ le 4 seq ++ le 6 tick ++ le 2 0
  ++ (ws.map (fun w => le 8 w.toNat)).flatten ++ zeros (224 - 8 * ws.length)

/-- Event words followed by the registers of the code's snapshot list (R150), the list in force since the last sample edge (R153). -/
def Ls.recordWords (s : Ls) (code : Nat) (words : List Word) : List Word :=
  let l := fld (Tbl.get 8 s.log.rateAct code).toNat 12 3
  words ++ (s.listRegs l 0 (28 - words.length)).map s.readReg

/-- The bytes a record of this event would have, with a SEQ (R149, R538). -/
def Ls.makeRecord (s : Ls) (code seq : Nat) (notLogged : Bool) (words : List Word) : Bytes :=
  recordBytes s.clk.time s.clk.utcOffset code s.clk.untimed false notLogged s.entity seq s.tickW (s.recordWords code words)

/-- A Logbook message of records from a SEQ (R156). -/
def Ls.logMessage (s : Ls) (seq : Nat) (recs : List Bytes) : Bytes :=
  le 2 4 ++ le 2 recs.length ++ le 4 s.die.toNat ++ le 4 seq ++ le 4 0 ++ recs.flatten

/-- Store a record under the next SEQ and send it on every link in service (R156); the SRAM holds 2,048 records. -/
def Ls.storeRecord (s : Ls) (code : Nat) (words : List Word) : Ls × Bytes :=
  let seq := s.log.nextSeq
  let b := s.makeRecord code seq false words
  let recs := s.log.recs ++ [(seq, b)]
  let s1 := { s with log := { s.log with nextSeq := (seq + 1) % 2 ^ 32, recs := recs.drop (recs.length - 2048) } }
  (s1.sendAll 4 2 0 (s1.logMessage seq [b]), b)

/-- Codes 0x00 and 0x1A to 0x1E are never recorded (R151). -/
def logReserved (c : Nat) : Bool := c == 0 || (decide (0x1A ≤ c) && decide (c ≤ 0x1E))

/-- An event meets its bucket and the full-log rule, and is recorded with the next SEQ (R153, R154, R497); with the main island out of
service the Logbook makes no record (R157). The record's bytes, or those it would have had, are given back for the alarm (R538). -/
def Ls.logEvent (s : Ls) (code : Nat) (words : List Word) : Ls × Bytes :=
  let no := s.makeRecord code 0 true words
  let burst := fld (Tbl.get 8 s.log.rateAct code).toNat 0 8
  let tok := Tbl.get 8 s.log.tokens code
  if logReserved code || burst = 0 || !s.inService then (s, no)
  else if tok = 0 then
    ({ s with log := { s.log with rateDrop := Tbl.put 0 s.log.rateDrop code (sat 16 (Tbl.get 0 s.log.rateDrop code + 1)) } }, no)
  else
    let s := { s with log := { s.log with tokens := Tbl.put 8 s.log.tokens code (tok - 1) } }
    if 256 ≤ s.log.unflushed || bit s.self.bist.toNat 1 then
      ({ s with log := { s.log with fullDrop := sat 32 (s.log.fullDrop + 1) } }, no)
    else s.storeRecord code words

/-- Record an event (R151). -/
def Ls.logE (s : Ls) (code : Nat) (words : List Word) : Ls := (s.logEvent code words).1

/-- Record an event and send it as an alarm detail record on VC1 with an ALARM of a class on every link in service (R207, R538). -/
def Ls.logAlarm (s : Ls) (code : Nat) (words : List Word) (cls : Nat) : Ls :=
  let (s, b) := s.logEvent code words
  (s.sendAll 0 1 0 b).signalAll 5 cls

/-- A configuration check failure (R518). -/
def Ls.checkFail (s : Ls) (a code : Nat) : Ls := s.logE 0x16 [w64 a, w64 code]

/-- LS_BOUNDARY_ERR increases with a cause (R523), code 0x14. -/
def Ls.boundaryError (s : Ls) (cause : Nat) : Ls :=
  let s := { s with berrCount := sat 32 (s.berrCount + 1), berrLast := cause }
  s.logE 0x14 [w64 s.boundaryErr]

/-- Add to integrity statistic i (R526). -/
def Ls.istatAdd (s : Ls) (i n : Nat) : Ls := { s with istat := Tbl.put 0 s.istat i (Tbl.get 0 s.istat i + BitVec.ofNat 64 n) }

/-- Resend from the first unflushed record on one link, 14 records a message (R156); `n` bounds the messages. -/
def Ls.resendLog (s : Ls) (l : Bool) : Nat → List (Nat × Bytes) → Ls
  | 0, _ => s
  | n + 1, rs =>
    match rs with
    | [] => s
    | (seq, _) :: _ =>
      let s := s.setPort l ((s.port l).sendTag 4 2 0 (s.logMessage seq ((rs.take 14).map (·.2))))
      s.resendLog l n (rs.drop 14)

/-- The unflushed records held. -/
def Ls.unflushedRecs (s : Ls) : List (Nat × Bytes) := s.log.recs.filter (fun r => after r.1 s.log.commitSeq)

/-! ## Trace and snapshot causes (R127, R128, R133) -/

/-- A trace trigger: the first in RUNNING enters POST, any other is counted; triggers of one LCLK count as one (R127, R128). -/
def Ls.traceTrigger (s : Ls) : Ls :=
  let t := { s.trace with trigAt := some s.smp.lclk }
  if s.trace.trigAt = some s.smp.lclk then s
  else if t.st = .running then { s with trace := { t with st := .post, trigNext := true, postLeft := fld t.cfg 8 15 } }
  else { s with trace := { t with extra := sat 8 (t.extra + 1) } }

/-- Start a snapshot (R132, R133). -/
def Ls.qsnapStart (s : Ls) (cause bp : Nat) : Ls :=
  { s with
    qsnap := { s.qsnap with st := 1, reading := none, pending := none, descs := [], count := fld (s.reg 0x110) 0 14,
                            startTick := s.tickW, endTick := 0, cause := cause, bp := bp,
                            held := s.halt.stopGate || s.host.drainDone, readAt := s.smp.lclk, causeAt := some (s.smp.lclk, true) }
    pins := { s.pins with qsnapReq := some 0 } }

/-- A snapshot cause is ignored and counted (R133, R497, R523). -/
def Ls.qsnapBusy (s : Ls) : Ls :=
  { s with qsnap := { s.qsnap with busy := sat 8 (s.qsnap.busy + 1), causeAt := some (s.smp.lclk, false) } }

/-- A further cause of the LCLK that started or latched a snapshot: the first listed cause stands (R133). -/
def LsQsnap.join (q : LsQsnap) (cause bp : Nat) : LsQsnap :=
  match q.pending with
  | some (c, _) => if cause < c then { q with pending := some (cause, bp) } else q
  | none => if cause < q.cause then { q with cause := cause, bp := bp } else q

/-- A snapshot cause: ignored and counted while one is taken or unread, latched during read-out, else it starts; causes of one LCLK are
one (R133, R497, R523). -/
def Ls.qsnapCause (s : Ls) (cause bp : Nat) : Ls :=
  let q := s.qsnap
  if q.causeAt = some (s.smp.lclk, true) then { s with qsnap := q.join cause bp }
  else if q.causeAt = some (s.smp.lclk, false) then s
  else if !s.boundary 4 || bit s.self.bist.toNat 2 then s.qsnapBusy
  else if q.reading.isSome then
    (if q.pending.isSome then s else { s with qsnap := { q with pending := some (cause, bp), causeAt := some (s.smp.lclk, true) } })
  else if q.st = 1 || q.st = 2 then s.qsnapBusy
  else s.qsnapStart cause bp

/-- The read-out has ended: a cause latched during it starts (R133). -/
def Ls.qsnapPending (s : Ls) : Ls :=
  match s.qsnap.pending with | some (c, b) => s.qsnapStart c b | none => s

/-! ## Drain, stop and release (R86, R137 to R144) -/

/-- Raise DRAIN_REQ (R137). -/
def Ls.drainStart (s : Ls) : Ls :=
  { s with halt := { s.halt with drain := 1, drainReq := true, drainAt := s.smp.lclk, drainPending := false, drainHeld := false } }

/-- A drain is asked for (R86, R136, R137, R139, R523): disabled, it ends in TIMEOUT at once; while STOP_GATE is high it is
held; a drain already requested changes nothing; one asked for before IDLE is latched as PENDING, but a drain that a stop or a host
reset has ended and whose DRAIN_DONE is low hinders none. -/
def Ls.drainCause (s : Ls) : Ls :=
  if !s.boundary 7 then { s with halt := { s.halt with drain := 3 } }
  else if s.halt.stopGate then (if s.halt.drainReq then s else { s with halt := { s.halt with drainHeld := true } })
  else if s.halt.drainReq then s
  else if s.halt.drain = 0 || !s.host.drainDone then s.drainStart
  else { s with halt := { s.halt with drainPending := true } }

/-- Raise STOP_GATE; a stop while it is high changes nothing (R86, R127, R133, R140 to R143). DESIGN CHOICE (log 83): only a drain in
DRAINING is superseded, not one in TIMEOUT with DRAIN_REQ still high. Source: 0 signal, 1 register, 2 armed. -/
def Ls.raiseStop (s : Ls) (source : Nat) (late untimed : Bool) : Ls :=
  if s.halt.stopGate then s
  else
    let h := s.halt
    let h := if h.drain = 1 then { h with drain := 4, drainReq := false } else h
    let h := { h with stopGate := true, stopAt := s.smp.lclk, stopLate := h.stopLate || late, stopUntimed := h.stopUntimed || untimed,
                      snapDue := s.inService && bit (s.reg 0x110) 17 }
    let s := { s with halt := h }
    let s := if s.inService && bit s.trace.cfg 6 then s.traceTrigger else s
    let ws := [w64 (source + put 2 (b2n late) + put 3 (b2n untimed))]
    if late then s.logAlarm 6 ws 3 else s.logE 6 ws

/-- Lower STOP_GATE, or latch the release while a shift is in progress; a release while it is low changes nothing (R144). A
drain held until release then starts (R86). -/
def Ls.lowerStop (s : Ls) (armed : Bool) : Ls :=
  if !s.halt.stopGate then s
  else if s.scan.st = 1 || s.scan.st = 2 || s.scan.st = 5 then { s with halt := { s.halt with relPending := some (b2n armed) } }
  else
    let s := { s with halt := { s.halt with stopGate := false, relPending := none } }
    let s := s.logE 7 [w64 (b2n armed)]
    if s.halt.drainHeld then ({ s with halt := { s.halt with drainHeld := false } }).drainCause else s

/-! ## Aborts at the Lineside (R205, R206, R397, R399 to R402) -/

/-- The abort grid of 250 ns, in units (R206). -/
def abortGrid : Nat := 250 * 65536

/-- The smallest grid point of the fleet epoch at or after an instant (R397). -/
def gridAtOrAfter (epoch u : Nat) : Nat := epoch + cdiv (u - epoch) abortGrid * abortGrid

/-- The grid index modulo 32 of a grid point (R206). -/
def gridLow (epoch g : Nat) : Nat := ((g - epoch) / abortGrid) % 32

/-- The grid point with INSTANT `low` and r − 0.5 us ≤ g < r + 7.5 us (R206). -/
def gridOf (epoch r low : Nat) : Nat :=
  let first := (r - 500 * 65536 - epoch + (abortGrid - 1)) / abortGrid
  let d := (low + 32 - first % 32) % 32
  epoch + (first + d) * abortGrid

/-- The epoch the abort grid is counted from (R167, R206). -/
def Clock.gridEpoch (c : Clock) : Nat := c.epoch.getD 0

/-- A group slot. -/
def Ls.slot (s : Ls) (g : Nat) : AbortSlot := Tbl.get AbortSlot.disarmed s.slots g

def Ls.setSlot (s : Ls) (g : Nat) (k : AbortSlot) : Ls := { s with slots := Tbl.put AbortSlot.disarmed s.slots g k }

/-- Originate an abort of slot g, detected now (R366, R397, R400): only an ARMED slot does. -/
def Ls.originate (s : Ls) (g : Nat) : Ls :=
  let k := s.slot g
  if k.st ≠ 1 then s
  else
    let e := s.clk.gridEpoch
    let i := gridAtOrAfter e (s.clk.time + 10 * uNs * fld (s.reg (0x3500 + g)) 0 10)
    let low := gridLow e i
    let s := s.setSlot g { k with st := 2, originated := true, low := low, instant := i }
    s.signalAll 1 (put 5 g + low)

/-- Pulse ABORT_PULSE for slot g and enter ABORTED (R402). -/
def Ls.pulse (s : Ls) (g : Nat) (late : Bool) : Ls :=
  let grp := fld (s.reg (0x3000 + g)) 0 28
  let k := s.slot g
  let s := s.setSlot g { k with st := 3, late := k.late || late }
  { s with pins := { s.pins with abort := some (s.smp.lclk, BitVec.ofNat 28 grp) } }.logE 0x10 [w64 grp]

/-! ## Link states at the Lineside (R130, R131, R134, R146, R151, R222) -/

/-- A scan whose link leaves service pauses; the words not sent stay in the staging buffer (R145, R146). -/
def Ls.scanUnlink (s : Ls) (l : Bool) : Ls :=
  if s.scan.link = l && (s.scan.st = 1 || s.scan.st = 2 || s.scan.st = 3) && (s.port l).q.any (fun m => m.tag == 3) then
    let s := s.scanAdvance
    { s with scan := { s.scan with st := if s.scan.st = 1 then 2 else s.scan.st, kept := s.scanUnsent }, pins := { s.pins with scanEn := false } }
  else s

/-- A link left service: its read-outs are abandoned, and a snapshot cause latched during one starts (R131, R133, R134). -/
def Ls.linkLost (s : Ls) (l : Bool) : Ls :=
  let s := if s.trace.reading = some l then { s with trace := { s.trace with reading := none } } else s
  let s := if s.qsnap.reading = some l then ({ s with qsnap := { s.qsnap with reading := none } }).qsnapPending else s
  let p := s.port l
  s.setPort l { p with q := p.q.filter (fun m => m.tag == 0) }

/-- Put a link's new state in place: a change of state records 0x0B, a retirement 0x0C (R151, R223); leaving service has
the effects of R131, R134 and R146. -/
def Ls.linkMoved (s : Ls) (l : Bool) (p : Port) : Ls :=
  let old := (s.port l).st
  let s := (if old = .active && p.st ≠ old then s.scanUnlink l else s).setPort l p
  if p.st = old then s
  else
    let s := if old = .active then s.linkLost l else s
    let s := s.logE 0x0B [w64 (b2n l + put 4 old.code + put 8 p.st.code)]
    if p.st = .retired then s.logE 0x0C [w64 (b2n l)] else s

end Sys2Proof.Machine
end

