-- ==== Sys2Proof/Machine/LsFrame.lean ====
section
/-! DEFINITION. Frames of the Lineside: frame maps and their checks, field kinds, flags, the Timetable banks and their checks (R47 to R50, R62, R101 to R119, R372, R524, R539). -/

namespace Sys2Proof.Machine

/-! ## The frame map (R112 to R116) -/

/-- An entry of a frame map (R112). -/
structure MapEntry where
  kind : Nat
  width : Nat
  index : Nat
  shift : Nat
  rest : Nat
deriving DecidableEq, Repr

/-- The entry a 32-bit word spells (R112). -/
def mapEntry (v : Nat) : MapEntry := ⟨fld v 0 4, fld v 4 2, fld v 6 12, fld v 18 6, fld v 24 8⟩

/-- Bytes of an entry's field (R112). -/
def MapEntry.bytes (e : MapEntry) : Nat := 2 ^ e.width

/-- The width codes a kind permits (R114). -/
def kindWidths (k : Nat) : List Nat :=
  match k with
  | 2 => [2] | 3 => [0, 1, 2] | 4 => [1, 2] | 7 => [2] | 8 => [3] | _ => [0, 1, 2, 3]

/-- The largest index of a kind (R114). -/
def kindMax (k : Nat) : Nat :=
  match k with
  | 0 => 4095 | 1 => 4095 | 2 => 167 | 3 => 15 | 4 => 15 | 9 => 0 | _ => 63

/-- Where a field begins: the next offset that is a multiple of its width (R113). -/
def fieldStart (off w : Nat) : Nat := cdiv off w * w

/-- Check 2 to 4 of an entry, then its packed end (R116): the code that fails, 0 for none. -/
def entryCheck (size : Nat) (off : Nat) (e : MapEntry) : Nat :=
  if 9 < e.kind || e.rest ≠ 0 then 2
  else if !(kindWidths e.kind).contains e.width || (e.kind = 2 && e.shift ≠ 0) then 3
  else if kindMax e.kind < e.index then 4
  else if size - 8 < fieldStart off e.bytes + e.bytes then 6
  else 0

/-- The first entry that fails, by number, with its code (R116). -/
def entriesCheck (size : Nat) : Nat → Nat → List MapEntry → Option (Nat × Nat)
  | _, _, [] => none
  | i, off, e :: t =>
    let c := entryCheck size off e
    if c ≠ 0 then some (c, i) else entriesCheck size (i + 1) (fieldStart off e.bytes + e.bytes) t

/-- Check 5: the lowest-indexed shard entry whose slot is not used by the other kind, or is at or above the first free slot (R116). -/
def shardCheck (es : List MapEntry) : Option Nat :=
  let used := fun k slot => es.any (fun e => e.kind == k && e.index == slot)
  let K := ((List.range 65).find? (fun k => !(used 7 k) && !(used 8 k))).getD 64
  (List.range es.length).find? (fun i =>
    match es[i]? with
    | some e => (e.kind == 7 && (!(used 8 e.index) || decide (K ≤ e.index))) || (e.kind == 8 && (!(used 7 e.index) || decide (K ≤ e.index)))
    | none => false)

/-- The entries of a frame-map bank (R112). -/
def Ls.mapEntries (s : Ls) (b : Bool) : List MapEntry :=
  let n := fld (s.reg (0x204 + b2n b)) 18 9
  (List.range (min n 480)).map (fun i => mapEntry (s.reg ((if b then 0x600 else 0x400) + i)))

/-- The result of validating a bank: check code and entry (R116). -/
def Ls.frameCheck (s : Ls) (b : Bool) : Nat × Nat :=
  let n := fld (s.reg (0x204 + b2n b)) 18 9
  if n = 0 || 480 < n then (1, 0)
  else
    let es := s.mapEntries b
    match entriesCheck (sizeBytes (s.frameSize b)) 0 0x60 es with
    | some r => r
    | none => match shardCheck es with | some i => (5, i) | none => (0, 0)

/-- LS_FRAME_CTRL.VALIDATE on the standby bank (R116). -/
def Ls.frameValidate (s : Ls) : Ls :=
  let b := s.banks.fStandby
  let (c, e) := s.frameCheck b
  { s with banks := { (s.banks.setFm b (if c = 0 then .valid else .invalid)) with fCheck := c, fEntry := e } }

/-! ## Timetable banks of the Lineside (R524) -/

/-- The class of a slot in a class map at `base` (R523). -/
def Ls.ttClass (s : Ls) (base k : Nat) : Nat := fld (s.reg (base + k / 32)) (2 * (k % 32)) 2

/-- LS_TT_OWN entries of a bank: slot, flit index, valid (R523). -/
def Ls.ttOwn (s : Ls) (b : Bool) : List (Nat × Nat × Bool) :=
  (List.range 9).map (fun i => let v := s.reg (0x218 + 16 * b2n b + i); (fld v 0 12, fld v 12 4, bit v 16))

/-- The bases of a bank's class maps. -/
def ttTx (b : Bool) : Nat := 0x800 + 128 * b2n b
def ttRx (b : Bool) : Nat := 0x900 + 128 * b2n b

/-- The headway step of a bank. -/
def Ls.ttStep (s : Ls) (b : Bool) : Nat := fld (s.reg (0x214 + b2n b)) 44 7

/-- Slack count and spacing of R50 on a grid of S slots that runs on across ticks; `n` slots of slack needed. -/
def slackOk (slack : Nat → Bool) (S : Nat) : Bool :=
  let at? := (List.range S).filter slack
  let gaps := (List.zip at? (at?.drop 1)).all (fun x => decide (x.2 - x.1 ≤ 64))
  match at?, at?.getLast? with
  | f :: _, some l => decide (max 4 (cdiv S 32) ≤ at?.length) && gaps && decide (f + S - l ≤ 64)
  | _, _ => false

/-- The first failing check of a bank and the offending slot (R524). -/
def Ls.ttCheck (s : Ls) (b : Bool) : Nat × Nat :=
  let cfg := s.reg (0x214 + b2n b)
  let step := fld cfg 44 7
  let planP := bit cfg 51
  let S := slotsOf false step
  let own := (s.ttOwn b).filter (fun x => x.2.2)
  let txOwned := (List.range S).filter (fun k => s.ttClass (ttTx b) k == 1)
  let rxOwned := (List.range S).filter (fun k => s.ttClass (ttRx b) k == 1)
  let flits := sizeFlits (s.frameSize s.banks.fStandby)
  if 124 < step || (planP == planS step) || (bit cfg 52 && !planP) then (1, 0)
  else
    match (List.range (3136 - S)).find? (fun i => s.ttClass (ttTx b) (S + i) ≠ 0 || s.ttClass (ttRx b) (S + i) ≠ 0) with
    | some i => (2, S + i)
    | none =>
      if !(own.all (fun x => txOwned.contains x.1)) || !(txOwned.all (fun k => (own.filter (fun x => x.1 == k)).length == 1))
          || own.length ≠ flits || !((List.range flits).all (fun i => (own.filter (fun x => x.2.1 == i)).length == 1)) then
        (3, ((own.find? (fun x => !txOwned.contains x.1)).map (·.1)).getD (txOwned.headD 0))
      else match txOwned.find? (fun k => decide (k < 13)) with
        | some k => (4, k)
        | none =>
          if rxOwned ≠ [fld cfg 32 12] then (5, rxOwned.headD 0)
          else if !slackOk (fun k => decide (2 ≤ s.ttClass (ttTx b) k)) S || !slackOk (fun k => decide (2 ≤ s.ttClass (ttRx b) k)) S then (6, 0)
          else (0, 0)

/-- LS_TT_CTRL.VALIDATE (R524). A bank armed before is no longer armed when it fails. -/
def Ls.ttValidate (s : Ls) : Ls :=
  let b := s.banks.tStandby
  let (c, k) := s.ttCheck b
  let old := s.banks.tt b
  let st := if c = 0 then (if old = .armed then .armed else .valid) else .invalid
  { s with banks := { (s.banks.setTt b st) with tCheck := c, tSlot := k, tArm := if c = 0 then s.banks.tArm else none } }

/-- LS_TT_CTRL.ARM (R524). -/
def Ls.ttArm (s : Ls) : Ls :=
  let b := s.banks.tStandby
  let m := s.reg 0x212
  let st := s.banks.tt b
  if (st = .valid || st = .armed) && s.clk.tick.isSome && s.clk.tick.getD 0 + 1 < m then
    { s with banks := { (s.banks.setTt b .armed) with tArm := some m } }
  else { s with banks := { s.banks with tArmErr := true } }

/-- LS_TT_CTRL.CANCEL (R524). -/
def Ls.ttCancel (s : Ls) : Ls :=
  let b := s.banks.tStandby
  if s.banks.tt b = .armed then { s with banks := { (s.banks.setTt b .valid) with tArm := none } } else s

/-- The frame size whose flits the active Timetable bank owns (R118): none when no bank is ACTIVE. -/
def Ls.ownedFlits (s : Ls) : Option Nat :=
  s.banks.tActive.map (fun b => ((s.ttOwn b).filter (fun x => x.2.2)).length)

/-- The standby map has the frame size whose flits the active Timetable bank owns; without an active bank any size will do (R118). -/
def Ls.frameSizeOk (s : Ls) : Bool :=
  match s.ownedFlits with | some n => sizeFlits (s.frameSize s.banks.fStandby) == n | none => true

/-- LS_FRAME_CTRL.ARM_SWITCH (R118). -/
def Ls.frameArm (s : Ls) : Ls :=
  let m := s.reg 0x202
  let late := match s.clk.tick with | some n => decide (m ≤ n + 1) | none => true
  if !s.frameSizeOk || late then { s with banks := { s.banks with fSwitchErr := true } }
  else { s with banks := { s.banks with fArm := some m } }

/-- LS_FRAME_CTRL.CANCEL_SWITCH (R118). -/
def Ls.frameCancel (s : Ls) : Ls := { s with banks := { s.banks with fArm := none } }

/-- The standby frame map becomes active when it is VALID, otherwise no map is (R118). -/
def LsBanks.switchFrame (b : LsBanks) : LsBanks :=
  let sb := b.fStandby
  let old := b.fActive
  let b := match old with | some x => b.setFm x .valid | none => b
  if b.fm sb = .valid then { (b.setFm sb .active) with fActive := some sb } else { b with fActive := none }

/-- A standalone switch whose tick has come (R118): a standby map that has taken another SIZE since the arm is refused with SWITCH_ERR.
With a Timetable switch at the same tick the standby map has gone in already, once. -/
def Ls.frameSwitchDue (s : Ls) (n : Nat) (done : Bool) : Ls :=
  match s.banks.fArm with
  | some m =>
    if n < m then s
    else if done then { s with banks := { s.banks with fArm := none } }
    else if s.frameSizeOk then { s with banks := { s.banks.switchFrame with fArm := none } }
    else { s with banks := { s.banks with fArm := none, fSwitchErr := true } }
  | none => s

/-- A Timetable switch is armed for tick n or an earlier one. -/
def LsBanks.tDue (b : LsBanks) (n : Nat) : Bool := match b.tArm with | some m => decide (m ≤ n) | none => false

/-- The Timetable switch at tick n (R60, R118): the ARMED bank becomes ACTIVE, the standby frame map with it, and E is
rebased; the previous bank is VALID one edge later. -/
def Ls.ttSwitchDue (s : Ls) (n : Nat) : Ls :=
  let s := match s.banks.tPrev with
    | some x => { s with banks := { (s.banks.setTt x .valid) with tPrev := none } }
    | none => s
  match s.banks.tArm with
  | some m =>
    if m ≤ n then
      let sb := s.banks.tStandby
      let prev := s.banks.tActive
      let step := s.ttStep sb
      { s with banks := { ((s.banks.setTt sb .active).switchFrame) with tArm := none, tPrev := prev, tSince := n },
               clk := s.clk.rebase n step }
    else s
  | none => s

/-- Slots per tick on a Lineside link. -/
def Ls.slotCount (s : Ls) : Nat := slotsOf false s.clk.headway

/-- The entry of transmit slot k (R47, R62, R523). -/
def Ls.txEntry (s : Ls) (k : Nat) : SlotEntry :=
  match s.banks.tActive with
  | none => bootSlot false s.slotCount k
  | some b =>
    let c := s.ttClass (ttTx b) k
    if c = 1 then
      let idx := ((s.ttOwn b).find? (fun x => x.1 == k && x.2.2)).map (fun x => x.2.1)
      ⟨1, fld (s.reg (0x214 + b2n b)) 0 16, idx.getD 0⟩
    else ⟨c, 0, 0⟩

/-- The owned receive slot to check in the slot grid of a tick: only by a bank that was ACTIVE then (R60, R65, R67), and never on the
bootstrap pattern, whose stream is 0xFFFF (R62, log 50). -/
def Ls.rxEntry (s : Ls) (k grid : Nat) : Option SlotEntry :=
  (if s.banks.tSince ≤ grid then s.banks.tActive else s.banks.tPrev).bind (fun b =>
    let id := fld (s.reg (0x214 + b2n b)) 16 16
    if id = 0xFFFF then none else some (if s.ttClass (ttRx b) k = 1 then ⟨1, id, 0⟩ else ⟨0, 0, 0⟩))

/-- The TICK_OFFSET of the frame stream (R53). -/
def Ls.txOffset (s : Ls) : Nat :=
  match s.banks.tActive with | some b => b2n (bit (s.reg (0x214 + b2n b)) 52) | none => 0

/-! ## Fields of a frame (R101, R102, R104 to R110, R114, R372) -/

/-- Lag of tick n from an anchor (R104): the signed difference before clamping. -/
def lagDiff (bundle elapsed actual : Nat) : Int :=
  let expected : Nat := (bundle + elapsed) % 2 ^ 48
  let diff : Nat := (expected + 2 ^ 48 - actual) % 2 ^ 48
  if 2 ^ 47 ≤ diff then (diff : Int) - 2 ^ 48 else diff

/-- LAG of a capture: value, clamped, valid (R104, R105). -/
def LsCap.lag (c : LsCap) : Int × Bool × Bool :=
  match c.anchor with
  | some (_, b, l) =>
    if c.sawReset then (0, false, false)
    else
      let d := lagDiff b (c.edge - l) c.bundle
      let v := clampI (-(2 ^ 31)) (2 ^ 31 - 1) d
      (v, decide (v ≠ d), true)
  | none => (0, false, false)

/-- LAG_DELTA: none where it is not defined (R106). -/
def lagDelta (now : Int × Bool × Bool) (last : Option Int) : Option Int :=
  match last with
  | some p => if now.2.2 && !now.2.1 then some (now.1 - p) else none
  | none => none

/-- Sensor status code and value (R101). DESIGN CHOICE (log 84): with the sensor bus disabled a channel is DISABLED, as R101 and the
LS_BOUNDARY_CFG table say; R92 names STALE. -/
def LsCap.sensorField (p : LsCap) (c : Nat) : Nat :=
  if !p.sensorsOn then put 16 3
  else
    let x := Tbl.get ⟨0, false, false⟩ p.sensors c
    x.value.toNat + put 16 (if !x.fresh then 1 else if x.err then 2 else 0)

/-- Link statistic s, 0 to 63 (R525). -/
def Ls.linkStat (s : Ls) (i : Nat) : Nat :=
  if 22 < i % 32 then 0 else ((if i < 32 then s.portA.stat i else s.portB.stat (i - 32))).toNat

/-- Statistics 0 to 63 link, 64 to 127 integrity. -/
def Ls.anyStat (s : Ls) (i : Nat) : Nat := if i < 64 then s.linkStat i else (Tbl.get 0 s.istat (i - 64)).toNat

/-- The increase of a statistic over the counting interval (R114). -/
def Ls.statDelta (s : Ls) (i : Nat) : Nat :=
  (s.anyStat i + 2 ^ 64 - (Tbl.get 0 s.smp.statPrev i).toNat) % 2 ^ 64

/-- A value limited to the largest of w bits (R114). -/
def limit (w v : Nat) : Nat := min v (2 ^ w - 1)

/-- Counter k is discontinuous for the tick (R100). -/
def LsCap.discontinuous (c : LsCap) (k : Nat) : Bool := c.first || c.disc.contains k

/-- Counter k is unsourced in the tick (R100). -/
def LsCap.unsrc (c : LsCap) (k : Nat) : Bool := Tbl.get false c.unsourced k

/-- The content of a field, from the set captured at e_n (R94, R114, R115). -/
def Ls.fieldValue (s : Ls) (c : LsCap) (e : MapEntry) : Nat :=
  let w := 8 * e.bytes
  let sh := fun v => v >>> e.shift
  match e.kind with
  | 0 => if c.unsrc e.index then 2 ^ w - 1 else sh (Tbl.get 0 s.smp.shadow e.index).toNat % 2 ^ w
  | 1 =>
    if c.unsrc e.index || c.discontinuous e.index then 2 ^ w - 1
    else
      let d := ((Tbl.get 0 s.smp.shadow e.index).toNat + 2 ^ 64 - (Tbl.get 0 s.smp.shadowPrev e.index).toNat) % 2 ^ 64
      min (sh d) (2 ^ w - 2)
  | 2 => c.sensorField e.index
  | 3 => limit w (sh (Tbl.get 0 c.stretch e.index))
  | 4 => limit w (sh (Tbl.get 0 c.stallTotal e.index))
  | 5 => limit w (sh (Tbl.get 0 c.stats e.index))
  | 6 => limit w (sh (Tbl.get 0 c.stats (64 + e.index)))
  | 7 => match c.shards[e.index]? with | some x => x.1 | none => 0
  | 8 => match c.shards[e.index]? with | some x => x.2.toNat | none => 0
  | _ => 0

/-- Fields packed from an offset: each at the next multiple of its width, zeros between (R113). -/
def Ls.packFields (s : Ls) (c : LsCap) : Nat → List MapEntry → Bytes
  | _, [] => []
  | off, e :: t =>
    let o := fieldStart off e.bytes
    zeros (o - off) ++ le e.bytes (s.fieldValue c e) ++ s.packFields c (o + e.bytes) t

/-- Shard slots of a map: slots used run from 0 (R115, R116). -/
def shardSlots (es : List MapEntry) : Nat := ((es.filter (fun e => e.kind == 8)).map (·.index)).eraseDups.length

/-- FLAGS of the tick that ends at e_n, without LAG_INVALID and LAG_SAT (R110). -/
def Ls.frameFlags (s : Ls) : Nat :=
  b2n s.clk.untimed + put 1 (b2n s.smp.sawReset) + put 2 (b2n s.smp.sawStop) + put 3 (b2n s.smp.sawDrain)
  + put 6 (b2n s.smp.commitFlag) + put 7 (b2n s.smp.restored) + put 8 (b2n s.fenceHold) + put 9 (b2n s.portA.up)
  + put 10 (b2n s.portB.up) + put 11 (b2n s.smp.sawMismatch) + put 12 (b2n s.smp.sawSensorOff)
  + put 13 (b2n s.smp.sawShardOverflow) + put 14 (b2n (decide (s.smp.boundaryPrev < s.berrCount)))

/-- LAG_INVALID and LAG_SAT (R110). -/
def lagFlags (lag : Int × Bool × Bool) (delta : Option Int) : Nat :=
  put 4 (b2n (!lag.2.2 || (delta.isNone && !lag.2.1))) + put 5 (b2n lag.2.1)

/-- FROZEN: every bit with HOST_IN_RESET high in the interval (R86, R102). -/
def LsCap.frozenBits (c : LsCap) : Nat := if c.sawReset then 2 ^ 16 - 1 else c.frozen.toNat

/-- STRETCHED: regions with at least one stretch pulse in the interval (R102). -/
def LsCap.stretched (c : LsCap) : Nat := (List.range 16).foldl (fun a j => a + put j (b2n (decide (Tbl.get 0 c.stretch j ≠ 0)))) 0

/-- The 96 bytes of the fixed part (R109). -/
def Ls.frameFixed (s : Ls) (c : LsCap) (b : Bool) (delta : Option Int) : Bytes :=
  let cfg := s.reg (0x204 + b2n b)
  let lag := c.lag
  le 8 c.tick ++ le 4 s.die.toNat ++ le 4 c.fence ++ le 2 (fld cfg 0 16) ++ le 1 (fld cfg 16 2) ++ le 1 (b2n b)
  ++ le 4 (c.flags + lagFlags lag delta)
  ++ le 4 (unsigned 32 (if lag.2.2 then lag.1 else 0)) ++ le 4 (unsigned 32 (delta.getD 0))
  ++ le 8 c.bundle ++ le 2 c.frozenBits ++ le 2 c.stretched ++ le 4 c.perTick
  ++ le 2 c.backlog ++ zeros 14 ++ le 32 c.stall.toNat

/-- A frame: fixed part, fields, zero fill, FIELD_COUNT, CRC (R109 to R113). -/
def Ls.frameBytes (s : Ls) (c : LsCap) (b : Bool) (delta : Option Int) : Bytes :=
  let es := s.mapEntries b
  let size := sizeBytes (s.frameSize b)
  let all := fit (size - 8) (s.frameFixed c b delta ++ s.packFields c 0x60 es) ++ le 2 es.length ++ le 2 0
  all ++ le 4 (crcOf crc32 all)

/-- The Lineside is ready as far as it can tell (R500): self-test ended and CONFIGURED. -/
def Ls.ready (s : Ls) : Bool := s.inService && (s.self.st == 2 || s.self.st == 3) && s.configured

/-- The frame slots of tick n carry a frame and not VOID flits (R46, R119, R500, R539). -/
def Ls.shipsFrame (s : Ls) : Bool := s.ready && !s.smp.firstEdge && s.banks.fActive.isSome && s.banks.tActive.isSome && s.clk.tick.isSome

/-! ## Breakpoints (R135, R136) -/

/-- A comparator fires: HIT and ONESHOT (R136). -/
def Ls.bpFire (s : Ls) (i : Nat) : Ls :=
  let c := s.reg (0x80 + i)
  let s := { s with bp := { s.bp with hit := BitVec.ofNat 32 (s.bp.hit.toNat ||| put i 1) } }
  if bit c 20 then s.setReg (0x80 + i) (c - c % 2) else s

/-- Comparators that fire in one LCLK combine into one drain, one trace trigger and one snapshot cause, and one Logbook event each; the
records see what the LCLK wrote (R136, R150). Trigger and cause of other comparators of the LCLK count with these (R128, R133). -/
def Ls.bpActions (s : Ls) (fired : List Nat) : Ls :=
  let cfgs := fired.map (fun i => (i, s.reg (0x80 + i)))
  let s := fired.foldl (fun s i => s.bpFire i) s
  let s := if cfgs.any (fun c => bit c.2 16) then s.drainCause else s
  let s := if cfgs.any (fun c => bit c.2 17) then s.traceTrigger else s
  let s := match cfgs.find? (fun c => bit c.2 18) with
    | some c => s.qsnapCause 1 c.1
    | none => s
  (cfgs.filter (fun c => bit c.2 19)).foldl (fun s c => s.logE 3 [w64 c.1, w64 (s.reg (0xA0 + c.1))]) s

/-- Enabled comparators of a type (R135). -/
def Ls.bpOf (s : Ls) (ty : Nat) : List Nat :=
  (List.range 32).filter (fun i => bit (s.reg (0x80 + i)) 0 && fld (s.reg (0x80 + i)) 1 2 == ty)

/-- Event-count comparators after a change of counters (R135): those that rise to their value fire. -/
def Ls.bpCounts (s : Ls) : Ls :=
  let on := s.bpOf 2
  let high := on.filter (fun i => decide (s.reg (0xA0 + i) ≤ (Tbl.get 0 s.smp.ctr (fld (s.reg (0x80 + i)) 3 12)).toNat))
  let fired := high.filter (fun i => !(bit s.bp.high.toNat i))
  let s := { s with bp := { s.bp with high := BitVec.ofNat 32 (high.foldl (fun a i => a + put i 1) 0) } }
  s.bpActions fired

/-- Tick comparators at e_n: those whose value is n fire (R135). -/
def Ls.bpTicks (s : Ls) (n : Nat) : Ls :=
  s.bpActions ((s.bpOf 1).filter (fun i => decide (s.reg (0xA0 + i) = n)))

/-- A tick comparator enabled at or after its edge never fires: PAST (R135). -/
def Ls.bpPast (s : Ls) (i : Nat) : Ls :=
  if bit (s.reg (0x80 + i)) 0 && fld (s.reg (0x80 + i)) 1 2 = 1 then
    match s.clk.tick with
    | some n => if s.reg (0xA0 + i) ≤ n then { s with bp := { s.bp with past := BitVec.ofNat 32 (s.bp.past.toNat ||| put i 1) } } else s
    | none => s
  else s

/-! ## The sample edge (R94 to R98, R104 to R119, R127, R135, R153, R172) -/

/-- Tokens of every code at a sample edge, before any event (R153): a written rate comes into force, and one token is
added where PERIOD selects the tick. -/
def Ls.addTokens (s : Ls) (n : Nat) : Ls :=
  let upd := fun (l : LsLog) (c : Nat) =>
    let new := s.reg (0x380 + c)
    let burst := fld new 0 8
    let t := min (Tbl.get 8 l.tokens c) burst
    let t := if n % 2 ^ (fld new 8 4) = 0 && t < burst then t + 1 else t
    { l with rateAct := Tbl.put 8 l.rateAct c (w64 new), tokens := Tbl.put 8 l.tokens c t }
  { s with log := (List.range 64).foldl upd s.log }

/-- An armed anchor whose tick has come: it latches the LCLK count of the edge, or is discarded in host reset (R104, R105). -/
def Ls.anchorDue (s : Ls) (n : Nat) : Ls :=
  match s.lag.armed with
  | some (m, b) =>
    if m ≤ n then
      if s.host.inReset then { s with lag := { s.lag with armed := none } }
      else { s with lag := { s.lag with armed := none, anchor := some (m, b, s.smp.lclk) } }
    else s
  | none => s

/-- Selects that have reached the host commit: EVT_SEL_COMMIT is pulsed, unsourced counters are marked, and the counters of a CLEAR are
set to 0 with event cycle e_n (R73, R97, R98, R100). -/
def Ls.commitSelects (s : Ls) : Ls :=
  let m := s.smp
  if m.sent.length = 0 then { s with smp := { m with commitFlag := false } }
  else
    let mark := fun (t : Tbl Bool) (x : Nat × Nat) => Tbl.put false t x.1 (!bit s.host.present.toNat (fld x.2 10 6))
    let clears := (m.sent.filter (fun x => bit x.2 16)).map (·.1)
    { s with smp := { m with sent := [], commitFlag := true, unsourced := m.sent.foldl mark m.unsourced,
                             cap := m.cap.map (fun c => { c with clears := clears }) }
             pins := { s.pins with selCommit := some s.smp.lclk } }

/-- Increases of all statistics over the counting interval (R114). -/
def Ls.statDeltas (s : Ls) : Tbl Nat := (List.range 128).foldl (fun t i => Tbl.put 0 t i (s.statDelta i)) []

/-- Begin the capture of e_n: everything that stands at e_n is taken, a frame that ships takes the oldest shard digests (R94, R110,
R115, R119). -/
def Ls.beginCapture (s : Ls) (n : Nat) : Ls :=
  let m := s.smp
  let ships := if s.shipsFrame then s.banks.fActive.bind (fun b => s.banks.tActive.map (fun t => (b, fld (s.reg (0x214 + b2n t)) 0 16))) else none
  let k := match ships with | some x => shardSlots (s.mapEntries x.1) | none => 0
  let c : LsCap :=
    { tick := n, edge := m.lclk, evt := fld (s.reg 0x2) 0 5, bun := fld (s.reg 0x2) 8 5, ships := ships, flags := s.frameFlags,
      fence := s.reg 0x14, perTick := m.lclk - m.edgeLclk, sawReset := m.sawReset, anchor := s.lag.anchor, first := m.firstEdge,
      unsourced := m.unsourced, shards := s.tab.queue.take k, backlog := s.tab.queue.length - k, stats := s.statDeltas,
      sensorsOn := s.boundary 1, sensors := [], frozen := 0, stretch := [], clears := [], disc := [], stallTotal := [], stall := 0, bundle := 0 }
  { s with smp := { m with cap := some c }, tab := { s.tab with queue := s.tab.queue.drop k }, banks := { s.banks with frame := none } }

/-- Begin the next counting interval (R93, R110, R114). COUNTERS_RESTORED stays for the first frame that ships. -/
def Ls.newInterval (s : Ls) : Ls :=
  let m := s.smp
  let stats : Tbl Word := (List.range 128).foldl (fun t i => Tbl.put 0 t i (w64 (s.anyStat i))) []
  let m := { m with edgeLclk := m.lclk, restored := m.restored && !s.shipsFrame, sawReset := false, sawStop := false, sawDrain := false }
  let m := { m with sawMismatch := false, sawShardOverflow := false, sawSensorOff := false, boundaryPrev := s.berrCount }
  { s with smp := { m with statPrev := stats, firstEdge := false } }

/-- One LCLK after e_n the boundary has shown the region state of e_n − 1 and the conversions of boundary cycle e_n (R75, R94, R102). -/
def Ls.captureRegions (s : Ls) (c : LsCap) : Ls :=
  let m := s.smp
  let aged : Tbl Sensor := List.map (fun (x : Nat × Sensor) => (x.1, { x.2 with fresh := false })) m.sensors
  { s with smp := { m with cap := some { c with sensors := m.sensors, frozen := m.frozen, stretch := m.stretch }, sensors := aged,
                           frozen := 0, stretch := [] } }

/-- EVT_LAT LCLK after e_n the counters hold every event before e_n: the shadow is taken, then the CLEARs of e_n act (R94, R98 to R100). -/
def Ls.captureCounters (s : Ls) (c : LsCap) : Ls :=
  let m := s.smp
  let s := { s with smp := { m with cap := some { c with disc := m.disc }, shadowPrev := m.shadow, shadow := m.ctr, disc := c.clears,
                                    ctr := c.clears.foldl (fun t k => Tbl.put 0 t k 0) m.ctr } }
  s.bpCounts

/-- BUN_LAT LCLK after e_n the boundary has shown host cycle e_n − 1 (R94, R107, R108). -/
def Ls.captureSchedule (s : Ls) (c : LsCap) : Ls :=
  let m := s.smp
  { s with smp := { m with cap := some { c with stallTotal := m.stallTotal, stall := s.host.stall, bundle := s.host.bundleIdx.toNat }, stallTotal := [] } }

/-- A lag trigger belongs to the sample point at e_n (R127): a record already taken there becomes the trigger record, or one dropped there
sets TRIGGER_DROPPED. -/
def Ls.lagTrigger (s : Ls) (c : LsCap) (lag : Int × Bool × Bool) : Ls :=
  let t := s.trace
  if !(bit t.cfg 7 && lag.2.2 && decide (signed 32 (s.reg 0x103) ≤ lag.1)) || t.trigAt = some c.edge then s
  else
    let t := { t with trigAt := some c.edge }
    match t.point with
    | some (l, written) =>
      if t.st = .running && l = c.edge then
        let i := t.recs.length - 1
        let t := { t with st := .post, postLeft := fld t.cfg 8 15 }
        if written then
          let r := t.recs.getD i []
          { s with trace := { t with recs := t.recs.set i (overlay r 0 (le 8 (rd r 0 8 ||| put 57 1))), trigPos := some i } }
        else { s with trace := { t with trigDropped := true } }
      else s.traceTrigger
    | none => s.traceTrigger

/-- Frame n is assembled and queued for both links, or its slots carry VOID flits (R115, R119, R120, R127). -/
def Ls.assemble (s : Ls) (c : LsCap) : Ls :=
  let lag := c.lag
  let delta := lagDelta lag s.lag.last
  let s := match c.ships with
    | some (b, id) =>
      let x : TxStream := ⟨id, c.tick, s.frameBytes c b delta⟩
      { s with banks := { s.banks with frame := some (c.tick, x.bytes) },
               portA := { s.portA with vc0 := x :: s.portA.vc0.take 1 }, portB := { s.portB with vc0 := x :: s.portB.vc0.take 1 } }
    | none => s
  ({ s with lag := { s.lag with last := if lag.2.2 && !lag.2.1 then some lag.1 else none }, smp := { s.smp with cap := none } }).lagTrigger c lag

/-- The described cycle of the latest trace record is at the boundary (R124, R125): ISSUED, BUNDLE_ADDR and STALL. -/
def Ls.traceFill (s : Ls) : Ls :=
  let h := s.host
  let t := s.trace
  let i := t.recs.length - 1
  let r := t.recs.getD i []
  let issued := h.issuedAt = some (s.smp.lclk - 1)
  let r := le 8 (rd r 0 8 + put 56 (b2n issued)) ++ le 6 (if h.issuedAt.isSome then h.bundleAddr.toNat else 0) ++ sub r 14 2 ++ le 32 h.stall.toNat
  { s with trace := { t with recs := t.recs.set i r, fill := none } }

/-- What the LCLK just reached completes: the latest trace record, and the capture of e_n part by part (R94, R124). -/
def Ls.capStep (s : Ls) : Ls :=
  let s := if s.trace.fill = some s.smp.lclk then s.traceFill else s
  let s := match s.smp.cap with | some c => if s.smp.lclk = c.edge + 1 then s.captureRegions c else s | none => s
  let s := match s.smp.cap with | some c => if s.smp.lclk = c.edge + c.evt then s.captureCounters c else s | none => s
  let s := match s.smp.cap with | some c => if s.smp.lclk = c.edge + c.bun then s.captureSchedule c else s | none => s
  match s.smp.cap with
  | some c => if c.edge + max c.evt c.bun ≤ s.smp.lclk then s.assemble c else s
  | none => s

/-! ## Time passing (R95, R96, R102, R108) -/

/-- Group-cycles of cause c in a stall vector (R77, R108). -/
def stallCount (v : Nat) (c : Nat) : Nat := ((List.range 64).filter (fun g => fld v (4 * g) 4 == c)).length

/-- n LCLK pass with the host inputs as they stand and no increments. -/
def Ls.cycles (s : Ls) (n : Nat) : Ls :=
  if n = 0 then s else
  let m := s.smp
  let h := s.host
  { s with
    smp := { m with
      lclk := m.lclk + n
      frozen := m.frozen ||| h.stopped
      stallTotal := (List.range 16).foldl (fun t c => let k := stallCount h.stall.toNat c; if k = 0 then t else Tbl.put 0 t c (Tbl.get 0 t c + n * k)) m.stallTotal
      sawReset := m.sawReset || h.inReset
      sawStop := m.sawStop || s.halt.stopGate
      sawDrain := m.sawDrain || s.halt.drainReq
      sawSensorOff := m.sawSensorOff || !s.boundary 1 }
    qsnap := { s.qsnap with held := if s.qsnap.st = 1 then s.qsnap.held && (s.halt.stopGate || h.drainDone) else s.qsnap.held }
    poison := [] }

/-- n LCLK pass: one at a time while a capture or a trace record is being completed, which takes at most 16, then at once. -/
def Ls.lclks : Nat → Ls → Nat → Ls
  | 0, s, n => s.cycles n
  | k + 1, s, n =>
    if n = 0 || (s.smp.cap.isNone && s.trace.fill.isNone) then s.cycles n
    else Ls.lclks k (s.cycles 1).capStep (n - 1)

/-- Time passes by a count of units: LCLK edges fall every 0.8 ns (R70, log 1). The main island counts them while it is on. -/
def Ls.pass (s : Ls) (d : Nat) : Ls :=
  let acc := s.smp.lclkAcc + 5 * d
  let s := if s.mainOn then Ls.lclks 16 s (acc / 262144) else s
  { s with smp := { s.smp with lclkAcc := acc % 262144 } }

/-- Move the Lineside to an instant of its station clock (log 1). -/
def Ls.reach (s : Ls) (u : Int) : Ls :=
  let t := s.clk.time
  { s.pass (u.toNat - t) with clk := s.clk.reach u }

/-- One JCLK of idling (log 1). -/
def Ls.idle (s : Ls) : Ls :=
  let c := s.clk.advance
  { s.pass (c.time - s.clk.time) with clk := c }

/-- Move the Lineside on to an LCLK count (log 1). -/
def Ls.toLclk (s : Ls) (n : Nat) : Ls :=
  if n ≤ s.smp.lclk then s
  else s.reach ((s.clk.time + cdiv (262144 * (n - s.smp.lclk) - s.smp.lclkAcc) 5 : Nat) : Int)

/-- The instant of the next sample edge (R93, R170). -/
def Ls.nextEdge (s : Ls) : Int :=
  match s.clk.tick with
  | some n => s.clk.tickAt (n + 1)
  | none => ((s.clk.prov + 1) * hNs 12 * uNs : Nat)

/-- The LCLK edges left before the next sample edge. -/
def Ls.lclkLeft (s : Ls) : Nat := (s.smp.lclkAcc + 5 * (s.nextEdge - s.clk.time).toNat) / 262144

/-! ## The sample edge -/

/-- Ageing at a sample edge of witnesses and suspensions (R370) and the ends of ticks on the links: a tick mark that did not come is missed, on a
link out of service too (R222). -/
def Ls.ageTick (s : Ls) : Ls :=
  let tab := s.tab
  let tab := { tab with wits := tab.wits.map (fun (w : Witness) => { w with edges := w.edges + 1 }) }
  let tab := { tab with suspended := tab.suspended.map (fun (x : Nat × Nat) => (x.1, x.2 - 1)) }
  let n := s.clk.markTick
  let loss := s.clk.servo.lossTicks
  let mark := match s.banks.tActive with | some b => fld (s.reg (0x214 + b2n b)) 16 16 | none => 0xFFFF
  let came := fun (p : Port) => p.streams.any (fun x => x.id == mark && x.taken && x.tick + 1 == n)
  ({ s with tab := tab }).onPorts (fun p =>
    let p := if came p then p else p.count 16 1
    { p.tickStart with time := p.time.tickEnd loss false, streams := p.streams.filter (fun x => decide (n < x.tick + 2)) })

/-- Sources of the Lineside's clock: link A, then link B (R171 table, R172). -/
def Ls.cands (s : Ls) : List Cand :=
  [candOf s.clk.servo.lossTicks 1 false s.portA.time.source, candOf s.clk.servo.lossTicks 2 false s.portB.time.source]

/-- The sample edge e_n of the next tick. Tick comparators need a tick index (R135, R170). -/
def Ls.sampleEdge (s : Ls) : Ls :=
  let s := s.reach s.nextEdge
  let s := { s with clk := s.clk.edge }
  let n := s.clk.markTick
  let s := if s.clk.tick.isSome then (s.ttSwitchDue n).frameSwitchDue n (s.banks.tDue n) else s
  if !s.mainOn then s
  else
    let s := (s.addTokens n).anchorDue n
    let s := ((s.beginCapture n).newInterval).commitSelects
    let s := { s with trace := { s.trace with k := 0 } }
    let s := if s.clk.tick.isSome then s.bpTicks n else s
    s.ageTick

end Sys2Proof.Machine
end

