-- ==== Sys2Proof/Machine/Reduce.lean ====
section
/-! DEFINITION. Marshalling: plan fields, tray inputs, exact partial records, publication, partials, output digests, fleet statistics (R229 to R261). -/

namespace Sys2Proof.Machine

/-! ## Plan fields (R231, R232, R236) -/

/-- A field-table entry (R231). -/
structure Field where
  op : Nat
  type : Nat
  out : Nat
  broadcast : Bool
  pubLocal : Bool
  ctx : Nat
  source : Nat
  rate : Nat
  ones : Bool
  scale : Nat
  octaves : Nat
  signed : Bool
  /-- bit 7 of the SKETCH byte: reserved for SKETCH, part of the byte that is 0 for other operators (R231, R232) -/
  sketchTop : Bool
  /-- a reserved bit of the entry is set -/
  junk : Bool
deriving DecidableEq, Repr

/-- The field of 16 bytes (R231). -/
def Field.decode (b : Bytes) : Field :=
  let at? := fun (i : Nat) => rd b i 1
  { op := at? 0 % 16, type := at? 1 % 4, out := at? 2 % 8, broadcast := bit (at? 2) 3, pubLocal := bit (at? 2) 4, ctx := at? 3 % 16,
    source := rd b 4 2, rate := at? 6 % 4, ones := bit (at? 6) 2, scale := at? 7, octaves := at? 8 % 64, signed := bit (at? 8) 6,
    sketchTop := bit (at? 8) 7,
    junk := decide (16 ≤ at? 0) || decide (4 ≤ at? 1) || decide (32 ≤ at? 2) || decide (16 ≤ at? 3) || decide (8 ≤ at? 6)
      || !allZero (sub b 9 7) }

/-- A fp TYPE. -/
def Field.isFp (f : Field) : Bool := f.type == 2 || f.type == 3

/-- Check 4 of R232: codes not reserved and permitted together by R236; a RATE transform needs an fp TYPE (R234). -/
def Field.codesOk (f : Field) : Bool :=
  let outs : List Nat := match f.op with
    | 1 => [0, 1, 2, 3]
    | 2 | 3 => [4, 0, 1, 2]
    | 4 | 5 | 6 | 7 => [4]
    | 8 => [5]
    | _ => []
  outs.contains f.out && decide (f.rate ≤ 2) && (f.rate == 0 || f.isFp)
    && (!(f.op == 4 || f.op == 5 || f.op == 6) || f.type == 0)

/-- Check 5 of R232: the tray selectors of R233, 0 at other levels. -/
def Field.sourceOk (level : Nat) (f : Field) : Bool :=
  if level = 0 then decide (f.source ≤ 0x1DF) || (decide (0x200 ≤ f.source) && decide (f.source ≤ 0x206)) else f.source == 0

/-- The scale exponent of a sketch (R231). -/
def Field.scaleExp (f : Field) : Int := (f.scale : Int) - 149

/-- Check 6 of R232. -/
def Field.sketchOk (f : Field) : Bool :=
  if f.op = 8 then decide (f.scale ≤ 245) && decide (1 ≤ f.octaves) && decide (f.octaves ≤ 32) && decide (f.scaleExp + f.octaves ≤ 128)
  else f.scale == 0 && f.octaves == 0 && !f.signed && !f.sketchTop

/-! ## Tray inputs (R233, R234) -/

/-- A typed input: raw bits of the field's TYPE. -/
abbrev RawIn := Nat

/-- The value of raw bits of a TYPE (R231, R239). -/
def typeVal (type raw : Nat) : Fp :=
  match type with
  | 0 => .fin false (raw % 2 ^ 64 : Nat)
  | 1 => Fp.ofRat (signed 64 raw : Int)
  | 2 => (Fp.decode bf16 raw).posZero
  | _ => (Fp.decode fp32 raw).posZero

/-- An fp value in a field's TYPE. -/
def Field.fpBits (f : Field) (x : Fp) : RawIn :=
  let m := if f.type = 2 then bf16 else fp32
  ((x.round m).posZero).encode m

/-- The frame field a selector names: its bits and its width in bits; none when R233 excludes it. `shadow` are the Lineside's
frame-map registers (R112, R499). -/
def selectInput (f : Field) (shadow : Tbl Word) (frame : Bytes) : Option (Nat × Nat) :=
  let flags := rd frame 0x14 4
  match f.source with
  | 0x200 => if bit flags 4 then none else some (rd frame 0x18 4, 32)
  | 0x201 => if bit flags 4 || bit flags 5 then none else some (rd frame 0x1C 4, 32)
  | 0x202 => some (rd frame 0x2C 4, 32)
  | 0x203 => some (flags, 32)
  | 0x204 => some (rd frame 0x28 4, 32)
  | 0x206 => some (rd frame 0x30 2, 16)
  | src =>
    if 0x1DF < src then none
    else
      let count := rd frame (frame.length - 8) 2
      if count ≤ src then none
      else
        let base := if rd frame 0x13 1 % 2 = 1 then 0x600 else 0x400
        let ents := (List.range (src + 1)).map (fun i => mapEntry (Tbl.get 0 shadow (base + i)).toNat)
        let off := ents.dropLast.foldl (fun o e => fieldStart o e.bytes + e.bytes) 0x60
        match ents.getLast? with
        | some e =>
          let w := 8 * e.bytes
          let v := rd frame (fieldStart off e.bytes) e.bytes
          if e.kind = 7 || e.kind = 8 then none
          else if f.ones && v = 2 ^ w - 1 then none
          else if e.kind = 2 then (if fld v 16 8 ≠ 0 then none else some (v % 65536, 16))
          else some (v, w)
        | none => none

/-- The tray input of a frame for a field (R233, R234): none when it is excluded. -/
def trayInput (f : Field) (shadow : Tbl Word) (frame : Bytes) : Option RawIn :=
  let lclk := rd frame 0x2C 4
  let rated := fun (v : Int) => if lclk = 0 then none else some (f.fpBits (Fp.ofRat ((v : Rat) / lclk)))
  if f.source = 0x205 then
    if f.rate ≠ 0 then rated 1
    else some (if f.isFp then f.fpBits (.fin false 1) else 1)
  else
    match selectInput f shadow frame with
    | none => none
    | some (v, w) =>
      match f.rate with
      | 1 => rated (v : Nat)
      | 2 => rated (signed w v)
      | _ =>
        match f.type with
        | 0 => some v
        | 1 => some (unsigned 64 (signed w v))
        | 2 => if w = 16 then some ((Fp.decode bf16 v).posZero.encode bf16) else none
        | _ => if w = 32 then some ((Fp.decode fp32 v).posZero.encode fp32) else none

/-! ## Partial records (R235 to R239, R244 to R246, R249) -/

/-- The station-exact accumulator (R238). -/
structure Acc where
  a : Int
  count : Nat
  nan : Bool
  pinf : Bool
  ninf : Bool
deriving DecidableEq, Repr

/-- A sketch (R244, R245). -/
structure Sketch where
  count : Nat
  low : Nat
  high : Nat
  negHigh : Nat
  nanIn : Bool
  pos : Tbl Nat
  neg : Tbl Nat
deriving DecidableEq, Repr

/-- A partial record of a field. -/
inductive Rec where
  | acc (r : Acc)
  | minmax (value source count : Nat) (nanIn : Bool)
  | bits (value count : Nat)
  | nz (count nonzero : Nat)
  | sketch (r : Sketch)
deriving DecidableEq, Repr

/-- The record that merges as an identity (R235). -/
def Field.empty (f : Field) : Rec :=
  match f.op with
  | 1 => .acc ⟨0, 0, false, false, false⟩
  | 2 | 3 => .minmax 0 0 0 false
  | 5 => .bits (2 ^ 64 - 1) 0
  | 4 | 6 => .bits 0 0
  | 7 => .nz 0 0
  | _ => .sketch ⟨0, 0, 0, 0, false, [], []⟩

/-- Contributors of a record. -/
def Rec.count : Rec → Nat
  | .acc r => r.count
  | .minmax _ _ c _ => c
  | .bits _ c => c
  | .nz c _ => c
  | .sketch r => r.count

/-- A value in the accumulator (R239). -/
def Acc.of (x : Fp) : Acc :=
  match x with
  | .nan => ⟨0, 1, true, false, false⟩
  | .inf s => ⟨0, 1, false, !s, s⟩
  | .fin s q => let a := (q * pow2 149).num; ⟨if s then -a else a, 1, false, false, false⟩

def Acc.merge (x y : Acc) : Acc := ⟨x.a + y.a, x.count + y.count, x.nan || y.nan, x.pinf || y.pinf, x.ninf || y.ninf⟩

/-- The bucket of a magnitude in the sketch's octaves (R244): j is the largest with f ≥ B_j, B_j = ⌈2^23 (2^(j/64) − 1)⌉. -/
def sketchBucket (scale : Int) (a : Rat) : Nat :=
  let e := flog2 a
  let f := (a * pow2 (23 - e)).floor.toNat
  let j := min 63 (Nat.log2 (f ^ 64) - 23 * 64)
  (64 * (e - scale)).toNat + j

def Tbl.incr (t : Tbl Nat) (k n : Nat) : Tbl Nat := Tbl.put 0 t k (Tbl.get 0 t k + n)

/-- A value in a sketch (R244). -/
def Field.sketchOf (f : Field) (x : Fp) : Sketch :=
  let z : Sketch := ⟨1, 0, 0, 0, false, [], []⟩
  let top := pow2 (f.scaleExp + f.octaves)
  match x with
  | .nan => { z with count := 0, nanIn := true }
  | .inf s => if s then (if f.signed then { z with negHigh := 1 } else { z with low := 1 }) else { z with high := 1 }
  | .fin s q =>
    if s && !f.signed && q ≠ 0 then { z with low := 1 }
    else if q < pow2 f.scaleExp then { z with low := 1 }
    else if top ≤ q then (if s then { z with negHigh := 1 } else { z with high := 1 })
    else if s then { z with neg := [(sketchBucket f.scaleExp q, 1)] }
    else { z with pos := [(sketchBucket f.scaleExp q, 1)] }

def Tbl.addAll (t u : Tbl Nat) : Tbl Nat := u.foldl (fun t x => Tbl.incr t x.1 x.2) t

def Sketch.merge (x y : Sketch) : Sketch :=
  ⟨x.count + y.count, x.low + y.low, x.high + y.high, x.negHigh + y.negHigh, x.nanIn || y.nanIn, Tbl.addAll x.pos y.pos, Tbl.addAll x.neg y.neg⟩

/-- One die's input as a record (R237); `source` is its entity ID. -/
def Field.recOf (f : Field) (source : Nat) (raw : RawIn) : Rec :=
  let x := typeVal f.type raw
  match f.op with
  | 1 => .acc (Acc.of x)
  | 2 | 3 => if x.isNan then .minmax 0 0 0 true else .minmax raw source 1 false
  | 4 | 5 | 6 => .bits (raw % 2 ^ 64) 1
  | 7 => .nz 1 (b2n (!x.isZero))
  | _ => .sketch (f.sketchOf x)

/-- MIN and MAX of two records (R237): equal values go to the lower SOURCE. -/
def Field.pick (f : Field) (v1 s1 v2 s2 : Nat) : Nat × Nat :=
  let x := typeVal f.type v1
  let y := typeVal f.type v2
  let firstWins := if f.op = 2 then x.lt y else y.lt x
  let secondWins := if f.op = 2 then y.lt x else x.lt y
  if firstWins then (v1, s1) else if secondWins then (v2, s2) else if s1 ≤ s2 then (v1, s1) else (v2, s2)

/-- Merge two records of a field (R235, R237, R239, R246). -/
def Field.merge (f : Field) : Rec → Rec → Rec
  | .acc x, .acc y => .acc (x.merge y)
  | .minmax v s c n, .minmax w t d m =>
    if c = 0 then .minmax w t d (n || m)
    else if d = 0 then .minmax v s c (n || m)
    else let p := f.pick v s w t; .minmax p.1 p.2 (c + d) (n || m)
  | .bits v c, .bits w d =>
    .bits (if f.op = 4 then Nat.lor v w else if f.op = 5 then Nat.land v w else Nat.xor v w) (c + d)
  | .nz c a, .nz d b => .nz (c + d) (a + b)
  | .sketch x, .sketch y => .sketch (x.merge y)
  | x, _ => x

/-- Bytes of a field's partial record (R245, R249). -/
def Field.recLen (f : Field) : Nat :=
  match f.op with
  | 1 => if f.isFp then 40 else 16
  | 2 | 3 | 4 | 5 | 6 => 16
  | 7 => 8
  | _ => 16 + 128 * f.octaves * (if f.signed then 2 else 1)

/-- Lanes of a field's partial record at a parent (R252). -/
def Field.lanes (f : Field) : Nat := if f.op = 8 then 1 + cdiv (64 * f.octaves * (if f.signed then 2 else 1)) 16 else 1

/-- The 320 bits of an accumulator (R238). -/
def Acc.word (r : Acc) : Nat :=
  unsigned 295 r.a + put 295 r.count + put 313 (b2n r.nan) + put 314 (b2n r.pinf) + put 315 (b2n r.ninf)

def Acc.ofWord (v : Nat) : Acc := ⟨signed 295 v, fld v 295 18, bit v 313, bit v 314, bit v 315⟩

/-- Bucket counts of 2 bytes each. -/
def buckets (n w : Nat) (t : Tbl Nat) : Bytes := ((List.range n).map (fun i => le w (Tbl.get 0 t i))).flatten

def unbuckets (b : Bytes) (off n : Nat) : Tbl Nat :=
  (List.range n).foldl (fun t i => Tbl.incr t i (rd b (off + 2 * i) 2)) []

/-- A partial record's bytes (R245, R249). -/
def Field.encodeRec (f : Field) : Rec → Bytes
  | .acc r => if f.isFp then le 40 r.word else le 16 (unsigned 96 (r.a / (2 ^ 149 : Nat)) + put 96 r.count)
  | .minmax v s c n => le 16 (v % 2 ^ 64 + put 64 s + put 96 c + put 114 (b2n n))
  | .bits v c => le 16 (v + put 64 c)
  | .nz c n => le 8 (c + put 18 n)
  | .sketch r =>
    le 8 (r.count + put 18 r.low + put 36 r.high) ++ le 8 (r.negHigh + put 18 (b2n r.nanIn)) ++ buckets (64 * f.octaves) 2 r.pos
      ++ (if f.signed then buckets (64 * f.octaves) 2 r.neg else [])

/-- A partial record from bytes (R245, R249). -/
def Field.decodeRec (f : Field) (b : Bytes) : Rec :=
  match f.op with
  | 1 => if f.isFp then .acc (Acc.ofWord (rd b 0 40))
         else let v := rd b 0 16; .acc ⟨Sys2Proof.Machine.signed 96 v * (2 ^ 149 : Nat), fld v 96 18, false, false, false⟩
  | 2 | 3 => let v := rd b 0 16; .minmax (v % 2 ^ 64) (fld v 64 32) (fld v 96 18) (bit v 114)
  | 4 | 5 | 6 => let v := rd b 0 16; .bits (v % 2 ^ 64) (fld v 64 18)
  | 7 => let v := rd b 0 8; .nz (fld v 0 18) (fld v 18 18)
  | _ =>
    let w := rd b 0 8
    let x := rd b 8 8
    let n := 64 * f.octaves
    .sketch ⟨fld w 0 18, fld w 18 18, fld w 36 18, fld x 0 18, bit x 18, unbuckets b 16 n, if f.signed then unbuckets b (16 + 2 * n) n else []⟩

/-! ## Publication (R241 to R243, R245) -/

/-- FLAGS of a result record (R243). -/
def resultFlags (count : Nat) (nan pinf ninf overflow inexact : Bool) : Nat :=
  b2n (count == 0) + put 1 (b2n nan) + put 2 (b2n pinf) + put 3 (b2n ninf) + put 4 (b2n overflow) + put 5 (b2n inexact)

/-- A rational in an OUT code: VALUE, OVERFLOW, INEXACT (R241). -/
def outRat (out : Nat) (q : Rat) : Nat × Bool × Bool :=
  match out with
  | 0 =>
    let r := (Fp.ofRat q).round fp32
    (r.encode fp32, !r.isFin, !r.isFin || decide (r.toRat ≠ q))
  | 1 => let r := (Fp.ofRat q).round fp64; (r.encode fp64, false, decide (r.toRat ≠ q))
  | _ =>
    let m := rne (if q < 0 then -q else q)
    let i : Int := if q < 0 then -(m : Int) else m
    let c := clampI (-(2 ^ 63 : Nat)) ((2 ^ 63 : Nat) - 1) i
    (unsigned 64 c, decide (c ≠ i), decide ((c : Rat) ≠ q))

/-- A special value in an OUT code (R242). -/
def outSpecial (out : Nat) (nan neg : Bool) : Nat × Bool × Bool :=
  let x : Fp := if nan then .nan else .inf neg
  match out with
  | 0 => (x.encode fp32, false, false)
  | 1 => (x.encode fp64, false, false)
  | _ => (if nan || neg then 2 ^ 63 else 2 ^ 63 - 1, true, true)

/-- VALUE and flags of an accumulator in an OUT code (R241, R242). -/
def Acc.publish (r : Acc) (out : Nat) : Nat × Bool × Bool :=
  if r.nan || (r.pinf && r.ninf) then outSpecial out true false
  else if r.pinf then outSpecial out false false
  else if r.ninf then outSpecial out false true
  else outRat out (r.a * pow2 (-149))

/-- VALUE and flags of a selected MIN or MAX value (R241). -/
def Field.publishPick (f : Field) (v : Nat) : Nat × Bool × Bool :=
  if f.out = 4 then (v, false, false)
  else match typeVal f.type v with
    | .nan => outSpecial f.out true false
    | .inf s => outSpecial f.out false s
    | x => outRat f.out x.toRat

/-- A scalar result record of 24 bytes (R243). -/
def scalarResult (value source count missing flags : Nat) : Bytes :=
  le 8 (if count = 0 then 0 else value) ++ le 4 (if count = 0 then 0 else source) ++ le 4 count ++ le 4 missing ++ le 4 flags

/-- A published result record (R243, R245): `missing` is the expected count less COUNT (R251). -/
def Field.publish (f : Field) (expected : Nat) (r : Rec) : Bytes :=
  let missing := expected - r.count
  match r with
  | .acc r =>
    if f.out = 3 then le 40 r.word ++ le 4 missing ++ le 4 (resultFlags r.count r.nan r.pinf r.ninf false false)
    else
      let p := r.publish f.out
      scalarResult p.1 0 r.count missing (resultFlags r.count r.nan r.pinf r.ninf (p.2.1 && r.count != 0) (p.2.2 && r.count != 0))
  | .minmax v s c n =>
    let p := f.publishPick v
    scalarResult p.1 s c missing (resultFlags c n false false (p.2.1 && c != 0) (p.2.2 && c != 0))
  | .bits v c => scalarResult v 0 c missing (resultFlags c false false false false false)
  | .nz c n => scalarResult n 0 c missing (resultFlags c false false false false false)
  | .sketch r =>
    le 1 f.scale ++ le 1 (f.octaves + put 6 (b2n f.signed)) ++ le 2 (b2n (r.count == 0) + put 1 (b2n r.nanIn)) ++ le 4 r.count
    ++ le 4 missing ++ le 4 r.low ++ le 4 r.high ++ le 4 r.negHigh ++ buckets (64 * f.octaves) 4 r.pos
    ++ (if f.signed then buckets (64 * f.octaves) 4 r.neg else [])

/-! ## Plans (R229, R230, R232) -/

/-- A plan as loaded. -/
structure Plan where
  imageId : Nat
  digest : Nat
  partialStream : Nat
  digestStream : Nat
  /-- per context: slot mask and CHILD_EXPECTED (R230) -/
  scope : List (Nat × List Nat)
  fields : List Field
deriving DecidableEq, Repr

/-- The expected count of a context (R230). -/
def Plan.expected (p : Plan) (ctx : Nat) : Nat :=
  match p.scope[ctx]? with
  | some (mask, ex) => (List.range 32).foldl (fun a k => if bit mask k then a + ex.getD k 0 else a) 0
  | none => 0

/-- EXPECTED_ALL of the plan (R248). -/
def Plan.expectedAll (p : Plan) : Nat := (List.range 16).foldl (fun a c => a + p.expected c) 0

/-- The sum over contexts of CHILD_EXPECTED[k] (R250). -/
def Plan.expectedOf (p : Plan) (k : Nat) : Nat := p.scope.foldl (fun a x => a + x.2.getD k 0) 0

/-- The slot mask of a context. -/
def Plan.mask (p : Plan) (ctx : Nat) : Nat := (p.scope.getD ctx (0, [])).1

/-- Slots in scope of any context. -/
def Plan.anyMask (p : Plan) : Nat := p.scope.foldl (fun a x => Nat.lor a x.1) 0

/-- Bytes of a partial of this field list (R248, R249). -/
def Plan.partialLen (p : Plan) : Nat := p.fields.foldl (fun a f => a + f.recLen) 32

/-- The scope entry c of a plan image: bits [17:0] of each CHILD_EXPECTED are used (R230). -/
def planScope (b : Bytes) (off c : Nat) : Nat × List Nat :=
  let o := off + 136 * c
  (rd b o 4, (List.range 32).map (fun k => fld (rd b (o + 4 + 4 * k) 4) 0 18))

/-- The first reserved bytes of a scope entry that are not 0: bits [31:18] of a CHILD_EXPECTED, or the last 4 bytes (R230, R232 check 8). -/
def scopeJunk (b : Bytes) (so c : Nat) : Option Nat :=
  let o := so + 136 * c
  match (List.range 32).find? (fun k => decide (2 ^ 18 ≤ rd b (o + 4 + 4 * k) 4)) with
  | some k => some (o + 4 + 4 * k)
  | none => if allZero (sub b (o + 132) 4) then none else some (o + 132)

/-- The largest CHILD_EXPECTED of a level (R232 check 7). -/
def childMax (level : Nat) : Nat := match level with | 0 => 1 | 1 => 32 | 2 => 1024 | _ => 32768

/-- A plan image against the load checks of R232: the plan, or the check code and the byte offset. `unused` are the slots
that R22 leaves unused. The order of the points inside a check is the model's (log 80). -/
def planCheck (level junctionId unused : Nat) (b : Bytes) : Plan ⊕ (Nat × Nat) :=
  let n := rd b 6 2
  let len := rd b 8 4
  let so := rd b 0x1C 4
  let fo := rd b 0x20 4
  let ents := (List.range n).map (fun i => Field.decode (sub b (fo + 16 * i) 16))
  let scope := (List.range 16).map (planScope b so)
  if rd b 0 4 ≠ 0x4C504D44 then .inr (1, 0)
  else if rd b 4 2 ≠ 1 then .inr (1, 4)
  else if len ≠ b.length || len < 68 then .inr (1, 8)
  else if so < 64 || len - 4 < so + 2176 then .inr (1, 0x1C)
  else if fo < so + 2176 || len - 4 < fo + 16 * n then .inr (1, 0x20)
  else if crcOf crc32 (b.take (len - 4)) ≠ rd b (len - 4) 4 then .inr (1, len - 4)
  else if rd b 0xC 4 % 2 ^ 17 ≠ junctionId then .inr (2, 0xC)
  else if n = 0 || 8192 < n then .inr (3, 6)
  else if crcOf crc32 (sub b fo (16 * n)) ≠ rd b 0x18 4 then .inr (3, 0x18)
  else
    let find := fun (ok : Field → Bool) => (List.range n).find? (fun i => match ents[i]? with | some f => !(ok f) | none => false)
    match find Field.codesOk with
    | some i => .inr (4, fo + 16 * i)
    | none => match find (Field.sourceOk level) with
      | some i => .inr (5, fo + 16 * i)
      | none => match find Field.sketchOk with
        | some i => .inr (6, fo + 16 * i)
        | none =>
          let scopeBad := (List.range 16).find? (fun c =>
            let x := planScope b so c
            decide (Nat.land x.1 unused ≠ 0) || (List.range 32).any (fun k =>
              let e := x.2.getD k 0
              if bit x.1 k then (if level = 0 then decide (e ≠ 1) else decide (childMax level < e)) else decide (e ≠ 0)))
          match scopeBad with
          | some c => .inr (7, so + 136 * c)
          | none =>
            let p : Plan := { imageId := rd b 0x10 8, digest := rd b 0x18 4, partialStream := rd b 0x24 2, digestStream := rd b 0x26 2,
                              scope := scope, fields := ents }
            if 131072 < p.expectedAll then .inr (7, so)
            else if 2 ^ 17 ≤ rd b 0xC 4 then .inr (8, 0xC)
            else if !allZero (sub b 0x28 24) then .inr (8, 0x28)
            else match (List.range 16).findSome? (scopeJunk b so) with
              | some o => .inr (8, o)
              | none => match find (fun f => !(f.junk || f.sketchTop)) with
                | some i => .inr (8, fo + 16 * i)
                | none => .inl p

/-! ## Partials and digests (R248, R256, R257) -/

/-- A partial stream's bytes (R248). -/
def Plan.partialBytes (p : Plan) (tick sender present : Nat) (alone : Bool) (recs : List Rec) : Bytes :=
  le 8 tick ++ le 4 sender ++ le 4 p.digest ++ le 4 present ++ le 4 p.expectedAll ++ le 4 (b2n alone) ++ le 4 0
  ++ ((List.zip p.fields recs).map (fun x => x.1.encodeRec x.2)).flatten

/-- The records of a partial, in field order. -/
def decodeRecs : List Field → Bytes → List Rec
  | [], _ => []
  | f :: t, b => f.decodeRec (b.take f.recLen) :: decodeRecs t (b.drop f.recLen)

/-- Merge the records of two partials (R235). -/
def mergeRecs : List Field → List Rec → List Rec → List Rec
  | f :: t, x :: xs, y :: ys => f.merge x y :: mergeRecs t xs ys
  | _, xs, _ => xs

/-- The result records of every field (R255). -/
def Plan.results (p : Plan) (recs : List Rec) : List Bytes :=
  (List.zip p.fields recs).map (fun x => x.1.publish (p.expected x.1.ctx) x.2)

/-- OUTPUT_DIGEST (R256). -/
def Plan.outputDigest (p : Plan) (root : Bool) (tick present : Nat) (recs : List Rec) : Nat :=
  let head := le 8 tick ++ le 4 p.digest ++ le 4 present
  if root then crcOf crc64Ecma (head ++ (p.results recs).flatten)
  else crcOf crc64Ecma (head ++ le 4 p.expectedAll ++ ((List.zip p.fields recs).map (fun x => x.1.encodeRec x.2)).flatten)

/-- Twin digest stream data (R257). -/
def digestBytes (tick digest present : Nat) (alone void : Bool) (sender : Nat) : Bytes :=
  le 8 tick ++ le 8 digest ++ le 4 present ++ le 4 (b2n alone + put 1 (b2n void)) ++ le 4 sender

/-! ## Fleet statistics (R258 to R261) -/

/-- The representative of bucket i, without its sign, exact in fp64 (R261). -/
def bucketRep (scale : Int) (i : Nat) : Rat := pow2 (scale + (i / 64 : Nat)) * rootOf2 52 (2 * (i % 64) + 1) 128

/-- The elements of a sketch in the order of R247: representative, how many, and whether clipped. -/
def Field.elements (f : Field) (r : Sketch) : List (Rat × Nat × Bool) :=
  let top := pow2 (f.scaleExp + f.octaves)
  [(-top, r.negHigh, true)] ++ (r.neg.reverse.map (fun x => (-(bucketRep f.scaleExp x.1), x.2, false))) ++ [((0 : Rat), r.low, false)]
  ++ (r.pos.map (fun x => (bucketRep f.scaleExp x.1, x.2, false))) ++ [(top, r.high, true)]

/-- The element of rank k, counted from 1, of weighted elements in order. -/
def rankOf : List (Rat × Nat × Bool) → Nat → Option (Rat × Bool)
  | [], _ => none
  | (v, n, c) :: t, k => if k ≤ n then some (v, c) else rankOf t (k - n)

/-- Insert a weighted element by value. -/
def insertElem (x : Rat × Nat × Bool) : List (Rat × Nat × Bool) → List (Rat × Nat × Bool)
  | [] => [x]
  | y :: t => if x.1 ≤ y.1 then x :: y :: t else y :: insertElem x t

/-- Median, MAD, CLIPPED and MAD_CLIPPED of a sketch with COUNT > 0 (R261); the differences are rounded to fp64. -/
def Field.robust (f : Field) (r : Sketch) : Rat × Rat × Bool × Bool :=
  let es := (f.elements r).filter (fun e => decide (0 < e.2.1))
  let k := cdiv r.count 2
  match rankOf es k with
  | some (m, clip) =>
    let ds := es.map (fun e => let d := ((Fp.ofRat (e.1 - m)).round fp64).abs.toRat; (d, e.2.1, e.2.2))
    let sorted := ds.foldl (fun l d => insertElem d l) []
    match rankOf sorted k with
    | some (d, _) => (m, d, clip, ds.any (fun x => x.1 == d && x.2.2))
    | none => (m, 0, clip, false)
  | none => (0, 0, false, false)

/-- A statistics entry (R260). -/
def statEntry (i : Nat) (f : Field) (expected : Nat) (r : Rec) : Bytes :=
  let missing := expected - r.count
  match r with
  | .sketch k =>
    if k.count = 0 then le 2 i ++ le 1 1 ++ le 1 (1 + put 3 (b2n k.nanIn)) ++ le 4 0 ++ le 4 missing ++ le 4 0 ++ le 8 0 ++ le 8 0
    else
      let (m, d, c, mc) := f.robust k
      le 2 i ++ le 1 1 ++ le 1 (put 1 (b2n c) + put 2 (b2n mc) + put 3 (b2n k.nanIn)) ++ le 4 k.count ++ le 4 missing ++ le 4 0
      ++ le 8 ((Fp.ofRat m).encode fp64) ++ le 8 ((Fp.ofRat d).encode fp64)
  | _ =>
    let b := f.publish expected r
    let fl := rd b 0x14 4
    le 2 i ++ le 1 0 ++ le 1 (b2n (bit fl 0) + put 3 (b2n (bit fl 1))) ++ sub b 0xC 4 ++ sub b 0x10 4 ++ le 4 fl ++ sub b 0 8 ++ sub b 8 4 ++ le 4 0

/-- The fleet statistics stream of a root (R258, R259). -/
def Plan.statsBytes (p : Plan) (tick sender : Nat) (recs : List Rec) : Bytes :=
  let ents := ((List.zip (List.range p.fields.length) (List.zip p.fields recs)).filter (fun x => x.2.1.broadcast)).map
    (fun x => statEntry x.1 x.2.1 (p.expected x.2.1.ctx) x.2.2)
  le 8 tick ++ le 4 sender ++ le 4 p.digest ++ le 2 ents.length ++ le 2 0 ++ le 8 (crcOf crc64Ecma ents.flatten) ++ le 4 0 ++ ents.flatten

/-- The entry of a plan field in accepted statistics (R260). -/
def statOf (stats : Bytes) (field : Nat) : Option Bytes :=
  ((List.range (rd stats 0x10 2)).map (fun i => sub stats (32 + 32 * i) 32)).find? (fun e => rd e 0 2 == field)

/-- A received statistics stream may be used for tick n (R263). -/
def statsOk (digest n : Nat) (b : Bytes) : Bool :=
  rd b 0 8 == n && rd b 0xC 4 == digest && decide (rd b 0x10 2 ≤ 112)
    && crcOf crc64Ecma (sub b 32 (32 * rd b 0x10 2)) == rd b 0x14 8

end Sys2Proof.Machine
end

