-- ==== Sys2Proof/Machine/Timetable.lean ====
section
/-! DEFINITION. Timetable images of a Junction: layout, load checks, and the plan checks made at an arm (R31, R36 to R56, R232, R253, R258). -/

namespace Sys2Proof.Machine

/-! ## Ports by role (R15, R19, R22, R23, R31) -/

/-- A Junction's role: level 0 tray to 3 root, and twin (R15). -/
structure Role where
  level : Nat
  twinB : Bool
deriving DecidableEq, Repr

/-- The Junction ID of a role and pair index (R19). -/
def Role.id (r : Role) (index : Nat) : Nat := put 15 r.level + put 1 index + b2n r.twinB

/-- Ports are numbered 0 to 31 for L0 to L31 and 32 to 67 for T0 to T35 (R53). A port unused by the level (R22). -/
def Role.unused (r : Role) (p : Nat) : Bool :=
  decide (67 < p) || (r.level == 0 && decide (32 ≤ p) && decide (p < 64)) || (r.level == 3 && (p == 64 || p == 65))

/-- The primary uplink's port number: uplink A of Twin A, uplink B of Twin B (R23). -/
def Role.primaryUp (r : Role) : Nat := if r.twinB then 65 else 64

/-- The cross uplink's port number (R23). -/
def Role.crossUp (r : Role) : Nat := if r.twinB then 64 else 65

/-- The port runs at 400 Gbit/s: trunk primary links and twin ports (R23, R47). -/
def Role.rate400 (r : Role) (p : Nat) : Bool := decide (32 ≤ p) && p != r.crossUp

/-- The port leads to the level below (R22). -/
def toBelow (p : Nat) : Bool := decide (p < 64)

/-- The hop latency of a port in ps (R31). -/
def Role.hopPs (r : Role) (p : Nat) : Nat :=
  let primary := fun (child : Nat) => match child with | 0 => 75000 | 1 => 135000 | _ => 210000
  let cross := fun (child : Nat) => match child with | 0 => 155000 | 1 => 215000 | _ => 290000
  if 66 ≤ p then 75000
  else if p = r.primaryUp then primary r.level
  else if p = r.crossUp then cross r.level
  else if r.level = 0 then 142500
  else if p < 32 then cross (r.level - 1) else primary (r.level - 1)

/-- An entity ID of a defined type whose unlisted bits are 0 (R20). -/
def entityOk (e : Nat) : Bool :=
  let v := e % 2 ^ 28
  match e / 2 ^ 28 with
  | 0 => v == 0
  | 1 | 3 => decide (v < 2 ^ 17)
  | 2 => decide (v < 2 ^ 18)
  | 4 => decide (v < 2 ^ 23) && decide (32 ≤ v / 2 ^ 17) && decide (v / 2 ^ 17 ≤ 35)
  | 5 | 6 => true
  | 7 => decide (v < 2 ^ 14)
  | 8 => decide (v < 2 ^ 25) && decide (v / 2 ^ 17 ≤ 167)
  | _ => false

/-! ## Images (R52 to R54) -/

/-- A stream-table entry (R53). -/
structure Stream where
  id : Nat
  kind : Nat
  tx : Bool
  tickOffset : Nat
  port : Nat
  flits : Nat
  phase : Nat
  time : Nat
  entity : Nat
deriving DecidableEq, Repr

def Stream.decode (b : Bytes) : Stream :=
  let k := rd b 2 1
  { id := rd b 0 2, kind := k % 16, tx := bit k 4, tickOffset := b2n (bit k 5), port := rd b 3 1, flits := rd b 4 2, phase := rd b 6 1,
    time := rd b 8 4, entity := rd b 12 4 }

/-- A Timetable image as the machine uses it. -/
structure TtImage where
  imageId : Nat
  step : Nat
  planP : Bool
  /-- D_FRAME to D_PUBLISH in ns (R39) -/
  deadlines : List Nat
  streams : List Stream
  /-- port, transmit, slots (R54) -/
  maps : List (Nat × Bool × List SlotEntry)
deriving DecidableEq, Repr

/-- A slot-map entry (R54). -/
def slotOf (v : Nat) : SlotEntry := ⟨v % 4, fld v 2 16, fld v 18 12⟩

/-- The port-table entry i: port, direction, slot count, map offset (R54). -/
def portEntry (b : Bytes) (i : Nat) : Nat × Nat × Nat × Nat :=
  let o := rd b 0x24 4 + 16 * i
  (rd b o 1, rd b (o + 1) 1, rd b (o + 4) 4, rd b (o + 8) 4)

/-- The port-table entries whose DIR code is defined, with their places in the table and their maps (R54). -/
def portMaps (b : Bytes) : List (Nat × (Nat × Bool × List SlotEntry)) :=
  (List.range (rd b 0x1E 2)).filterMap (fun i =>
    let e := portEntry b i
    if e.2.1 ≤ 1 then some (i, (e.1, e.2.1 == 1, (List.range e.2.2.1).map (fun k => slotOf (rd b (e.2.2.2 + 4 * k) 4)))) else none)

def TtImage.decode (b : Bytes) : TtImage :=
  { imageId := rd b 0x10 8, step := rd b 0xC 1, planP := bit (rd b 6 2) 0,
    deadlines := (List.range 8).map (fun i => rd b (0x28 + 4 * i) 4),
    streams := (List.range (rd b 0x1C 2)).map (fun i => Stream.decode (sub b (rd b 0x20 4 + 16 * i) 16)),
    maps := (portMaps b).map (·.2) }

/-- The slot map of a port and direction; none where the port has no entry (R54). -/
def TtImage.map? (t : TtImage) (port : Nat) (tx : Bool) : Option (List SlotEntry) :=
  (t.maps.find? (fun m => m.1 == port && m.2.1 == tx)).map (·.2.2)

def TtImage.deadline (t : TtImage) (i : Nat) : Nat := t.deadlines.getD i 0

/-- A stream of the image by ID. -/
def TtImage.stream? (t : TtImage) (id : Nat) : Option Stream := t.streams.find? (fun s => s.id == id)

/-! ## Load checks (R56) -/

/-- Check 4: the floors of R39; deadlines in ns. -/
def deadlinesOk (planP : Bool) (step : Nat) (d : List Nat) : Option Nat :=
  let x := fun i => d.getD i 0
  let h := hNs step
  let pub := (if planP then 2 * h else h) + 1000
  let oks := [decide (600 ≤ x 0), decide (x 0 + 300 ≤ x 1), decide (x 1 + 300 ≤ x 2), decide (x 2 + 300 ≤ x 3), decide (x 3 + 300 ≤ x 4),
              decide (x 4 + 800 ≤ x 5), decide (x 5 + 1000 ≤ x 6) && decide (x 6 + 500 ≤ x 7), x 7 == pub]
  (List.range 8).find? (fun i => !(oks.getD i true))

/-- The slots of a stream in its map. -/
def TtImage.slotsOf (t : TtImage) (s : Stream) : List (Nat × SlotEntry) :=
  match t.map? s.port s.tx with
  | some m => (List.zip (List.range m.length) m).filter (fun x => x.2.cls == 1 && x.2.stream == s.id)
  | none => []

/-- Check 7 of a stream: ID, flits, one slot for each flit, TICK_OFFSET (R53, R56; FLITS out of range is put here, log 80). -/
def TtImage.streamOk (t : TtImage) (s : Stream) : Bool :=
  let sl := t.slotsOf s
  s.id != 0xFFFF && (t.streams.filter (fun x => x.id == s.id)).length == 1 && decide (1 ≤ s.flits) && decide (s.flits ≤ 4096)
  && sl.length == s.flits && (List.range s.flits).all (fun i => (sl.filter (fun x => x.2.index == i)).length == 1)
  && (t.planP || s.tickOffset == 0)

/-- Check 7 of a map: owned slots name streams of the port and direction; a direction to the level below carries one tick mark. -/
def TtImage.mapOk (t : TtImage) (m : Nat × Bool × List SlotEntry) : Bool :=
  m.2.2.all (fun e => e.cls != 1 || (match t.stream? e.stream with
    | some s => s.port == m.1 && s.tx == m.2.1 && decide (e.index < s.flits)
    | none => false))
  && (!(m.2.1 && toBelow m.1) || (t.streams.filter (fun s => s.kind == 3 && s.tx && s.port == m.1 && s.flits == 1)).length == 1)

/-- Check 8 of a stream: times in ps. -/
def TtImage.timeOk (t : TtImage) (r : Role) (s : Stream) : Bool :=
  let tau := slotPs (r.rate400 s.port)
  let base := s.tickOffset * hNs t.step * 1000
  let sl := (t.slotsOf s).map (·.1)
  let last := sl.foldl max 0
  let first := sl.foldl min (sl.headD 0)
  if s.tx then decide (s.time * 1000 ≤ base + first * tau)
  else
    decide (base + (last + 1) * tau + r.hopPs s.port ≤ s.time * 1000)
    && (decide (5 < s.phase) || decide (s.time + 40 ≤ t.deadline s.phase))
    && (s.kind != 0 || decide (250000 ≤ base + first * tau))

/-- The load checks in order: an image, or the check code and byte offset of the first failure (R56). The order within a check, the entry
named where two are alike, and offsets that point into the header are log 80. -/
def imageCheck (r : Role) (junctionId : Nat) (b : Bytes) : TtImage ⊕ (Nat × Nat) :=
  let len := rd b 8 4
  let sc := rd b 0x1C 2
  let pc := rd b 0x1E 2
  let so := rd b 0x20 4
  let po := rd b 0x24 4
  if rd b 0 4 ≠ 0x49545444 then .inr (1, 0) else if rd b 4 2 ≠ 2 then .inr (1, 4)
  else if len ≠ b.length || 6291456 < len || len < 132 then .inr (1, 8)
  else if sc = 0 || 16384 < sc then .inr (1, 0x1C) else if 136 < pc then .inr (1, 0x1E)
  else if so < 128 || len - 4 < so + 16 * sc then .inr (1, 0x20) else if po < 128 || len - 4 < po + 16 * pc then .inr (1, 0x24)
  else match (List.range pc).find? (fun i => let e := portEntry b i; decide (len - 4 < e.2.2.2 + 4 * e.2.2.1)) with
  | some i => .inr (1, po + 16 * i)
  | none =>
    if crcOf crc32 (b.take (len - 4)) ≠ rd b (len - 4) 4 then .inr (1, len - 4)
    else
      let t := TtImage.decode b
      let S := fun (p : Nat) => slotsOf (r.rate400 p) t.step
      let findMap := fun (ok : Nat × Bool × List SlotEntry → Bool) => ((portMaps b).find? (fun x => !(ok x.2))).map (fun x => x.1)
      let findStream := fun (ok : Stream → Bool) => (List.range sc).find? (fun i => match t.streams[i]? with | some s => !(ok s) | none => false)
      if rd b 0x18 4 % 2 ^ 17 ≠ junctionId then .inr (2, 0x18)
      else if 124 < t.step then .inr (3, 0xC)
      else if t.planP == planS t.step then .inr (3, 6)
      else match deadlinesOk t.planP t.step t.deadlines with
      | some i => .inr (4, 0x28 + 4 * i)
      | none => match findMap (fun m => (t.maps.filter (fun x => x.1 == m.1 && x.2.1 == m.2.1)).length == 1 && m.2.2.length == S m.1 && !(r.unused m.1)) with
      | some i => .inr (5, po + 16 * i)
      | none => match findMap (fun m => slackOk (fun k => decide (2 ≤ (m.2.2.getD k ⟨0, 0, 0⟩).cls)) m.2.2.length) with
      | some i => .inr (6, po + 16 * i)
      | none => match findStream t.streamOk with
      | some i => .inr (7, so + 16 * i)
      | none => match findMap t.mapOk with
      | some i => .inr (7, po + 16 * i)
      | none => match findStream (t.timeOk r) with
      | some i => .inr (8, so + 16 * i)
      | none =>
        if 2 ≤ rd b 6 2 then .inr (9, 6) else if rd b 0xD 3 ≠ 0 then .inr (9, 0xD) else if 2 ^ 17 ≤ rd b 0x18 4 then .inr (9, 0x18)
        else if !allZero (sub b 0x48 56) then .inr (9, 0x48)
        else match (List.range sc).find? (fun i =>
            let e := sub b (so + 16 * i) 16
            decide (64 ≤ rd e 2 1) || decide (4 < rd e 2 1 % 16) || decide (67 < rd e 3 1) || decide (5 < rd e 6 1) || rd e 7 1 != 0 || !(entityOk (rd e 12 4))) with
        | some i => .inr (9, so + 16 * i)
        | none => match (List.range pc).find? (fun i =>
            let e := sub b (po + 16 * i) 16
            decide (1 < rd e 1 1) || rd e 2 2 != 0 || rd e 12 4 != 0
            || (List.range (rd e 4 4)).any (fun k => let v := rd b (rd e 8 4 + 4 * k) 4; fld v 30 2 != 0 || (v % 4 != 1 && fld v 2 28 != 0))) with
        | some i => .inr (9, po + 16 * i)
        | none => .inl t

/-! ## Arm checks of a plan against its image (R232 codes 10 to 13, R253, R258 code 14) -/

/-- The place of a stream in the image's table, as a byte offset: the raw table begins at `so`. -/
def TtImage.offsetOf (t : TtImage) (so : Nat) (s : Stream) : Nat :=
  so + 16 * (((List.range t.streams.length).find? (fun i => t.streams[i]? == some s)).getD 0)

/-- Presence-word streams of a twin port: KIND 0x4, PHASE 1, one flit (R232 check 11). -/
def Stream.presence (s : Stream) : Bool := s.kind == 4 && s.phase == 1 && s.flits == 1

/-- T_ready in ns (R253); at a tray the later of the two presence-word receive streams. -/
def TtImage.tReady (t : TtImage) (level : Nat) : Nat :=
  (t.streams.filter (fun s => !s.tx && (if level = 0 then s.presence && decide (66 ≤ s.port) else s.kind == 1))).foldl (fun a s => max a s.time) 0

/-- Lanes of one child partial (R252). -/
def Plan.childLanes (p : Plan) : Nat := p.fields.foldl (fun a f => a + f.lanes) 0

/-- Child slots with a partial receive stream, on either uplink copy (R250, R253). -/
def TtImage.children (t : TtImage) : Nat :=
  ((List.range 32).filter (fun k => t.streams.any (fun s => !s.tx && s.kind == 1 && (s.port == k || s.port == 32 + k)))).length

/-- Lanes to merge at this Junction (R253): of the in-scope dies at a tray, of every child partial above it. -/
def Plan.lanes (p : Plan) (t : TtImage) (level : Nat) : Nat :=
  if level = 0 then popcount 32 p.anyMask * p.fields.length else t.children * p.childLanes

/-- The most lanes that merge in one tick: 32 in each JCLK of 0.625 ns, and 262,144 (R252). -/
def laneCap (step : Nat) : Nat := min 262144 (hNs step * 256 / 5)

/-- The arm checks 10 to 14: the code and OFFSET of the first failure (R232, R258). -/
def armCheck (r : Role) (so : Nat) (t : TtImage) (p : Plan) : Option (Nat × Nat) :=
  let none' := 0xFFFFFFFF
  let big := cdiv p.partialLen 236
  let tx := fun (id kind : Nat) => t.streams.find? (fun s => s.id == id && s.kind == kind && s.tx)
  let twinBad := r.level == 0 && [66, 67].any (fun port =>
    !(t.streams.any (fun s => s.port == port && s.tx && s.presence)) || !(t.streams.any (fun s => s.port == port && !s.tx && s.presence)))
  let primDown := fun (k : Nat) => t.streams.any (fun s => s.port == 32 + k && s.kind == 2 && s.tx && s.flits == 16)
  let has := fun (port : Nat) => t.streams.any (fun s => s.port == port && s.kind == 2 && !s.tx && s.flits == 16)
  if p.imageId ≠ t.imageId then some (10, 0x10)
  else if r.level = 3 && p.partialStream ≠ 0xFFFF then some (11, 0x24)
  else if r.level ≠ 3 && (tx p.partialStream 1).isNone then some (11, 0x24)
  else if r.level ≠ 3 && (match tx p.partialStream 1 with | some s => decide (s.flits < big) | none => false) then
    some (11, match tx p.partialStream 1 with | some s => t.offsetOf so s | none => none')
  else if (tx p.digestStream 4).isNone then some (11, 0x26)
  else if twinBad then some (11, none')
  else match t.streams.find? (fun s => !s.tx && s.kind == 1 && s.flits != big) with
  | some s => some (12, t.offsetOf so s)
  | none =>
    let d := t.deadline (1 + r.level)
    let staged := (t.streams.filter (fun s => !s.tx)).foldl (fun a s => a + 236 * s.flits) 0
    if d * 1000 < t.tReady r.level * 1000 + (24 + cdiv (p.lanes t r.level) 32) * 625 || 16777216 < staged then some (13, none')
    else if 112 < (p.fields.filter (·.broadcast)).length || p.fields.any (fun f => f.broadcast && f.out == 3) then some (14, none')
    else match t.streams.find? (fun s => s.kind == 2 && s.flits != 16) with
    | some s => some (14, t.offsetOf so s)
    | none =>
      if r.level ≠ 0 && (List.range 32).any (fun k => bit p.anyMask k && !(primDown k)) then some (14, none')
      else if r.level ≠ 3 && !(has r.primaryUp) then some (14, none')
      else none

end Sys2Proof.Machine
end

