-- ==== Sys2Proof/Machine/Detect.lean ====
section
/-! DEFINITION. Detector tables, detector forms, levels and verdict records (R264 to R279). -/

namespace Sys2Proof.Machine

/-! ## Detector tables (R264, R265) -/

/-- A detector entry (R265). Thresholds and parameters are fp32 bits. -/
structure Det where
  id : Nat
  form : Nat
  side : Nat
  frozen : Bool
  residual : Bool
  scope : Nat
  family : Nat
  input : Nat
  action : Nat
  raiseN : Nat
  clearN : Nat
  tWatch : Nat
  tAlarm : Nat
  pa : Nat
  pb : Nat
  pc : Nat
  hyst : Nat
  suppress : Nat
  bytes : Bytes
deriving DecidableEq, Repr

/-- The entry of 32 bytes (R265). -/
def Det.decode (b : Bytes) : Det :=
  let f := rd b 1 1
  let c := rd b 7 1
  { id := rd b 0 1, form := f % 4, side := fld f 2 2, frozen := bit f 4, residual := bit f 5, scope := rd b 2 1, family := rd b 3 1,
    input := rd b 4 2, action := rd b 6 1 % 16, raiseN := c % 16 + 1, clearN := c / 16 + 1, tWatch := rd b 8 4, tAlarm := rd b 0xC 4,
    pa := rd b 0x10 4, pb := rd b 0x14 4, pc := rd b 0x18 4, hyst := rd b 0x1C 1, suppress := rd b 0x1E 2, bytes := b }

/-- A detector table (R264). -/
structure DetTable where
  ctx : Nat
  maxAge : Nat
  job : Nat
  dets : List Det
deriving DecidableEq, Repr

def DetTable.decode (b : Bytes) : DetTable :=
  { ctx := rd b 0 1 % 16, maxAge := rd b 2 1, job := rd b 4 4,
    dets := (List.range (rd b 1 1)).map (fun i => Det.decode (sub b (16 + 32 * i) 32)) }

/-- A plan field may be named by a context: its CTX is the same, or the mode is Open (R264). With no plan in place nothing is known of it. -/
def fieldAllowed (fields : Option (List Field)) (open_ : Bool) (ctx i : Nat) : Bool :=
  match fields with
  | none => true
  | some fs => match fs[i]? with | some f => open_ || f.ctx == ctx | none => false

/-- OUT of a plan field, where a plan is in place. -/
def fieldOut (fields : Option (List Field)) (i : Nat) : Option Nat := fields.bind (fun fs => fs[i]?.map (·.out))

/-- fp32 bits of a number above 0 (R265). -/
def posBits (v : Nat) : Bool := let x := Fp.decode fp32 v; !x.isNan && !x.isNeg && !x.isZero

/-- An entry's own rules (R264 to R266). RESIDUAL with a FORM other than CUSUM is refused (log 92). -/
def Det.ok (fields : Option (List Field)) (open_ : Bool) (ctx job : Nat) (e : Det) : Bool :=
  let b := e.bytes
  let usesField := (e.form == 0 || e.form == 1 || (e.form == 2 && !e.residual)) && e.scope != 3
  decide (e.id < 64) && rd b 1 1 < 64 && e.side != 3 && decide (e.scope ≤ 4) && decide (e.family ≤ 4) && decide (rd b 6 1 < 16)
  && posBits e.tWatch && (Fp.decode fp32 e.tWatch).le (Fp.decode fp32 e.tAlarm) && decide (1 ≤ e.hyst) && rd b 0x1D 1 == 0
  && (!e.residual || (e.form == 2 && decide (e.scope ≤ 2)))
  && !(e.form == 0 && decide (3 ≤ e.scope))
  && (e.form == 0 || (e.form == 2 || e.pa == 0))
  && (e.form == 0 || (e.form == 2 && !e.residual) || (e.pb == 0 && e.pc == 0))
  && !(e.form == 2 && !e.residual && !(posBits e.pc))
  && (!usesField || fieldAllowed fields open_ ctx e.input)
  && !(e.form == 0 && (match fields with | some fs => (match fs[e.input]? with | some f => !(f.op == 8 && f.broadcast) | none => true) | none => false))
  && !(e.scope == 4 && usesField && (fieldOut fields e.input == some 5 || fieldOut fields e.input == some 3))
  && !(e.scope == 4 && fld job 28 4 != 5)

/-- A detector table section (R20, R264): length, reserved bytes, a JOB of a defined type, unique DET_IDs and every entry. -/
def detTableOk (fields : Option (List Field)) (open_ : Bool) (ctx : Nat) (b : Bytes) : Bool :=
  let t := DetTable.decode b
  decide (16 ≤ b.length) && rd b 0 1 == ctx && decide (rd b 1 1 ≤ 64) && b.length == 16 + 32 * rd b 1 1 && decide (t.maxAge ≤ 16)
  && rd b 3 1 == 0 && allZero (sub b 8 8)
  && entityOk t.job && t.dets.all (fun e => e.ok fields open_ ctx t.job) && t.dets.all (fun e => (t.dets.filter (fun d => d.id == e.id)).length == 1)

/-! ## Detector state and forms (R267 to R272) -/

/-- The state of a detector for an entity: level, raise and clear counters, CUSUM sums as fp32 bits (R269, R272). -/
structure DetState where
  level : Nat
  r1 : Nat
  r2 : Nat
  c1 : Nat
  c2 : Nat
  sp : Nat
  sn : Nat
deriving DecidableEq, Repr

/-- The state after reset (R272). -/
def DetState.fresh : DetState := ⟨0, 0, 0, 0, 0, 0, 0⟩

/-- The statistics a detector may use for a tick: none missing (R263), else the stream and its age. -/
abbrev StatView := Option (Bytes × Nat)

/-- What evaluating a pair gives: q and the new sums, or why it was not evaluated, as the verdict flag (R266 to R271, R276). -/
inductive EvalOut where
  | done (q : Fp) (sp sn : Nat)
  | skip (flag : Nat)
deriving DecidableEq, Repr

/-- q of a score by SIDE (R267, R268). -/
def sideOf (side : Nat) (z : Fp) : Fp := match side with | 0 => z | 1 => z.neg | _ => z.abs

/-- s of ROBUST_Z in fp64 (R267). -/
def robustS (e : Det) (entry : Bytes) : Fp :=
  let med := Fp.decode fp64 (rd entry 0x10 8)
  let mad := Fp.decode fp64 (rd entry 0x18 8)
  let f32 := fun (v : Nat) => Fp.decode fp32 v
  let c := (Fp.ofRat (14826 / 10000)).round fp64
  ((Fp.mulR fp64 c mad).max (f32 e.pa)).max (Fp.mulR fp64 (f32 e.pb) med.abs)

/-- A statistics entry is too thin for a ROBUST_Z detector (R267). -/
def robustThin (e : Det) (entry : Bytes) : Bool :=
  let fl := rd entry 3 1
  bit fl 0 || bit fl 1 || bit fl 2 || decide (fld (rd entry 4 4) 0 18 < e.pc) || (robustS e entry).isZero

/-- ROBUST_Z in fp64 (R267). -/
def robustZ (e : Det) (x : Fp) (entry : Bytes) : EvalOut :=
  let med := Fp.decode fp64 (rd entry 0x10 8)
  .done (sideOf e.side (Fp.divR fp64 (Fp.subR fp64 (x.round fp64) med) (robustS e entry))) 0 0

/-- CUSUM in fp32 (R269). -/
def cusum (e : Det) (k : DetState) (u : Fp) : EvalOut :=
  let f32 := fun (v : Nat) => Fp.decode fp32 v
  let cap := Fp.mulR fp32 (.fin false 2) (f32 e.tAlarm)
  let zero := Fp.fin false 0
  let sp := cap.min (zero.max (Fp.subR fp32 (Fp.addR fp32 (f32 k.sp) u) (f32 e.pa)))
  let sn := cap.min (zero.max (Fp.subR fp32 (Fp.subR fp32 (f32 k.sn) u) (f32 e.pa)))
  let q := match e.side with | 0 => sp | 1 => sn | _ => sp.max sn
  .done q (sp.encode fp32) (sn.encode fp32)

/-- An input that R266 excludes. -/
def excluded (x : Option Fp) : Bool := match x with | some v => v.isNan | none => true

/-- Every reason why a detector is not evaluated for an entity in a tick, as verdict flags (R263, R266, R267, R269 to R271, R276); 0 when it
is evaluated. -/
def Det.barred (e : Det) (suppressed : Bool) (x : Option Fp) (stats : StatView) (u y : Option Fp) : Nat :=
  put 3 (b2n suppressed)
  ||| (match e.form with
    | 3 => put 6 (b2n y.isNone)
    | 2 => if e.residual then put 5 (b2n u.isNone) else put 4 (b2n (excluded x))
    | 1 => put 4 (b2n (excluded x))
    | _ => put 4 (b2n (excluded x)) ||| (match stats with
      | none => 2
      | some (b, _) => match statOf b e.input with | some entry => put 2 (b2n (robustThin e entry)) | none => 4))

/-- Evaluate a detector for an entity (R266 to R271). `x` is its input, `u` a delivered residual, `y` an ensemble output. -/
def Det.eval (e : Det) (k : DetState) (suppressed : Bool) (x : Option Fp) (stats : StatView) (u y : Option Fp) : EvalOut :=
  let fl := e.barred suppressed x stats u y
  if fl ≠ 0 then .skip fl
  else match e.form with
  | 3 => .done (y.getD .nan) 0 0
  | 2 =>
    if e.residual then cusum e k (u.getD .nan)
    else
      let d := Fp.subR fp32 ((x.getD .nan).round fp32) (Fp.decode fp32 e.pb)
      cusum e k (Fp.divR fp32 d (Fp.decode fp32 e.pc))
  | 1 => .done (sideOf e.side (x.getD .nan)) 0 0
  | _ => match stats.bind (fun s => statOf s.1 e.input) with
    | some entry => robustZ e (x.getD .nan) entry
    | none => .skip 4

/-- The level update of R272. -/
def Det.update (e : Det) (k : DetState) (q : Fp) : DetState :=
  let t1 := Fp.decode fp32 e.tWatch
  let t2 := Fp.decode fp32 e.tAlarm
  let h := Fp.fin false ((e.hyst : Rat) / 256)
  let step := fun (n : Nat) (b : Bool) => if b then min 16 (n + 1) else 0
  let r1 := step k.r1 (t1.le q)
  let r2 := step k.r2 (t2.le q)
  let c1 := step k.c1 (q.lt (Fp.mulR fp32 h t1))
  let c2 := step k.c2 (q.lt (Fp.mulR fp32 h t2))
  let up := if e.raiseN ≤ r2 then 2 else if e.raiseN ≤ r1 then 1 else 0
  let cl := if k.level = 2 then c2 else c1
  let level :=
    if k.level < up then up
    else if 0 < k.level && e.clearN ≤ cl then (if k.level = 2 && c1 < e.clearN then 1 else 0)
    else k.level
  { k with level := level, r1 := r1, r2 := r2, c1 := c1, c2 := c2 }

/-! ## Verdicts (R273, R276, R277) -/

/-- One evaluated or skipped pair of a tick. -/
structure EvalRec where
  ctx : Nat
  det : Nat
  entity : Nat
  flag : Nat
  q : Option Fp
  level : Nat
deriving DecidableEq, Repr

/-- What a verdict says of an entity beside its detectors. -/
structure VerdictEnv where
  tick : Nat
  entity : Nat
  ctx : Nat
  scorer : Nat
  /-- the die's frame was not accepted; the failure detector holds it DEAD; one-sided; untimed; not computed in time -/
  missed : Bool
  dead : Bool
  oneSided : Bool
  untimed : Bool
  late : Bool
  statsAge : Nat
  aux : Nat
  prev : Nat
deriving DecidableEq, Repr

/-- a is ranked above b for TOP_DET: level, then q/T_ALARM, then lower DET_ID (R273). -/
def topBefore (a b : EvalRec) (ta tb : Fp) : Bool :=
  let r := fun (x : EvalRec) (t : Fp) => match x.q with | some q => q.div t | none => .inf true
  if a.level ≠ b.level then decide (b.level < a.level)
  else if (r b tb).lt (r a ta) then true
  else if (r a ta).lt (r b tb) then false
  else decide (a.det < b.det)

/-- The TOP_DET of evaluated records. -/
def topDet (t : DetTable) : List EvalRec → Option EvalRec
  | [] => none
  | a :: rest =>
    let ta := fun (x : EvalRec) => match t.dets.find? (fun d => d.id == x.det) with | some d => Fp.decode fp32 d.tAlarm | none => .fin false 1
    match topDet t rest with
    | none => some a
    | some b => if topBefore a b (ta a) (ta b) then some a else some b

/-- The CAUSES bit of a detector (R273). -/
def Det.cause (d : Det) : Nat := if d.form = 3 then 32 else put d.family 1

/-- The verdict of an entity: its 48 bytes and its STATE (R273, R276, R277). `levels` gives the entity's detectors in table order and the
level each holds. -/
def verdictOf (t : DetTable) (env : VerdictEnv) (evs : List EvalRec) (levels : List (Det × Nat)) : Bytes × Nat :=
  let missing := env.missed || env.late || env.dead
  let worst := levels.foldl (fun a x => max a x.2) 0
  let st := if missing then 3 else worst
  let causes := levels.foldl (fun a x => if 1 ≤ x.2 then Nat.lor a x.1.cause else a) 0
  let done := evs.filter (fun x => x.q.isSome)
  let top := topDet t done
  let ens := (levels.find? (fun x => x.1.form == 3)).bind (fun d => (done.find? (fun x => x.det == d.1.id)).bind (·.q))
  let flags := evs.foldl (fun a x => Nat.lor a x.flag) 0
  let flags := flags ||| b2n (decide (0 < env.statsAge)) ||| put 7 (b2n env.late) ||| put 8 (b2n env.untimed) ||| put 9 (b2n env.oneSided) ||| put 10 (b2n env.missed)
  let score := match top with | some x => (match x.q with | some q => (q.round fp32).encode fp32 | none => 0) | none => 0
  (le 8 env.tick ++ le 4 env.entity ++ le 1 env.ctx ++ le 1 (st + put 2 (b2n (decide (st ≠ env.prev))) + put 3 (b2n env.dead)) ++ le 2 causes
    ++ le 4 flags ++ le 1 (match top with | some x => x.det | none => 0xFF) ++ le 1 done.length ++ le 1 env.statsAge ++ le 1 0
    ++ le 4 score ++ le 4 ((ens.getD .nan).encode fp32) ++ le 4 env.aux ++ le 4 env.scorer ++ le 8 0, st)

end Sys2Proof.Machine
end

