-- ==== Sys2Proof/Machine/Seq.lean ====
section
/-! DEFINITION. The sequence engine: formats, instructions, group sections and their checks, rows and their state slots (R308 to R333). -/

namespace Sys2Proof.Machine

/-! ## Formats (R313, R318) -/

/-- Bytes of an element of a format code (R313). -/
def fmtBytes (c : Nat) : Nat := match c with | 0 => 4 | 1 => 2 | 2 => 2 | 6 => 4 | _ => 1

/-- The floating-point format of a code. -/
def fmtOf (c : Nat) : Option Fmt :=
  match c with | 0 => some fp32 | 1 => some bf16 | 2 => some fp16 | 3 => some e4m3 | 4 => some e5m2 | _ => none

/-- The value of an element of a format code; integers are exact (R313). -/
def elemVal (c bits : Nat) : Fp :=
  match fmtOf c with
  | some f => Fp.decode f bits
  | none => Fp.ofRat (signed (8 * fmtBytes c) bits : Int)

/-- Saturate an integer to w bits: the code and whether it saturated (R316). -/
def satInt (w : Nat) (i : Int) : Nat × Bool :=
  let c := clampI (-(2 ^ (w - 1) : Nat)) ((2 ^ (w - 1) : Nat) - 1) i
  (unsigned w c, decide (c ≠ i))

/-- The nearest integer of a rational, ties to even. -/
def rneInt (q : Rat) : Int := if q < 0 then -((rne (-q) : Nat) : Int) else (rne q : Nat)

/-- A value converted to a format code, and whether it counts as a saturation (R318). What the table leaves out, a NaN or an
infinity to int32, is the value `fv`. -/
def convert (c : Nat) (sat : Bool) (fv : Nat) (x : Fp) : Nat × Bool :=
  match fmtOf c with
  | some f =>
    match x with
    | .nan => (Fp.encode f .nan, true)
    | .inf s => if f.hasInf then (Fp.encode f (.inf s), false) else (Fp.encode f (.fin s 448), false)
    | .fin s q =>
      let r := f.roundMag q
      if f.maxFin < r then (Fp.encode f (if sat || !f.hasInf then .fin s f.maxFin else .inf s), true)
      else (Fp.encode f (.fin s r), false)
  | none =>
    let w := 8 * fmtBytes c
    match x with
    | .nan => if c = 5 then (0, true) else (fv % 2 ^ 32, true)
    | .inf s => if c = 5 then (if s then 0x80 else 0x7F, true) else (fv % 2 ^ 32, true)
    | _ => satInt w (rneInt x.toRat)

/-! ## Instructions (R321 to R324) -/

/-- An instruction (R321). Addresses in bytes. -/
structure SeqInstr where
  op : Nat
  fin : Nat
  fout : Nat
  bmode : Nat
  acc : Bool
  sat : Bool
  dst : Nat
  srcA : Nat
  srcB : Nat
  m : Nat
  k : Nat
  n : Nat
  func : Nat
  pd : Nat
  pa : Nat
  pb : Nat
  kField : Nat
  junk : Bool
deriving DecidableEq, Repr

def SeqInstr.decode (v : Nat) : SeqInstr :=
  { op := fld v 0 6, fin := fld v 6 3, fout := fld v 9 3, bmode := fld v 12 2, acc := bit v 14, sat := bit v 15,
    dst := 4 * fld v 16 22, srcA := 4 * fld v 38 22, srcB := 4 * fld v 60 22, m := fld v 82 10 + 1, k := fld v 92 7 + 1, n := fld v 99 7 + 1,
    func := fld v 106 4, pd := fld v 110 2, pa := fld v 112 2, pb := fld v 114 2, kField := fld v 92 7, junk := fld v 116 12 != 0 }

/-- An operand: address, pitch, rows, columns, format code (R323). -/
structure Operand where
  addr : Nat
  pitch : Nat
  rows : Nat
  cols : Nat
  fmt : Nat
deriving DecidableEq, Repr

/-- The natural pitch of a row (R323). -/
def naturalPitch (cols fmt : Nat) : Nat := cdiv (cols * fmtBytes fmt) 4 * 4

/-- The pitch of a code (R323). -/
def pitchOf (code cols fmt : Nat) : Nat := match code with | 0 => naturalPitch cols fmt | 1 => 16 | 2 => 64 | _ => 512

def SeqInstr.opD (i : SeqInstr) : Operand := ⟨i.dst, pitchOf i.pd i.n i.fout, i.m, i.n, i.fout⟩
def SeqInstr.opA (i : SeqInstr) : Operand :=
  let c := if i.op = 1 then i.k else i.n
  ⟨i.srcA, pitchOf i.pa c i.fin, i.m, c, i.fin⟩
/-- The B operand by BMODE; K × N for MM (R321, R322). -/
def SeqInstr.opB (i : SeqInstr) : Operand :=
  let r := if i.op = 1 then i.k else if i.bmode = 0 || i.bmode = 2 then i.m else 1
  let c := if i.op = 1 then i.n else if i.bmode = 0 || i.bmode = 1 then i.n else 1
  ⟨i.srcB, pitchOf i.pb c i.fin, r, c, i.fin⟩

/-- The byte address of an element. -/
def Operand.at (o : Operand) (r c : Nat) : Nat := o.addr + r * o.pitch + c * fmtBytes o.fmt

/-- The group area in local memory, bytes by offset, 0 where not listed. -/
abbrev Area := Tbl Byte

def Area.rd (a : Area) (off n : Nat) : Nat := unle ((List.range n).map (fun i => Tbl.get 0 a (off + i)))
def Area.wr (a : Area) (off : Nat) (b : Bytes) : Area :=
  (List.zip (List.range b.length) b).foldl (fun (t : Tbl Byte) (x : Nat × Byte) => Tbl.put 0 t (off + x.1) x.2) a

/-- The value of an element of an operand. -/
def Operand.val (o : Operand) (a : Area) (r c : Nat) : Fp := elemVal o.fmt (Area.rd a (o.at r c) (fmtBytes o.fmt))

/-- The B element that goes with row r, column c (R321). -/
def SeqInstr.bVal (i : SeqInstr) (a : Area) (r c : Nat) : Fp :=
  let o := i.opB
  match i.bmode with | 0 => o.val a r c | 1 => o.val a 0 c | 2 => o.val a r 0 | _ => o.val a 0 0

/-- One element of a result: its bits and whether it saturated (R314 to R320). -/
def SeqInstr.elem (i : SeqInstr) (a : Area) (fv : Nat) (r c : Nat) : Nat × Bool :=
  let d := i.opD
  match i.op with
  | 1 =>
    let prods := (List.range i.k).map (fun k => (i.opA.val a r k).mul (i.opB.val a k c))
    let start : Fp := if i.acc then d.val a r c else .fin false 0
    let s := prods.foldl (fun x y => x.add y) start
    convert i.fout i.sat fv (if s.isZero then .fin false 0 else s)
  | 2 =>
    let x := i.opA.val a r c
    let y := i.bVal a r c
    let z := match i.func with
      | 0 => Fp.addR fp32 x y | 1 => Fp.subR fp32 x y | 2 => Fp.mulR fp32 x y | 3 => Fp.divR fp32 x y | 4 => x.max y | _ => x.min y
    (z.encode fp32, false)
  | 3 => ((Fp.fmaR fp32 (i.opA.val a r c) (i.bVal a r c) (d.val a r c)).encode fp32, false)
  | 4 => ((funcUnit i.func (i.opA.val a r c)).encode fp32, false)
  | _ => if i.fin = i.fout then (Area.rd a (i.opA.at r c) (fmtBytes i.fin), false) else convert i.fout i.sat fv (i.opA.val a r c)

/-- Execute an instruction: the area after it and the saturations counted (R314 to R324). -/
def SeqInstr.exec (i : SeqInstr) (fv : Nat → Nat) (a : Area) : Area × Nat :=
  let d := i.opD
  let cells := (List.range (i.m * i.n)).map (fun x => (x / i.n, x % i.n))
  let outs := cells.map (fun x => (x, i.elem a (fv (x.1 * i.n + x.2)) x.1 x.2))
  (outs.foldl (fun t x => Area.wr t (d.at x.1.1 x.1.2) (le (fmtBytes d.fmt) x.2.1)) a, (outs.filter (fun x => x.2.2)).length)

/-- The JCLK an instruction takes (R324). -/
def SeqInstr.time (i : SeqInstr) : Nat :=
  match i.op with
  | 1 => if i.fin = 0 then 24 + 2 * i.k + 4 * i.m else if i.fin = 1 || i.fin = 2 then 24 + i.k + i.m else 24 + i.k + cdiv i.m 2
  | 4 => if 7 ≤ i.func then 8 + cdiv (i.m * i.n) 128 else 12 + cdiv (i.m * i.n) 32
  | 0x3F => 0
  | _ => 8 + cdiv (i.m * i.n) 128

/-- Operation, formats and FUNC permitted together (R322). -/
def SeqInstr.formOk (i : SeqInstr) : Bool :=
  match i.op with
  | 1 =>
    let outs : List Nat := match i.fin with | 0 => [0] | 1 | 2 => [0, 1, 2] | 3 | 4 => [0, 1, 2, 3, 4] | 5 => [6, 5] | _ => []
    outs.contains i.fout && i.func == 0 && i.bmode == 0
  | 2 => i.fin == 0 && i.fout == 0 && decide (i.func ≤ 5)
  | 3 => i.fin == 0 && i.fout == 0 && i.func == 0
  | 4 => i.fin == 0 && i.fout == 0 && decide (i.func ≤ 9)
  | 5 => decide (i.fin ≤ 6) && decide (i.fout ≤ 6) && i.func == 0
  | 0x3F => i.fin == 0 && i.fout == 0 && i.func == 0
  | _ => false

/-- Two operands touch a byte in common. -/
def Operand.meets (x y : Operand) : Bool :=
  (List.range x.rows).any (fun i => (List.range y.rows).any (fun j =>
    let a := x.at i 0
    let b := y.at j 0
    decide (a < b + y.cols * fmtBytes y.fmt) && decide (b < a + x.cols * fmtBytes x.fmt)))

/-- Same address, pitch and shape (R323). -/
def Operand.same (x y : Operand) : Bool := x.addr == y.addr && x.pitch == y.pitch && x.rows == y.rows && x.cols == y.cols

/-- An operand's pitch and extent (R323). -/
def Operand.fits (o : Operand) (area : Nat) : Bool :=
  decide (naturalPitch o.cols o.fmt ≤ o.pitch) && decide (o.at (o.rows - 1) 0 + o.cols * fmtBytes o.fmt ≤ area)

/-- Check 6 of R327 for one instruction, its place in the program apart. -/
def SeqInstr.ok (i : SeqInstr) (area constOff constLen : Nat) : Bool :=
  let usesB := i.op == 1 || i.op == 2 || i.op == 3
  let konst : Operand := ⟨constOff, constLen, 1, constLen, 5⟩
  let clear := fun (src : Operand) => !(i.opD.meets src) || (i.op != 1 && i.opD.same src)
  if i.op = 0x3F then i.formOk && !i.junk && i.kField == 0
  else
    i.formOk && !i.junk && (i.op == 1 || i.kField == 0) && i.opD.fits area && i.opA.fits area && (!usesB || i.opB.fits area)
    && (constLen == 0 || !(i.opD.meets konst)) && clear i.opA && (!usesB || clear i.opB)

/-! ## Group sections (R325 to R327) -/

/-- A forecaster group (R325, R326). -/
structure Grp where
  group : Nat
  ctx : Nat
  d : Nat
  warmup : Nat
  maxGap : Nat
  slots : Nat
  sigma : Nat
  area : Nat
  constOff : Nat
  constImg : Bytes
  /-- X, V, U, G, S_IN, S_OUT, Y -/
  offs : List Nat
  /-- STREAM, FIELD, SCOPE -/
  streams : List (Nat × Nat × Nat)
  initVec : List Nat
  prog : List Nat
  key : Nat
deriving DecidableEq, Repr

/-- The next multiple of 16. -/
def up16 (n : Nat) : Nat := cdiv n 16 * 16

def Grp.decode (b : Bytes) : Grp :=
  let g := rd b 8 1
  let d := rd b 9 1
  let so := 64
  let io := up16 (so + 8 * g)
  let co := up16 (io + 4 * d)
  let cl := rd b 0x1C 4
  let po := up16 (co + cl)
  { group := rd b 6 1, ctx := rd b 7 1 % 16, d := d, warmup := rd b 0xA 1, maxGap := rd b 0xB 1, slots := rd b 0xE 1, sigma := rd b 0x10 4,
    area := rd b 0x14 4, constOff := rd b 0x18 4, constImg := sub b co cl, offs := (List.range 7).map (fun i => rd b (0x20 + 4 * i) 4),
    streams := (List.range g).map (fun i => (rd b (so + 8 * i) 2, rd b (so + 8 * i + 2) 2, rd b (so + 8 * i + 4) 1)),
    initVec := (List.range d).map (fun i => rd b (io + 4 * i) 4), prog := (List.range (rd b 0xC 2)).map (fun i => rd b (po + 16 * i) 16),
    key := crcOf crc64Ecma (overlay (b.take (b.length - 4)) 6 [0]) }

/-- Rows R = G × E (R309). -/
def Grp.rows (g : Grp) : Nat := g.streams.length * g.slots

/-- The slot size Z (R328). -/
def Grp.slotSize (g : Grp) : Nat := cdiv (64 + 4 * g.d) 64 * 64

/-- T_g (R333). -/
def Grp.time (g : Grp) : Nat := 2 * (32 + cdiv (g.rows * g.slotSize) 256) + (g.prog.map (fun v => (SeqInstr.decode v).time)).foldl (· + ·) 0

/-- Ranges of bytes are disjoint. -/
def disjointRanges : List (Nat × Nat) → Bool
  | [] => true
  | (a, n) :: t => t.all (fun x => n == 0 || x.2 == 0 || decide (a + n ≤ x.1) || decide (x.1 + x.2 ≤ a)) && disjointRanges t

/-- The regions of check 5 (R327). -/
def Grp.regions (g : Grp) : List (Nat × Nat) :=
  let r := g.rows
  List.zip g.offs [4 * r, 4 * r, 4 * r, 4 * r, 4 * g.d * r, 4 * g.d * r, 8 * r] ++ [(g.constOff, g.constImg.length)]

/-- Checks 1 to 6 of a group section: the code and byte offset of the first failure (R327). -/
def grpCheck (fields : Option (List Field)) (open_ : Bool) (ctx : Nat) (b : Bytes) : Option (Nat × Nat) :=
  let len := rd b 0x3C 4
  let n := rd b 0xC 2
  let gc := rd b 8 1
  let d := rd b 9 1
  let so := 64
  let io := up16 (so + 8 * gc)
  let po := up16 (up16 (io + 4 * d) + rd b 0x1C 4)
  if rd b 0 4 ≠ 0x51455344 then some (1, 0) else if rd b 4 2 ≠ 1 then some (1, 4)
  else if len ≠ b.length || len < 68 || len - 4 < po + 16 * n then some (1, 0x3C)
  else if crcOf crc32 (b.take (len - 4)) ≠ rd b (len - 4) 4 then some (1, len - 4)
  else
    let g := Grp.decode b
    if rd b 7 1 ≠ ctx then some (2, 7) else if 63 < g.group then some (2, 6)
    else if gc = 0 || 32 < gc then some (3, 8) else if d = 0 || 120 < d then some (3, 9) else if g.maxGap = 0 then some (3, 0xB)
    else if n = 0 || 4096 < n then some (3, 0xC) else if g.slots = 0 || 32 < g.slots then some (3, 0xE)
    else if !(posBits g.sigma) then some (3, 0x10)
    else match (List.range d).find? (fun i => !((Fp.decode fp32 (g.initVec.getD i 0)).isFin)) with
      | some i => some (3, io + 4 * i)
      | none => match (List.range gc).find? (fun i => let s := g.streams.getD i (0, 0, 0); !(fieldAllowed fields open_ ctx s.2.1) || decide (2 < s.2.2) || decide (2047 < s.1)) with
        | some i => some (4, so + 8 * i)
        | none =>
          if !(g.regions.all (fun x => x.1 % 4 == 0 && decide (x.1 + x.2 ≤ g.area))) || !(disjointRanges g.regions) || g.area % 64 ≠ 0 || 16515072 < g.area then some (5, 0x14)
          else match (List.range n).find? (fun i => let v := SeqInstr.decode (g.prog.getD i 0)
              !(v.ok g.area g.constOff g.constImg.length) || ((v.op == 0x3F) != (i + 1 == n))) with
            | some i => some (6, po + 16 * i)
            | none => Option.none

/-! ## Rows (R309, R328 to R330) -/

/-- Stream and die slot of row r (R309). -/
def Grp.rowOf (g : Grp) (r : Nat) : Nat × Nat := ((g.streams.getD (r / g.slots) (0, 0, 0)).1, r % g.slots)

/-- A state slot (R328). -/
structure RowState where
  forTick : Nat
  forecast : Nat
  scale : Nat
  warm : Nat
  epoch : Nat
  key : Nat
  state : List Nat
deriving DecidableEq, Repr

def RowState.decode (d : Nat) (b : Bytes) : RowState :=
  { forTick := rd b 0 8, forecast := rd b 8 4, scale := rd b 0xC 4, warm := rd b 0x10 2, epoch := rd b 0x14 4, key := rd b 0x18 8,
    state := (List.range d).map (fun i => rd b (0x40 + 4 * i) 4) }

def RowState.encode (r : RowState) : Bytes :=
  le 8 r.forTick ++ le 4 r.forecast ++ le 4 r.scale ++ le 2 r.warm ++ zeros 2 ++ le 4 r.epoch ++ le 8 r.key ++ zeros 32
  ++ (r.state.map (fun v => le 4 v)).flatten

/-- A residual and its normalised value (R311). -/
def residual (x : Fp) (forecast scale sigma : Nat) : Fp × Fp :=
  let f := fun (v : Nat) => Fp.decode fp32 v
  let r := Fp.subR fp32 (x.round fp32) (f forecast)
  (r, Fp.divR fp32 r ((f scale).max (f sigma)))

end Sys2Proof.Machine
end

