-- ==== Sys2Proof/Machine/Tree.lean ====
section
/-! DEFINITION. Tree ensembles: sections and their checks, feature values, Waybill entries, walks, sums, placement and the walk bound (R280 to R306). -/

namespace Sys2Proof.Machine

/-- Nodes, read in (R285). -/
structure TNode where
  type : Nat
  dflt : Bool
  lt : Bool
  feature : Nat
  value : Nat
  left : Nat
  right : Nat
  junk : Bool
deriving DecidableEq, Repr

def TNode.decode (v : Nat) : TNode :=
  { type := v % 4, dflt := bit v 2, lt := bit v 3, feature := fld v 16 10, value := fld v 32 32, left := fld v 64 16, right := fld v 80 16,
    junk := fld v 4 12 != 0 || fld v 26 6 != 0 || fld v 96 32 != 0 || (v % 4 == 1 && fld v 48 16 != 0)
      || (v % 4 == 2 && (bit v 2 || fld v 16 10 != 0 || fld v 64 32 != 0)) }

/-- An ensemble section (R283, R284, R288). -/
structure Ens where
  index : Nat
  ctx : Nat
  kind : Nat
  link : Nat
  scope : Nat
  base : Nat
  deadline : Nat
  /-- KIND, INDEX and VALUE of each feature (R288) -/
  features : List (Nat × Nat × Nat)
  /-- FIRST_NODE, NODES and MAX_PATH of each tree -/
  trees : List (Nat × Nat × Nat)
  /-- PRESENT and RIGHT of each category set -/
  cats : List (Nat × Nat)
  nodes : List Nat
deriving DecidableEq, Repr

def Ens.decode (b : Bytes) : Ens :=
  let fo := rd b 0x20 4
  let tt := rd b 0x24 4
  let co := rd b 0x28 4
  let no := rd b 0x2C 4
  { index := rd b 6 1, ctx := rd b 7 1 % 16, kind := rd b 8 1, link := rd b 9 1, scope := rd b 0xA 1, base := rd b 0x18 4, deadline := rd b 0x1C 4,
    features := (List.range (rd b 0xC 2)).map (fun i => (rd b (fo + 8 * i) 1, rd b (fo + 8 * i + 2) 2, rd b (fo + 8 * i + 4) 4)),
    trees := (List.range (rd b 0x10 4)).map (fun i => (rd b (tt + 8 * i) 4, rd b (tt + 8 * i + 4) 2, rd b (tt + 8 * i + 6) 1)),
    cats := (List.range (rd b 0xE 2)).map (fun i => (rd b (co + 64 * i) 32, rd b (co + 64 * i + 32) 32)),
    nodes := (List.range (rd b 0x14 4)).map (fun i => rd b (no + 16 * i) 16) }

/-- Node i of a tree. -/
def Ens.node (e : Ens) (first i : Nat) : TNode := TNode.decode (e.nodes.getD (first + i) 2)

/-! ## Load checks (R287) -/

/-- fp32 bits of a finite number. -/
def finBits (v : Nat) : Bool := (Fp.decode fp32 v).isFin

/-- Check 5 of a node. -/
def Ens.nodeOk (e : Ens) (n : TNode) : Bool :=
  n.type != 3 && !n.junk && (n.type == 2 || decide (n.feature < e.features.length))
  && (n.type == 1 || finBits n.value) && (n.type != 1 || decide (n.value % 65536 < e.cats.length)) && (n.type == 0 || !n.lt)

/-- How often each node of a tree is reached from node 0 and the longest path to it: walked in index order, children being higher. -/
def Ens.reach (e : Ens) (first n : Nat) : List (Nat × Nat) :=
  (List.range n).foldl (fun (acc : List (Nat × Nat)) i =>
    let x := e.node first i
    let (c, d) := acc.getD i (0, 0)
    if x.type = 2 || c = 0 then acc
    else
      let up := fun (acc : List (Nat × Nat)) (j : Nat) => match acc[j]? with | some (c', d') => acc.set j (c' + c, max d' (d + 1)) | none => acc
      up (up acc x.left) x.right) ((List.range n).map (fun i => if i = 0 then (1, 1) else (0, 0)))

/-- Check 6 of a tree. -/
def Ens.treeOk (e : Ens) (t : Nat × Nat × Nat) : Bool :=
  let (first, n, _) := t
  decide (1 ≤ n) && decide (first + n ≤ e.nodes.length)
  && (List.range n).all (fun i => let x := e.node first i; x.type == 2 || (decide (i < x.left) && decide (x.left < n) && decide (i < x.right) && decide (x.right < n)))
  && (e.reach first n).all (fun x => x.1 == 1)

/-- The longest path of a tree in nodes. -/
def Ens.longest (e : Ens) (t : Nat × Nat × Nat) : Nat := (e.reach t.1 t.2.1).foldl (fun a x => max a x.2) 0

/-- Trees occupy disjoint ranges (R284). -/
def Ens.disjoint (e : Ens) : Bool :=
  (List.range e.trees.length).all (fun i => (List.range i).all (fun j =>
    match e.trees[i]?, e.trees[j]? with
    | some a, some b => decide (a.1 + a.2.1 ≤ b.1) || decide (b.1 + b.2.1 ≤ a.1)
    | _, _ => true))

/-- A feature-map entry fits the SCOPE and names what it may (R264, R288). -/
def featureOk (fields : Option (List Field)) (open_ : Bool) (ctx scope : Nat) (tbl : DetTable) (f : Nat × Nat × Nat) : Bool :=
  match f.1 with
  | 0 => decide (scope ≤ 2) && fieldAllowed fields open_ ctx f.2.1
  | 1 => decide (scope ≤ 2)
  | 2 => decide (scope ≤ 2) && decide (f.2.1 < 60)
  | 3 | 4 => decide (scope ≤ 2) && tbl.dets.any (fun d => d.id == f.2.1 && d.form != 3)
  | 5 | 6 => fieldAllowed fields open_ ctx f.2.1
  | 7 => scope == 3
  | 8 => scope == 4 && fieldAllowed fields open_ ctx f.2.1
  | 9 => f.2.1 == 0
  | _ => false

/-- Checks 1 to 8 of an ensemble section: the code and byte offset of the first failure (R287). -/
def ensCheck (fields : Option (List Field)) (open_ : Bool) (ctx : Nat) (tbl : DetTable) (b : Bytes) : Option (Nat × Nat) :=
  let len := rd b 0x30 4
  let fc := rd b 0xC 2
  let cc := rd b 0xE 2
  let tc := rd b 0x10 4
  let nc := rd b 0x14 4
  if rd b 0 4 ≠ 0x534E4544 then some (1, 0) else if rd b 4 2 ≠ 1 then some (1, 4)
  else if len ≠ b.length || len < 68 then some (1, 0x30)
  else if len - 4 < rd b 0x20 4 + 8 * fc then some (1, 0x20) else if len - 4 < rd b 0x24 4 + 8 * tc then some (1, 0x24)
  else if len - 4 < rd b 0x28 4 + 64 * cc then some (1, 0x28) else if len - 4 < rd b 0x2C 4 + 16 * nc then some (1, 0x2C)
  else if crcOf crc32 (b.take (len - 4)) ≠ rd b (len - 4) 4 then some (1, len - 4)
  else
    let e := Ens.decode b
    if rd b 7 1 ≠ ctx then some (2, 7) else if 63 < e.index then some (2, 6)
    else if 1 < e.kind then some (3, 8) else if 3 < e.link then some (3, 9) else if 4 < e.scope then some (3, 0xA)
    else if fc = 0 || 1024 < fc then some (3, 0xC) else if 4096 < cc then some (3, 0xE) else if tc = 0 || 65536 < tc then some (3, 0x10)
    else if !finBits e.base then some (3, 0x18)
    else match (List.range fc).find? (fun i => !(featureOk fields open_ ctx e.scope tbl (e.features.getD i (15, 0, 0))) || rd b (rd b 0x20 4 + 8 * i + 1) 1 != 0) with
      | some i => some (4, rd b 0x20 4 + 8 * i)
      | none => match (List.range nc).find? (fun i => !(e.nodeOk (TNode.decode (e.nodes.getD i 3)))) with
        | some i => some (5, rd b 0x2C 4 + 16 * i)
        | none => match (List.range tc).find? (fun i => !(e.treeOk (e.trees.getD i (0, 0, 0)))) with
          | some i => some (6, rd b 0x24 4 + 8 * i)
          | none => match (List.range tc).find? (fun i => let t := e.trees.getD i (0, 0, 0); t.2.2 != e.longest t || decide (64 < t.2.2)) with
            | some i => some (7, rd b 0x24 4 + 8 * i)
            | none =>
              if e.trees.foldl (fun a t => a + t.2.1) 0 ≠ nc || !e.disjoint then some (7, 0x14)
              else ((List.range cc).find? (fun i => let c := e.cats.getD i (0, 0); Nat.land c.2 c.1 != c.2)).map (fun i => (8, rd b 0x28 4 + 64 * i))

/-! ## Walks and sums (R289, R295, R296) -/

/-- A feature: its fp32 value and its missing bit (R288, R289). -/
structure Feat where
  value : Nat
  missing : Bool
deriving DecidableEq, Repr

/-- A missing feature holds +0 (R289). -/
def Feat.absent : Feat := ⟨0, true⟩

/-- A value as a feature (R289): −0 becomes +0, NaN is missing. -/
def Feat.of (x : Option Fp) : Feat :=
  match x with
  | some v => if v.isNan then Feat.absent else ⟨((v.round fp32).posZero).encode fp32, false⟩
  | none => Feat.absent

/-- A walk of one tree for one entity (R295); `n` bounds it: children carry higher indices. -/
def Ens.walk (e : Ens) (first : Nat) (fv : List Feat) : Nat → Nat → Option Nat
  | 0, _ => none
  | n + 1, i =>
    let x := e.node first i
    if x.type = 2 then some x.value
    else
      let ft := fv.getD x.feature Feat.absent
      let v := Fp.decode fp32 ft.value
      let right :=
        if ft.missing || v.isNan then x.dflt
        else if x.type = 0 then
          let t := Fp.decode fp32 x.value
          !(if x.lt then v.lt t else v.le t)
        else
          let q := v.toRat
          if v.isFin && q.den = 1 && 0 ≤ q && q ≤ 255 then
            let c := q.num.toNat
            let s := e.cats.getD (x.value % 65536) (0, 0)
            if bit s.1 c then bit s.2 c else x.dflt
          else x.dflt
      e.walk first fv n (if right then x.right else x.left)

/-- The sum of leaves in the exact accumulator and its output (R296). -/
def Ens.output (e : Ens) (leaves : Acc) : Fp :=
  let base := Acc.of (Fp.decode fp32 e.base)
  let sum : Rat := leaves.a * pow2 (-149)
  let m := base.a * pow2 (-149) + (if e.kind = 1 then sum / e.trees.length else sum)
  linkFn e.link ((Fp.ofRat m).round fp32)

/-! ## Waybill entries (R291, R292) -/

/-- The first probe slot of an entity in a partition (R292). -/
def waybillHash (entity size : Nat) : Nat := crcOf crc32 (le 4 entity) % size

/-- The probe slots of an entity, entry numbers in the table (R292). -/
def waybillProbes (base size entity : Nat) : List Nat :=
  if size = 0 then [] else (List.range 8).map (fun p => base + (waybillHash entity size + p) % size)

/-- The entry that a lookup finds among the probe slots: the walk stops at one neither VALID nor TOMBSTONE (R292). -/
def waybillFind (entity : Nat) : List (Nat × Bytes) → Option Nat
  | [] => none
  | (k, b) :: t =>
    let st := rd b 4 1
    if bit st 0 && rd b 0 4 == entity then some k
    else if !(bit st 0) && !(bit st 1) then none
    else waybillFind entity t

/-- The slot an insertion takes: the entity's own VALID slot, else the first neither VALID nor TOMBSTONE (R293). -/
def waybillPlace (entity : Nat) (l : List (Nat × Bytes)) : Option Nat :=
  match waybillFind entity l with
  | some k => some k
  | none => (l.find? (fun x => let st := rd x.2 4 1; !(bit st 0) && !(bit st 1))).map (·.1)

/-! ## Placement and the walk bound (R299 to R302) -/

/-- A tree placed: engine, and page where it lies in the siding. -/
structure Placed where
  ens : Nat
  tree : Nat
  engine : Nat
  page : Option Nat
deriving DecidableEq, Repr

/-- Placement in progress: path loads of the 64 engines, bytes used in the quota of each, the sets copied to each, trees placed,
and the siding pages with the bytes and sets they hold. -/
structure Placing where
  loads : List Nat
  used : List Nat
  sets : List (Nat × Nat × Nat)
  placed : List Placed
  pages : List (Nat × Nat × List (Nat × Nat))
deriving DecidableEq, Repr

/-- The category sets a tree references. -/
def Ens.setsOf (e : Ens) (t : Nat × Nat × Nat) : List Nat :=
  ((List.range t.2.1).filterMap (fun i => let x := e.node t.1 i; if x.type = 1 then some (x.value % 65536) else none)).eraseDups

/-- The engine with the smallest load, ties to the lower number (R299). -/
def leastEngine (loads : List Nat) : Nat :=
  (List.range loads.length).foldl (fun b i => if loads.getD i 0 < loads.getD b 0 then i else b) 0

/-- Place tree i of an ensemble (R299, R302); `siding` says an earlier tree of the ensemble went there. -/
def Placing.tree (p : Placing) (quota : Nat → Nat) (e : Ens) (siding : Bool) (i : Nat) : Placing × Bool :=
  let t := e.trees.getD i (0, 0, 0)
  let eng := leastEngine p.loads
  let need := (e.setsOf t).filter (fun c => !(p.sets.contains (eng, e.index, c)))
  let size := 16 * t.2.1 + 64 * need.length
  if !siding && p.used.getD eng 0 + size ≤ quota eng then
    ({ p with loads := p.loads.set eng (p.loads.getD eng 0 + t.2.2), used := p.used.set eng (p.used.getD eng 0 + size),
              sets := p.sets ++ need.map (fun c => (eng, e.index, c)), placed := p.placed ++ [⟨e.index, i, eng, none⟩] }, false)
  else
    let sets := e.setsOf t
    match p.pages.getLast? with
    | some (peng, used, held) =>
      let new := sets.filter (fun c => !(held.contains (e.index, c)))
      let size := 16 * t.2.1 + 64 * new.length
      if used + size ≤ 65536 then
        ({ p with loads := p.loads.set peng (p.loads.getD peng 0 + t.2.2),
                  pages := p.pages.dropLast ++ [(peng, used + size, held ++ new.map (fun c => (e.index, c)))],
                  placed := p.placed ++ [⟨e.index, i, peng, some (p.pages.length - 1)⟩] }, true)
      else
        ({ p with loads := p.loads.set eng (p.loads.getD eng 0 + t.2.2),
                  pages := p.pages ++ [(eng, 16 * t.2.1 + 64 * sets.length, sets.map (fun c => (e.index, c)))],
                  placed := p.placed ++ [⟨e.index, i, eng, some p.pages.length⟩] }, true)
    | none =>
      ({ p with loads := p.loads.set eng (p.loads.getD eng 0 + t.2.2),
                pages := [(eng, 16 * t.2.1 + 64 * sets.length, sets.map (fun c => (e.index, c)))],
                placed := p.placed ++ [⟨e.index, i, eng, some 0⟩] }, true)

/-- Place the trees of a context's ensembles on `n` enabled engines, in ensemble then tree order (R299). The quota left on each
engine is in bytes. -/
def placeAll (n : Nat) (quota : Nat → Nat) (es : List Ens) : Placing :=
  es.foldl (fun p e => ((List.range e.trees.length).foldl (fun (x : Placing × Bool) i => x.1.tree quota e x.2 i) (p, false)).1)
    ⟨List.replicate n 0, List.replicate n 0, [], [], []⟩

/-- The trees resident on a retired engine go to siding pages of the others (R307). -/
def Placing.retire (p : Placing) (eng : Nat) (es : List Ens) : Placing :=
  let gone := p.placed.filter (fun x => x.engine == eng && x.page.isNone)
  let start : Placing := { p with loads := p.loads.set eng (2 ^ 32), placed := p.placed.filter (fun x => !(x.engine == eng && x.page.isNone)) }
  gone.foldl (fun p x => match es.find? (fun e => e.index == x.ens) with
    | some e => (p.tree (fun _ => 0) e true x.tree).1
    | none => p) start

/-- A tree that fits no empty page is refused (R302). -/
def sidingFits (es : List Ens) : Bool :=
  es.all (fun e => e.trees.all (fun t => decide (16 * t.2.1 + 64 * (e.setsOf t).length ≤ 65536)))

/-- The walk bound J_c (R300); `entities` says how many entities an ensemble scores here. -/
def walkBound (p : Placing) (es : List Ens) (entities : Ens → Nat) (threads : Nat) : Nat :=
  let load := fun (eng : Nat) => es.foldl (fun a e =>
    a + entities e * ((p.placed.filter (fun x => x.engine == eng && x.ens == e.index)).foldl (fun b x => b + (e.trees.getD x.tree (0, 0, 0)).2.2) 0)) 0
  let worst := (List.range 64).foldl (fun a eng => max a (cdiv (8 * load eng) threads)) 0
  32 + worst + 205 * cdiv 32 threads * p.pages.length

end Sys2Proof.Machine
end

