-- ==== Sys2Proof/Machine/JnTypes.lean ====
section
/-! DEFINITION. The pieces of a Junction's state: tick work, contexts, bundles, mailboxes (R41 to R46, R121 to R123, R228, R250 to R263, R276, R310, R334 to R345, R443 to R459). -/

namespace Sys2Proof.Machine

/-! ## Tick work (R39 to R46) -/

/-- A received copy of a stream of one tick: complete and in time, or late-missing (R43). -/
structure Copy where
  port : Nat
  data : Option Bytes
deriving DecidableEq, Repr

/-- A Waybill lookup of a tick: the entity, what its probes held at the issue, whether it has completed, and whether with an error (R292 to R294). -/
structure Lookup where
  ctx : Nat
  entity : Nat
  done : Bool
  found : Option Bytes
  failed : Bool
deriving DecidableEq, Repr

/-- The walks of an ensemble for an entity in one tick: the fixed feature vector once ready, trees walked, and the sum (R290, R296). -/
structure WalkSet where
  ctx : Nat
  ens : Nat
  entity : Nat
  feats : Option (List Feat)
  walked : List Nat
  sum : Acc
  lost : Bool
deriving DecidableEq, Repr

/-- A walk that holds a thread of its context's slice on an engine: one tree for one entity in one tick (R281, R282). -/
structure Flight where
  ctx : Nat
  engine : Nat
  tick : Nat
  ens : Nat
  entity : Nat
  tree : Nat
deriving DecidableEq, Repr

/-- The work of one tick at a Junction. -/
structure TickWork where
  tick : Nat
  frameClosed : Bool
  trayClosed : Bool
  reduceClosed : Bool
  bcastClosed : Bool
  scoreClosed : Bool
  published : Bool
  /-- frames accepted by die slot; slots with a stale-epoch frame; slots whose frame stream was complete or late (R121) -/
  frames : Tbl Bytes
  stale : BitVec 32
  /-- the partner's presence word (R122): bits and flags -/
  partnerWord : Option (BitVec 32)
  /-- presence used and ALONE (R122, R248) -/
  present : BitVec 32
  alone : Bool
  /-- copies of child partials, and the child slots resolved (R250) -/
  copies : List Copy
  resolved : BitVec 32
  recs : List Rec
  void : Bool
  digest : Option Nat
  twinDigest : Option Bytes
  /-- statistics copies from the uplinks: primary, cross (R262) -/
  statsPrim : Option Bytes
  statsCross : Option Bytes
  stats : Option Bytes
  /-- normalised residuals delivered, by context, stream and slot (R311): r and u as fp32 bits -/
  residuals : List ((Nat × Nat × Nat) × (Nat × Nat))
  residDone : Bool
  lookups : List Lookup
  walks : List WalkSet
  evals : List EvalRec
  verdicts : List Bytes
  /-- increases of the port statistics over the interval before this sample edge, those above 0 (R535) -/
  statDelta : List ((Nat × Nat) × Nat)
  /-- slots whose frame stream has been checked (R121) -/
  seen : BitVec 32
  /-- children resolved and not yet merged, and whether a tray has merged (R250, R252) -/
  merging : List (Nat × Bytes)
  merged : Bool
  /-- the digests have been compared (R379) -/
  compared : Bool
  /-- results published at the deadline, by field (R255) -/
  results : List (Nat × Bytes)
  /-- detector states before this tick's evaluation, by key, kept for a verdict that is not computed (R277) -/
  undo : List (Nat × DetState)
  /-- slot and group of the aborts this tick's detectors originated (R274) -/
  aborted : List (Nat × Nat)
  /-- siding pages of the tick, keyed page + 2^20·CTX: 0 not fetched, 1 failed once, 2 loaded, 3 evaluated, 4 abandoned (R303 to R305) -/
  pages : Tbl Nat
  /-- groups whose update of this tick has been started: CTX, GROUP (R310) -/
  groups : List (Nat × Nat)
deriving DecidableEq, Repr

/-- The empty work of a tick. -/
def TickWork.empty (n : Nat) : TickWork :=
  { tick := n, frameClosed := false, trayClosed := false, reduceClosed := false, bcastClosed := false, scoreClosed := false, published := false,
    frames := [], stale := 0, partnerWord := none, present := 0, alone := false, copies := [], resolved := 0, recs := [], void := false,
    digest := none, twinDigest := none, statsPrim := none, statsCross := none, stats := none, residuals := [], residDone := false,
    lookups := [], walks := [], evals := [], verdicts := [], statDelta := [], seen := 0, merging := [], merged := false, compared := false,
    results := [], undo := [], aborted := [], pages := [], groups := [] }

/-- Every phase of a tick is closed: nothing more is accepted, reduced, scored or published (R34). -/
def TickWork.shut (w : TickWork) : TickWork :=
  { w with frameClosed := true, trayClosed := true, reduceClosed := true, bcastClosed := true, scoreClosed := true, published := true, compared := true, residDone := true }

/-! ## Timetable and plan banks (R57, R228) -/

/-- A Timetable bank with its plan bank of the same number. -/
structure JnBank where
  tt : BankSt
  image : Option TtImage
  imageBytes : Bytes
  plan : BankSt
  planv : Option Plan
  arm : Option Nat
  /-- was ACTIVE until the last switch (R60) -/
  leaving : Bool
  /-- tick at which it became ACTIVE -/
  since : Nat
deriving DecidableEq, Repr

def JnBank.empty : JnBank := ⟨.empty, none, [], .empty, none, none, false, 0⟩

/-- What the ticks before the last bank switch follow: image, plan, effective epoch and headway until the switch tick (R37, R39, R60). -/
structure OldGrid where
  upTo : Nat
  image : Option TtImage
  plan : Option Plan
  e : Int
  headway : Nat
deriving DecidableEq, Repr

/-! ## Contexts and bundles (R335 to R345) -/

/-- A context configuration record (R335). -/
structure CtxRec where
  enable : Bool
  threads : Nat
  treeQuota : Nat
  wbBase : Nat
  wbSize : Nat
  bundleQuota : Nat
  histNear : Nat
  sidingPages : Nat
  histFar : Nat
  histProj : Nat
  exportHigh : Nat
  effective : Nat
deriving DecidableEq, Repr

/-- No quota at all. -/
def CtxRec.zero : CtxRec := ⟨false, 0, 0, 0, 0, 0, 0, 0, 0, 0, 0, 0⟩

def CtxRec.decode (b : Bytes) : CtxRec :=
  { enable := bit (rd b 1 1) 0, threads := rd b 2 1, treeQuota := rd b 4 4, wbBase := rd b 8 4, wbSize := rd b 0xC 4, bundleQuota := rd b 0x10 2,
    histNear := rd b 0x12 2, sidingPages := rd b 0x14 4, histFar := rd b 0x18 4, histProj := rd b 0x1C 2, exportHigh := rd b 0x20 4,
    effective := rd b 0x24 8 }

/-- The state of a bundle (R462 table: BUNDLE_STATUS). -/
inductive BundleSt where
  | receiving | checking | staged | active | retiring | refused | incomplete
deriving DecidableEq, Repr

def BundleSt.code : BundleSt → Nat
  | .receiving => 1 | .checking => 2 | .staged => 3 | .active => 4 | .retiring => 5 | .refused => 6 | .incomplete => 7

/-- A bundle known to the Junction (R338 to R345). -/
structure Bundle where
  id : Nat
  ctx : Nat
  type : Nat
  st : BundleSt
  chunks : Nat
  got : Nat
  data : Bytes
  plain : Bytes
  effective : Nat
  result : Nat
  check : Nat
  offset : Nat
  /-- clock run at the last chunk (R345) -/
  lastAt : Nat
  placing : Option Placing
  /-- directory indices of sections poisoned and not rebuilt (R493) -/
  lost : List Nat
deriving DecidableEq, Repr

/-- Context states (R337). -/
inductive CtxSt where
  | disabled | enabled | draining
deriving DecidableEq, Repr

def CtxSt.code : CtxSt → Nat
  | .disabled => 0 | .enabled => 1 | .draining => 2

/-- A context (R334 to R337). -/
structure Ctx where
  st : CtxSt
  rec_ : CtxRec
  /-- a record that waits for its tick, or for the drain to complete (R336, R337) -/
  next : Option CtxRec
  latched : Option CtxRec
  /-- tick of the drain (R337) -/
  drainFrom : Nat
  wbMiss : Nat
  wbErr : Nat
  published : Nat
  exported : Nat
  expDropped : Nat
  histOver : Nat
  histDropped : Nat
deriving DecidableEq, Repr

def Ctx.init : Ctx := ⟨.disabled, CtxRec.zero, none, none, 0, 0, 0, 0, 0, 0, 0, 0⟩

/-- A forecaster group's counters, in the order of R462. -/
structure GrpCounts where
  delivered : Nat
  warm : Nat
  excluded : Nat
  restored : Nat
  nonfinite : Nat
  saturated : Nat
  poisoned : Nat
  reset : Nat
  abandoned : Nat
deriving DecidableEq, Repr

def GrpCounts.zero : GrpCounts := ⟨0, 0, 0, 0, 0, 0, 0, 0, 0⟩

/-- A group's update in progress (R310, R329): context, group, tick, next instruction, local memory and the rows that were reset. -/
structure SeqRun where
  ctx : Nat
  group : Nat
  tick : Nat
  pc : Nat
  area : Area
  resetRows : List Nat
deriving DecidableEq, Repr

/-! ## Mailboxes (R443 to R459) -/

/-- A request header and body (R447). -/
structure Request where
  opcode : Nat
  mailbox : Nat
  ctx : Nat
  tag : Nat
  seq : Nat
  target : Nat
  /-- a reserved bit of the header is set -/
  junk : Bool
  body : Bytes
deriving DecidableEq, Repr

/-- The request that bytes spell; none when the header or the length is not whole. -/
def Request.decode (b : Bytes) : Option Request :=
  if b.length < 32 then none
  else some { opcode := rd b 0 2, mailbox := rd b 2 1 % 32, ctx := rd b 3 1 % 16, tag := rd b 4 4, seq := rd b 8 8, target := rd b 0x14 4,
              junk := decide (32 ≤ rd b 2 1) || decide (16 ≤ rd b 3 1) || !allZero (sub b 0x18 8) || rd b 0x10 4 != b.length - 32 || decide (65568 < rd b 0x10 4) || fld (rd b 0x14 4) 17 14 != 0,
              body := b.drop 32 }

def Request.bytes (r : Request) : Bytes :=
  le 2 r.opcode ++ le 1 r.mailbox ++ le 1 r.ctx ++ le 4 r.tag ++ le 8 r.seq ++ le 4 r.body.length ++ le 4 r.target ++ zeros 8 ++ r.body

/-- A reply (R448). -/
structure Reply where
  opcode : Nat
  result : Nat
  attention : Nat
  tag : Nat
  seq : Nat
  responder : Nat
  relayed : Bool
  execTick : Nat
  check : Nat
  offset : Nat
  body : Bytes
deriving DecidableEq, Repr

def Reply.bytes (r : Reply) : Bytes :=
  le 2 r.opcode ++ le 1 r.result ++ le 1 r.attention ++ le 4 r.tag ++ le 8 r.seq ++ le 4 r.body.length
  ++ le 4 (r.responder + put 17 (b2n r.relayed)) ++ le 8 r.execTick ++ le 2 r.check ++ le 2 0 ++ le 4 r.offset ++ le 8 0 ++ r.body

/-- A reply that a command still owes (R445, R462): the request, what it waits for and since when. -/
inductive Waits where
  | relay (port : Nat)
  | ballast (unit job : Nat)
  | lineside (port token : Nat)
deriving DecidableEq, Repr

/-- A request taken: where a relayed one came from, its origin and the port its reply goes back on (R445). -/
structure Taken where
  req : Request
  origin : Nat
  port : Nat
deriving DecidableEq, Repr

structure Owed where
  item : Taken
  since : Nat
  /-- the tick word at execution (R448) -/
  exec : Nat
  waits : Waits
deriving DecidableEq, Repr

/-- A session (R455, R456). -/
structure Session where
  ctx : Nat
  /-- key slot of the credential, and the hash of the owner key of slot 0xFF (R474, R482) -/
  key : Nat
  owner : Bytes
  seq : Nat
  /-- the reply stored for retransmission (R449) -/
  stored : Option Reply
  /-- clock run from which the 4 ms of R456 count -/
  lastBeat : Nat
  /-- clock run at the last HEARTBEAT, and the longest interval between two of them in u (R456) -/
  beatAt : Option Nat
  gapMax : Nat
  /-- the session ends after this many requests already taken (R455, R469) -/
  closing : Option Nat
  /-- no HEARTBEAT for 4 ms: replies are discarded (R450, R456) -/
  expired : Bool
deriving DecidableEq, Repr

/-- A mailbox (R442, R443). The request ring lies in host memory. -/
structure Mailbox where
  reqBase : Word
  rplBase : Word
  enable : Bool
  slotsLog2 : Nat
  err : Bool
  reqTail : Nat
  reqHead : Nat
  rplTail : Nat
  rplHead : Nat
  session : Option Session
  /-- source that opened an Ethernet mailbox, and the port its last datagram came on (R444) -/
  peer : Nat
  via : Nat
  /-- requests taken and not yet executed, oldest first (R443, R451) -/
  taken : List Taken
  /-- replies in the ring that the host has not consumed, oldest first (R443) -/
  replies : List Reply
  owed : List Owed
  /-- requests being received in segments: clock run at the first arrival, SEQ, pieces (R444) -/
  segs : List (Nat × Nat × List (Option Bytes))
deriving DecidableEq, Repr

def Mailbox.init : Mailbox :=
  ⟨0, 0, false, 0, false, 0, 0, 0, 0, none, 0, 0, [], [], [], []⟩

end Sys2Proof.Machine
end

