-- ==== Sys2Proof/Machine/Security.lean ====
section
/-! DEFINITION. Keys, fuses, firmware images, credentials, security events and bundle containers (R338 to R341, R463 to R482). -/

namespace Sys2Proof.Machine

/-- The bytes of a text. -/
def ascii (s : String) : Bytes := s.toList.map (fun c => BitVec.ofNat 8 c.toNat)

/-- The big-endian number bytes spell (R467). -/
def unbe (b : Bytes) : Nat := unle b.reverse

/-! ## State (R466 to R481) -/

/-- A public-key slot (R469). -/
structure KeySlot where
  usage : Nat
  ctx : Nat
  pq : Bool
  requirePq : Bool
  pub : Bytes
  pqPub : Bytes
deriving DecidableEq, Repr

/-- A MACsec secure association (R475): DIR 0 receive, 1 transmit. -/
structure Sa where
  port : Nat
  an : Nat
  dir : Nat
  active : Bool
  ssci : Nat
  salt : Bytes
  nextPn : Nat
  sak : Bytes
  /-- lowest packet number that replay protection accepts (R444) -/
  lowPn : Nat
  stopped : Bool
deriving DecidableEq, Repr

/-- A queued security event (R481, R482). -/
structure SecEvent where
  code : Nat
  detail : Nat
  tick : Nat
deriving DecidableEq, Repr

/-- States of staged firmware (FW_STATUS). -/
inductive FwSt where
  | none_ | loading | verifying | verified | refused | armed
deriving DecidableEq, Repr

def FwSt.code : FwSt → Nat
  | .none_ => 0 | .loading => 1 | .verifying => 2 | .verified => 3 | .refused => 4 | .armed => 5

/-- Firmware (R463 to R465, R487): two image slots, the marked one, the one that runs, ROM service, staging progress, the armed
tick, the activation in progress, and the slot to fall back to. -/
structure Fw where
  slot0 : Bytes
  slot1 : Bytes
  marked : Nat
  running : Nat
  rom : Bool
  got : Nat
  total : Nat
  st : FwSt
  result : Nat
  at_ : Option Nat
  last : Nat
  /-- requests are not taken: activation or revert in progress -/
  paused : Bool
  /-- the pause ends a revert -/
  reverting : Bool
  /-- the previous image is kept as the fallback -/
  fallback : Bool
  /-- clock run when the pause began (R464) -/
  pausedAt : Nat
  /-- clock run when requests last resumed (R465) -/
  resumedAt : Nat
deriving DecidableEq, Repr

/-- The TAP (R479): unlock level, the challenge outstanding, nonces drawn, failures. -/
structure Tap where
  level : Nat
  challenge : Option Nat
  drawn : Nat
  failures : Nat
deriving DecidableEq, Repr

/-- Security state (R466 to R481). -/
structure Sec where
  ownerHash : Bytes
  floor : Nat
  lockPart : Bool
  lockOpen : Bool
  keys : Tbl (Option KeySlot)
  sas : List Sa
  open_ : Bool
  modeAt : Option (Nat × Bool)
  tap : Tap
  events : List SecEvent
  evDropped : Nat
  fw : Fw
  /-- SEQ of the last successful SESSION_OPEN by mailbox, plus one (R474) -/
  lastOpen : Tbl Nat
  /-- d is withheld (R479) -/
  zeroised : Bool
  /-- the memory keys in force, by the number of their draw, and how many draws have been made (R348, log 91) -/
  memKeys : Option Nat
  memDrawn : Nat
deriving DecidableEq, Repr

/-- Fresh memory keys at a cold reset (R348). -/
def Sec.drawKeys (s : Sec) : Sec := { s with memKeys := some s.memDrawn, memDrawn := s.memDrawn + 1 }

/-- What a module of the near or far tier holds for a 64-byte line: its ciphertext under the memory keys and the line's address, and the
check bytes over the ciphertext (R348, R352, log 91); none while there are no keys. -/
def Sec.stored (s : Sec) (far : Bool) (addr : Nat) (line : Bytes) : Option (Bytes × Bytes) :=
  s.memKeys.map (fun k => let c := Config.xts (Config.memKey k far) addr line; (c, Config.lineCheck far addr c))

/-- The mode after cold reset (R476). -/
def Sec.resetMode (s : Sec) : Bool := s.lockOpen && !s.lockPart

/-- FUSE_STATE (R482). -/
def Sec.fuseState (s : Sec) : Nat := b2n (!allZero s.ownerHash) + put 1 s.floor + put 8 (b2n s.lockPart) + put 9 (b2n s.lockOpen)

/-- The image in a slot. -/
def Fw.slot (f : Fw) (i : Nat) : Bytes := if i = 0 then f.slot0 else f.slot1
def Fw.setSlot (f : Fw) (i : Nat) (b : Bytes) : Fw := if i = 0 then { f with slot0 := b } else { f with slot1 := b }

/-- The staging slot: the one not marked (R487). -/
def Fw.staging (f : Fw) : Nat := 1 - f.marked

/-- VERSION of an image (R456, R471). -/
def fwVersion (b : Bytes) : Nat := rd b 8 4

/-- SVN of an image (R471). -/
def fwSvn (b : Bytes) : Nat := rd b 6 1

def Fw.version (f : Fw) : Nat := if f.rom then 0 else fwVersion (f.slot f.running)

/-- Queue a security event: at most 64 unread, the oldest kept (R481). -/
def Sec.event (s : Sec) (code detail tick : Nat) : Sec :=
  if s.events.length < 64 then { s with events := s.events ++ [⟨code, detail, tick⟩] } else { s with evDropped := s.evDropped + 1 }

/-! ## Device key and wrapped keys (R467, R468) -/

/-- The device key d (R467). -/
def deviceKey : Nat := unbe (Config.hkdf (Config.pufResponse Config.pufHelper) Config.deviceSalt (ascii "Drelet device key") 48) % (Config.p384OrderPred + 1) + 1

/-- The AES-256-XTS key of the Record Store (R467). -/
def recordStoreKey : Bytes := Config.hkdf (Config.pufResponse Config.pufHelper) Config.deviceSalt (ascii "Drelet record store") 64

/-- What the Record Store's flash holds for a page: its ciphertext under the page's number (R467, R483, log 91). -/
def storedPage (page : Nat) (plain : Bytes) : Bytes := Config.xts recordStoreKey page plain

/-- Unwrap a key (R468). -/
def unwrapKey (label : String) (salt : Bytes) (junctionId : Nat) (eph wrapped : Bytes) : Option Bytes :=
  Config.keyUnwrap (Config.hkdf (Config.ecdhX deviceKey eph) salt (ascii label ++ le 4 junctionId) 32) wrapped

/-! ## Firmware images (R471, R472) -/

/-- Verify an image: 0, or the result code of the first failure (R472). -/
def fwVerify (floor : Nat) (b : Bytes) : Nat :=
  let body := rd b 0x14 4
  let sig := b.drop (128 + body)
  let keys := sub sig 0 2689
  let ok := rd b 0 4 == 0x49574644 && rd b 4 2 == 1 && decide (fwSvn b ≤ 64) && rd b 7 1 == 0 && rd b 0xC 4 == b.length
    && decide (b.length ≤ 33554432) && b.length == 128 + body + 7424 && decide (rd b 0x10 4 ≤ body) && allZero (sub b 0x48 56)
    && allZero (sig.drop 7412) && Config.sha384 (sub b 128 body) == sub b 0x18 48
  let msg := b.take (128 + body)
  if !ok then 0x40
  else if !(Config.sha384 keys == Config.vendorKeyHash && Config.ecdsaVerify (sub keys 0 97) msg (sub sig 2689 96)
      && Config.mldsaVerify (keys.drop 97) msg (sub sig 2785 4627)) then 0x41
  else if fwSvn b < floor then 0x42
  else 0

/-- What a cold reset boots (R487): the slot and whether it is the fallback; none runs from ROM. -/
def Fw.boot (f : Fw) (floor : Nat) : Option (Nat × Bool) :=
  if fwVerify floor (f.slot f.marked) = 0 then some (f.marked, false)
  else if fwVerify floor (f.slot f.staging) = 0 then some (f.staging, true)
  else none

/-! ## Credentials (R474) -/

/-- Whether a SESSION_OPEN credential holds (R474). `now` is the station time while the clock is LOCKED or HOLDOVER. -/
def Sec.credOk (s : Sec) (junctionId mailbox ctx seq : Nat) (now : Option Nat) (cred : Bytes) : Bool :=
  let slot := rd cred 0 1
  let time := sub cred 4 12
  let msg := le 4 0x53454453 ++ le 4 junctionId ++ le 1 mailbox ++ le 1 ctx ++ zeros 2 ++ le 8 seq ++ time
  let sig := sub cred 16 96
  let pub : Option Bytes :=
    if slot = 0xFF then
      let p := sub cred 112 97
      if ctx == 0 && ((Config.sha384 p == s.ownerHash && !allZero s.ownerHash) || (allZero s.ownerHash && decide (mailbox < 8))) then some p else none
    else match Tbl.get none s.keys slot with
      | some k => if k.usage == 1 && k.ctx == ctx then some k.pub else none
      | none => none
  match pub with
  | none => false
  | some p =>
    Config.ecdsaVerify p msg sig && decide (Tbl.get 0 s.lastOpen mailbox ≤ seq)
    && (match now, unpackTime (unle time) with
        | some t, some u => decide (u ≤ t + 10 * uSec) && decide (t ≤ u + 10 * uSec)
        | some _, none => false
        | none, u => u.isSome)

/-- CRED_LEN of a credential (R474). -/
def credLen (cred : Bytes) : Nat := if rd cred 0 1 = 0xFF then 209 else 112

/-! ## Bundles (R338 to R341) -/

/-- A chunk message (R344). -/
structure Chunk where
  id : Nat
  chunk : Nat
  chunks : Nat
  data : Bytes
deriving DecidableEq, Repr

/-- The chunk of a message, when the message is whole (R344). -/
def Chunk.decode (b : Bytes) : Option Chunk :=
  if 33 ≤ b.length && rd b 0 2 == 5 && rd b 20 4 == b.length - 32 && decide (rd b 20 4 ≤ 65536) && rd b 2 2 == 0 && allZero (sub b 24 8)
  then some ⟨rd b 4 8, rd b 12 4, rd b 16 4, b.drop 32⟩ else none

def Chunk.bytes (c : Chunk) : Bytes :=
  le 2 5 ++ le 2 0 ++ le 8 c.id ++ le 4 c.chunk ++ le 4 c.chunks ++ le 4 c.data.length ++ zeros 8 ++ c.data

/-- Header fields used after check 1 (R338). -/
def bundleRecipients (b : Bytes) : Nat := rd b 0x1C 4
def bundlePayload (b : Bytes) : Nat := rd b 0x20 8
def bundleCipherAt (b : Bytes) : Nat := 256 + 48 * bundleRecipients b
def bundleSigAt (b : Bytes) : Nat := bundleCipherAt b + bundlePayload b

/-- Check 1 of the header: the offset of the first offending field (R341). -/
def bundleHeadBad (b : Bytes) : Option Nat :=
  if rd b 0 4 ≠ 0x444E4244 then some 0 else if rd b 4 2 ≠ 1 then some 4 else if 1 < rd b 6 1 then some 6 else if 15 < rd b 7 1 then some 7
  else if 15 < rd b 0x18 4 then some 0x18 else if rd b 0x1C 4 = 0 || 32768 < rd b 0x1C 4 then some 0x1C
  else if bundlePayload b < 16 || 2147483648 < bundlePayload b then some 0x20
  else if rd b 0x28 4 = 0 || 129 < rd b 0x28 4 then some 0x28 else if 512 ≤ rd b 0x2C 4 then some 0x2C
  else if rd b 0x3C 4 ≠ 0 then some 0x3C else if !allZero (sub b 0xA1 31) then some 0xA1 else if !allZero (sub b 0xD0 48) then some 0xD0
  else none

/-- Check 4: the signature block verifies under the slot of SIGNER (R339, R470). -/
def bundleSigOk (s : Sec) (b : Bytes) : Bool :=
  let ctx := rd b 7 1 % 16
  let pq := bit (rd b 0x2C 4) 8
  let at_ := bundleSigAt b
  let msg := b.take at_
  let len := 96 + (if pq then 4627 else 0)
  match Tbl.get none s.keys (rd b 0x2C 4 % 256) with
  | some k =>
    k.usage == 0 && k.ctx == ctx && b.length == at_ + cdiv len 16 * 16 && allZero (b.drop (at_ + len))
    && Config.ecdsaVerify k.pub msg (sub b at_ 96)
    && (!pq || (k.pq && Config.mldsaVerify k.pqPub msg (sub b (at_ + 96) 4627))) && (!k.requirePq || pq)
  | none => false

/-- The recipient-table entry of a Junction (R339). -/
def bundleEntry (b : Bytes) (junctionId : Nat) : Option Bytes :=
  ((List.range (bundleRecipients b)).map (fun i => sub b (256 + 48 * i) 48)).find? (fun e => rd e 0 4 % 2 ^ 17 == junctionId)

/-- Check 5: the content key unwraps and the GCM tag verifies; the plaintext (R339, R341, R468). -/
def bundleOpen (s : Sec) (junctionId : Nat) (b : Bytes) : Option Bytes :=
  if s.zeroised then none
  else match bundleEntry b junctionId with
  | none => none
  | some e =>
    match unwrapKey "DBND" (sub b 8 8) junctionId (sub b 0x40 97) (sub e 8 40) with
    | none => none
    | some key => Config.gcmOpen key (sub b 0x30 12) (b.take 0xC0) (sub b (bundleCipherAt b) (bundlePayload b)) (sub b 0xC0 16)

/-- A section: kind and bytes (R340). -/
def bundleSections (count : Nat) (plain : Bytes) : List (Nat × Nat × Nat) :=
  (List.range count).map (fun i => let e := sub plain (16 * i) 16; (rd e 0 1, rd e 4 4, rd e 8 4))

/-- Check 6: the section directory meets R340; the offset of the first entry that does not. -/
def bundleDirBad (type count : Nat) (plain : Bytes) : Option Nat :=
  let ss := bundleSections count plain
  let n := fun (k : Nat) => (ss.filter (fun s => s.1 == k)).length
  if plain.length < 16 * count then some 0
  else match (List.range count).find? (fun i =>
      let e := sub plain (16 * i) 16
      let s := ss.getD i (0, 0, 0)
      decide (3 < s.1) || !allZero (sub e 1 3) || !allZero (sub e 12 4) || decide (s.2.1 < 16 * count) || decide (plain.length < s.2.1 + s.2.2)
      || (List.range i).any (fun j => let t := ss.getD j (0, 0, 0); decide (s.2.1 < t.2.1 + t.2.2) && decide (t.2.1 < s.2.1 + s.2.2))) with
  | some i => some (16 * i)
  | none =>
    if type = 0 then (if n 0 ≠ 1 || 64 < n 1 || 64 < n 2 || n 3 ≠ 0 then some 0 else none)
    else (if count ≠ 1 || n 3 ≠ 1 then some 0 else none)

/-- The sections of a kind. -/
def sectionsOf (kind count : Nat) (plain : Bytes) : List Bytes :=
  ((bundleSections count plain).filter (fun s => s.1 == kind)).map (fun s => sub plain s.2.1 s.2.2)

/-- A test-pack section: the offset of the first failing field (R381, R382). -/
def testPackBad (effective : Nat) (b : Bytes) : Option Nat :=
  let n := rd b 6 2
  if rd b 0 4 ≠ 0x54414B44 then some 0 else if rd b 4 2 ≠ 1 then some 4 else if n = 0 || 256 < n then some 6
  else if rd b 8 8 < effective + 32 then some 8 else if rd b 0x10 4 = 0 || 65535 < rd b 0x10 4 then some 0x10
  else if b.length < rd b 0x14 4 + rd b 0x18 4 then some 0x14 else if rd b 0x1C 4 ≠ 0 then some 0x1C
  else if b.length < 32 + 16 * n then some 6
  else (List.range n).find? (fun i => let e := sub b (32 + 16 * i) 16; fld (rd e 0 4) 28 4 != 0 || decide (2 ^ 14 ≤ rd e 4 2) || rd e 6 2 != 0)
    |>.map (fun i => 32 + 16 * i)

/-- A reference table: the offset of the first failing item in the order of R374 (R20, R373, log 92). -/
def refTableBad (b : Bytes) : Option Nat :=
  let n := rd b 8 4
  let cap := (b.length - 68) / 16
  if rd b 0 4 ≠ 0x54525344 then some 0 else if rd b 4 2 ≠ 1 then some 4
  else if b.length < 68 || crcOf crc32 (b.take (b.length - 4)) ≠ rd b (b.length - 4) 4 then some (b.length - 4)
  else if 15 < rd b 6 1 then some 6 else if 3 < rd b 7 1 then some 7 else if 1 < rd b 0xC 4 then some 0xC
  else if !(rd b 0x20 4 == 0 || rd b 0x20 4 / 2 ^ 28 == 6) then some 0x20
  else if !allZero (sub b 0x24 28) then some 0x24
  else match (List.range (min n cap)).find? (fun i => decide (1 < rd (sub b (64 + 16 * i) 16) 12 4)) with
  | some i => some (64 + 16 * i + 12)
  | none => if n = 0 || 4194304 < n || b.length ≠ 64 + 16 * n + 4 then some 8 else none

end Sys2Proof.Machine
end

