-- ==== Sys2Proof/Machine/JnState.lean ====
section
/-! DEFINITION. The state of the Junction (R15 to R35, R57 to R67, R152 to R163, R166 to R194, R228 to R261, R272, R334 to R357, R373 to R404, R441 to R465, R484 to R515, R527 to R536). -/

namespace Sys2Proof.Machine

/-! ## Boot, role, twin (R15 to R17, R27 to R30, R484 to R495) -/

/-- Boot and reset registers and what they are computed from (R491 to R495, R531). -/
structure JnBoot where
  service : Nat
  phase : Nat
  fallback : Bool
  cause : Nat
  kat : BitVec 7
  readyMs : Nat
  last : Nat
  thermtrip : Bool
  warmCount : Nat
  /-- held in cold reset: PORST_N low, or waiting for it to cycle after a supply loss, or for REFCLK (R504, R507, R511) -/
  porst : Bool
  /-- PORST_N is low -/
  pin : Bool
  waitPorst : Bool
  waitRefclk : Bool
  /-- physical number of each enabled engine, spares, engines that failed, engines retired (R491, R307) -/
  engines : List Nat
  spares : List Nat
  failed : Nat
  retired : BitVec 64
  /-- retired engines and the tick from which the siding evaluates their trees (R307) -/
  retiring : List (Nat × Nat)
  sramRepaired : Nat
  sramSpare : Nat
  sramBad : Nat
  /-- units that failed without ending service (R493): sequence engine, Ballast units, CRC engines -/
  seqFailed : Bool
  ballastFailed : BitVec 2
  crcFailed : BitVec 8
  /-- the far-tier history region in GiB, 0 without an expander (R347, R493) -/
  farGiB : Nat
  /-- relay-only service starts at the next sample edge, with its cause (R494) -/
  relayNext : Option Nat
  /-- consecutive ticks of failed merges (R494) -/
  mergeFails : Nat
  /-- clock run at the last reset (R492) -/
  resetAt : Nat
  /-- a sensor has reached its warning threshold and not every one has fallen 5 °C below since (R514) -/
  hot : Bool
  /-- THERMTRIP_N is driven low (R514) -/
  tripped : Bool
deriving DecidableEq, Repr

/-- Twin and duty (R27 to R30, R434). -/
structure JnTwin where
  duty : Bool
  lost : Bool
  judging : Bool
  /-- consecutive ticks without a valid exchange, and whether this tick had one (R28, R30) -/
  missing : Nat
  exchanged : Bool
  transferAt : Option Nat
  takeoverTick : Option Nat
  /-- states are exchanged within 2 ticks of resumed exchange (R394) -/
  owesStates : Bool
  /-- duty was given up at a tick: the records of earlier ticks still go, and these streams, 8·CTX + KIND, have not passed their last number (R434) -/
  handing : Option (Nat × List Nat)
  /-- duty was taken at a tick: these streams still wait for the last number of the twin that gave it up (R434) -/
  taking : Option (Nat × List Nat)
deriving DecidableEq, Repr

/-! ## Root time and timing pins (R166, R176 to R179, R192 to R194) -/

/-- The external reference of a root (R176 to R179). -/
structure JnRef where
  /-- 0 PTP, 1 PPS with time of day, 2 set time; none before TIME_CONFIG -/
  ref : Option Nat
  domain : Nat
  ppsDelay : Int
  /-- station time of the next PPS edge, and of the latest one captured (R177, R192) -/
  ppsNext : Option Nat
  ppsLast : Option Nat
  masters : List Master
  /-- identity of the grandmaster in use -/
  gm : Option Nat
  /-- a new grandmaster has been selected and not yet measured; one beyond 1 ms is not followed (R179) -/
  newGm : Bool
  parked : Bool
  /-- the parts of a step to a set time are being applied (R177, R187) -/
  stepping : Bool
  /-- two-step Sync waiting for its Follow_Up: sequence, arrival, correction -/
  sync : Option (Nat × Nat × Int)
  /-- last master-to-slave difference t2 − t1 -/
  ms : Option Int
  /-- Delay_Req sent: sequence and departure -/
  delayReq : Nat × Option Nat
  delays : List Rat
  asym : Int
  /-- consecutive ticks the reference was selectable and LOCKED; time run at the last valid measurement -/
  run : Nat
  lastValid : Option Nat
  /-- the rate of a qualified SyncE frequency, in parts in 10^12 (R178, R508) -/
  synce : Option Int
  /-- UTC offset, leap and its instant that software configured (R176, TIME_CONFIG OP 3) -/
  utcOffset : BitVec 16
  leap : BitVec 2
  leapAt : Nat
deriving DecidableEq, Repr

/-- A timestamp input (R192). -/
structure TsIn where
  edges : Nat
  owner : Nat
  delay : Int
  queue : List Bytes
  dropped : Nat
  last : Option Nat
deriving DecidableEq, Repr

/-- A trigger configuration (R193). -/
structure TrigCfg where
  mode : Nat
  inverted : Bool
  squelch : Bool
  start : Nat
  period : Nat
  width : Nat
deriving DecidableEq, Repr

/-- A trigger output (R193): configuration in force and latched, the next pulse, level, MISSED, late pulses. -/
structure Trig where
  cfg : TrigCfg
  pending : Option TrigCfg
  delay : Int
  next : Option Nat
  high : Option Nat
  missed : Bool
  late : Nat
deriving DecidableEq, Repr

def TrigCfg.off : TrigCfg := ⟨0, false, false, 0, 0, 0⟩

/-- PPS_OUT (R194). -/
structure Pps where
  width : Nat
  delay : Int
  high : Option Nat
deriving DecidableEq, Repr

/-! ## Dies and group slots (R386 to R404) -/

/-- Failure-detector states (R386). -/
inductive DieSt where
  | off | alive | suspect | dead
deriving DecidableEq, Repr

def DieSt.code : DieSt → Nat
  | .off => 0 | .alive => 1 | .suspect => 2 | .dead => 3

/-- A die configuration that waits for its tick (R386). -/
structure DieCfg where
  watch : Bool
  deadN : Nat
  owner : Nat
  epoch : Nat
  tick : Nat
deriving DecidableEq, Repr

/-- A die slot (R386 to R394). -/
structure DieSlot where
  st : DieSt
  misses : Nat
  watch : Bool
  deadN : Nat
  owner : Nat
  epoch : Nat
  /-- recent ticks in which a stale-epoch frame came, newest first, and the last tick evaluated (R393) -/
  stale : List Nat
  evaluated : Option Nat
  next : Option DieCfg
  readmit : Option Nat
  /-- FENCE goes again in the first flit of the next tick (R389) -/
  refence : Bool
deriving DecidableEq, Repr

def DieSlot.init (epoch : Nat) : DieSlot := ⟨.off, 0, false, 4, 0, epoch, [], none, none, none, false⟩

/-- A membership entry (R395). -/
structure MemEntry where
  group : Nat
  slot : Nat
  flags : Nat
  horizon : Nat
  epoch : Nat
  mask : Nat
  tablet : Nat
  job : Nat
  key : Nat
  effective : Nat
deriving DecidableEq, Repr

def MemEntry.decode (b : Bytes) : MemEntry :=
  ⟨rd b 0 4, rd b 4 1, rd b 5 1, rd b 6 2, rd b 8 4, rd b 0xC 4, rd b 0x10 4, rd b 0x14 4, rd b 0x18 8, rd b 0x20 8⟩

def MemEntry.bytes (e : MemEntry) : Bytes :=
  le 4 e.group ++ le 1 e.slot ++ le 1 e.flags ++ le 2 e.horizon ++ le 4 e.epoch ++ le 4 e.mask ++ le 4 e.tablet ++ le 4 e.job ++ le 8 e.key
  ++ le 8 e.effective ++ zeros 24

def MemEntry.valid (e : MemEntry) : Bool := bit e.flags 0
def MemEntry.abort (e : MemEntry) : Bool := bit e.flags 1
def MemEntry.up (e : MemEntry) : Bool := bit e.flags 2

/-- The empty entry of a slot. -/
def MemEntry.empty (slot : Nat) : MemEntry := ⟨0, slot, 0, 200, 0, 0, 0, 0, 0, 0⟩

/-- Group slot states (R399). -/
inductive SlotSt where
  | disarmed | armed | pending | aborted
deriving DecidableEq, Repr

def SlotSt.code : SlotSt → Nat
  | .disarmed => 0 | .armed => 1 | .pending => 2 | .aborted => 3

/-- A group slot of a Junction (R395 to R404). -/
structure MemSlot where
  entry : MemEntry
  st : SlotSt
  /-- the instant held, in u -/
  instant : Nat
  originated : Bool
  /-- the distinct aborts held or reached, by instant, and how many of them were received (R209, R402) -/
  distinct : List Nat
  received : Nat
  ignored : Nat
  late : Nat
  next : Option (MemEntry × Bool)
  latched : Option (MemEntry × Bool)
  latchResult : Nat
  notWritten : Nat
  /-- the new epoch is owed to member Linesides (R402) -/
  owesEpoch : Bool
deriving DecidableEq, Repr

def MemSlot.init (slot : Nat) : MemSlot := ⟨MemEntry.empty slot, .disarmed, 0, false, [], 0, 0, 0, none, none, 0, 0, false⟩

/-! ## Logs (R152, R159 to R161, R540) -/

/-- A stored record: its 256 bytes, released or not, exported or not. -/
structure LogEntry where
  data : Bytes
  exported : Bool
deriving DecidableEq, Repr

/-- A log of the Record Store, its unreleased records oldest first, and its counters (R159, R160, R540). -/
structure JnLog where
  recs : List LogEntry
  /-- records received and not yet committed -/
  waiting : List Bytes
  /-- the next SEQ expected (R540) -/
  expected : Option Nat
  received : Nat
  committed : Nat
  folded : Nat
  duplicate : Nat
  full : Nat
  gap : Nat
  /-- SEQ last written to LS_LOG_COMMIT_SEQ (R156) -/
  commitSent : Option Nat
deriving DecidableEq, Repr

def JnLog.init : JnLog := ⟨[], [], none, 0, 0, 0, 0, 0, 0, none⟩

/-! ## Tiers, tables and the rest -/

/-- History rings of a context (R350, R351): near blocks with a mark for those the far ring has, far blocks, and whether blocks were
overwritten since the last read of each. -/
structure Hist where
  near : List (Bytes × Bool)
  far : List Bytes
  lostNear : Bool
  lostFar : Bool
deriving DecidableEq, Repr

def Hist.init : Hist := ⟨[], [], false, false⟩

/-- The Record Store beside its logs (R354 to R357): physical block of each mapped logical block, erase counts, retired blocks,
map sequence number, journal, writes in the last 10 s, crash state. -/
structure Store where
  map : Tbl Nat
  erase : Tbl Nat
  retired : List Nat
  mapSeq : Nat
  journal : List Bytes
  journalDropped : Nat
  writes : List (Nat × Nat)
  lastMove : Option Nat
  thermtrip : Bool
  /-- epochs of the die slots (R388) and the context configuration records (R354) -/
  epochs : List Nat
  lowSpares : Bool
deriving DecidableEq, Repr

/-- A Waybill write that waits for its tick (R293). -/
structure WayOp where
  tick : Nat
  ctx : Nat
  entity : Nat
  remove : Bool
  entry : Bytes
deriving DecidableEq, Repr

/-- A reference table slot (R374). -/
structure RefSlot where
  active : Option Bytes
  staged : Option Bytes
deriving DecidableEq, Repr

/-- A test pack (R381, R382): bundle, section, the tick it becomes active. -/
structure TestPack where
  id : Nat
  section_ : Bytes
  effective : Nat
deriving DecidableEq, Repr

/-- Test-pack state (R382 to R384): active and staged packs and the results read from each die slot. -/
structure Tests where
  active : Option TestPack
  staged : Option TestPack
  /-- slots whose entries were written, and results by slot: bundle ID and LS_TEST_RESULT image -/
  written : BitVec 32
  results : Tbl (Option (Nat × Bytes))
deriving DecidableEq, Repr

/-- What a VC3 transaction with a Lineside is for (R462, R519). -/
inductive TxnUse where
  /-- LS_READ or LS_WRITE: the token of the owed reply -/
  | mailbox (token : Nat)
  /-- a write of the Junction's own, to be noted in the shadow -/
  | own
  /-- membership write for a slot (R396) -/
  | member (slot : Nat)
  /-- reading LS_TEST_RESULT (R384) -/
  | test
deriving DecidableEq, Repr

/-- An outstanding configuration request (R519): port, transaction, operations, use. -/
structure Txn where
  port : Nat
  id : Nat
  use : TxnUse
  /-- writes it makes: address, value -/
  writes : List (Nat × Word)
deriving DecidableEq, Repr

/-- A hop of a relayed request still without a reply (R445). -/
structure Hop where
  origin : Nat
  tag : Nat
  seq : Nat
  port : Nat
  since : Nat
deriving DecidableEq, Repr

/-- Error capture (R536). -/
structure ErrCap where
  valid : Bool
  overflow : Bool
  cls : Nat
  unit_ : Nat
  addr : Nat
  tick : Word
  counts : Tbl Nat
  corrected : Nat
deriving DecidableEq, Repr

/-- Power failure and flush (R162, R163, R509, R510): PWRFAIL_N taken, a flush running, the reset it precedes (0 none, 1 RESET
command, 2 watchdog, 3 internal error), and mailbox work other than status stopped. -/
structure Flush where
  pwrfail : Bool
  running : Bool
  reset : Nat
  stopped : Bool
deriving DecidableEq, Repr

/-- The Junction. -/
structure Junction where
  boot : JnBoot
  straps : BitVec 3
  confirmed : Bool
  index : Nat
  twin : JnTwin
  portMap : Tbl (Option Nat)
  /-- pairs of the latest subtree advertisement: of child slot k at k, of port p at 32 + p (R446) -/
  subtree : Tbl (List Nat)
  clk : Clock
  ext : Servo
  ref : JnRef
  tsIn : List TsIn
  trig : List Trig
  pps : Pps
  b0 : JnBank
  b1 : JnBank
  /-- the schedule of the ticks before the last bank switch (R60) -/
  old : Option OldGrid
  /-- time run when a STOP was last acted on or originated (R209) -/
  stopAt : Option Nat
  ports : List Port
  shadow : Tbl (Tbl Word)
  txns : List Txn
  nextTxn : Nat
  /-- values of Lineside registers in the latest replies, by port and address (log 50) -/
  lineCfg : Tbl (Tbl Word)
  /-- Lineside ports whose bank states have been read since the last switch or entry into ACTIVE (log 50) -/
  banksRead : BitVec 32
  /-- values read so far for an LS_READ that takes more than one request, by its token -/
  lineParts : Tbl Bytes
  ticks : List TickWork
  /-- the walks that hold a thread (R282) -/
  flights : List Flight
  statPrev : List (Tbl Word)
  det : Tbl DetState
  verdictPrev : Tbl Nat
  stats : Option (Nat × Bytes)
  exclusions : Tbl Nat
  mem : List Host.Cell
  poisoned : List (Nat × Nat)
  store : Store
  hist : Tbl Hist
  ctxs : List Ctx
  bundles : List Bundle
  wayOps : List WayOp
  grp : Tbl GrpCounts
  seqRun : Option SeqRun
  fc : Tbl (Nat × Nat × Nat)
  areas : Tbl Area
  refs : List RefSlot
  shardCnt : Tbl Nat
  tests : Tests
  dies : List DieSlot
  slots : Tbl MemSlot
  logs : List JnLog
  logRate : Tbl Nat
  /-- LOG_CONFIG values that wait for the next sample edge (R152, R153) -/
  logRateNew : List (Nat × Nat)
  logTokens : Tbl Nat
  rateDrop : Tbl Nat
  ownSeq : Nat
  nearFull : Bool
  mail : List Mailbox
  hops : List Hop
  alarms : Tbl (List Bytes)
  alarmDrop : Tbl Nat
  notices : List (Nat × Word)
  sec : Sec
  ballast : Ballast
  crc : List CrcEng
  exp : Exp
  errs : ErrCap
  latch : Tbl Nat
  /-- what the last register read returned; none after an Unsupported Request (R527, log 8) -/
  readData : Option Word
  flush : Flush
  cnt : Tbl Nat
  jobSeq : Nat
deriving DecidableEq, Repr

/-! ## Accessors -/

/-- The role the straps give (R15). -/
def Junction.role (j : Junction) : Role := ⟨j.straps.toNat % 4, bit j.straps.toNat 2⟩

/-- The Junction ID (R19). -/
def Junction.id (j : Junction) : Nat := j.role.id j.index

/-- The entity of the Junction (R20). -/
def Junction.entity (j : Junction) : Nat := put 28 3 + j.id

def Junction.port (j : Junction) (p : Nat) : Port := j.ports.getD p (Port.init false false)
def Junction.setPort (j : Junction) (p : Nat) (x : Port) : Junction := { j with ports := j.ports.set p x }
def Junction.onPort (j : Junction) (p : Nat) (f : Port → Port) : Junction := j.setPort p (f (j.port p))

def Junction.bank (j : Junction) (b : Nat) : JnBank := if b = 0 then j.b0 else j.b1
def Junction.setBank (j : Junction) (b : Nat) (x : JnBank) : Junction := if b = 0 then { j with b0 := x } else { j with b1 := x }

/-- The ACTIVE bank (R57). -/
def Junction.activeBank (j : Junction) : Option Nat := if j.b0.tt = .active then some 0 else if j.b1.tt = .active then some 1 else none
def Junction.image (j : Junction) : Option TtImage := j.activeBank.bind (fun b => (j.bank b).image)
def Junction.plan (j : Junction) : Option Plan := j.activeBank.bind (fun b => if (j.bank b).plan = .active then (j.bank b).planv else none)

/-- The image whose maps and deadlines the work of tick n follows: the one that was in force at t_n (R39, R60). -/
def Junction.imageOf (j : Junction) (n : Nat) : Option TtImage :=
  match j.old with | some o => if n < o.upTo then o.image else j.image | none => j.image

/-- The plan of tick n (R228). -/
def Junction.planOf (j : Junction) (n : Nat) : Option Plan :=
  match j.old with | some o => if n < o.upTo then o.plan else j.plan | none => j.plan

/-- The sample edge of tick n, in u: ticks before a switch keep the epoch and headway they had (R37). -/
def Junction.edgeOf (j : Junction) (n : Nat) : Int :=
  match j.old with | some o => if n < o.upTo then (o.e + (n * hNs o.headway : Nat)) * 65536 else j.clk.tickAt n | none => j.clk.tickAt n

/-- The instant at which a deadline of `ns` after t_n takes effect, in u: the first JCLK edge at or after it, JCLK edges being counted
from t_n (R41, log 82). -/
def Junction.dueNs (j : Junction) (n ns : Nat) : Int := j.edgeOf n + ((cdiv (ns * 1000) 625 * 40960 : Nat) : Int)

def Junction.ctx (j : Junction) (c : Nat) : Ctx := j.ctxs.getD c Ctx.init
def Junction.setCtx (j : Junction) (c : Nat) (x : Ctx) : Junction := { j with ctxs := j.ctxs.set c x }
def Junction.die (j : Junction) (k : Nat) : DieSlot := j.dies.getD k (DieSlot.init 0)
def Junction.setDie (j : Junction) (k : Nat) (x : DieSlot) : Junction := { j with dies := j.dies.set k x }
def Junction.slot (j : Junction) (g : Nat) : MemSlot := Tbl.get (MemSlot.init g) j.slots g
def Junction.setSlot (j : Junction) (g : Nat) (x : MemSlot) : Junction := { j with slots := Tbl.put (MemSlot.init g) j.slots g x }
def Junction.log (j : Junction) (l : Nat) : JnLog := j.logs.getD l JnLog.init
def Junction.setLog (j : Junction) (l : Nat) (x : JnLog) : Junction := { j with logs := j.logs.set l x }
def Junction.mbox (j : Junction) (m : Nat) : Mailbox := j.mail.getD m Mailbox.init
def Junction.setMbox (j : Junction) (m : Nat) (x : Mailbox) : Junction := { j with mail := j.mail.set m x }
def Junction.histOf (j : Junction) (c : Nat) : Hist := Tbl.get Hist.init j.hist c
def Junction.setHist (j : Junction) (c : Nat) (h : Hist) : Junction := { j with hist := Tbl.put Hist.init j.hist c h }

/-- The work of a tick, where it is still kept. -/
def Junction.work (j : Junction) (n : Nat) : Option TickWork := j.ticks.find? (fun w => w.tick == n)
def Junction.setWork (j : Junction) (w : TickWork) : Junction := { j with ticks := j.ticks.map (fun x => if x.tick = w.tick then w else x) }

/-- Add to a Junction counter (R462): 0 twin matched, 1 mismatches, 2 not comparable, 6 internal errors, 7 and up of the model. -/
def Junction.bump (j : Junction) (k n : Nat) : Junction := { j with cnt := Tbl.put 0 j.cnt k (Tbl.get 0 j.cnt k + n) }

/-- A port's statistic advances (R535). -/
def Junction.countPort (j : Junction) (p s : Nat) : Junction := j.onPort p (fun x => x.count s 1)

/-- Full service (R492). -/
def Junction.full (j : Junction) : Bool := j.boot.service == 2

/-- Tray level (R15). -/
def Junction.tray (j : Junction) : Bool := j.role.level == 0

/-- A Lineside port (R22). -/
def Junction.linesidePort (j : Junction) (p : Nat) : Bool := j.tray && decide (p < 32)

/-- The far end of a port is a Lineside (R22). -/
def Junction.farLineside (j : Junction) (p : Nat) : Bool := j.linesidePort p

/-- The current tick, or 0 while there is none. -/
def Junction.tickNow (j : Junction) : Nat := j.clk.tick.getD 0

/-- Send a signal on a port in service (R207). -/
def Junction.signal (j : Junction) (p code arg : Nat) : Junction :=
  if (j.port p).st = .active then j.onPort p (fun x => x.signal code arg) else j

/-- Queue a message on a port in service. -/
def Junction.send (j : Junction) (p vc subch tag : Nat) (b : Bytes) : Junction :=
  if (j.port p).st = .active then j.onPort p (fun x => { x with q := x.q ++ [⟨vc, subch, false, b, false, tag, false⟩] }) else j

/-- The uplinks of the role: none at the root (R22). -/
def Junction.uplinks (j : Junction) : List Nat := if j.role.level = 3 then [] else [64, 65]

/-- The duty holder's share of export staging for a context (R436, log 42): 8 GiB in proportion to THREADS over the contexts that are not DISABLED. -/
def Junction.share (j : Junction) (c : Nat) : Nat :=
  let x := j.ctx c
  if x.rec_.threads = 0 then 16777216
  else
    let sum := j.ctxs.foldl (fun a y => if y.st = .disabled then a else a + y.rec_.threads) 0
    8589934592 * x.rec_.threads / max sum 1

/-- A record for export in a stream of a context (R426, R432). -/
def Junction.export_ (j : Junction) (ctx kind tick key : Nat) (data : Bytes) : Junction :=
  if (j.ctx ctx).st = .draining then j
  else
    let (e, lost) := j.exp.add ctx kind (j.share ctx) ⟨tick, key, data⟩
    let j := { j with exp := e }
    if lost then let x := j.ctx ctx; j.setCtx ctx { x with expDropped := x.expDropped + 1 } else j

/-- Post a notice: at most 64 unread, the oldest kept (R457). -/
def Junction.notice (j : Junction) (code : Nat) : Junction :=
  if j.notices.length < 64 then { j with notices := j.notices ++ [(code, j.clk.tickWord)] } else j

/-- An error event in the capture registers (R536); `same` says a write of VALID falls in the same JCLK. -/
def ErrCap.hit (e : ErrCap) (cls unit_ addr : Nat) (tick : Word) : ErrCap :=
  let e := { e with counts := Tbl.put 0 e.counts cls (Tbl.get 0 e.counts cls + 1) }
  if e.valid then { e with overflow := true } else { e with valid := true, overflow := false, cls := cls, unit_ := unit_, addr := addr, tick := tick }

def Junction.error (j : Junction) (cls unit_ addr : Nat) : Junction := { j with errs := j.errs.hit cls unit_ addr j.clk.tickWord }

end Sys2Proof.Machine
end

