-- ==== Sys2Proof/Machine/LsTablet.lean ====
section
/-! DEFINITION. The Tablet unit, witness, shards, test packs and poison at the Lineside (R78, R79, R81, R115, R358 to R372, R377, R378, R383, R385). -/

namespace Sys2Proof.Machine

/-! ## Digests (R361, R362) -/

/-- p = 2^61 − 1 (R362). -/
def mers61 : Nat := 2 ^ 61 - 1

/-- The transit digest of a payload (R361). -/
def transitDigest (group : Nat) (tag : Nat) (epoch : Nat) (payload : Bytes) : Nat :=
  crcOf crc64Xz (payload ++ le 4 (group % 2 ^ 28) ++ le 2 tag ++ le 2 0 ++ le 4 epoch ++ le 4 payload.length)

/-- Bytes of an element of ELEM 0 to 3 (R362). -/
def elemBytes (elem : Nat) : Nat := 2 ^ elem

/-- Signed elements of n bytes each; none when the payload is not whole; `k` bounds the walk (R362). -/
def intElems (n : Nat) : Nat → Bytes → Option (List Int)
  | 0, b => if b.length = 0 then some [] else none
  | k + 1, b =>
    if b.length = 0 then some []
    else if b.length < n then none
    else (intElems n k (b.drop n)).map (fun t => signed (8 * n) (unle (b.take n)) :: t)

/-- The elements of BFP16 blocks (R362): none on a bad length, byte 1 not 0 or e − EMIN outside 0 to 45. -/
def bfpElems (emin : Int) : Nat → Bytes → Option (List Int)
  | 0, b => if b.length = 0 then some [] else none
  | k + 1, b =>
    if b.length = 0 then some []
    else if b.length < 64 then none
    else
      let e := signed 8 (rd b 0 1) - emin
      if rd b 1 1 ≠ 0 || e < 0 || 45 < e then none
      else
        let ms := (List.range 31).map (fun j => signed 16 (rd b (2 + 2 * j) 2) * (2 ^ e.toNat : Nat))
        (bfpElems emin k (b.drop 64)).map (fun t => ms ++ t)

/-- The elements of a payload of type ELEM, or a format error (R362). -/
def payloadElems (elem : Nat) (emin : Int) (b : Bytes) : Option (List Int) :=
  if elem = 4 then bfpElems emin (b.length / 64 + 1) b else intElems (elemBytes elem) (b.length + 1) b

/-- The effective key K (R362). -/
def linearKey (key epoch : Nat) : Nat := 2 + (key + epoch) % (mers61 - 3)

/-- D = Σ K^(i+1) (v_i mod p) mod p, from power `k` of the next element (R362). -/
def linearSum (K : Nat) : Nat → List Int → Nat → Nat
  | _, [], acc => acc
  | k, v :: t, acc => linearSum K (k * K % mers61) t ((acc + k * (v % (mers61 : Nat)).toNat) % mers61)

/-- The linear digest, or a format error (R362). -/
def linearDigest (e : TabEntry) (payload : Bytes) : Option Nat :=
  (payloadElems e.elem e.emin payload).map (fun vs => let K := linearKey e.key e.epoch; linearSum K K vs 0)

/-- The digest of an entry's MODE (R364, R365). -/
def entryDigest (e : TabEntry) (group tag : Nat) (payload : Bytes) : Option Nat :=
  if e.linear then linearDigest e payload else some (transitDigest group tag e.epoch payload)

/-! ## Entries and packets (R359, R360, R367) -/

/-- The configuration of entry g as it stands (R359). -/
def Ls.tabEntry (s : Ls) (g : Nat) : TabEntry :=
  let r := s.reg (0x3000 + g)
  let c := s.reg (0x3100 + g)
  { g := g, linear := bit r 29, elem := fld c 0 3, fanIn := fld c 3 5 + 1, emin := signed 8 (fld c 8 8), actAbort := bit c 16,
    wticks := fld c 18 4, key := s.reg (0x3200 + g), epoch := s.reg (0x3300 + g) }

/-- The lowest enabled entry whose GROUP a packet names (R359). -/
def Ls.tabMatch (s : Ls) (group : Nat) : Option TabEntry :=
  ((List.range 256).find? (fun g => bit (s.reg (0x3000 + g)) 28 && fld (s.reg (0x3000 + g)) 0 28 == group)).map s.tabEntry

/-- Queue a completed shard digest; a full queue drops it (R115, R371, R385). -/
def Ls.queueShard (s : Ls) (tap : Nat) (ref : BitVec 28) (status : Nat) (digest : Nat) : Ls :=
  let w := ref.toNat + put 28 status + put 30 tap + put 31 1
  if 64 ≤ s.tab.queue.length then
    let s := s.istatAdd 12 1
    let s := { s with smp := { s.smp with sawShardOverflow := true } }
    s.logE 0x13 [w64 w]
  else
    let s := s.istatAdd (if status = 0 then 9 else if status = 2 then 10 else 11) 1
    { s with tab := { s.tab with queue := s.tab.queue ++ [(w, w64 digest)] } }

/-- The tap is enabled at the boundary: 0 ingress, 1 egress (R92, R523). -/
def Ls.tapOn (s : Ls) (tap : Nat) : Bool := if tap = 1 then s.boundary 2 else s.boundary 3

/-- The tap failed its self-test (R496, R497). -/
def Ls.tapFailed (s : Ls) (tap : Nat) : Bool := if tap = 1 then bit s.self.tablet.toNat 0 else bit s.self.tablet.toNat 1

/-! ## Beats of a tap (R78) -/

/-- The sideband of a beat (R78): VALID [0], START [1], END [2], count [13:3], CLASS [15:14], TAG [31:16], group or shard [59:32]. -/
def sbClass (sb : BitVec 64) : Nat := fld sb.toNat 14 2
def sbTag (sb : BitVec 64) : BitVec 16 := BitVec.ofNat 16 (fld sb.toNat 16 16)
def sbValue (sb : BitVec 64) : BitVec 28 := BitVec.ofNat 28 (fld sb.toNat 32 28)

/-- The sideband from its bits 15:0, 31:16 and 63:32. -/
def sideband (flags tag : BitVec 16) (value : BitVec 32) : BitVec 64 := value ++ tag ++ flags

/-- The payload of a packet whose beats carry `data`, 2,048 B each: the END beat holds [13:3] bytes, 0 meaning 2,048 (R78). -/
def sbPayload (sb : BitVec 64) (data : Bytes) : Bytes :=
  let n := fld sb.toNat 3 11
  fit (2048 * ((data.length - 1) / 2048) + if n = 0 then 2048 else n) data

/-- A START of a packet (R78, R79, R358, R367, R371): one of a reserved ROLE is not digested, but its egress END still drives a digest of 0. -/
def Ls.tapStart (s : Ls) (tap cls : Nat) (tag : BitVec 16) (value : BitVec 28) : Ls :=
  if !s.tapOn tap then s
  else match cls with
  | 3 => s.boundaryError 5
  | 1 =>
    if fld tag.toNat 14 2 = 3 then
      ({ s with tab := { s.tab with pkts := s.tab.pkts ++ [(⟨tap, cls, tag, value, none, false, s.tickW⟩ : OpenPkt)] } }).boundaryError 2
    else
      let used := (s.tab.pkts.filter (fun p => p.tap == tap && p.digested)).length
      let free := decide (used < 64)
      let pkt : OpenPkt := ⟨tap, cls, tag, value, if free then s.tabMatch value.toNat else none, free, s.tickW⟩
      let s := { s with tab := { s.tab with pkts := s.tab.pkts ++ [pkt] } }
      if free then s else s.boundaryError 3
  | 2 =>
    if 2 ≤ tag.toNat then s.boundaryError 2
    else if s.tapFailed tap then s.queueShard tap value 2 0
    else if s.tab.shards.any (fun x => x.tap == tap && x.ref == value) then s
    else if 4 ≤ (s.tab.shards.filter (fun x => x.tap == tap)).length then s.queueShard tap value 2 0
    else { s with tab := { s.tab with shards := s.tab.shards ++ [⟨tap, value, crc64Xz.init, 0⟩] } }
  | _ => s

/-- A shard packet's bytes and END (R371); one with reserved TAG bits is not digested (R358). -/
def Ls.shardEnd (s : Ls) (tap : Nat) (tag : BitVec 16) (value : BitVec 28) (data : Bytes) : Ls :=
  if 2 ≤ tag.toNat then s
  else match s.tab.shards.find? (fun x => x.tap == tap && x.ref == value) with
  | none => s
  | some x =>
    let x := { x with crc := crcFeed crc64Xz x.crc data, len := x.len + data.length }
    let rest := s.tab.shards.filter (fun y => !(y.tap == tap && y.ref == value))
    if bit tag.toNat 0 then
      let d := crcResult crc64Xz (crcFeed crc64Xz x.crc (le 4 value.toNat))
      ({ s with tab := { s.tab with shards := rest } }).queueShard tap value (if 4194304 < x.len then 1 else 0) d
    else { s with tab := { s.tab with shards := rest ++ [x] } }

/-- Take the open packet an END beat closes. -/
def Ls.takePkt (s : Ls) (tap : Nat) (tag : BitVec 16) (value : BitVec 28) : Option OpenPkt × Ls :=
  match (List.range s.tab.pkts.length).find? (fun i =>
      match s.tab.pkts[i]? with | some p => p.tap == tap && p.tag == tag && p.value == value | none => false) with
  | some i => (s.tab.pkts[i]?, { s with tab := { s.tab with pkts := s.tab.pkts.eraseIdx i } })
  | none => (none, s)

/-- A mismatch of an entry: Logbook, alarm of class 4 and, where ACT_ABORT is set, an abort (R366). -/
def Ls.mismatch (s : Ls) (e : TabEntry) (group : Nat) (w1 : Nat) : Ls :=
  let s := s.logAlarm 0x12 [w64 (put 28 6 + group), w64 w1] 4
  if e.actAbort then s.originate e.g else s

/-! ## Witness (R368 to R370) -/

/-- A group is suspended while sample edges of its suspension are left (R370). -/
def Ls.isSuspended (s : Ls) (g : Nat) : Bool := s.tab.suspended.any (fun x => x.1 == g && decide (0 < x.2))

/-- An INPUT or LOCAL digest joins its witness (R368, R370); the flag says it was taken. -/
def Ls.witnessAdd (s : Ls) (e : TabEntry) (chunk d : Nat) : Ls × Bool :=
  let is := fun (w : Witness) => w.g == e.g && w.chunk == chunk
  if s.isSuspended e.g then (s, false)
  else if s.tab.wits.any is then
    ({ s with tab := { s.tab with wits := s.tab.wits.map (fun w => if is w then { w with sum := w.sum + d, n := w.n + 1 } else w) } }, true)
  else if 64 ≤ s.tab.wits.length then
    let s := s.istatAdd 8 1
    ({ s with tab := { s.tab with wits := s.tab.wits.filter (fun w => w.g != e.g), suspended := s.tab.suspended.filter (fun x => x.1 != e.g) ++ [(e.g, e.wticks)] } }, false)
  else ({ s with tab := { s.tab with wits := s.tab.wits ++ [⟨e.g, chunk, d, 1, 0, e.wticks⟩] } }, true)

/-- An OUTPUT closes its chunk's witness (R369). `d` is its linear digest, none on a format error. -/
def Ls.witnessClose (s : Ls) (e : TabEntry) (group chunk : Nat) (d : Option Nat) : Ls :=
  let is := fun (w : Witness) => w.g == e.g && w.chunk == chunk
  match s.tab.wits.find? is, d with
  | none, some _ => s.istatAdd 6 1
  | none, none => s
  | some w, d =>
    let s := { s with tab := { s.tab with wits := s.tab.wits.filter (fun x => !is x) } }
    match d with
    | some v => if w.n = e.fanIn && w.sum % mers61 = v then s.istatAdd 4 1 else (s.istatAdd 5 1).mismatch e group v
    | none => s.istatAdd 5 1

/-! ## Test packs (R383) -/

/-- A TEST packet meets the entries of the window (R383). -/
def Ls.testPacket (s : Ls) (pkt : OpenPkt) (d : Nat) : Ls :=
  let ws := s.reg 0x238
  let wt := s.reg 0x239
  let inWin := decide (ws ≤ pkt.tick) && decide (pkt.tick < ws + wt)
  let chunk := fld pkt.tag.toNat 0 14
  match (List.range 256).find? (fun i =>
      let v := s.reg (0x3600 + i)
      inWin && bit v 42 && fld v 0 28 == pkt.value.toNat && fld v 28 14 == chunk && Tbl.get 0 s.tab.results i == 0) with
  | none => s.istatAdd 19 1
  | some i =>
    let set := fun (s : Ls) (r : Nat) => { s with tab := { s.tab with results := Tbl.put 0 s.tab.results i r } }
    if s.reg (0x3700 + i) = d then (set s 1).istatAdd 16 1
    else ((set s 2).istatAdd 17 1).logAlarm 0x12 [w64 (put 28 6 + pkt.value.toNat), w64 d] 4

/-- The test window ends: entries not taken are MISSING (R383). -/
def Ls.testWindowEnd (s : Ls) : Ls :=
  let ws := s.reg 0x238
  let wt := s.reg 0x239
  if wt = 0 || s.clk.tick.isNone || s.tickW < ws + wt then s
  else (List.range 256).foldl (fun s i =>
    if bit (s.reg (0x3600 + i)) 42 && Tbl.get 0 s.tab.results i = 0 then
      ({ s with tab := { s.tab with results := Tbl.put 0 s.tab.results i 3 } }).istatAdd 18 1
    else s) s

/-! ## Packets (R364, R365) -/

/-- Drive DIG_EG_VALUE for a TAG (R79, R364). -/
def Ls.driveDigest (s : Ls) (tag : BitVec 16) (d : Nat) : Ls :=
  { s with pins := { s.pins with dig := some (s.smp.lclk, tag, w64 d) } }

/-- An egress END beat (R364, R369, R383). -/
def Ls.egressEnd (s : Ls) (cls : Nat) (tag : BitVec 16) (value : BitVec 28) (data : Bytes) : Ls :=
  if !s.tapOn 1 then s
  else match cls with
  | 2 => s.shardEnd 1 tag value data
  | 1 =>
    match s.takePkt 1 tag value with
    | (none, s) => s
    | (some pkt, s) =>
      let role := fld tag.toNat 14 2
      let chunk := fld tag.toNat 0 14
      let drive := fun (s : Ls) (d : Nat) => s.driveDigest tag (if s.tapFailed 1 then 0 else d)
      if !pkt.digested then s.driveDigest tag 0
      else if role = 2 then
        let d := transitDigest value.toNat tag.toNat 0 data
        ((drive s d).istatAdd 0 1).testPacket pkt d
      else match pkt.entry with
      | none => (s.driveDigest tag 0).istatAdd 3 1
      | some e =>
        match entryDigest e value.toNat tag.toNat data with
        | some d =>
          let s := (drive s d).istatAdd 0 1
          if e.linear && role = 1 then s.witnessClose e value.toNat chunk (some d) else s
        | none =>
          let s := (s.driveDigest tag 0).istatAdd 2 1
          let s := if role = 1 then s.witnessClose e value.toNat chunk none else s
          s.mismatch e value.toNat 0
  | _ => s

/-- An ingress END beat (R365, R366, R368). -/
def Ls.ingressEnd (s : Ls) (cls : Nat) (tag : BitVec 16) (value : BitVec 28) (data : Bytes) : Ls :=
  if !s.tapOn 0 then s
  else match cls with
  | 2 => s.shardEnd 0 tag value data
  | 1 =>
    match s.takePkt 0 tag value with
    | (none, s) => s
    | (some pkt, s) =>
      let role := fld tag.toNat 14 2
      let chunk := fld tag.toNat 0 14
      if !pkt.digested then s
      else match pkt.entry with
      | none => s.istatAdd 3 1
      | some e =>
        if role = 2 then
          if !e.linear then s.istatAdd 3 1
          else match linearDigest e data with
          | none => (s.istatAdd 2 1).mismatch e value.toNat 0
          | some d =>
            match s.witnessAdd e chunk d with
            | (s, true) => s.istatAdd 20 1
            | (s, false) => s.istatAdd 3 1
        else if data.length ≤ 8 then (s.istatAdd 2 1).mismatch e value.toNat 0
        else
          let body := data.take (data.length - 8)
          let carried := unle (data.drop (data.length - 8))
          match entryDigest e value.toNat tag.toNat body with
          | none => (s.istatAdd 2 1).mismatch e value.toNat 0
          | some d =>
            let s := if d = carried then s.istatAdd 1 1 else (s.istatAdd 2 1).mismatch e value.toNat carried
            if e.linear && role = 1 then (s.witnessAdd e chunk d).1 else s
  | _ => s

/-- A beat with VALID and START at a tap (R78). -/
def Ls.tapBeat (s : Ls) (tap : Nat) (sb : BitVec 64) : Ls :=
  if bit sb.toNat 0 && bit sb.toNat 1 then s.tapStart tap (sbClass sb) (sbTag sb) (sbValue sb) else s

/-- A beat with VALID and END on the egress tap, with the bytes of the packet's beats (R78). -/
def Ls.egressBeat (s : Ls) (sb : BitVec 64) (data : Bytes) : Ls :=
  if bit sb.toNat 0 && bit sb.toNat 2 then s.egressEnd (sbClass sb) (sbTag sb) (sbValue sb) (sbPayload sb data) else s

/-- A beat with VALID and END on the ingress tap (R78). -/
def Ls.ingressBeat (s : Ls) (sb : BitVec 64) (data : Bytes) : Ls :=
  if bit sb.toNat 0 && bit sb.toNat 2 then s.ingressEnd (sbClass sb) (sbTag sb) (sbValue sb) (sbPayload sb data) else s

/-- Witness entries at their limit are discarded as stale (R370). -/
def Ls.witnessExpire (s : Ls) : Ls :=
  let old := s.tab.wits.filter (fun w => decide (w.limit ≤ w.edges))
  ({ s with tab := { s.tab with wits := s.tab.wits.filter (fun w => decide (w.edges < w.limit)) } }).istatAdd 7 old.length

/-- Suspensions whose sample edges have passed end (R370). -/
def Ls.suspendEnd (s : Ls) : Ls :=
  { s with tab := { s.tab with suspended := s.tab.suspended.filter (fun x => decide (0 < x.2)) } }

/-- Started packets of entry g are still open (R360). -/
def Ls.tabBusy (s : Ls) (g : Nat) : Bool := s.tab.pkts.any (fun p => match p.entry with | some e => e.g == g | none => false)

/-- A write to LS_TAB_GROUP[g] (R360, R497): ENABLE = 0 discards the open witnesses as stale; ENABLE = 1 over packets still
completing after a disable is PENDING; a failed tap ignores ENABLE. -/
def Ls.tabGroupWrite (s : Ls) (g v : Nat) : Ls :=
  let v := if s.self.tablet ≠ 0 then setFld v 28 1 0 else v
  let was := bit (s.reg (0x3000 + g)) 28
  if bit v 28 then
    if !was && s.tabBusy g then
      { (s.setReg (0x3000 + g) (setFld v 28 1 0)) with tab := { s.tab with pend := s.tab.pend.filter (· != g) ++ [g] } }
    else { (s.setReg (0x3000 + g) v) with tab := { s.tab with pend := s.tab.pend.filter (· != g) } }
  else
    let n := (s.tab.wits.filter (fun w => w.g == g)).length
    let s := s.setReg (0x3000 + g) v
    ({ s with tab := { s.tab with wits := s.tab.wits.filter (fun w => w.g != g), pend := s.tab.pend.filter (· != g) } }).istatAdd 7 n

/-- A pending ENABLE takes effect once its packets have completed (R360). -/
def Ls.tabEnableApply (s : Ls) (g : Nat) : Ls :=
  if s.tab.pend.contains g && !s.tabBusy g then
    let s := { s with tab := { s.tab with pend := s.tab.pend.filter (· != g) } }
    s.setReg (0x3000 + g) (setFld (s.reg (0x3000 + g)) 28 1 1)
  else s

/-! ## Poison (R81, R377, R378) -/

/-- Entries that a consumed event's job aborts (R378). -/
def Ls.jobEntries (s : Ls) (job : Nat) : List Nat :=
  (List.range 256).filter (fun g => bit (s.reg (0x3000 + g)) 28 && bit (s.reg (0x3100 + g)) 17 && s.reg (0x3400 + g) == job)

/-- A poison event is accepted while the queue has room, and handled (R81, R377, R378). An event stands in the queue until the LCLK of its
acceptance is over (log 85); a full queue withholds POISON_ACK. -/
def Ls.poisonAccept (s : Ls) (w : BitVec 96) : Ls :=
  if !s.boundary 5 || 64 ≤ s.poison.length then s
  else
    let s := { s with pins := { s.pins with poisonAck := some s.smp.lclk }, poison := s.poison ++ [w] }
    let ws := [w64 (w.toNat % 2 ^ 64), w64 (w.toNat / 2 ^ 64)]
    match fld w.toNat 4 2 with
    | 1 => (s.istatAdd 13 1).logE 0x11 ws
    | 2 =>
      let job := fld w.toNat 52 28
      let gs := s.jobEntries job
      let s := (s.istatAdd 14 1).logAlarm 0x11 ws 4
      if job = 0 || gs.length = 0 then s.istatAdd 15 1 else gs.foldl (fun s g => s.originate g) s
    | _ => s.boundaryError 4

end Sys2Proof.Machine
end

