-- ==== Sys2Proof/Machine/LsCtl.lean ====
section
/-! DEFINITION. The Lineside's trace, snapshot, halting, scan, counters, sensors, power, resets, time and link events (R88 to R157, R180 to R187, R390, R399 to R402, R496, R497). -/

namespace Sys2Proof.Machine

/-! ## Aborts received (R206, R209, R399, R402) -/

/-- An ABORT received for slot g (R206, R209, R399): ARMED takes it, PENDING keeps the earlier instant, others ignore and
count it; an instant already passed pulses in the next LCLK and counts as late. -/
def Ls.abortReceived (s : Ls) (g low : Nat) : Ls :=
  let k := s.slot g
  let i := gridOf s.clk.gridEpoch s.clk.time low
  if k.st = 1 || (k.st = 2 && k.low != low) then
    if k.st = 2 && k.instant ≤ i then s
    else
      let s := s.setSlot g { k with st := 2, low := low, instant := i, originated := k.originated && k.st == 2 }
      if i < s.clk.time then (s.toLclk (s.smp.lclk + 1)).pulse g true else s
  else if k.st = 2 then s
  else { s with slotIgnored := s.slotIgnored + 1 }

/-! ## Trace (R124 to R131) -/

/-- The sample interval in LCLK (R124). -/
def traceInterval (cfg : Nat) : Nat := 2 ^ (6 + fld cfg 1 4)

/-- Arm the trace (R126, R497). -/
def Ls.traceStart (s : Ls) : Ls :=
  let cfg := s.reg 0x100
  let i := traceInterval cfg
  { s with trace := { LsTrace.init with st := .running, cfg := cfg, restart := true, cfgErr := s.trace.cfgErr, refused := s.trace.refused,
                                        k := cdiv (s.smp.lclk - s.smp.edgeLclk) i } }

/-- LS_TRACE_CTRL.ARM: refused with CFG_ERR, latched during read-out, else it starts (R126, R130, R497). -/
def Ls.traceArm (s : Ls) : Ls :=
  let cfg := s.reg 0x100
  if 10 < fld cfg 1 4 || 21844 < fld cfg 8 15 || bit s.self.bist.toNat 0 then { s with trace := { s.trace with cfgErr := true } }
  else if s.trace.reading.isSome then { s with trace := { s.trace with pending := true } }
  else s.traceStart

/-- Enter FROZEN and record 0x08 (R128). -/
def Ls.traceFreeze (s : Ls) (disarmed : Bool) : Ls :=
  ({ s with trace := { s.trace with st := .frozen, postLeft := 0, trigNext := false, disarmed := disarmed } }).logE 8 [w64 s.trace.captured]

/-- LS_TRACE_CTRL.DISARM (R128). -/
def Ls.traceDisarm (s : Ls) : Ls := if s.trace.st = .running || s.trace.st = .post then s.traceFreeze true else s

/-- The record at a sample point (R125); ISSUED, BUNDLE_ADDR and STALL are filled in once the boundary shows the described cycle. -/
def Ls.traceRecord (s : Ls) (trigger : Bool) : Bytes :=
  let h := s.host
  let f := s.tickW % 2 ^ 56 + put 57 (b2n trigger) + put 58 (b2n s.halt.stopGate) + put 59 (b2n s.halt.drainReq)
    + put 60 (b2n h.inReset) + put 61 (b2n s.clk.untimed) + put 62 (b2n s.trace.restart)
  let n := hNs s.clk.headway * 5 / 4
  le 8 f ++ le 6 0 ++ le 2 (min 65535 (s.trace.k * traceInterval s.trace.cfg * 65536 / n)) ++ le 32 0

/-- The next sample point p_k = e_n + k·I lies before e_{n+1} (R124). -/
def Ls.traceInTick (s : Ls) : Bool :=
  let p := s.smp.edgeLclk + s.trace.k * traceInterval s.trace.cfg
  decide (p ≤ s.smp.lclk) || decide (p < s.smp.lclk + s.lclkLeft)

/-- A sample point of a running trace (R124, R126 to R129). -/
def Ls.traceSample (s : Ls) : Ls :=
  if (s.trace.st = .running || (s.trace.st = .post && (s.trace.trigNext || 0 < s.trace.postLeft))) && s.traceInTick then
    let s := s.toLclk (s.smp.edgeLclk + s.trace.k * traceInterval s.trace.cfg)
    let t := s.trace
    let trig := t.trigNext
    let full := decide (21845 ≤ t.recs.length)
    let fill := bit t.cfg 0
    let t := { t with captured := t.captured + 1, k := t.k + 1, point := some (s.smp.lclk, !(full && fill)), postLeft := if t.st = TraceSt.post && !trig then t.postLeft - 1 else t.postLeft, trigNext := false }
    if full && fill then { s with trace := { t with dropped := t.dropped + 1, trigDropped := t.trigDropped || trig } }
    else
      let r := s.traceRecord trig
      let pos := if full then t.trigPos.bind (fun i => if i = 0 then none else some (i - 1)) else t.trigPos
      let recs := (if full then t.recs.drop 1 else t.recs) ++ [r]
      { s with trace := { t with recs := recs, restart := false, fill := some (s.smp.lclk + fld (s.reg 0x2) 8 5), overwritten := t.overwritten + b2n full,
                                 trigPos := if trig then some (recs.length - 1) else pos } }
  else s

/-- POST_COUNT sample points have followed the trigger record (R128). -/
def Ls.tracePostComplete (s : Ls) : Ls :=
  if s.trace.st = .post && !s.trace.trigNext && s.trace.postLeft = 0 then s.traceFreeze false else s

/-- The read-out message (R130). -/
def Ls.traceMessage (s : Ls) : Bytes :=
  let t := s.trace
  le 2 1 ++ le 2 (t.cfg % 32) ++ le 4 s.die.toNat ++ le 4 t.recs.length ++ le 4 (t.trigPos.getD 0xFFFFFFFF) ++ le 8 t.captured
  ++ le 8 t.overwritten ++ le 8 t.dropped ++ le 2 (b2n t.trigDropped + put 1 (b2n t.disarmed)) ++ le 2 t.extra ++ le 4 0 ++ t.recs.flatten

/-- LS_TRACE_CTRL.READOUT: only in FROZEN, and only with a link to send on (R130). -/
def Ls.traceReadout (s : Ls) : Ls :=
  let s := match s.trace.fill with | some n => s.toLclk n | none => s
  match s.readoutLink with
  | some l =>
    if s.trace.st = .frozen && s.trace.reading.isNone then
      (s.setPort l ((s.port l).sendTag 1 2 1 s.traceMessage)) |> fun s => { s with trace := { s.trace with reading := some l } }
    else { s with trace := { s.trace with refused := true } }
  | none => { s with trace := { s.trace with refused := true } }

/-- No message of a tag is left to send on a link. -/
def Port.sentAll (p : Port) (tag : Nat) : Bool := !(p.q.any (fun m => m.tag == tag))

/-- The last read-out flit has left: a latched arm takes effect (R130). -/
def Ls.traceReadoutDone (s : Ls) : Ls :=
  match s.trace.reading with
  | some l =>
    if (s.port l).sentAll 1 then
      let s := { s with trace := { s.trace with reading := none } }
      if s.trace.pending then ({ s with trace := { s.trace with pending := false } }).traceArm else s
    else s
  | none => s

/-! ## Hang snapshot (R80, R132 to R134) -/

/-- A descriptor read ends, acknowledged or timed out (R80, R132). -/
def Ls.qsnapRead (s : Ls) (d : Option (BitVec 128)) : Ls :=
  let q := s.qsnap
  if q.st = 1 && q.descs.length < q.count then
    let s := match d with | none => s.toLclk (q.readAt + 64) | some _ => s
    let n := q.descs.length + 1
    { s with qsnap := { q with descs := q.descs ++ [d], readAt := s.smp.lclk + 1, held := s.qsnap.held && (s.halt.stopGate || s.host.drainDone) },
             pins := { s.pins with qsnapReq := if n < q.count then some n else none } }
  else s

/-- Descriptors flagged absent. -/
def LsQsnap.absent (q : LsQsnap) : Nat := (q.descs.filter (·.isNone)).length

/-- The last read completes the snapshot: code 0x09 (R132, R151). -/
def Ls.qsnapDone (s : Ls) : Ls :=
  let q := s.qsnap
  if q.st = 1 && q.descs.length = q.count then
    ({ s with qsnap := { q with st := 2, endTick := s.tickW } }).logE 9 [w64 q.cause, w64 q.absent]
  else s

/-- The snapshot message: header, descriptors (all ones where absent), absent bitmap (R134). -/
def Ls.qsnapMessage (s : Ls) : Bytes :=
  let q := s.qsnap
  let bitmap := (List.range q.descs.length).foldl (fun a i => match q.descs[i]? with | some none => a + put i 1 | _ => a) 0
  le 2 2 ++ le 2 q.count ++ le 4 s.die.toNat ++ le 8 (q.startTick % 2 ^ 56) ++ le 8 q.endTick ++ le 2 q.absent ++ le 1 q.cause ++ le 1 q.bp
  ++ le 1 (b2n q.held) ++ le 3 0 ++ (q.descs.map (fun d => match d with | some v => le 16 v.toNat | none => List.replicate 16 0xFF)).flatten
  ++ le (cdiv q.count 128 * 16) bitmap

/-- LS_QSNAP_CTRL.READOUT of a completed snapshot (R134). -/
def Ls.qsnapReadout (s : Ls) : Ls :=
  match s.readoutLink with
  | some l =>
    if 2 ≤ s.qsnap.st && s.qsnap.reading.isNone then
      (s.setPort l ((s.port l).sendTag 2 2 1 s.qsnapMessage)) |> fun s => { s with qsnap := { s.qsnap with reading := some l } }
    else s
  | none => s

/-- A read-out that completes marks the snapshot read; a latched cause starts (R133, R134). -/
def Ls.qsnapReadoutDone (s : Ls) : Ls :=
  match s.qsnap.reading with
  | some l =>
    if (s.port l).sentAll 2 then
      ({ s with qsnap := { s.qsnap with reading := none, st := 3 } }).qsnapPending
    else s
  | none => s

/-- 16 LCLK after STOP_GATE rose, with ON_STOP set (R133). -/
def Ls.stopSnapshot (s : Ls) : Ls :=
  if s.halt.snapDue then
    let s := s.toLclk (s.halt.stopAt + 16)
    let s := { s with halt := { s.halt with snapDue := false } }
    s.qsnapCause 3 0
  else s

/-! ## Drain (R83, R137 to R139) -/

/-- DRAIN_DONE rises (R137, R138). -/
def Ls.drainDoneRise (s : Ls) : Ls :=
  let s := { s with host := { s.host with drainDone := true } }
  if s.halt.drain = 1 then { s with halt := { s.halt with drain := 2 } }
  else if s.halt.drain = 3 && s.halt.drainReq then
    let s := { s with halt := { s.halt with drain := 2, lateDrain := true } }
    s.logE 5 [w64 s.haltStatus]
  else s

/-- 2,048 LCLK without DRAIN_DONE (R138); the record sees what the LCLK wrote (R150). -/
def Ls.drainTimeout (s : Ls) : Ls :=
  if s.halt.drain = 1 then
    let s := s.toLclk (s.halt.drainAt + 2048)
    let s := { s with halt := { s.halt with drain := 3 } }
    let s := if bit (s.reg 0x110) 16 then s.qsnapCause 2 0 else s
    s.logAlarm 4 [w64 s.haltStatus] 3
  else s

/-- The drain is back at IDLE; a pending one takes effect (R139). -/
def Ls.drainIdle (s : Ls) : Ls :=
  let s := { s with halt := { s.halt with drain := 0 } }
  if s.halt.drainPending then ({ s with halt := { s.halt with drainPending := false } }).drainCause else s

/-- DRAIN_DONE falls (R139). -/
def Ls.drainDoneFall (s : Ls) : Ls :=
  let s := { s with host := { s.host with drainDone := false } }
  if !s.halt.drainReq && s.halt.drain ≠ 0 then s.drainIdle else s

/-- LS_HALT_CTRL.RELEASE_DRAIN lowers DRAIN_REQ; the status is IDLE once DRAIN_DONE is low (R139). DESIGN CHOICE (log 83): a drain held
while STOP_GATE is high has raised no DRAIN_REQ and stays held. -/
def Ls.releaseDrain (s : Ls) : Ls :=
  let s := { s with halt := { s.halt with drainReq := false } }
  if s.host.drainDone || s.halt.drain = 0 then s else s.drainIdle

/-- HOST_IN_RESET rises: BUNDLE_IDX is 0, a drain ends and an anchor in force is removed (R76, R86, R105). -/
def Ls.hostReset (s : Ls) : Ls :=
  let s := { s with host := { s.host with inReset := true, bundleIdx := 0, issuedAt := none },
                    lag := { s.lag with anchor := none, last := none }, smp := { s.smp with sawReset := true } }
  if s.halt.drain = 1 then { s with halt := { s.halt with drain := 5, drainReq := false } } else s

/-! ## Stop and release (R140 to R144) -/

/-- LS_HALT_CTRL.ARM_STOP: less than 1 us ahead it stops at once, late (R142). -/
def Ls.armStop (s : Ls) : Ls :=
  let t := s.instantAt 0x42
  if t < s.clk.time + 1000 * uNs then s.raiseStop 2 true false
  else { s with halt := { s.halt with stopArmed := some t } }

/-- LS_HALT_CTRL.DISARM_STOP before T (R140). -/
def Ls.disarmStop (s : Ls) : Ls := { s with halt := { s.halt with stopArmed := none } }

/-- The station clock reaches the armed T (R141, R142). -/
def Ls.armedStop (s : Ls) : Ls :=
  match s.halt.stopArmed with
  | some t =>
    let s := s.reach t
    let s := { s with halt := { s.halt with stopArmed := none } }
    s.raiseStop 2 false (s.clk.st == .unlocked)
  | none => s

/-- LS_HALT_CTRL.ARM_RELEASE: an instant already passed releases at once (R144). -/
def Ls.armRelease (s : Ls) : Ls :=
  let t := s.instantAt 0x44
  if t ≤ s.clk.time then ({ s with halt := { s.halt with relLate := true } }).lowerStop true
  else { s with halt := { s.halt with relArmed := some t } }

/-- LS_HALT_CTRL.DISARM_RELEASE (R523). -/
def Ls.disarmRelease (s : Ls) : Ls := { s with halt := { s.halt with relArmed := none } }

/-- The station clock reaches LS_RELEASE_AT (R144). -/
def Ls.armedRelease (s : Ls) : Ls :=
  match s.halt.relArmed with
  | some t =>
    let s := s.reach t
    ({ s with halt := { s.halt with relArmed := none } }).lowerStop true
  | none => s

/-! ## Scan-out (R145 to R147) -/

/-- The header of a scan message (R146). -/
def Ls.scanHeader (s : Ls) (offset : Nat) : Bytes :=
  le 2 3 ++ le 2 0 ++ le 4 s.die.toNat ++ le 4 s.scan.len ++ le 4 offset ++ le 8 s.scan.startTick ++ le 8 0

/-- Begin a scan message on link l with the words already shifted and not sent; it grows while the shift goes on (R145, R146). -/
def Ls.scanOpen (s : Ls) (l : Bool) (more : Bool) : Ls :=
  let offset := s.scan.shifted - s.scan.kept.length / 8
  let p := s.port l
  let message : TxMsg := ⟨2, 2, false, s.scanHeader offset ++ s.scan.kept, false, 3, more⟩
  { s with scan := { s.scan with offset := offset, link := l, kept := [] } }.setPort l { p with q := p.q ++ [message] }

/-- LS_SCAN_CTRL.START: refused unless STOP_GATE has been high for 16 LCLK and the scan is permitted (R145, R497, R523). -/
def Ls.scanStart (s : Ls) : Ls :=
  let len := fld (s.reg 0x121) 0 25
  let okStop := s.halt.stopGate && decide (s.halt.stopAt + 16 ≤ s.smp.lclk)
  match s.readoutLink with
  | some l =>
    if okStop && s.boundary 6 && 0 < len && !(bit s.self.bist.toNat 3) && s.scan.st ≠ 1 && s.scan.st ≠ 2 && s.scan.st ≠ 5 then
      ({ s with scan := { s.scan with st := 1, shifted := 0, len := len, startTime := s.clk.time, startTick := s.tickW, kept := [] }
                pins := { s.pins with scanEn := true } }).scanOpen l true
    else { s with scan := { s.scan with refused := true } }
  | none => { s with scan := { s.scan with refused := true } }

/-- LS_SCAN_CTRL.RESTORE of an abandoned scan (R147). -/
def Ls.scanRestore (s : Ls) : Ls :=
  if s.scan.st = 4 then
    { s with scan := { s.scan with st := 5, len := fld (s.reg 0x121) 0 25, startTime := s.clk.time }, pins := { s.pins with scanEn := true } }
  else s

/-- The host says what its chains hold from the next shift cycle on; with nothing said they are as they stand (R82, log 8). -/
def Ls.holdChains (s : Ls) (chains : List Word) : Ls :=
  if chains.length = 0 then s else { s with host := { s.host with chains := chains } }

/-- The message of a finished scan takes no more words (R146). -/
def Port.scanClose (p : Port) : Port := { p with q := p.q.map (fun m => if m.tag = 3 then { m with more := false } else m) }

/-- The shift runs on to LS_SCAN_LEN cycles: DONE, and a pending release is applied (R144, R145); a staging buffer that fills first pauses
it instead. A restore discards its data (R147). -/
def Ls.scanComplete (s : Ls) : Ls :=
  if s.scan.st = 1 || s.scan.st = 5 then
    let s := (s.reach ((s.scan.startTime + (s.scan.len - s.scan.shifted) * uNs : Nat) : Int)).scanAdvance
    if s.scan.shifted < s.scan.len then s
    else
      let s := s.setPort s.scan.link (s.port s.scan.link).scanClose
      let s := { s with scan := { s.scan with st := 3 }, pins := { s.pins with scanEn := false } }
      match s.halt.relPending with
      | some a => ({ s with halt := { s.halt with relPending := none } }).lowerStop (a == 1)
      | none => s
  else s

/-- A paused shift resumes: in the same message once the staging buffer has room, or in a new one on the link in service (R145, R146). -/
def Ls.scanResume (s : Ls) : Ls :=
  let open_ := (s.port s.scan.link).q.any (fun m => m.tag == 3)
  let go := fun (s : Ls) => { s with scan := { s.scan with st := 1, startTime := s.clk.time }, pins := { s.pins with scanEn := true } }
  if s.scan.st = 2 && open_ then (if s.scanUnsent.length < 65536 then go s else s)
  else match s.readoutLink with
  | some l =>
    if s.scan.st = 2 then go (s.scanOpen l true)
    else if s.scan.st = 3 && s.scan.kept.length ≠ 0 then s.scanOpen l false
    else s
  | none => s

/-- A reset or power removal abandons a scan between shift cycles (R147). -/
def Ls.scanAbandon (s : Ls) : Ls :=
  if s.scan.st = 1 || s.scan.st = 2 || s.scan.st = 5 then
    let s := s.scanAdvance
    let s := { s with scan := { s.scan with st := 4, kept := [] }, pins := { s.pins with scanEn := false },
                      halt := { s.halt with relPending := none } }
    s.logE 0xA [w64 s.scan.shifted]
  else s

/-! ## Counters and selects (R96 to R100) -/

/-- The host's inputs of one LCLK (R68, R75, R77). -/
def Ls.drive (s : Ls) (x : LclkIn) : Ls :=
  let s := if x.inReset && !s.host.inReset then s.hostReset else s
  { s with host := { s.host with stall := x.stall, stopped := x.stopped, inReset := x.inReset, present := x.present,
                                 chains := if s.scan.st = 0 || s.scan.st = 3 then x.chains else s.host.chains } }

/-- One LCLK at the boundary: every counter adds its increment modulo 2^64 (R96); inputs of a disabled event bus are zero (R92). With main
power off only the host's own signals change. -/
def Ls.lclkCycle (s : Ls) (x : LclkIn) : Ls :=
  let s := s.drive x
  if !s.mainOn then s
  else
    let add := fun (t : Tbl Word) (p : Nat × Nat) => if p.1 < 4096 then Tbl.put 0 t p.1 (Tbl.get 0 t p.1 + BitVec.ofNat 64 (p.2 % 16)) else t
    let s := if s.boundary 0 then { s with smp := { s.smp with ctr := x.inc.foldl add s.smp.ctr } } else s
    s.bpCounts.toLclk (s.smp.lclk + 1)

/-- A write to LS_CTR_SEL[k] stages the select (R97). -/
def Ls.selWrite (s : Ls) (k v : Nat) : Ls :=
  let s := s.setReg (0x1000 + k) v
  { s with smp := { s.smp with staged := Tbl.ins s.smp.staged k (v % 2 ^ 17) } }

/-- The next staged select goes to the host, in ascending counter order, pass after pass; a pass ends when nothing is staged (R97). -/
def Ls.selSend (s : Ls) : Ls :=
  let m := s.smp
  let next := match m.staged.find? (fun x => decide (m.pass ≤ x.1)) with | some x => some x | none => m.staged.head?
  match next with
  | some (k, v) =>
    let rest := Tbl.del m.staged k
    { s with smp := { m with staged := rest, sent := Tbl.ins m.sent k v, pass := if rest.length = 0 then 0 else k + 1 },
             pins := { s.pins with selWrite := some (m.lclk, k, BitVec.ofNat 16 v) } }
  | none => s

/-- A write to LS_CTR_VALUE[k] (R99, R100, R135). -/
def Ls.ctrWrite (s : Ls) (k : Nat) (v : Word) : Ls :=
  ({ s with smp := { s.smp with ctr := Tbl.put 0 s.smp.ctr k v, disc := k :: s.smp.disc } }).bpCounts

/-- A bundle issues: the host counts it whatever the Lineside's power, and the bundle-address comparators meet it (R76, R94, R135). -/
def Ls.bundleIssue (s : Ls) (addr : BitVec 48) : Ls :=
  let s := { s with host := { s.host with bundleIdx := if s.host.inReset then 0 else s.host.bundleIdx + 1, bundleAddr := addr, issuedAt := some s.smp.lclk } }
  if !s.mainOn then s
  else
    s.bpActions ((s.bpOf 0).filter (fun i => (Nat.xor addr.toNat (s.reg (0xA0 + i) % 2 ^ 48)) &&& s.reg (0xC0 + i) == 0))

/-- LS_LAG_CTRL.ARM (R104). -/
def Ls.lagArm (s : Ls) : Ls :=
  let m := s.reg 0x130
  match s.clk.tick with
  | some n =>
    if m ≤ n + 1 then { s with lag := { s.lag with err := true } }
    else { s with lag := { s.lag with armed := some (m, s.reg 0x131) } }
  | none => { s with lag := { s.lag with err := true } }

/-- An armed anchor at its tick (R104, R105): it counts from the LCLK of the edge. -/
def Ls.lagEffect (s : Ls) : Ls :=
  match s.lag.armed with
  | some (m, b) =>
    if s.clk.tick.isSome && m ≤ s.tickW then
      if s.host.inReset then { s with lag := { s.lag with armed := none } }
      else { s with lag := { s.lag with armed := none, anchor := some (m, b, s.smp.edgeLclk) } }
    else s
  | none => s

/-! ## Sensors and comparators (R74, R90, R101, R523) -/

/-- A value as its channel's number: thermal signed, others unsigned (R74). -/
def sensorNum (ch v : Nat) : Int := if ch < 96 then signed 16 v else v

/-- Comparator i meets a conversion of its channel (R90, R523). DESIGN CHOICE (log 86): a comparator disabled while beyond its threshold
keeps BEYOND until a conversion it compares again brings the value back. -/
def Ls.aonBeat (s : Ls) (ch v beat i : Nat) : Ls :=
  let c := s.reg (0x30 + i)
  if !(bit c 0) || fld c 2 8 ≠ ch then s
  else
    let x := sensorNum ch v
    let th := sensorNum ch (fld c 16 16)
    let hy : Int := fld c 32 8
    let past := if bit c 1 then decide (x < th) else decide (th < x)
    let back := if bit c 1 then decide (th + hy ≤ x) else decide (x ≤ th - hy)
    let run := if past then Tbl.get 0 s.aon.run i + 1 else 0
    let beyond := bit s.aon.beyond.toNat i
    let a := { s.aon with run := Tbl.put 0 s.aon.run i (min run 16) }
    if !beyond && past && fld c 40 4 + 1 ≤ run then
      { s with aon := { a with beyond := BitVec.ofNat 8 (a.beyond.toNat ||| put i 1), crossing := a.crossing ++ [(i, beat)] } }
    else if beyond && back then { s with aon := { a with beyond := BitVec.ofNat 8 (setFld a.beyond.toNat i 1 0) } }
    else { s with aon := a }

/-- A SNS_WORD beat (R74, R90): a channel above 167 is a boundary error. -/
def Ls.sensorBeat (s : Ls) (w : BitVec 32) : Ls :=
  let ch := fld w.toNat 24 8
  let v := fld w.toNat 0 16
  let err := bit w.toNat 16
  if 167 < ch then (if s.mainOn then s.boundaryError 1 else s)
  else
    let s := if s.mainOn && s.boundary 1 then { s with smp := { s.smp with sensors := Tbl.put ⟨0, false, false⟩ s.smp.sensors ch ⟨BitVec.ofNat 16 v, err, true⟩ } } else s
    if err then s else (List.range 8).foldl (fun s i => s.aonBeat ch v w.toNat i) s

/-- The oldest crossing is handled: recorded, or held for the next session, with MAIN_PWR_REQ raised while main power is off (R90). -/
def Ls.aonCrossing (s : Ls) : Ls :=
  match s.aon.crossing with
  | (i, beat) :: t =>
    let s := { s with aon := { s.aon with crossing := t } }
    if s.mainOn && s.inService then s.logE 1 [w64 i, w64 beat]
    else { s with aon := { s.aon with held := s.aon.held ++ [(i, beat)] }, pins := { s.pins with mainPwrReq := s.pins.mainPwrReq || !s.mainOn } }
  | [] => s

/-- One REGION_STRETCH pulse of region j (R75, R102). -/
def Ls.stretchPulse (s : Ls) (j : Nat) : Ls :=
  if s.mainOn then { s with smp := { s.smp with stretch := Tbl.put 0 s.smp.stretch j (Tbl.get 0 s.smp.stretch j + 1) } } else s

/-! ## Logbook writes (R151, R156) -/

/-- LS_LOG_CTRL.MARK (R151). -/
def Ls.logMark (s : Ls) : Ls := s.logE 0x1F [w64 (s.reg 0x301), w64 (s.reg 0x302)]

/-- A write to LS_LOG_COMMIT_SEQ inside its serial bounds (R156); a flush ends when nothing is unflushed (R162). -/
def Ls.commitWrite (s : Ls) (v : Nat) : Ls :=
  let v := v % 2 ^ 32
  if atOrAfter v s.log.commitSeq && atOrAfter ((s.log.nextSeq + 2 ^ 32 - 1) % 2 ^ 32) v then
    let l := { s.log with commitSeq := v }
    { s with log := { l with flushing := l.flushing && decide (l.unflushed ≠ 0) } }
  else s

/-- FLUSH received: code 0x19, read-outs paused, VC2 to Logbook messages until nothing is unflushed; with nothing unflushed it makes only
the record (R162, R163). -/
def Ls.flush (s : Ls) : Ls :=
  let some_ := decide (s.log.unflushed ≠ 0)
  let s := s.logE 0x19 [w64 s.log.unflushed]
  { s with log := { s.log with flushing := s.log.flushing || some_ } }

/-! ## Fence (R390) -/

/-- FENCE received (R390). -/
def Ls.fenceSignal (s : Ls) (arg : Nat) : Ls :=
  if s.fenceHold && s.fenceLow.toNat = arg then s
  else if s.reg 0x14 % 8192 = arg then { s with fenceIgnored := sat 8 (s.fenceIgnored + 1) }
  else ({ s with fenceHold := true, fenceLow := BitVec.ofNat 13 arg }).logE 0xF [w64 (s.reg 0x14)]

/-- A write to LS_FENCE_EPOCH: the epoch that RX_LOW names lowers FENCE_HOLD (R390). -/
def Ls.fenceWrite (s : Ls) (v : Nat) : Ls :=
  let s := s.setReg 0x14 v
  if v % 8192 = s.fenceLow.toNat then { s with fenceHold := false } else s

/-! ## Self-test, power and resets (R88 to R90, R496, R497, R522, R539) -/

/-- The status after a self-test (R496). -/
def SelfResult.status (r : SelfResult) (refused : Bool) : LsSelf :=
  ⟨if r.bist = 0 && r.tablet = 0 && r.crc = 0 then 2 else 3, refused, r.bist, r.tablet, r.crc, sat 8 r.repaired⟩

/-- A START is refused unless nothing is held (R497). -/
def Ls.selfStart (s : Ls) : Ls :=
  if s.trace.st = .idle && s.log.unflushed = 0 && s.qsnap.st = 0 && !((List.range 256).any (fun g => bit (s.reg (0x3000 + g)) 28)) then
    { s with self := { s.self with st := 1 } }
  else { s with self := { s.self with refused := true } }

/-- The self-test ends; every SRAM array is left zeroed (R496). -/
def Ls.selfComplete (s : Ls) (r : SelfResult) : Ls :=
  if s.self.st = 1 then { s with self := r.status s.self.refused, log := { s.log with recs := [] } } else s

/-- The main island enters service (R90, R105, R157, R496, R499, R522). DESIGN CHOICE (log 86): MAIN_PWR_REQ, PWR_OFF_ACK and PWR_OFF_NAK
fall here. -/
def Ls.serviceEntry (s : Ls) (r : SelfResult) : Ls :=
  if s.inService then s
  else
    let s := { s with mainOn := true, inService := true, configured := false, self := r.status false,
                      lag := { s.lag with armed := none, anchor := none, last := none },
                      smp := { LsSample.init with lclk := s.smp.lclk, lclkAcc := s.smp.lclkAcc, edgeLclk := s.smp.lclk, unsourced := s.smp.unsourced },
                      pins := { s.pins with mainPwrReq := false, pwrOffAck := false, pwrOffNak := false }, host := { s.host with mainGood := true } }
    let lost := s.log.unflushed
    let s := { s with log := { s.log with commitSeq := (s.log.nextSeq + 2 ^ 32 - 1) % 2 ^ 32, recs := [], flushing := false } }
    let s := if bit r.bist.toNat 1 then { s with log := { s.log with fullDrop := sat 32 (s.log.fullDrop + 1) } }
      else
        let tok := Tbl.get 8 s.log.tokens 2
        let s := { s with log := { s.log with tokens := Tbl.put 8 s.log.tokens 2 (tok - 1) } }
        (s.storeRecord 2 [w64 lost]).1
    let held := s.aon.held
    held.foldl (fun s x => s.logE 1 [w64 x.1, w64 x.2]) { s with aon := { s.aon with held := [] } }

/-- The stored bits that survive a warm reset. -/
def keepRws (t : Tbl Word) : Tbl Word := t.filter (fun x => regRws x.1)

/-- A link end of the Lineside after its island was reset, with its asymmetry register (R182). -/
def Ls.freshPort (s : Ls) (l : Bool) : Port :=
  let p := Port.init true false
  { p with time := { p.time with asym := signed 32 (s.reg (0x26 + b2n l)) } }

/-- Buckets full to the BURST of each code's rate (R153). -/
def Ls.fullBuckets (s : Ls) : Tbl Nat := (List.range 64).foldl (fun t c => Tbl.put 8 t c (fld (Tbl.get 8 s.log.rateAct c).toNat 0 8)) []

/-- What the main island loses with its supply or at a warm reset (R88, R89, R131, R147, R157, R371). The station clock runs on undisturbed; its
sources go with the links (R195, R222). -/
def Ls.loseMain (s : Ls) : Ls :=
  let s := s.scanAbandon
  let s := { s with inService := false, configured := false, trace := LsTrace.init, qsnap := LsQsnap.init, poison := [], tab := LsTab.init,
                    timeLatch := none, vc3Last := none, pins := { s.pins with qsnapReq := none }, istat := [], berrCount := 0, berrLast := 0, cfgWait := none, linkDefer := none,
                    log := { s.log with recs := [], rateDrop := [], fullDrop := 0, flushing := false, tokens := s.fullBuckets },
                    crc := s.crc.map (fun (e : CrcEng) => { CrcEng.init with cfg := e.cfg, act := e.cfg }) }
  { s with portA := s.freshPort false, portB := s.freshPort true, smp := { s.smp with ctr := [], shadow := [], shadowPrev := [], staged := [], sent := [] } }

/-- LS_WARM_N low (R88, R140, R390, R539): the main island and every field that is not RWS. -/
def Ls.warmReset (s : Ls) : Ls :=
  let s := s.loseMain
  let h := s.halt
  let s := { s with regs := keepRws s.regs, slots := [], bp := ⟨0, 0, 0⟩, crc := [CrcEng.init, CrcEng.init, CrcEng.init, CrcEng.init],
                    dbgUnlock := false, dbgWrite := false, self := ⟨0, false, 0, 0, 0, 0⟩,
                    log := { s.log with rateAct := [], tokens := [] }, lag := { s.lag with err := false }, banks := { s.banks with fCheck := 0, fEntry := 0, fSwitchErr := false, activeWrites := 0, tCheck := 0, tSlot := 0, tArmErr := false, frame := none },
                    halt := { LsHalt.init with lateDrain := h.lateDrain, stopGate := h.stopGate, stopAt := h.stopAt, stopArmed := h.stopArmed } }
  { s with smp := { s.smp with unsourced := [] }, scan := { s.scan with refused := false } }

/-- Main power is removed after PWR_OFF_ACK (R89): configuration registers are kept. -/
def Ls.powerOff (s : Ls) : Ls :=
  if s.pins.pwrOffAck then
    let s := s.loseMain
    { s with mainOn := false, host := { s.host with mainGood := false }, aon := { s.aon with pwrReqAt := none } }
  else s

/-- PORST_N low: both islands, RWS fields included (R88); what the host drives stays the host's. -/
def Ls.coldReset (s : Ls) : Ls := { Ls.init with host := s.host }

/-- What makes a power-off request be refused: a crossing, an armed stop or an abort within 100 us (R89). -/
def Ls.offRefused (s : Ls) : Bool :=
  s.aon.beyond != 0 || s.halt.stopArmed.isSome || s.slots.any (fun x => x.2.st == 2 && decide (x.2.instant ≤ s.clk.time + 100000 * uNs))

/-- Answer a power-off request: ACK or NAK, code 0x18 (R89, R151). -/
def Ls.offAnswer (s : Ls) (nak : Bool) : Ls :=
  ({ s with pins := { s.pins with pwrOffAck := !nak, pwrOffNak := nak }, aon := { s.aon with pwrReqAt := none } }).logE 0x18 [w64 (b2n nak)]

/-- PWR_OFF_REQ: answered NAK, or the residue is flushed first (R89, R163). -/
def Ls.pwrOffReq (s : Ls) : Ls :=
  if s.offRefused then s.offAnswer true
  else { s with aon := { s.aon with pwrReqAt := some s.clk.time }, log := { s.log with flushing := decide (s.log.unflushed ≠ 0) } }

/-- The answer once the residue is flushed, at 50 us at the latest; what has come up since the request refuses it (R89, R163). -/
def Ls.pwrOffAnswer (s : Ls) : Ls :=
  match s.aon.pwrReqAt with
  | some t =>
    let s := if s.log.unflushed = 0 then s else s.reach ((t + 50000 * uNs : Nat) : Int)
    s.offAnswer s.offRefused
  | none => s

/-! ## Time at the Lineside (R71, R168, R173, R181, R182) -/

/-- Put a clock in place; UNTIMED changing records 0x0E (R151). -/
def Ls.setClock (s : Ls) (c : Clock) : Ls :=
  let was := s.clk.untimed
  let s := { s with clk := c }
  if was && !c.untimed then s.logE 0xE [1] else if !was && c.untimed then s.logE 0xE [0] else s

/-- AON_REFCLK lost for more than 64 ns (R71, R168). -/
def Ls.refclkLoss (s : Ls) : Ls := s.setClock s.clk.unlock

/-- A mark with its arrival on link l, and whether it came by replay (R165, R182). -/
def Ls.measure (s : Ls) (l : Bool) (m : TimeMark) (t2 : Nat) (bad : Bool) : Ls :=
  let p := s.port l
  let (pt, off) := p.time.take s.clk m (capture t2) bad
  let p := { p with time := pt }
  let p := if off.isSome then p else p.count 22 1
  let s := s.setPort l p
  let c := s.clk.reselect s.cands none
  let mine := c.source == 1 + b2n l
  let c := if mine then (match unpackTime m.epoch.toNat with | some e => c.adopt e | none => c) else c
  let c := match off with
    | some o => if mine then (c.follow m).servoUpdate o else c
    | none => c
  s.setClock c

/-- The tick mark received on link l (R62, R182): the RX_STREAM of the active bank, or the bootstrap stream. -/
def Ls.tickMark (s : Ls) (l : Bool) : Ls :=
  let id := match s.banks.tActive with | some b => fld (s.reg (0x214 + b2n b)) 16 16 | none => 0xFFFF
  let p := s.port l
  match p.streams.find? (fun x => x.id == id && !x.taken) with
  | some x =>
    let p := { p with streams := p.streams.map (fun y => if y.id == x.id && y.tick == x.tick then { y with taken := true } else y) }
    let bad := x.bad || x.void || x.got.length == 0
    let p := if bad then p.count 16 1 else p
    let s := s.setPort l p
    let data := match x.got.head? with | some g => g.2 | none => []
    if bad then s.setPort l ((s.port l).count 22 1) else s.measure l (TimeMark.decode data) x.arrived x.replayed
  | none => s

/-- A delay echo falls due on link l (R181). -/
def Ls.echoDue (s : Ls) (l : Bool) : Ls :=
  let p := s.port l
  match (if p.up then p.time.echo s.clk.servo.echoPeriod (s.die.toNat + put 17 1) else none) with
  | some (msg, t) => s.setPort l ({ p with time := t }.send 3 2 msg)
  | none => s

/-- The selected source is no longer selectable (R168, R173). -/
def Ls.sourceLoss (s : Ls) : Ls := s.setClock (s.clk.reselect s.cands none)

/-- A higher-priority source has been selectable and LOCKED for REVERT_TICKS (R173). -/
def Ls.sourceRevert (s : Ls) : Ls := s.setClock (s.clk.revert s.cands)

/-- The holdover error passes HOLDOVER_LIMIT (R168, R190). -/
def Ls.holdoverLimit (s : Ls) : Ls := if s.clk.atLimit then s.setClock s.clk.unlock else s

/-- LEAP_AT is reached (R166, R180). -/
def Clock.leapReached (c : Clock) : Clock :=
  if bit c.leap.toNat 0 then
    let c := c.reach ((c.leapAt * uSec : Nat) : Int)
    { c with utcOffset := if bit c.leap.toNat 1 then c.utcOffset - 1 else c.utcOffset + 1, leap := 0, leapAt := 0 }
  else c

/-! ## Links at the Lineside (R220 to R227, R520) -/

/-- The link's buffers passed the self-test and the island is in service (R220, R497). -/
def Ls.linkMayTrain (s : Ls) (l : Bool) : Bool := s.inService && !(bit s.self.bist.toNat (4 + b2n l))

/-- The Lineside's own IDENT (R227). -/
def Ls.ident (s : Ls) (l : Bool) : Ident := ⟨s.die.toNat, true, s.dieValid, s.configured, false, b2n l⟩

/-- A link control action (R220, R221, R523). -/
def Ls.linkControl (s : Ls) (l : Bool) (action : Nat) : Ls :=
  let p := s.port l
  s.linkMoved l (if action = 1 && !s.linkMayTrain l then { p with st := if p.st = LinkSt.held then .down else p.st, hold := false } else p.control action)

/-- What a clock announces of itself (R180); on the provisional grid its STATE is UNLOCKED (R170). The Lineside sends no mark. -/
def Clock.blankMark (c : Clock) : TimeMark :=
  { tick := c.tickWord, t1 := 0, echoT4 := 0, echoSeq := 0, state := if c.tick.isNone then 0 else BitVec.ofNat 2 c.st.code, followsTwin := false,
    rootHoldover := c.rootHoldover, steps := BitVec.ofNat 8 c.steps, utcOffset := c.utcOffset, leap := c.leap,
    leapAt := BitVec.ofNat 48 c.leapAt, epoch := BitVec.ofNat 96 (packTime (c.epoch.getD 0)), gmIdentity := 0, gmClass := 0,
    timeSource := 0, sender := 0, errorNs := BitVec.ofNat 32 c.errorNow }

/-- A deferred link control takes effect once the reply has left (R520). -/
def Ls.deferDone (s : Ls) : Ls :=
  match s.linkDefer with
  | some (l, a) => if (s.port l).sentAll 5 then ({ s with linkDefer := none }).linkControl l a else s
  | none => s

/-- The next slot of link l starts: one flit leaves (R47 to R49, R200, R227). -/
def Ls.txSlot (s : Ls) (l : Bool) : Ls :=
  let p := s.port l
  let base : Int := match s.clk.tick with | some n => s.clk.tickAt n | none => ((s.clk.prov * hNs 12 * uNs : Nat) : Int)
  if s.slotCount ≤ p.slot then s
  else
    let s := (s.reach (base + ((p.slot * slotPs false * uNs / 1000 : Nat) : Int))).scanAdvance
    let p := s.port l
    let env : TxEnv := { slots := s.slotCount, entry := s.txEntry p.slot, owner := s.clk.markTick - s.txOffset, now := s.clk.time,
                         mark := s.clk.blankMark, flush := s.log.flushing, ident := identBytes (s.ident l) false 0x20201, engs := s.crc, port := 0, held := s.crcHeld,
                         leader := false, who := trainWho (if s.dieValid then s.die.toNat else 0) true (b2n l), run := s.clk.up }
    match p.st with
    | .active =>
      let (p, engs) := p.transmit env false
      (({ s with crc := engs }).linkMoved l p).deferDone
    | .ident => s.linkMoved l (p.transmitIdent env)
    | .train => s.linkMoved l (p.transmitTrain env)
    | _ => s.linkMoved l (p.transmitFill env)

/-- A received flit on link l (R67, R204 to R218, R419). -/
def Ls.rxFlit (s : Ls) (l : Bool) (slot grid : Nat) (raw : Bytes) : Ls :=
  let p := s.port l
  let n := p.inbox.length
  let mm := p.stat 15
  let check := (s.rxEntry slot grid).map (fun e => (e, grid))
  let (p, engs, bad) := (p.receive false slot grid raw check (crcKeysOf s.crc 0 s.crcHeld) s.clk.time).stripInbox s.crc 0 n
  let mism := p.stat 15 ≠ mm
  let s := { s with crc := engs }
  let s := s.linkMoved l p
  let s := if mism then ({ s with smp := { s.smp with sawMismatch := true } }).logE 0xD [w64 (b2n l), w64 slot] else s
  bad.foldl (fun s x => if x.2.1 = 12 then s.checkFail 0xFFFF (0x100 + x.1) else s) s

/-- A link enters ACTIVE: the Logbook resends from the first unflushed record (R156, R220). -/
def Ls.linkActive (s : Ls) (l : Bool) : Ls :=
  if (s.port l).st = .align then
    let s := s.linkMoved l ((s.port l).enterActive true false)
    let p := s.port l
    let s := s.setPort l { p with q := p.q.filter (fun m => m.tag != 4) }
    s.resendLog l 19 s.unflushedRecs
  else s

end Sys2Proof.Machine
end

