-- ==== Sys2Proof/Machine/LsWrite.lean ====
section
/-! DEFINITION. Writes and reads with effect of the Lineside's registers, configuration messages and the debug segment (R13, R87, R97 to R99, R116 to R118, R360, R399, R415 to R421, R480, R498, R516 to R524, R539). -/

namespace Sys2Proof.Machine

/-! ## Bank registers (R117, R524, R539) -/

/-- The Timetable bank whose register an address names (R523). -/
def ttBankOf (a : Nat) : Option Bool :=
  if a = 0x214 || inRange a 0x218 9 || inRange a 0x800 98 || inRange a 0x900 98 then some false
  else if a = 0x215 || inRange a 0x228 9 || inRange a 0x880 98 || inRange a 0x980 98 then some true
  else none

/-- The frame-map bank whose register an address names (R523). -/
def fmBankOf (a : Nat) : Option Bool :=
  if a = 0x204 || inRange a 0x400 480 then some false else if a = 0x205 || inRange a 0x600 480 then some true else none

/-- A write to a bank register while a bank of its kind is protected is ignored and counted (R117, R524). -/
def Ls.activeWrite (s : Ls) : Ls := { s with banks := { s.banks with activeWrites := sat 16 (s.banks.activeWrites + 1) } }

/-- A write to a frame-map bank register (R117, R539). -/
def Ls.frameMapWrite (s : Ls) (vc3 : Bool) (b : Bool) (a v : Nat) : Ls :=
  if vc3 && !s.configured then s.setReg a v
  else if s.banks.fActive = some b then s.activeWrite
  else { (s.setReg a v) with banks := s.banks.setFm b .invalid }

/-- A write to a Timetable bank register (R524, R539): a VALID or ARMED standby bank returns to INVALID, and its arm is cancelled. -/
def Ls.ttBankWrite (s : Ls) (vc3 : Bool) (b : Bool) (a v : Nat) : Ls :=
  if vc3 && !s.configured then s.setReg a v
  else
    let st := s.banks.tt b
    if st = .active then s.activeWrite
    else
      let s := s.setReg a v
      if st = .valid then { s with banks := s.banks.setTt b .invalid }
      else if st = .armed then { s with banks := { (s.banks.setTt b .invalid) with tArm := none } }
      else s

/-! ## Command registers -/

/-- The number of WO command bits of a register (R518, R523). -/
def cmdBits (a : Nat) : Nat :=
  if a = 0x40 then 8 else if a = 0x101 then 4 else if a = 0x111 || a = 0x120 then 2 else if a = 0x200 || a = 0x210 then 3 else 0

/-- LS_HALT_CTRL (R523). -/
def Ls.haltCtrl (s : Ls) (v : Nat) : Ls :=
  if bit v 0 then s.drainCause
  else if bit v 1 then s.releaseDrain
  else if bit v 2 then s.raiseStop 1 false false
  else if bit v 3 then s.armStop
  else if bit v 4 then s.disarmStop
  else if bit v 5 then s.lowerStop false
  else if bit v 6 then s.armRelease
  else if bit v 7 then s.disarmRelease
  else s

/-- LS_TRACE_CTRL (R523). -/
def Ls.traceCtrl (s : Ls) (v : Nat) : Ls :=
  if bit v 0 then s.traceArm else if bit v 1 then s.traceDisarm else if bit v 2 then s.traceTrigger
  else if bit v 3 then s.traceReadout else s

/-- LS_QSNAP_CTRL (R523). -/
def Ls.qsnapCtrl (s : Ls) (v : Nat) : Ls :=
  if bit v 0 then s.qsnapCause 0 0 else if bit v 1 then s.qsnapReadout else s

/-- LS_SCAN_CTRL (R523). -/
def Ls.scanCtrl (s : Ls) (v : Nat) : Ls := if bit v 0 then s.scanStart else if bit v 1 then s.scanRestore else s

/-- LS_FRAME_CTRL (R523). -/
def Ls.frameCtrl (s : Ls) (v : Nat) : Ls :=
  if bit v 0 then s.frameValidate else if bit v 1 then s.frameArm else if bit v 2 then s.frameCancel else s

/-- LS_TT_CTRL (R523). -/
def Ls.ttCtrl (s : Ls) (v : Nat) : Ls :=
  if bit v 0 then s.ttValidate else if bit v 1 then s.ttArm else if bit v 2 then s.ttCancel else s

/-- LS_LINK_CTRL[l] over link `via`: over its own link it waits for the reply (R520, R523). -/
def Ls.linkCtrl (s : Ls) (via : Option Bool) (l : Bool) (v : Nat) : Ls :=
  let a := v % 4
  if a = 0 then s
  else if via = some l then { s with linkDefer := some (l, a) }
  else s.linkControl l a

/-- LS_LAG_CTRL: ANCHOR_ERR is W1C, ARM is WO (R523). -/
def Ls.lagCtrl (s : Ls) (v : Nat) : Ls :=
  let s := if bit v 1 then { s with lag := { s.lag with err := false } } else s
  if bit v 0 then s.lagArm else s

/-! ## CRC engines (R415 to R421) -/

/-- The configuration that a register of an engine would give (R415). -/
def CrcCfg.withReg (c : CrcCfg) (r v : Nat) : CrcCfg :=
  match r with
  | 0 => { c with enable := bit v 0, bind := fld v 1 2, vc := fld v 3 2, subch := fld v 5 2, width := fld v 7 7, refIn := bit v 14,
                  refOut := bit v 15, order := bit v 16, feedLen := fld v 17 3 }
  | 1 => { c with poly := v }
  | 2 => { c with init := v }
  | 3 => { c with xorOut := v }
  | _ => c

/-- Engine i of the Lineside. -/
def Ls.engine (s : Ls) (i : Nat) : CrcEng := s.crc.getD i CrcEng.init

/-- A write to LS_CRC_CFG, _POLY, _INIT or _XOROUT of engine i (R416, R420, R497). -/
def Ls.crcCfgWrite (s : Ls) (i r v : Nat) : Ls :=
  let e := s.engine i
  let c := e.cfg.withReg r v
  { s with crc := s.crc.set i (e.configure c (s.crcBusy e) (crcConflict s.crc i c) (bit s.self.crc.toNat i) false) }

/-- A write to LS_CRC_VALUE (R421). -/
def Ls.crcValueWrite (s : Ls) (i v : Nat) : Ls :=
  let e := s.engine i
  { s with crc := s.crc.set i { e with value := v % 2 ^ e.act.width } }

/-- A write to LS_CRC_FEED: FEED_LEN bytes, least significant first, to an enabled engine of BIND 0b00 (R414, R415). -/
def Ls.crcFeedWrite (s : Ls) (i v : Nat) : Ls :=
  let e := (s.engine i).settle (s.crcBusy (s.engine i))
  if e.act.bind = 0 && e.act.enable then
    { s with crc := s.crc.set i (e.feed (le (if e.act.feedLen = 0 then 8 else e.act.feedLen) v)) }
  else s

/-- The pending configuration of engine i comes into force once its message has completed (R420). -/
def Ls.crcEnableApply (s : Ls) (i : Nat) : Ls :=
  let e := s.engine i
  if e.pending && !s.crcBusy e then { s with crc := s.crc.set i e.atStart } else s

/-! ## Other registers with effects -/

/-- LS_DIE_ID: DIE, CONFIGURED; VALID only ever sets (R498, R499). -/
def Ls.dieWrite (s : Ls) (v : Nat) : Ls :=
  { s with die := BitVec.ofNat 17 v, configured := bit v 30, dieValid := s.dieValid || bit v 31 }

/-- LS_DEBUG_CTRL over VC3 (R480); with the unlock gone the segment captures zeros (R87). -/
def Ls.debugCtrl (s : Ls) (v : Nat) : Ls :=
  let u := bit v 0 && decide (s.tickW < s.reg 0x13)
  { s with dbgUnlock := u, dbgWrite := u && bit v 1, dbgCapture := if u then s.dbgCapture else 0 }

/-- LS_HALT_STATUS: LATE_DRAIN is RWS, three bits are W1C (R523). `w1c` are the ones written. -/
def Ls.haltStatusWrite (s : Ls) (v w1c : Nat) : Ls :=
  { s with halt := { s.halt with lateDrain := bit v 4, stopLate := s.halt.stopLate && !(bit w1c 9),
                                 stopUntimed := s.halt.stopUntimed && !(bit w1c 10), relLate := s.halt.relLate && !(bit w1c 11) } }

/-- LS_ABORT_SLOT[g]: a write of STATE sets it to 0 or 1 unless an abort is held; LATE is W1C (R399). -/
def Ls.slotWrite (s : Ls) (g v w1c mask : Nat) : Ls :=
  let s := s.setReg (0x3500 + g) v
  let k := s.slot g
  let k := { k with late := k.late && !(bit w1c 13) }
  let st := fld v 10 2
  if k.st = 2 || fld mask 10 2 = 0 then s.setSlot g k
  else if st = 0 then s.setSlot g { k with st := 0 }
  else s.setSlot g { k with st := 1, originated := false, low := 0, instant := 0 }

/-- Registers that hold stored bits: the new bits, and what follows from them. -/
def Ls.plainWrite (s : Ls) (vc3 : Bool) (a v : Nat) : Ls :=
  match fmBankOf a, ttBankOf a with
  | some b, _ => s.frameMapWrite vc3 b a v
  | none, some b => s.ttBankWrite vc3 b a v
  | none, none =>
    if a = 0x14 then s.fenceWrite v
    else if a = 0x24 || a = 0x25 then
      let s := s.setReg a v
      { s with clk := { s.clk with servo := s.servoOf } }
    else if a = 0x26 then
      let s := s.setReg a v
      { s with portA := { s.portA with time := { s.portA.time with asym := signed 32 v } } }
    else if a = 0x27 then
      let s := s.setReg a v
      { s with portB := { s.portB with time := { s.portB.time with asym := signed 32 v } } }
    else if inRange a 0x80 32 then ((s.setReg a v).bpPast (a - 0x80)).bpCounts
    else if inRange a 0xA0 32 then ((s.setReg a v).bpPast (a - 0xA0)).bpCounts
    else if inRange a 0x1000 4096 then s.selWrite (a - 0x1000) v
    else if inRange a 0x3000 256 then s.tabGroupWrite (a - 0x3000) v
    else s.setReg a v

/-- A register's stored bits before a masked write. -/
def Ls.writeBase (s : Ls) (a : Nat) : Nat := if regMask a = 0 then (s.readReg a).toNat else if inRange a 0x3500 256 then (s.readReg a).toNat else s.reg a

/-- A write of v to address a under a mask (R13, R516 to R519); `via` is the link of a VC3 write, none for the debug segment. -/
def Ls.writeReg (s : Ls) (via : Option Bool) (a v mask : Nat) : Ls :=
  let base := s.writeBase a
  let new := Nat.xor base (Nat.land (Nat.xor base v) mask) % 2 ^ 64
  let cmd := Nat.land v mask
  let vc3 := via.isSome
  let w1c := fun (i : Nat) => bit cmd i
  if a = 0xFFFF || !(regAssigned a) then s.checkFail a 1
  else if !vc3 && (a = 0x12 || a = 0x13) then s.checkFail a 4
  else if 1 < popcount (cmdBits a) cmd then s.checkFail a 3
  else if !(regInRange a new) || (inRange a 0x3500 256 && decide (fld mask 10 2 ≠ 0) && decide (1 < fld new 10 2)) then s.checkFail a 2
  else if regMask a ≠ 0 then
    if inRange a 0x3500 256 then s.slotWrite (a - 0x3500) new cmd mask else s.plainWrite vc3 a new
  else if a = 0x1 then s.dieWrite new
  else if a = 0x10 then (if w1c 0 then s.selfStart else s)
  else if a = 0x11 then (if w1c 2 then { s with self := { s.self with refused := false } } else s)
  else if a = 0x12 then s.debugCtrl new
  else if a = 0x40 then s.haltCtrl cmd
  else if a = 0x41 then s.haltStatusWrite new cmd
  else if a = 0xE0 then { s with bp := { s.bp with hit := BitVec.ofNat 32 (s.bp.hit.toNat - Nat.land s.bp.hit.toNat cmd) } }
  else if a = 0xE1 then { s with bp := { s.bp with past := BitVec.ofNat 32 (s.bp.past.toNat - Nat.land s.bp.past.toNat cmd) } }
  else if a = 0x101 then s.traceCtrl cmd
  else if a = 0x102 then { s with trace := { s.trace with cfgErr := s.trace.cfgErr && !(w1c 2), refused := s.trace.refused && !(w1c 4) } }
  else if a = 0x111 then s.qsnapCtrl cmd
  else if a = 0x120 then s.scanCtrl cmd
  else if a = 0x122 then { s with scan := { s.scan with refused := s.scan.refused && !(w1c 3), shifted := fld new 32 25 } }
  else if a = 0x132 then s.lagCtrl cmd
  else if a = 0x200 then s.frameCtrl cmd
  else if a = 0x201 then { s with banks := { s.banks with fSwitchErr := s.banks.fSwitchErr && !(w1c 17) } }
  else if a = 0x210 then s.ttCtrl cmd
  else if a = 0x211 then { s with banks := { s.banks with tArmErr := s.banks.tArmErr && !(w1c 24) } }
  else if a = 0x250 || a = 0x251 then
    (if w1c 12 then let l := a == 0x251; s.setPort l { s.port l with rxMismatch := false } else s)
  else if a = 0x252 then s.linkCtrl via false cmd
  else if a = 0x253 then s.linkCtrl via true cmd
  else if inRange a 0x280 32 then
    let i := (a - 0x280) / 8
    match a % 8 with
    | 4 => s.crcValueWrite i new
    | 5 => s
    | 6 => s.crcFeedWrite i cmd
    | 7 => (if w1c 2 then { s with crc := s.crc.set i { s.engine i with cfgErr := false } } else s)
    | r => s.crcCfgWrite i r new
  else if a = 0x300 then (if w1c 0 then s.logMark else s)
  else if a = 0x303 then { s with log := { s.log with nextSeq := new % 2 ^ 32 } }
  else if a = 0x304 then s.commitWrite new
  else if inRange a 0x2000 4096 then s.ctrWrite (a - 0x2000) (w64 new)
  else s

/-- What a read does to the state (R129, R517, R523): RC fields clear, latches are taken and used up. -/
def Ls.readEffect (s : Ls) (a : Nat) : Ls :=
  if a = 0x15 then { s with fenceIgnored := 0 }
  else if a = 0x20 then { s with timeLatch := some (w64 (packTime (capture s.clk.time) >>> 64)) }
  else if a = 0x21 then { s with timeLatch := none }
  else if a = 0x104 then { s with trace := { s.trace with latch := (some (w64 s.trace.recs.length), some (w64 s.trace.overwritten), some (w64 s.trace.dropped)) } }
  else if a = 0x105 then { s with trace := { s.trace with latch := (none, s.trace.latch.2) } }
  else if a = 0x106 then { s with trace := { s.trace with latch := (s.trace.latch.1, none, s.trace.latch.2.2) } }
  else if a = 0x107 then { s with trace := { s.trace with latch := (s.trace.latch.1, s.trace.latch.2.1, none) } }
  else if a = 0x112 then { s with qsnap := { s.qsnap with busy := 0 } }
  else if inRange a 0x280 32 && a % 8 == 7 then
    let i := (a - 0x280) / 8
    { s with crc := s.crc.set i { s.engine i with mismatches := 0 } }
  else s

/-! ## Configuration messages (R519, R520) -/

/-- One operation of a request (R519). -/
structure CfgOp where
  op : Nat
  addr : Nat
  value : Nat
  mask : Nat
deriving DecidableEq, Repr

/-- The operation at an offset of a message. -/
def cfgOp (b : Bytes) (o : Nat) : CfgOp := ⟨rd b o 1, rd b (o + 2) 2, rd b (o + 8) 8, rd b (o + 16) 8⟩

/-- The bytes of an operation (R519). -/
def CfgOp.bytes (o : CfgOp) : Bytes := le 1 o.op ++ zeros 1 ++ le 2 o.addr ++ zeros 4 ++ le 8 o.value ++ le 8 o.mask

/-- The operations of a request that may be applied: none where it is discarded whole (R519). -/
def cfgOps (b : Bytes) : Option (List CfgOp) :=
  let n := rd b 2 2
  let ops := (List.range n).map (fun i => cfgOp b (8 + 24 * i))
  if rd b 0 2 = 0x10 && decide (1 ≤ n) && decide (n ≤ 64) && b.length == 8 + 24 * n && ops.all (fun o => decide (1 ≤ o.op) && decide (o.op ≤ 3)) then some ops else none

/-- One operation: the register after it, and the value the reply carries (R519). -/
def Ls.cfgApply (s : Ls) (l : Bool) (o : CfgOp) : Ls × Nat :=
  if o.op = 1 then ((s.readEffect o.addr), (s.readReg o.addr).toNat)
  else
    let s := s.writeReg (some l) o.addr o.value (if o.op = 3 then o.mask else 2 ^ 64 - 1)
    ({ s with vc3Last := some (s.smp.lclk, o.addr, o.value) }, (s.readReg o.addr).toNat)

/-- A request's operations in order, one per LCLK, the first in LCLK `first`, and its reply on the same link (R519). -/
def Ls.cfgRunAt (s : Ls) (l : Bool) (b : Bytes) (ops : List CfgOp) (first : Nat) : Ls :=
  let (s, outs, _) := ops.foldl (fun (x : Ls × List Bytes × Nat) o =>
    let (s, v) := (x.1.toLclk x.2.2).cfgApply l o
    (s, x.2.1 ++ [({ o with value := v } : CfgOp).bytes], x.2.2 + 1)) (s, [], first)
  let reply := le 2 0x11 ++ sub b 2 6 ++ outs.flatten
  if (s.port l).up then s.setPort l ((s.port l).sendTag 5 3 0 reply) else s

/-- A request taken up now: its first operation is applied in the next LCLK (R519). -/
def Ls.cfgRun (s : Ls) (l : Bool) (b : Bytes) (ops : List CfgOp) : Ls := s.cfgRunAt l b ops (s.smp.lclk + 1)

/-- The oldest VC3 message of link l is handled: discarded and counted, applied, or held for the next sample edge (R519). -/
def Ls.cfgMessage (s : Ls) (l : Bool) (now : Bool) : Ls :=
  match (s.port l).takeInbox 3 0 (fun _ => true) with
  | (some m, p) =>
    match cfgOps m.bytes with
    | none => s.setPort l (p.count 14 1)
    | some ops =>
      if now then ({ s.setPort l p with cfgWait := none }).cfgRunAt l m.bytes ops s.smp.lclk
      else if ops.length < s.lclkLeft then ({ s.setPort l p with cfgWait := none }).cfgRun l m.bytes ops
      else { s with cfgWait := some l }
  | (none, _) => s

/-- A configuration message received on link l is taken up, unless one waits for the sample edge (R519). -/
def Ls.cfgReceived (s : Ls) (l : Bool) : Ls :=
  if s.cfgWait.isSome then s else s.cfgMessage l false

/-- A request that waited starts at the sample edge (R519). -/
def Ls.cfgAtEdge (s : Ls) : Ls := match s.cfgWait with | some l => s.cfgMessage l true | none => s

/-- The sample edge e_n with what R519 starts at it. -/
def Ls.edgeAll (s : Ls) : Ls := s.sampleEdge.cfgAtEdge

/-! ## Debug segment (R87, R480, R521) -/

/-- Record a debug write, code 0x17 (R87, R151). A VC3 write that it met in the LCLK of the Update-DR, at the same register, is recorded
before it with the same code: R87 wants both in the Logbook and names no code for the other (log 87, DESIGN CHOICE). -/
def Ls.logDebug (s : Ls) (met : Option (Nat × Nat × Nat)) (lclk a : Nat) (v : Word) : Ls :=
  let s := match met with
    | some (l, x, w) => if l = lclk && x = a then s.logE 0x17 [w64 x, w64 w] else s
    | none => s
  s.logE 0x17 [w64 a, v]

/-- Update-DR: the operation is applied in the next LCLK; locked, the segment ignores writes and captures zeros; a write needs
WRITE_EN and is recorded with code 0x17. Records of one LCLK stand in ascending code order: only the mark 0x1F that a write of
LS_LOG_CTRL makes comes after it (R155). -/
def Ls.debugUpdate (s : Ls) (a op : Nat) (v : Word) : Ls :=
  let met := s.vc3Last
  let lclk := s.smp.lclk
  let s := s.toLclk (lclk + 1)
  if !s.dbgUnlock then { s with dbgCapture := 0 }
  else if op = 1 then ({ s with dbgCapture := s.readReg a }).readEffect a
  else if op = 2 && s.dbgWrite then
    if a = 0x300 then (s.logDebug met lclk a v).writeReg none a v.toNat (2 ^ 64 - 1)
    else (s.writeReg none a v.toNat (2 ^ 64 - 1)).logDebug met lclk a v
  else s

/-- The sample edge of EXPIRE_TICK clears UNLOCK and WRITE_EN (R480), and what the segment captures is zero again (R87). -/
def Ls.debugExpiry (s : Ls) : Ls :=
  if s.reg 0x13 ≤ s.tickW then { s with dbgUnlock := false, dbgWrite := false, dbgCapture := 0 } else s

/-- The fields of one register are written as software would over VC3 on link A, or through the segment. -/
def Ls.command (s : Ls) (vc3 : Bool) (a v : Nat) : Ls := s.writeReg (if vc3 then some false else none) a v (2 ^ 64 - 1)

end Sys2Proof.Machine
end

