-- ==== Sys2Proof/Machine/JnOps.lean ====
section
/-! DEFINITION. Junction operations that every chapter uses: who sees what, the Junction's own records, log commit, alarms, security events, VC3 requests, near-tier memory (R149 to R161, R346, R353, R454, R477, R481, R499, R519, R538, R540). -/

namespace Sys2Proof.Machine

/-! ## Visibility (R454, R460, R477, R478) -/

/-- In Partitioned mode data of an owner goes to that owner and to context 0; in Open mode to all (R477, R478). -/
def Junction.sees (j : Junction) (ctx owner : Nat) : Bool := j.sec.open_ || ctx == 0 || ctx == owner

/-- The contexts that see data of an owner. -/
def Junction.viewers (j : Junction) (owner : Nat) : List Nat := (List.range 16).filter (fun c => j.sees c owner)

/-- The tray slot of a die ID (R18). -/
def Junction.slotOfDie (j : Junction) (die : Nat) : Option Nat :=
  if j.tray then (List.range 32).find? (fun k => Tbl.get none j.portMap k == some die) else none

/-- The context that owns an entity (R460, R477): the OWNER_CTX of a die, [27:24] of a job or group, otherwise 0. -/
def Junction.ownerOf (j : Junction) (entity : Nat) : Nat :=
  match entity / 2 ^ 28 with
  | 1 | 2 | 8 => match j.slotOfDie (entity % 2 ^ 17) with | some k => (j.die k).owner | none => 0
  | 5 | 6 => fld entity 24 4
  | _ => 0

/-- Export a record to every context that may see data of an owner. -/
def Junction.exportTo (j : Junction) (owner kind tick key : Nat) (data : Bytes) : Junction :=
  (j.viewers owner).foldl (fun j c => j.export_ c kind tick key data) j

/-! ## The Record Store's blocks (R354 to R357) -/

/-- Mapped logical blocks: above the tray only the own log is mapped (R354). -/
def storeBlocks (tray : Bool) : List Nat := if tray then List.range 1024 else List.range 32 ++ (List.range 480).map (· + 544)

/-- The physical block of a logical one; the map lists what differs from the factory's identity, as block + 1. -/
def Store.phys (s : Store) (l : Nat) : Nat := match Tbl.get 0 s.map l with | 0 => l | k + 1 => k

/-- The free block with the lowest erase count (R356). -/
def Store.freeBlock (s : Store) (tray : Bool) : Option Nat :=
  let used := (storeBlocks tray).map s.phys
  (List.range 1152).foldl (fun b i =>
    if used.contains i || s.retired.contains i then b
    else match b with | none => some i | some k => if Tbl.get 0 s.erase i < Tbl.get 0 s.erase k then some i else some k) none

/-- Spare blocks (R356). -/
def Store.spares (s : Store) (tray : Bool) : Nat := 1152 - (storeBlocks tray).length - s.retired.length

/-- Open a block for logical block l: it goes to the least-erased free block, the old one is erased, the map gets a newer copy (R355, R356). -/
def Store.openBlock (s : Store) (tray : Bool) (l : Nat) : Store :=
  match s.freeBlock tray with
  | some b => { s with map := Tbl.put 0 s.map l (if b = l then 0 else b + 1), erase := Tbl.put 0 s.erase (s.phys l) (Tbl.get 0 s.erase (s.phys l) + 1), mapSeq := s.mapSeq + 1 }
  | none => s

/-! ## Log commit (R159 to R161, R540) -/

/-- CODE (its UNTIMED and JUNCTION bits with it), SOURCE and payload digest agree, the last record is not exported, REPEAT is below 65,535
(R149, R160). -/
def foldable (last : LogEntry) (b : Bytes) : Bool :=
  !last.exported && rd last.data 0xE 1 == rd b 0xE 1 && rd last.data 0x10 4 == rd b 0x10 4
  && crcOf crc64Ecma (last.data.drop 0x20) == crcOf crc64Ecma (b.drop 0x20) && decide (rd last.data 0x1E 2 < 65535)

/-- The order key of a Logbook record in its stream: SOURCE, then SEQ, which R537 orders serially (R428). -/
def logKey (b : Bytes) : Nat := put 64 1 + put 32 (rd b 0x10 4) + rd b 0x14 4

/-- The near-full attention bit (R161). -/
def Junction.nearFullOf (j : Junction) : Bool :=
  if j.logs.any (fun l => decide (3584 ≤ l.recs.length)) then true
  else if j.logs.all (fun l => decide (l.recs.length < 3072)) then false else j.nearFull

/-- A record with an in-order SEQ enters its log: folded, dropped from a full log, or stored and exported (R159, R160, R426). -/
def Junction.enterLog (j : Junction) (l owner : Nat) (b : Bytes) : Junction :=
  let g := j.log l
  let store : Junction :=
    if 4096 ≤ g.recs.length then j.setLog l { g with full := g.full + 1 }
    else
      let j := j.setLog l { g with recs := g.recs ++ [⟨b, false⟩], committed := g.committed + 1 }
      let j := if g.committed % 256 = 0 then { j with store := j.store.openBlock j.tray (16 * (l + 1) + g.committed / 256 % 16) } else j
      j.exportTo owner 4 (rd b 0x18 6) (logKey b) b
  let j := match g.recs.getLast? with
    | some last =>
      if foldable last b then
        let d := overlay last.data 0x1E (le 2 (rd last.data 0x1E 2 + 1))
        let j := j.setLog l { g with recs := g.recs.dropLast ++ [({ data := d, exported := false } : LogEntry)], folded := g.folded + 1 }
        { j with exp := { j.exp with streams := j.exp.streams.map (fun (x : Nat × ExpStream) =>
            if x.1 % 8 = 4 then (x.1, { x.2 with held := x.2.held.map (fun (r : ExpRec) => if r.data = last.data then { r with data := d } else r) }) else x) } }
      else store
    | none => store
  { j with nearFull := j.nearFullOf }

/-- A received record reaches its log (R156, R159, R540): the SEQ expected or one after it, which opens a gap, enters; a SEQ already passed is a
duplicate. DESIGN CHOICE (log 88): so is one exactly 2^31 from the expected SEQ, which R537 calls neither after it nor before it. -/
def Junction.commitRecord (j : Junction) (l owner : Nat) (b : Bytes) : Junction :=
  let g := j.log l
  let seq := rd b 0x14 4
  let g := { g with received := g.received + 1 }
  match g.expected with
  | some e =>
    if atOrAfter seq e then
      let gap := (seq + 2 ^ 32 - e) % 2 ^ 32
      (j.setLog l { g with gap := g.gap + gap, expected := some ((seq + 1) % 2 ^ 32) }).enterLog l owner b
    else j.setLog l { g with duplicate := g.duplicate + 1 }
  | none => (j.setLog l { g with expected := some ((seq + 1) % 2 ^ 32) }).enterLog l owner b

/-! ## The Junction's own records and alarms (R152, R153, R454, R538) -/

/-- A record of the Junction itself (R149, R152). -/
def Junction.ownRecord (j : Junction) (code seq : Nat) (notLogged : Bool) (words : List Nat) : Bytes :=
  recordBytes j.clk.time j.clk.utcOffset code j.clk.untimed true notLogged j.entity seq j.clk.tickWord.toNat (words.map (fun w => BitVec.ofNat 64 w))

/-- An event of the Junction meets its bucket and is committed to the own log (R152, R153, R159); its bytes are given back. -/
def Junction.event (j : Junction) (code : Nat) (words : List Nat) : Junction × Bytes :=
  let burst := fld (Tbl.get 8 j.logRate code) 0 8
  let tok := Tbl.get 8 j.logTokens code
  if burst = 0 then (j, j.ownRecord code 0 true words)
  else if tok = 0 then ({ j with rateDrop := Tbl.put 0 j.rateDrop code (sat 16 (Tbl.get 0 j.rateDrop code + 1)) }, j.ownRecord code 0 true words)
  else
    let b := j.ownRecord code j.ownSeq false words
    let j := { j with logTokens := Tbl.put 8 j.logTokens code (tok - 1), ownSeq := (j.ownSeq + 1) % 2 ^ 32 }
    (j.commitRecord 0 0 b, b)

def Junction.logE (j : Junction) (code : Nat) (words : List Nat) : Junction := (j.event code words).1

/-- Tokens at a sample edge (R153). -/
def Junction.addTokens (j : Junction) (n : Nat) : Junction :=
  (List.range 32).foldl (fun j i =>
    let c := 0x20 + i
    let r := Tbl.get 8 j.logRate c
    let burst := fld r 0 8
    let t := min (Tbl.get 8 j.logTokens c) burst
    let t := if n % 2 ^ fld r 8 4 = 0 then min burst (t + 1) else t
    { j with logTokens := Tbl.put 8 j.logTokens c t }) j

/-- Queue an alarm detail record for its contexts: at most 256 unread each, the oldest kept (R454, R477), and export it as KIND 1 (R426). -/
def Junction.queueAlarm (j : Junction) (entity : Nat) (b : Bytes) : Junction :=
  let owner := j.ownerOf entity
  let j := (j.viewers owner).foldl (fun j c =>
    let q := Tbl.get [] j.alarms c
    if q.length < 256 then { j with alarms := Tbl.put [] j.alarms c (q ++ [b]) }
    else { j with alarmDrop := Tbl.put 0 j.alarmDrop c (Tbl.get 0 j.alarmDrop c + 1) }) j
  j.exportTo owner 1 (rd b 0x18 6) j.exp.nextMsg b

/-- Send an alarm detail record on both uplinks with an ALARM of a class, and set the alarm-pending attention bit (R207). -/
def Junction.sendAlarm (j : Junction) (cls entity : Nat) (b : Bytes) : Junction :=
  let j := j.uplinks.foldl (fun j p => (j.send p 1 0 0 b).signal p 5 cls) j
  j.queueAlarm entity b

/-- An event that is recorded and sent as an alarm (R538). -/
def Junction.alarmEvent (j : Junction) (code : Nat) (words : List Nat) (cls entity : Nat) : Junction :=
  let (j, b) := j.event code words
  j.sendAlarm cls entity b

/-- An alarm for which the spec names no Logbook code: CODE 0, NOT_LOGGED (log 43). -/
def Junction.bareAlarm (j : Junction) (cls entity : Nat) (words : List Nat) : Junction :=
  j.sendAlarm cls entity (j.ownRecord 0 0 true words)

/-- A security event (R481). -/
def Junction.secEvent (j : Junction) (code detail : Nat) : Junction :=
  ({ j with sec := j.sec.event code detail j.clk.tickWord.toNat }).logE 0x32 [code, detail]

/-! ## Requests to Linesides (R462, R499, R519) -/

/-- A configuration request of operations (R519). -/
def cfgRequest (txn : Nat) (ops : List CfgOp) : Bytes := le 2 0x10 ++ le 2 ops.length ++ le 4 txn ++ (ops.map CfgOp.bytes).flatten

/-- Registers with RW or RWS fields that the shadow keeps: LS_CTR_VALUE, LS_CRC_VALUE and LS_LOG_COMMIT_SEQ are left out (R499). -/
def shadowed (a : Nat) : Bool := regMask a != 0 || a == 0x1 || a == 0x12 || a == 0x303 || (inRange a 0x280 32 && decide (a % 8 ≤ 3))

/-- Note a write in the shadow of a port (R499): the bits of RW and RWS fields. -/
def Junction.noteShadow (j : Junction) (p a : Nat) (v : Word) : Junction :=
  let v := if regMask a = 0 then v else v &&& BitVec.ofNat 64 (regMask a)
  if shadowed a then { j with shadow := Tbl.put [] j.shadow p (Tbl.put 0 (Tbl.get [] j.shadow p) a v) } else j

/-- The shadow's value of a register. -/
def Junction.shadowOf (j : Junction) (p a : Nat) : Word := Tbl.get 0 (Tbl.get [] j.shadow p) a

/-- Send operations to a Lineside in requests of at most 64, and keep the transactions (R519). -/
def Junction.request (j : Junction) (p : Nat) (use_ : TxnUse) (ops : List CfgOp) : Junction :=
  (List.range (cdiv ops.length 64)).foldl (fun j i =>
    let o := (ops.drop (64 * i)).take 64
    let w := (o.filter (fun x => x.op ≠ 1)).map (fun x => (x.addr, BitVec.ofNat 64 x.value))
    { j.send p 3 0 0 (cfgRequest j.nextTxn o) with txns := j.txns ++ [⟨p, j.nextTxn, use_, w⟩], nextTxn := (j.nextTxn + 1) % 2 ^ 32 }) j

/-- Write registers of a Lineside in service, and the shadow (R499). -/
def Junction.writeLs (j : Junction) (p : Nat) (use_ : TxnUse) (ws : List (Nat × Nat)) : Junction :=
  if (j.port p).st ≠ .active then j
  else (ws.foldl (fun j w => j.noteShadow p w.1 (BitVec.ofNat 64 w.2)) j).request p use_ (ws.map (fun w => ⟨2, w.1, w.2, 2 ^ 64 - 1⟩))

/-! ## Flush (R162, R163, R510) -/

/-- The flush code on every Lineside port (R162, R207). -/
def Junction.sendFlush (j : Junction) : Junction := if j.tray then (List.range 32).foldl (fun j k => j.signal k 4 0) j else j

/-- A flush begins before a reset (1 commanded, 2 by the watchdog, 3 after an internal error), or joins the one that runs (R163, R510). -/
def Junction.flushFor (j : Junction) (reset : Nat) : Junction :=
  let j := if j.flush.running then j else j.sendFlush
  { j with flush := { j.flush with running := true, reset := if j.flush.reset = 0 then reset else j.flush.reset, stopped := true } }

/-! ## Near-tier memory (R346, R352, R353) -/

/-- Usable bytes of the near tier: the areas of R346 end at 0x20_0000_0000. -/
def nearSize : Nat := 0x2000000000

/-- The canonical form of the near tier: addresses strictly rising, and no entry 0, as an unlisted byte reads (log 7). -/
def Memory.wf (m : List Host.Cell) : Bool := Tbl.ok (0 : Byte) m

/-- A byte of the near tier; one that nothing has written reads 0 (log 7). -/
def Junction.byte (j : Junction) (a : Nat) : Byte := Tbl.get (0 : Byte) j.mem a

/-- Bytes of the near tier. -/
def Junction.read (j : Junction) (a n : Nat) : Bytes := (List.range n).map (fun i => j.byte (a + i))

/-- Write bytes to the near tier; writing a poisoned line clears its poison (R353). -/
def Junction.write (j : Junction) (a : Nat) (b : Bytes) : Junction :=
  { j with mem := (List.zip (List.range b.length) b).foldl (fun m x => Tbl.put (0 : Byte) m (a + x.1) x.2) j.mem,
           poisoned := j.poisoned.filter (fun x => !(x.1 == 2 && decide (0 < b.length) && decide (a < x.2 + 64) && decide (x.2 < a + b.length))) }

/-- What the stacks of the near tier hold for the line of an address (R348, R352). -/
def Junction.nearStored (j : Junction) (a : Nat) : Option (Bytes × Bytes) := j.sec.stored false (a / 64 * 64) (j.read (a / 64 * 64) 64)

/-- Bytes before the first poisoned line of a near-tier range; none when no line of it is poisoned (R353). -/
def Junction.poisonAt (j : Junction) (a n : Nat) : Option Nat :=
  j.poisoned.foldl (fun r x =>
    if x.1 == 2 && decide (0 < n) && decide (a < x.2 + 64) && decide (x.2 < a + n) then some (min (x.2 - a) (r.getD n)) else r) none

/-- A line is marked poisoned (R353): memory 1 SRAM, 2 near tier, 3 far tier, 4 Record Store. -/
def Junction.poison (j : Junction) (memory addr : Nat) : Junction :=
  let line := addr / 64 * 64
  ((if j.poisoned.contains (memory, line) then j else { j with poisoned := j.poisoned ++ [(memory, line)] }).error memory 0 addr).logE 0x29 [addr, memory]

/-- The software area of a context (R460). -/
def softBase (c : Nat) : Nat := 0x40000000 + c * 0x04000000

/-- A buffer lies in the area its context is granted (R460): any context's for the management context. -/
def bufferOk (ctx a n : Nat) : Bool :=
  if ctx = 0 then decide (softBase 0 ≤ a) && decide (a + n ≤ softBase 16) && (n == 0 || (a - softBase 0) / 0x04000000 == (a + n - 1 - softBase 0) / 0x04000000)
  else decide (softBase ctx ≤ a) && decide (a + n ≤ softBase (ctx + 1))

/-- Waybill entry i (R291, R346). -/
def wayAddr (i : Nat) : Nat := 0x80000000 + 256 * i

/-- Forecaster state area of a context (R328, R346). -/
def stateAddr (ctx : Nat) : Nat := 0x180000000 + 0x4000000 * ctx

end Sys2Proof.Machine
end

