-- ==== Sys2Proof/Machine/JnAbort.lean ====
section
/-! DEFINITION. Membership tables, aborts and their relay, die states, fences and readmission at a Junction (R386 to R404, R206, R207). -/

namespace Sys2Proof.Machine

/-! ## Routing of signals (R207, R401) -/

/-- Ports toward the members of a mask: Lk, and above the tray Tk too (R401). -/
def Junction.memberPorts (j : Junction) (mask : Nat) : List Nat :=
  (bitsSet 32 mask).flatMap (fun k => if j.tray then [k] else [32 + k, k])

/-- Every port toward the level below that is in use (R22). -/
def Junction.downPorts (j : Junction) : List Nat := (List.range 64).filter (fun p => !(j.role.unused p))

/-- An arrival from below: a Lineside port, a downlink, or an origination (R401). -/
def fromBelow (p : Option Nat) : Bool := match p with | some x => decide (x < 64) | none => true

/-- Relay an ABORT of a slot (R401). -/
def Junction.relayAbort (j : Junction) (g low : Nat) (arrival : Option Nat) : Junction :=
  let e := (j.slot g).entry
  let up := if fromBelow arrival then (if e.up then j.uplinks else []) ++ [66, 67] else []
  (((j.memberPorts e.mask) ++ up).filter (fun p => some p != arrival)).foldl (fun j p => j.signal p 1 (put 5 g + low)) j

/-! ## Group slots (R395 to R404) -/

/-- What is written to a member Lineside for an entry (R396): LS_TAB_GROUP, _CTRL, _KEY, _EPOCH, _JOB, LS_ABORT_SLOT. -/
def MemEntry.writes (e : MemEntry) : List (Nat × Nat) :=
  let g := e.slot
  [(0x3100 + g, e.tablet % 2 ^ 22), (0x3200 + g, e.key), (0x3300 + g, e.epoch), (0x3400 + g, e.job % 2 ^ 28),
   (0x3500 + g, e.horizon + put 10 (b2n (e.valid && e.abort))), (0x3000 + g, e.group % 2 ^ 28 + put 28 (b2n e.valid) + put 29 (fld e.tablet 22 1))]

/-- Write an entry into the Linesides of the tray: members in service that are not DEAD get it, every other Lineside has the slot
disabled; members not written are reported (R396). -/
def Junction.writeMembers (j : Junction) (e : MemEntry) : Junction :=
  if !j.tray then j
  else
    let isMember := fun (k : Nat) => e.valid && bit e.mask k
    let good := fun (k : Nat) => isMember k && (j.port k).st == .active && (j.die k).st != .dead
    let missed := (List.range 32).foldl (fun a k => if isMember k && !(good k) then a + put k 1 else a) 0
    let j := (List.range 32).foldl (fun j k =>
      if good k then j.writeLs k (.member e.slot) e.writes
      else if (j.port k).st == .active then j.writeLs k (.member e.slot) [(0x3000 + e.slot, 0), (0x3500 + e.slot, e.horizon)]
      else j) j
    j.setSlot e.slot { j.slot e.slot with notWritten := missed }

/-- An entry takes effect (R396, R399, R404). -/
def Junction.applyEntry (j : Junction) (e : MemEntry) (rearm : Bool) : Junction :=
  let k := j.slot e.slot
  if k.st = .pending then j.setSlot e.slot { k with latched := some (e, rearm), next := none }
  else if k.st = .aborted && !rearm then j.setSlot e.slot { k with entry := e, next := none, st := if e.valid && e.abort then .aborted else .disarmed }
  else j.setSlot e.slot { k with entry := e, next := none, st := if e.valid && e.abort then .armed else .disarmed, distinct := [], received := 0, originated := false }

/-- At its tick, members that are DEAD, out of service or not written keep the slot disabled and are reported (R396). -/
def Junction.settleMembers (j : Junction) (e : MemEntry) : Junction :=
  if !j.tray || !e.valid || (j.slot e.slot).st = .pending then j
  else
    let missed := (bitsSet 32 e.mask).filter (fun k => (j.port k).st != .active || (j.die k).st == .dead || j.txns.any (fun t => t.port == k && t.use == TxnUse.member e.slot))
    let j := missed.foldl (fun j k => j.writeLs k (.member e.slot) [(0x3000 + e.slot, 0), (0x3500 + e.slot, e.horizon)]) j
    j.setSlot e.slot { j.slot e.slot with notWritten := missed.foldl (fun a k => a + put k 1) 0 }

/-- A latched load or re-arm applies once the abort's instant and its own tick are reached, after the recheck of R404 (R399, R459). -/
def Junction.latchedEffect (j : Junction) (g : Nat) : Junction :=
  let k := j.slot g
  match k.latched with
  | some (e, rearm) =>
    if k.st = .pending || j.tickNow < e.effective then j
    else
      let ok := !rearm || after e.epoch k.entry.epoch
      let j := j.setSlot g { k with latched := none, latchResult := if ok then 0 else 0x3B }
      if ok then (j.applyEntry e rearm).writeMembers e else j
  | none => j

/-- The entry that waits on a slot reaches its tick (R396). -/
def Junction.membershipEffect (j : Junction) (g : Nat) : Junction :=
  match (j.slot g).next with
  | some (e, rearm) =>
    if e.effective ≤ j.tickNow then
      if rearm && (j.slot g).st = .aborted && !(after e.epoch (j.slot g).entry.epoch) then
        j.setSlot g { j.slot g with next := none, latchResult := 0x3B }
      else (j.applyEntry e rearm).settleMembers e
    else j
  | none => j.latchedEffect g

/-- A slot's instant is reached (R402): ABORTED, the epoch raised, code 0x2F; a latched load or re-arm applies after it (R399, R404). -/
def Junction.abortReached (j : Junction) (g : Nat) (late : Bool) : Junction :=
  let k := j.slot g
  if k.st ≠ .pending then j
  else
    let epoch := (k.entry.epoch + 1) % 2 ^ 32
    let n := min k.received 127
    let j := j.setSlot g { k with st := .aborted, entry := { k.entry with epoch := epoch }, late := k.late + b2n late, owesEpoch := j.tray }
    let j := j.logE 0x2F [k.entry.group, packTime k.instant / 2 ^ 32, b2n k.originated + put 1 n + put 8 (b2n late), epoch]
    j.latchedEffect g

/-- The station clock has reached the instant of a PENDING slot (R402). -/
def Junction.abortInstant (j : Junction) (g : Nat) : Junction :=
  let k := j.slot g
  if k.st = .pending then ({ j with clk := j.clk.reach k.instant }).abortReached g false else j

/-- Originate an abort of a slot, detected now (R397, R400). -/
def Junction.originate (j : Junction) (g : Nat) : Junction :=
  let k := j.slot g
  let e := j.clk.gridEpoch
  let i := gridAtOrAfter e (j.clk.time + 10 * uNs * k.entry.horizon)
  match k.st with
  | .armed => (j.setSlot g { k with st := .pending, instant := i, originated := true, distinct := [i], received := 0 }).relayAbort g (gridLow e i) none
  | .pending =>
    if k.distinct.contains i then j
    else (j.setSlot g { k with instant := min k.instant i, originated := true, distinct := k.distinct ++ [i] }).relayAbort g (gridLow e i) none
  | _ => j

/-- An ABORT received on a port (R206, R209, R399, R401, R402); the instant of a late one is reached in the next JCLK. -/
def Junction.abortReceived (j : Junction) (p g low : Nat) : Junction :=
  let k := j.slot g
  let i := gridOf j.clk.gridEpoch j.clk.time low
  if k.st = .armed || (k.st = .pending && !(k.distinct.contains i)) then
    let held := k.st == .pending
    let inst := if held then min k.instant i else i
    let j := (j.setSlot g { k with st := .pending, instant := inst, distinct := (if held then k.distinct else []) ++ [i],
                                   received := (if held then k.received else 0) + 1, originated := k.originated && held }).relayAbort g low (some p)
    if i < j.clk.time then ({ j with clk := j.clk.advance }).abortReached g true else j
  else if k.st = .pending then j
  else j.setSlot g { k with ignored := k.ignored + 1 }

/-- Within 2 ticks of an abort the new epoch goes to every member Lineside in service, DEAD dies left out (R402). -/
def Junction.writeEpochs (j : Junction) : Junction :=
  j.slots.foldl (fun j x =>
    if x.2.owesEpoch then
      let j := (bitsSet 32 x.2.entry.mask).foldl (fun j k =>
        if (j.die k).st = .dead then j else j.writeLs k (.member x.1) [(0x3300 + x.1, x.2.entry.epoch)]) j
      j.setSlot x.1 { j.slot x.1 with owesEpoch := false }
    else j) j

/-- A STOP received on an uplink or twin port goes to every downstream port in service (R207). One that comes within 10 us of the last one acted
on is a later copy of it and changes nothing (R209); DESIGN CHOICE (log 33): nothing in a STOP tells copies apart, so the model does by time. -/
def Junction.stopReceived (j : Junction) (p : Nat) : Junction :=
  let copy := match j.stopAt with | some t => decide (j.clk.up < t + 10000 * uNs) | none => false
  if p < 64 || copy then j else { j.downPorts.foldl (fun (j : Junction) q => j.signal q 3 0) j with stopAt := some j.clk.up }

/-! ## Entries (R396, R404) -/

/-- The first fault of an entry: MEMBERSHIP_INVALID with its offset (R396). -/
def Junction.entryBad (j : Junction) (b : Bytes) : Option Nat :=
  let e := MemEntry.decode b
  let old := (j.slot e.slot).entry
  let unused := if j.tray then 0 else (List.range 32).foldl (fun a k => if j.role.unused (32 + k) then a + put k 1 else a) 0
  if e.group / 2 ^ 28 ≠ 6 then some 0
  else if 8 ≤ e.flags then some 5 else if j.role.level = 3 && e.up then some 5
  else if e.horizon < 120 || 700 < e.horizon then some 6
  else if Nat.land e.mask unused ≠ 0 then some 0xC
  else if 2 ^ 23 ≤ e.tablet then some 0x10 else if 2 ^ 28 ≤ e.job then some 0x14 else if 2 ^ 61 ≤ e.key then some 0x18
  else if !allZero (sub b 0x28 24) then some 0x28
  else if old.valid && old.group ≠ e.group then some 0
  else none

/-- The mask includes a DEAD die (R392). -/
def Junction.maskDead (j : Junction) (e : MemEntry) : Bool := j.tray && e.valid && (bitsSet 32 e.mask).any (fun k => (j.die k).st == .dead)

/-! ## Die states (R386 to R394) -/

/-- Change a die's state: code 0x2E (R387). -/
def Junction.dieTo (j : Junction) (k : Nat) (st : DieSt) : Junction :=
  let d := j.die k
  if d.st = st then j
  else
    let ent := put 28 1 + (Tbl.get none j.portMap k).getD 0
    (j.setDie k { d with st := st }).logE 0x2E [ent, d.st.code + put 2 st.code, d.epoch, d.misses]

/-- Keep the epochs in the Record Store (R388). -/
def Junction.saveEpochs (j : Junction) : Junction := { j with store := { j.store with epochs := j.dies.map (·.epoch) } }

/-- FENCE on the die's own port (R389). -/
def Junction.fence (j : Junction) (k : Nat) : Junction := j.signal k 2 ((j.die k).epoch % 8192)

/-- The die's fence epoch has changed: the CUSUM sums of its die and link entities return to 0 (R269, R389). -/
def Junction.resetCusum (j : Junction) (entity : Nat) : Junction :=
  { j with det := j.det.filterMap (fun x => if (x.1 % 2 ^ 32 / 2 ^ 28 = 1 || x.1 % 2 ^ 32 / 2 ^ 28 = 2) && x.1 % 2 ^ 17 = entity % 2 ^ 17 then
      (let s := { x.2 with sp := 0, sn := 0 }; if s = DetState.fresh then none else some (x.1, s)) else some x) }

/-- A die becomes DEAD (R389): epoch raised, FENCE, an abort of every armed entry it is a member of. -/
def Junction.dieDeath (j : Junction) (k : Nat) : Junction :=
  let d := j.die k
  let j := (j.setDie k { d with epoch := (d.epoch + 1) % 2 ^ 32 }).dieTo k .dead
  let j := j.saveEpochs.fence k
  let j := j.slots.foldl (fun j x =>
    if (x.2.st = .armed || x.2.st = .pending) && x.2.entry.abort && bit x.2.entry.mask k then j.originate x.1 else j) j
  j.resetCusum (put 28 1 + (Tbl.get none j.portMap k).getD 0)

/-- The detector evaluates one slot for a tick (R387): present, missed or not evaluated. -/
def Junction.evalDie (j : Junction) (n k : Nat) (present stale : Bool) : Junction :=
  let d := j.die k
  let d := { d with evaluated := some n, stale := if stale then (n :: d.stale).take 8 else d.stale, refence := stale && d.st == DieSt.dead }
  match d.st with
  | .off => j.setDie k d
  | .dead => j.setDie k d
  | _ =>
    if present then ((j.setDie k { d with misses := 0 }).dieTo k .alive)
    else
      let m := d.misses + 1
      let j := j.setDie k { d with misses := m }
      if d.deadN ≤ m then j.dieDeath k
      else if m = 2 && d.st = DieSt.alive then j.dieTo k .suspect
      else j

/-- A die configuration reaches its tick (R386, R392). -/
def Junction.dieConfigEffect (j : Junction) (k : Nat) : Junction :=
  let d := j.die k
  match d.next with
  | some c =>
    if c.tick ≤ j.tickNow then
      let epoch := if after c.epoch d.epoch then c.epoch else d.epoch
      let mapped := (Tbl.get none j.portMap k).isSome
      let j := (j.setDie k { d with watch := c.watch, deadN := c.deadN, owner := c.owner, epoch := epoch, next := none }).saveEpochs
      let j := if epoch ≠ d.epoch then j.resetCusum (put 28 1 + (Tbl.get none j.portMap k).getD 0) else j
      match d.st with
      | .dead => j
      | .off => if c.watch && mapped then (j.setDie k { j.die k with misses := 0 }).dieTo k .alive else j
      | _ => if c.watch && mapped then j else j.dieTo k .off
    else j
  | none => j

/-- A readmission reaches its tick (R393). -/
def Junction.readmitEffect (j : Junction) (k : Nat) : Junction :=
  let d := j.die k
  match d.readmit with
  | some m =>
    if m ≤ j.tickNow && d.st = .dead then
      (j.setDie k { d with readmit := none, misses := 0 }).dieTo k (if d.watch then .alive else .off)
    else j
  | none => j

/-- Die states and epochs sent to the twin after resumed exchange (R394); the layout is the model's (log 41). -/
def Junction.stateMessage (j : Junction) : Bytes := le 2 0x34 ++ zeros 6 ++ (j.dies.map (fun d => le 4 d.epoch ++ le 4 d.st.code)).flatten

/-- The twin's die states: the higher epoch prevails, and so does DEAD (R394). -/
def Junction.twinStates (j : Junction) (b : Bytes) : Junction :=
  ((List.range 32).foldl (fun j k =>
    let d := j.die k
    let e := rd b (8 + 8 * k) 4
    let dead := rd b (12 + 8 * k) 4 % 4 == 3
    let j := if after e d.epoch then (j.setDie k { d with epoch := e }).resetCusum (put 28 1 + (Tbl.get none j.portMap k).getD 0) else j
    if dead && d.st ≠ .dead then (j.dieTo k .dead).fence k else j) j).saveEpochs

end Sys2Proof.Machine
end

