-- ==== Sys2Proof/Machine/JnLink.lean ====
section
/-! DEFINITION. Drelet ports of a Junction: slots, marks, cabling checks, entering and leaving service, subtree advertisements, configuration replay, FLEET_STOP writes (R22 to R26, R47 to R67, R180, R220 to R227, R446, R498, R499). -/

namespace Sys2Proof.Machine

/-! ## Sources of the Junction's clock (R172 to R175) -/

/-- The priority order of R173's table: 1 external, 2 twin port, 3 primary uplink, 4 cross uplink, as JN_TIME_STATUS codes them. -/
def Junction.sourceOrder (j : Junction) : List Nat :=
  if j.role.level = 3 then (if j.role.twinB then [2, 1] else [1, 2])
  else if j.role.twinB then [2, 3, 4] else [3, 2, 4]

/-- The source code (JN_TIME_STATUS) of a priority, 0 for none. -/
def Junction.sourceCode (j : Junction) (prio : Nat) : Nat := if prio = 0 then 0 else j.sourceOrder.getD (prio - 1) 0

/-- The twin port in service, T34 first (R172). -/
def Junction.twinPort (j : Junction) : Nat := if (j.port 66).st = .active then 66 else 67

/-- The port a source code comes in on. -/
def Junction.sourcePort (j : Junction) (code : Nat) : Option Nat :=
  match code with | 2 => some j.twinPort | 3 => some j.role.primaryUp | 4 => some j.role.crossUp | _ => none

/-- The clock follows its twin port (R175). -/
def Junction.followsTwin (j : Junction) : Bool := j.sourceCode j.clk.source == 2

/-- The time root: root Twin A, or Twin B while A follows it or is lost (R174). -/
def Junction.timeRoot (j : Junction) : Bool :=
  j.role.level == 3 && (if j.role.twinB then j.twin.lost || (match (j.port j.twinPort).time.source with | some s => s.mark.followsTwin | none => false)
    else !(j.followsTwin))

/-- The mark of this instant (R180): a root that follows no link names the grandmaster in use, which PPS and set time have not; the TIME_SOURCE
value of those two is open (log 89). -/
def Junction.mark (j : Junction) : TimeMark :=
  let c := j.clk
  let own := j.role.level == 3 && decide (j.sourceCode c.source ≤ 1)
  let gm := if j.ref.ref = some 0 then j.ref.gm.bind (fun g => j.ref.masters.find? (fun m => m.identity == g)) else none
  let up := (j.sourcePort (j.sourceCode c.source)).bind (fun p => (j.port p).time.source.map (·.mark))
  { c.blankMark with
    tick := BitVec.ofNat 64 c.markTick, followsTwin := j.followsTwin, rootHoldover := c.rootHoldover || (j.timeRoot && c.st == .holdover),
    gmIdentity := if own then (match gm with | some m => BitVec.ofNat 64 m.identity | none => 0) else match up with | some m => m.gmIdentity | none => 0,
    gmClass := if own then (match gm with | some m => BitVec.ofNat 8 m.class_ | none => 0) else match up with | some m => m.gmClass | none => 0,
    timeSource := if own then (match gm, j.ref.ref with
        | some m, _ => BitVec.ofNat 8 m.timeSource
        | none, some (r + 1) => Config.timeSource r
        | none, _ => 0) else match up with | some m => m.timeSource | none => 0,
    sender := BitVec.ofNat 17 j.id, steps := if j.timeRoot then 0 else BitVec.ofNat 8 c.steps }

/-! ## Slots (R47, R53, R54, R62) -/

def Junction.slotCount (j : Junction) (p : Nat) : Nat := slotsOf (j.role.rate400 p) j.clk.headway

/-- The entry of transmit slot k of a port, whether it carries the tick mark, and its stream's TICK_OFFSET (R53, R54, R62). -/
def Junction.txEntry (j : Junction) (p k : Nat) : SlotEntry × Bool × Nat :=
  match j.image with
  | none => let e := bootSlot (toBelow p) (j.slotCount p) k; (e, e.cls == 1, 0)
  | some t =>
    let e := slotEntry (t.map? p true) (toBelow p) (j.slotCount p) k
    match t.stream? e.stream with
    | some s => (e, e.cls == 1 && s.kind == 3, s.tickOffset)
    | none => (e, e.cls == 1 && e.stream == 0xFFFF, 0)

/-- The receive slot k of the grid of a tick, by the map in force then, and the tick that owns its data (R60, R65). -/
def Junction.rxCheck (j : Junction) (p slot grid : Nat) : Option (SlotEntry × Nat) :=
  (j.imageOf grid).bind (fun t => (t.map? p false).map (fun m =>
    let e := m.getD slot ⟨0, 0, 0⟩
    (e, grid - (match t.stream? e.stream with | some s => s.tickOffset | none => 0))))

/-- The far end of a port is a Lineside, for its buffer sizes (R211). -/
def Junction.ident (j : Junction) (p : Nat) : Ident := ⟨j.id, false, true, false, j.confirmed, p⟩

/-! ## Entering and leaving service (R220 to R222, R446, R498, R499) -/

/-- The set a slot contributes to the advertisement (R446): the latest of its primary downlink, or of its Lk port while that is out of service. -/
def Junction.slotNames (j : Junction) (k : Nat) : List Nat :=
  Tbl.get [] j.subtree (if (j.port (32 + k)).st = .active then 64 + k else 32 + k)

/-- Pairs the Junction names upward (R446): its own and every pair its slots name. -/
def Junction.subtreePairs (j : Junction) : List Nat :=
  (j.role.level * 16384 + j.index) :: (if j.tray then [] else (List.range 32).flatMap j.slotNames)

/-- A pair as an advertisement entry: [13:0] index, [15:14] level (R446). -/
def Junction.advertisement (j : Junction) : Bytes :=
  let ps := j.subtreePairs
  le 2 0x20 ++ le 2 ps.length ++ le 4 j.id ++ (ps.map (fun x => le 2 (x % 16384 + put 14 (x / 16384)))).flatten

/-- Send the advertisement on an uplink in service. -/
def Junction.advertise (j : Junction) : Junction := j.uplinks.foldl (fun j p => j.send p 3 1 0 j.advertisement) j

/-- A slot with both links out loses its set, and a set that changed is advertised anew (R446). `p` is the link that left service. -/
def Junction.lostSet (j : Junction) (p : Nat) : Junction :=
  if p < 64 && !j.tray then
    let k := p % 32
    let before := Tbl.get [] j.subtree (if p < 32 && (j.port (32 + k)).st ≠ .active then 32 + k else 64 + k)
    let out := (j.port k).st ≠ .active && (j.port (32 + k)).st ≠ .active
    let j := if out then { j with subtree := [k, 32 + k, 64 + k].foldl (fun t i => Tbl.put [] t i []) j.subtree } else j
    if j.slotNames k = before then j else j.advertise
  else j

/-- A link has left service (R156, R222, R446, R452): transactions on it end, the commit SEQ counts as not written there, and a slot with both
links out loses its set. -/
def Junction.linkLost (j : Junction) (p : Nat) : Junction :=
  let j := { j with txns := j.txns.filter (fun t => t.port != p) }
  (if j.linesidePort p then j.setLog (p + 1) { j.log (p + 1) with commitSent := none } else j).lostSet p

def Junction.engine (j : Junction) (i : Nat) : CrcEng := j.crc.getD i CrcEng.init

/-- A message or a Ballast job of an engine is in progress (R420, R422). -/
def Junction.crcBusy (j : Junction) (i : Nat) : Bool :=
  let e := j.engine i
  e.busyAt e.act.port (j.port e.act.port) || e.jobUnit.isSome

/-- The engines in use. -/
def Junction.crcHeld (j : Junction) : List Nat := (List.range j.crc.length).filter j.crcBusy

/-- Bytes of a relayed Bulk message for the contexts that see its die; scan data goes to context 0 only (R148, R426, R430, R477). A message that
turns out to be short (R131) is discarded where nothing of it has been exported, and ended with ABANDONED where fragments have. -/
def Junction.bulkBytes (j : Junction) (p subch : Nat) (b : Bytes) (done gone short : Bool) : Junction :=
  let slot := fun c => 16 * (4 * p + subch) + c
  (if subch = 2 then [0] else j.viewers (j.die p).owner).foldl (fun j c =>
    if (j.ctx c).st = .draining || (short && Tbl.get 0 j.exp.bulk (slot c) == 0) then j
    else
      let (e, lost) := j.exp.bulkStep (slot c) c (j.share c) j.tickNow j.exp.nextMsg j.twin.duty (j.twin.takeoverTick == some j.clk.markTick) b done gone
      let j := { j with exp := e }
      if lost then let x := j.ctx c; j.setCtx c { x with expDropped := x.expDropped + 1 } else j) j

/-- Put a port's new state in place; a link that leaves service abandons the Bulk messages it carried (R430). -/
def Junction.portMoved (j : Junction) (p : Nat) (x : Port) : Junction :=
  let old := j.port p
  let j := j.setPort p x
  if old.st = .active && x.st ≠ .active then
    let j := if j.linesidePort p then
        (old.partials.filter (fun m => m.vc == 2 && (m.subch == 1 || m.subch == 2))).foldl (fun (j : Junction) m => j.bulkBytes p m.subch m.seen false true false) j
      else j
    j.linkLost p
  else j

/-- The expected neighbour of a port (R26, R498). -/
def Junction.neighbourOk (j : Junction) (p : Nat) (b : Bytes) : Bool :=
  let i := identOf b
  let r := j.role
  let level := i.id / 2 ^ 15
  let idx := fld i.id 1 14
  let twinB := bit i.id 0
  let mapped := Tbl.get none j.portMap (p % 32)
  if p < 32 && r.level = 0 then i.lineside && (!i.valid || mapped == some i.id)
  else if i.lineside then false
  else if p < 32 then level + 1 == r.level && mapped == some idx && twinB != r.twinB && i.port == 64 + b2n r.twinB
  else if p < 64 then level + 1 == r.level && mapped == some idx && twinB == r.twinB && i.port == 64 + b2n r.twinB
  else if p < 66 then level == r.level + 1 && twinB == (p == 65)
  else level == r.level && idx == j.index && twinB != r.twinB && i.port == p

/-- The port takes part in the role and may leave DOWN (R16, R22, R488). -/
def Junction.mayTrain (j : Junction) (p : Nat) : Bool := j.confirmed && !(j.role.unused p) && !j.boot.porst

/-- Reads of LS_FRAME_STATUS and LS_TT_STATUS, by which the Junction knows a Lineside's banks (log 50). -/
def bankReads : List CfgOp := [⟨1, 0x201, 0, 0⟩, ⟨1, 0x211, 0, 0⟩]

/-- The VC3 writes a Lineside link gets on entering ACTIVE (R498, R499): DIE first, then the shadow in rising order, then CONFIGURED. -/
def Junction.configureLineside (j : Junction) (k : Nat) : Junction :=
  let j := { j with banksRead := setBit32 j.banksRead k false }
  match (j.port k).far with
  | none => j
  | some f =>
    let die := (Tbl.get none j.portMap k).getD f.id
    let dieWord := die % 2 ^ 17 + put 31 1
    let j := if f.valid then j else j.writeLs k .own [(1, dieWord)]
    let j := { j with lineCfg := Tbl.put [] j.lineCfg k (if f.configured then Tbl.put 0 (Tbl.get [] j.lineCfg k) 1 (BitVec.ofNat 64 (put 30 1)) else []) }
    let j := if f.configured then j.request k .own bankReads else j
    if f.configured then j
    else
      let ws := ((Tbl.get [] j.shadow k).filter (fun (x : Nat × Word) => x.1 ≠ 1)).map (fun (x : Nat × Word) => (⟨2, x.1, x.2.toNat, 2 ^ 64 - 1⟩ : CfgOp))
      ((j.request k .own ws).request k .own [⟨2, 1, dieWord + put 30 1, 2 ^ 64 - 1⟩]).request k .own bankReads

/-- An ALIGNed link enters ACTIVE (R220). -/
def Junction.linkActive (j : Junction) (p : Nat) : Junction :=
  if (j.port p).st = .align then
    let j := j.portMoved p ((j.port p).enterActive false (j.farLineside p))
    let j := if j.linesidePort p then j.configureLineside p else j
    let j := if p = 64 || p = 65 then j.send p 3 1 0 j.advertisement
             else if 32 ≤ p && p < 64 && !j.tray && Tbl.get [] j.subtree p ≠ Tbl.get [] j.subtree (32 + p) then j.advertise else j
    if 66 ≤ p && j.confirmed && !j.twin.judging then { j with twin := { j.twin with judging := true } } else j
  else j

/-- The far end's IDENT message on a port (R227): taken from what arrived in IDENT. -/
def Junction.identReceived (j : Junction) (p : Nat) (b : Bytes) : Junction :=
  j.portMoved p ((j.port p).identReceived false (j.farLineside p) (j.neighbourOk p b) b)

/-- A received subtree advertisement is the latest of its child slot and of its port; a change in what this Junction names goes upward (R446). -/
def Junction.advertReceived (j : Junction) (p : Nat) (b : Bytes) : Junction :=
  if 64 ≤ p || j.tray then j
  else
    let old := j.advertisement
    let ps := (List.range (rd b 2 2)).map (fun i => let v := rd b (8 + 2 * i) 2; v / 2 ^ 14 * 16384 + v % 2 ^ 14)
    let j := { j with subtree := Tbl.put [] (Tbl.put [] j.subtree (p % 32) ps) (32 + p) ps }
    if j.advertisement = old then j else j.advertise

/-- The Junction leads its Lineside ports and downlinks, and Twin A its twin ports (R220). -/
def Junction.leads (j : Junction) (p : Nat) : Bool := decide (p < 64) || (decide (66 ≤ p) && !j.role.twinB)

/-! ## One slot, one flit (R47 to R51, R65, R204, R419) -/

/-- Engines with a port binding, as the link layer numbers ports here. -/
def Junction.txSlot (j : Junction) (p : Nat) : Junction :=
  let x := j.port p
  let n := j.slotCount p
  let base : Int := match j.clk.tick with | some t => j.clk.tickAt t | none => ((j.clk.prov * hNs 12 * uNs : Nat) : Int)
  if n ≤ x.slot then j
  else
    let j := { j with clk := j.clk.reach (base + ((x.slot * slotPs (j.role.rate400 p) * uNs / 1000 : Nat) : Int)) }
    let (e, isMark, off) := j.txEntry p x.slot
    let env : TxEnv := { slots := n, entry := e, owner := j.clk.markTick - off, now := j.clk.time, mark := j.mark, flush := false,
                         ident := identBytes (j.ident p) (j.role.rate400 p) 0x12E0B0, engs := j.crc, port := p, held := j.crcHeld,
                         leader := j.leads p, who := trainWho j.id false p, run := j.clk.up }
    match x.st with
    | .active =>
      let (x, engs) := x.transmit env isMark
      ({ j with crc := engs }).portMoved p x
    | .ident => j.portMoved p (x.transmitIdent env)
    | .train => j.portMoved p (x.transmitTrain env)
    | _ => j.portMoved p (x.transmitFill env)

/-- A received flit on a port (R65, R204 to R218, R419): a read-out that fails its check is one lost with its link (R222, R430); a header parity failure is an error of class 5 (R531). -/
def Junction.rxFlit (j : Junction) (p slot grid : Nat) (raw : Bytes) : Junction :=
  let x := j.port p
  let (y, engs, bad) := (x.receive (j.farLineside p) slot grid raw (j.rxCheck p slot grid) (crcKeysOf j.crc p j.crcHeld) j.clk.time).stripInbox j.crc p x.inbox.length
  let j := ({ j with crc := engs }).portMoved p y
  if j.linesidePort p then (bad.filter (fun b => b.2.1 == 9 || b.2.1 == 10)).foldl (fun (j : Junction) b => j.bulkBytes p (b.2.1 - 8) b.2.2 false true false) j else j

/-- A mismatch run of 2 ticks quarantines the receive direction with an alarm; the ticks that can end it are counted from here (R66). -/
def Junction.quarantine (j : Junction) (p : Nat) : Junction :=
  let x := j.port p
  if 2 ≤ x.mmRun && !x.quarantine then
    ((j.setPort p { x.count 27 1 with quarantine := true, rxTicks := [] })).bareAlarm 2 j.entity [p]
  else j

/-- Owned receive slots of a port in the grid of a tick (R48, R60). -/
def Junction.ownedSlots (j : Junction) (p grid : Nat) : Nat :=
  match (j.imageOf grid).bind (fun t => t.map? p false) with | some m => (m.filter (fun e => e.cls == 1)).length | none => 0

/-- A full tick in which a passing flit came in every owned slot and matched its tag ends it (R66). -/
def Junction.quarantineEnd (j : Junction) (p : Nat) : Junction :=
  let x := j.port p
  let now := j.clk.markTick
  let whole := x.rxTicks.any (fun t => decide (t.1 < now) && t.2 == j.ownedSlots p t.1)
  if x.quarantine && (whole || j.ownedSlots p now == 0) then j.setPort p { x with quarantine := false } else j

/-! ## FLEET_STOP (R142, R462) -/

/-- Write a stop or release to every in-service Lineside and relay STOP (R207, R462): OP 0 stop at T, 1 release at T, 2 stop now,
3 release now. The ports not armed are given back. -/
def Junction.fleetStop (j : Junction) (op t : Nat) : Junction × Nat :=
  let lo := fld t 16 64
  let hi := fld t 80 16
  let ws : List (Nat × Nat) := match op with
    | 0 => [(0x42, lo), (0x43, hi), (0x40, put 3 1)]
    | 1 => [(0x44, lo), (0x45, hi), (0x40, put 6 1)]
    | 3 => [(0x40, put 5 1)]
    | _ => []
  let missing := if j.tray then (List.range 32).foldl (fun a k => if (j.port k).st = .active then a else a + put k 1) 0 else 0
  if op = 2 then ({ (j.downPorts ++ [66, 67]).foldl (fun (j : Junction) p => j.signal p 3 0) j with stopAt := some j.clk.up }, missing)
  else if j.tray then ((List.range 32).foldl (fun j k => j.writeLs k .own ws) j, missing)
  else (j, 0)

end Sys2Proof.Machine
end

