-- ==== Sys2Proof/Machine/JnTime.lean ====
section
/-! DEFINITION. Time at the Junction: measurements, selection, the root's references, timing pins (R164 to R194, R507, R508). -/

namespace Sys2Proof.Machine

/-! ## Selection (R172 to R174, R178) -/

/-- The external reference is usable (R172, R177): PTP within 4 Sync intervals of a valid measurement, PPS within 2 s of an edge (log 44). -/
def Junction.extOk (j : Junction) : Bool :=
  !j.ref.parked && (match j.ref.ref, j.ref.lastValid with
  | some 0, some t =>
    let log := (j.ref.gm.bind (fun g => j.ref.masters.find? (fun m => m.identity == g))).map (·.logSync)
    let iv := uSec / 2 ^ (match log with | some l => (-l).toNat | none => 0)
    decide (j.clk.up ≤ t + 4 * iv)
  | some 1, some t => decide (j.clk.up ≤ t + 2 * uSec)
  | _, _ => false)

/-- Candidates in priority order (R172). -/
def Junction.cands (j : Junction) : List Cand :=
  (List.zip (List.range 3) j.sourceOrder).map (fun x =>
    match x.2 with
    | 1 => ⟨x.1 + 1, .locked, j.extOk, j.ref.run⟩
    | c => candOf j.clk.servo.lossTicks (x.1 + 1) (c == 2)
        (match j.sourcePort c with | some p => if (j.port p).st = .active then (j.port p).time.source else none | none => none))

/-- The rate a root's clock in HOLDOVER takes from a qualified SyncE frequency (R178); SYNCE_IN is ignored at other levels. -/
def Junction.synceRate (j : Junction) : Option Rat := if j.role.level = 3 then j.ref.synce.map (fun (ppt : Int) => (ppt : Rat) / 1000000000000) else none

/-- First instant of a configuration at least 1 us ahead; a one-shot that is not is MISSED (R193). -/
def Trig.armAt (x : Trig) (c : TrigCfg) (now : Nat) : Trig :=
  let x := { x with cfg := c, pending := none, high := none, missed := false, next := none }
  match c.mode with
  | 1 => if now + 1000 * uNs ≤ c.start then { x with next := some c.start } else { x with missed := true }
  | 2 =>
    let per := c.period * uNs
    let m := if now + 1000 * uNs ≤ c.start then 0 else cdiv (now + 1000 * uNs - c.start) per
    { x with next := some (c.start + m * per) }
  | _ => x

/-- A pulse ends: a configuration that waited for it takes effect (R193). -/
def Trig.pulseEnd (x : Trig) (now : Nat) : Trig :=
  let x := { x with high := none }
  match x.pending with | some c => x.armAt c now | none => x

/-- Put a clock in place. While it is UNLOCKED or ACQUIRING a squelched trigger output is inactive and PPS_OUT is low, pulses that had begun
included (R193, R194). -/
def Junction.setClk (j : Junction) (c : Clock) : Junction :=
  if c.untimed then
    { j with clk := c, trig := j.trig.map (fun x => if x.cfg.squelch && x.high.isSome then x.pulseEnd c.time else x), pps := { j.pps with high := none } }
  else { j with clk := c }

/-- Reselect; the time root announces ROOT_HOLDOVER while it has no source (R173, R174, R178). -/
def Junction.reselect (j : Junction) : Junction :=
  let j := j.setClk (j.clk.reselect j.cands j.synceRate)
  if j.role.level = 3 && j.timeRoot && j.clk.st = .holdover then { j with clk := { j.clk with rootHoldover := true } } else j

/-- A higher-priority source has been selectable and LOCKED for REVERT_TICKS (R173). -/
def Junction.sourceRevert (j : Junction) : Junction := j.setClk (j.clk.revert j.cands)

/-- A source of another fleet epoch is not eligible; an alarm tells of it (R167). One that carries none is not eligible either, without an
alarm (DESIGN CHOICE, log 89). -/
def Junction.epochAlarm (j : Junction) (p : Nat) (was : Bool) : Junction :=
  match (j.port p).time.source with
  | some s => if s.badEpoch && s.mark.epoch != 0 && !was then j.bareAlarm 1 j.entity [p] else j
  | none => j

/-- A mark or twin time message on a port with its arrival, and whether it came by replay (R165, R181, R182). -/
def Junction.measure (j : Junction) (p : Nat) (m : TimeMark) (t2 : Nat) (bad : Bool) : Junction :=
  let x := j.port p
  let was := match x.time.source with | some s => s.badEpoch && s.mark.epoch != 0 | none => false
  let (pt, off) := x.time.take j.clk m (capture t2) bad
  let x := { x with time := pt }
  let j := j.setPort p (if off.isSome then x else x.count 22 1)
  let j := (j.epochAlarm p was).reselect
  let mine := j.sourcePort (j.sourceCode j.clk.source) == some p
  if !mine then j
  else
    let c := match unpackTime m.epoch.toNat with | some e => j.clk.adopt e | none => j.clk
    j.setClk (match off with | some o => (c.follow m).servoUpdate o | none => c)

/-- The tick mark received on an uplink (R182): its stream of the active image, or the bootstrap stream. -/
def Junction.tickMark (j : Junction) (p : Nat) : Junction :=
  let isMark := fun (x : RxStream) => !x.taken && (x.id == 0xFFFF || (match j.image with | some t => (match t.stream? x.id with | some s => s.kind == 3 && !s.tx && s.port == p | none => false) | none => false))
  let y := j.port p
  match y.streams.find? isMark with
  | some x =>
    let y := { y with streams := y.streams.map (fun z => if z.id == x.id && z.tick == x.tick then { z with taken := true } else z) }
    let bad := x.bad || x.void || x.got.length == 0
    let data := match x.got.head? with | some g => g.2 | none => []
    if bad then j.setPort p ((y.count 16 1).count 22 1) else (j.setPort p y).measure p (TimeMark.decode data) x.arrived x.replayed
  | none => j

/-- A valid exchange with the twin (R28, R30): it ends the declaration that the twin is lost, and the states of R394 are owed (log 81). -/
def Junction.validExchange (j : Junction) : Junction :=
  { j with twin := { j.twin with exchanged := true, lost := false, owesStates := j.twin.owesStates || j.twin.lost } }

/-- No plan is ACTIVE, or this is the tick in which a switch made one ACTIVE: a twin time message is then a valid exchange (R30). -/
def Junction.timeExchange (j : Junction) : Bool :=
  j.plan.isNone || (match j.old, j.clk.tick with | some o, some n => o.upTo == n && o.plan.isNone | _, _ => false)

/-- A twin time message (R181): a measurement of the other end, and a valid exchange where R30 counts it. -/
def Junction.twinTime (j : Junction) (p : Nat) : Junction :=
  match (j.port p).takeInbox 3 2 (fun b => rd b 0 2 == 0x32) with
  | (some m, x) =>
    let j := (j.setPort p x).measure p (TimeMark.decode (m.bytes.drop 4)) m.arrived m.replayed
    if j.timeExchange then j.validExchange else j
  | (none, _) => j

/-- A delay echo: its arrival goes back in the next mark (R180, R181); a replayed one gives no delay. -/
def Junction.delayEcho (j : Junction) (p : Nat) : Junction :=
  match (j.port p).takeInbox 3 2 (fun b => rd b 0 2 == 0x31) with
  | (some m, x) => j.setPort p (if m.replayed then x else { x with time := { x.time with returned := (rd m.bytes 2 2, capture m.arrived) } })
  | (none, _) => j

/-- A delay echo falls due on an uplink or twin port (R181). -/
def Junction.echoDue (j : Junction) (p : Nat) : Junction :=
  let x := j.port p
  match (if 64 ≤ p && x.st = .active then x.time.echo j.clk.servo.echoPeriod j.id else none) with
  | some (msg, t) => j.setPort p ({ x with time := t }.send 3 2 msg)
  | none => j

/-- The error bound passes HOLDOVER_LIMIT; the time root stays in HOLDOVER (R168, R174). -/
def Junction.holdoverLimit (j : Junction) : Junction :=
  if j.clk.atLimit && !j.timeRoot then j.setClk j.clk.unlock else j

/-! ## The root's references (R176 to R179) -/

/-- A measurement against the external reference, in units (R168, R179, R184); `err` is the error bound, which the spec leaves open (log 45). A
new grandmaster's offset is slewed up to 1 ms and not followed beyond. -/
def Junction.extMeasure (j : Junction) (offset : Rat) (err : Nat) : Junction :=
  let ms : Rat := 1000000 * 65536
  let big := decide (ms < offset) || decide (offset < -ms)
  let fresh := j.ref.newGm && j.clk.tick.isSome
  let j := { j with ref := { j.ref with lastValid := some j.clk.up, newGm := false } }
  if fresh && big then
    let j := { j with ref := { j.ref with parked := true } }
    let j := j.setClk (if j.clk.st = .locked || j.clk.st = .acquiring then j.clk.enterHoldover j.synceRate else { j.clk with source := 0 })
    ({ j with clk := { j.clk with rootHoldover := j.timeRoot } }).bareAlarm 1 j.entity [0]
  else
    let j := j.reselect
    if j.sourceCode j.clk.source ≠ 1 then j
    else
      let own := j.clk.servo
      let c := ({ j.clk with servo := j.ext, slew := j.clk.slew || fresh }).servoUpdate offset
      j.setClk { c with servo := own, rootHoldover := false, steps := 0, errorNs := if c.st = ClkSt.locked then err % 2 ^ 32 else c.errorNs }

/-- PPS_IN rises: the start of the TAI second software gave (R177). It is captured as an input of R192 is: at the capture resolution,
20 ns or more after the edge captured before; the pin's pulses last 100 ns and more by the pin table of chapter 21 (log 8). -/
def Junction.ppsIn (j : Junction) (err : Nat) : Junction :=
  match j.ref.ref, j.ref.ppsNext with
  | some 1, some t =>
    let at_ := capture ((j.clk.time : Int) - j.ref.ppsDelay * 1024).toNat
    let close := match j.ref.ppsLast with | some u => decide (at_ < u + 20 * uNs) | none => false
    if close then j
    else ({ j with ref := { j.ref with ppsNext := some (t + uSec), ppsLast := some at_ } }).extMeasure ((((at_ : Int) - t : Int)) : Rat) err
  | _, _ => j

/-- The order of the default best master clock algorithm (R176). -/
def Master.before (a b : Master) : Bool :=
  let key := fun (m : Master) => [m.priority1, m.class_, m.accuracy, m.variance, m.priority2, m.identity, m.steps, m.source]
  decide (key a < key b)

/-- The best of the masters tracked. -/
def bestMaster (l : List Master) : Option Master :=
  l.foldl (fun b m => match b with | none => some m | some x => if m.before x then some m else some x) none

/-- The leap second a grandmaster announces with leap59 or leap61: [0] pending, [1] −1 s, and the TAI second at which the new offset applies, the
end of the UTC day. PRESUMED from IEEE 1588-2019, which gives the flags that meaning (log 89). -/
def Master.leap (m : Master) (now : Nat) : BitVec 2 × Nat :=
  if m.leap59 || m.leap61 then
    let utc : Int := (now / uSec : Nat) - m.utcOffset.toInt
    let day : Int := (utc / 86400 + 1) * 86400
    (if m.leap59 then 3 else 1, (day + m.utcOffset.toInt + (if m.leap59 then -1 else 1)).toNat)
  else (0, 0)

/-- The UTC offset and the pending leap at a root that follows no link: the grandmaster's while its offset is valid, else what software
configured (R166, R176). -/
def Junction.utcUpdate (j : Junction) : Junction :=
  if 1 < j.sourceCode j.clk.source then j
  else match j.ref.gm.bind (fun g => j.ref.masters.find? (fun m => m.identity == g && m.utcValid)) with
  | some b => { j with clk := { j.clk with utcOffset := b.utcOffset, leap := (b.leap j.clk.time).1, leapAt := (b.leap j.clk.time).2 } }
  | none => { j with clk := { j.clk with utcOffset := j.ref.utcOffset, leap := j.ref.leap, leapAt := j.ref.leapAt } }

/-- The masters tracked are these: the best of them is the grandmaster. A new one is measured afresh before it is followed (R176, R179). -/
def Junction.setMasters (j : Junction) (ms : List Master) : Junction :=
  let best := (bestMaster ms).map (·.identity)
  if best = j.ref.gm then { j with ref := { j.ref with masters := ms } }
  else { j with ref := { j.ref with masters := ms, gm := best, newGm := best.isSome && (j.ref.newGm || j.ref.gm.isSome),
                                    sync := none, ms := none, delays := [], delayReq := (j.ref.delayReq.1, none) } }

/-- A master unheard for 4 of its Announce intervals is a foreign master no more. PRESUMED from IEEE 1588-2019, whose default algorithm R176
names (log 89). -/
def Junction.dropMasters (j : Junction) : Junction :=
  let live := fun (m : Master) => decide (j.clk.up ≤ m.seenAt + (if m.logAnnounce < 0 then 4 * uSec / 2 ^ (-m.logAnnounce).toNat else 4 * uSec * 2 ^ m.logAnnounce.toNat))
  if j.ref.masters.all live then j else (j.setMasters (j.ref.masters.filter live)).utcUpdate

/-- An Announce: at most 4 foreign masters are tracked; the grandmaster gives the UTC offset and the pending leap (R176). -/
def Junction.announce (j : Junction) (m : Master) : Junction :=
  let m := { m with seenAt := j.clk.up }
  let rest := j.ref.masters.filter (fun x => !(x.identity == m.identity && x.source == m.source))
  let ms := if rest.length < 4 then rest ++ [m] else if rest.any (fun x => m.before x) then
      (match rest.foldl (fun (w : Option Master) x => match w with | none => some x | some y => if y.before x then some x else some y) none with
       | some w => (rest.filter (fun x => x ≠ w)) ++ [m] | none => rest) else rest
  (j.setMasters ms).utcUpdate

/-- The master-to-slave difference of a Sync is complete: an offset once a delay is known (R176). -/
def Junction.syncDone (j : Junction) (t1 : Int) (t2 err : Nat) : Junction :=
  let d : Int := t2 - t1
  let j := { j with ref := { j.ref with ms := some d, sync := none } }
  if j.ref.delays.length = 0 then j else j.extMeasure ((d : Rat) - meanQ j.ref.delays - (j.ref.asym * 1024 : Int) / 2) err

/-- An IEEE 1588 message on Ethernet 0 of a root (R165, R176): a two-step Sync's correction counts with its Follow_Up's. -/
def Junction.ptp (j : Junction) (m : PtpMsg) (err : Nat) : Junction :=
  if j.role.level ≠ 3 || j.ref.ref ≠ some 0 || m.domain ≠ j.ref.domain then j
  else
    let j := j.dropMasters
    let mine := j.ref.gm == some m.master.identity
    match m.kind with
    | 0xB => j.announce m.master
    | 0 =>
      if !mine then j
      else if m.twoStep then { j with ref := { j.ref with sync := some (m.seq, capture j.clk.time, m.correction) } }
      else j.syncDone (m.origin + m.correction) (capture j.clk.time) err
    | 8 => match j.ref.sync with
      | some (q, t2, cf) => if mine && q = m.seq then j.syncDone (m.origin + cf + m.correction) t2 err else j
      | none => j
    | 9 => match j.ref.delayReq, j.ref.ms with
      | (q, some t3), some ms =>
        if mine && m.toUs && q = m.seq then
          let back : Int := m.origin - t3 - m.correction
          { j with ref := { j.ref with delayReq := (q, none), delays := (((ms + back : Int) : Rat) / 2 :: j.ref.delays).take 8 } }
        else j
      | _, _ => j
    | _ => j

/-- The root sends a Delay_Req (R176). -/
def Junction.delayReqDue (j : Junction) : Junction :=
  if j.role.level = 3 && j.ref.ref = some 0 && j.ref.gm.isSome && j.exp.e0.up then
    let q := (j.ref.delayReq.1 + 1) % 65536
    { j with ref := { j.ref with delayReq := (q, some (capture j.clk.time)) },
             exp := { j.exp with e0 := { j.exp.e0 with q0 := j.exp.e0.q0 ++ [le 1 1 ++ le 1 2 ++ le 2 44 ++ le 1 j.ref.domain ++ zeros 25 ++ le 2 q ++ zeros 12] } } }
  else j

/-- The step to a set time has been applied: the root is in HOLDOVER and announces ROOT_HOLDOVER from now on (R177, R185). -/
def Junction.setDone (j : Junction) : Junction :=
  let j := { j with ref := { j.ref with stepping := false } }
  j.setClk { j.clk.enterHoldover j.synceRate with rootHoldover := true }

/-- Software sets a station time, acted on at the capture resolution (R165): the root steps to it in ACQUIRING, at once or in parts at the
following edges, and is then in HOLDOVER (R177, R186, R187, log 46). -/
def Junction.setTime (j : Junction) (t : Nat) : Junction :=
  let c := { j.clk with errorNs := j.clk.errorNow, st := .acquiring, stepParts := [], source := 0, slew := false }
  let j := j.setClk (c.step ((capture t : Int) - c.time))
  if j.clk.stepParts.length = 0 then j.setDone else { j with ref := { j.ref with stepping := true } }

/-- After an edge: the last part of a step to a set time may have been applied (R177, R187). -/
def Junction.setEdge (j : Junction) : Junction := if j.ref.stepping && j.clk.stepParts.length == 0 then j.setDone else j

/-- The fleet epoch is set at the root (R167): a clock that has been stepped gets its tick index. -/
def Junction.setEpoch (j : Junction) (e : Nat) : Junction :=
  { j with clk := ({ j.clk with epoch := some e, e := (e / uNs : Nat) } : Clock).giveTick }

/-- The fleet epoch a root must keep to (R167): its own, or the one its twin announces, which a cold reset of this root alone leaves standing. -/
def Junction.fleetEpoch (j : Junction) : Option Nat :=
  match j.clk.epoch with
  | some e => some e
  | none => [66, 67].findSome? (fun p => if (j.port p).st = .active then ((j.port p).time.source.bind (fun s => unpackTime s.mark.epoch.toNat)).bind (fun e => if e = 0 then none else some e) else none)

/-- LEAP_AT is reached at the Junction: what software configured, and what the masters last announced, has applied with it (R166, R176). -/
def Junction.leapReached (j : Junction) : Junction :=
  let c := j.clk.leapReached
  if !(bit j.clk.leap.toNat 0) then j
  else
    let r := j.ref
    let cfgd := bit r.leap.toNat 0 && decide (r.leapAt = j.clk.leapAt)
    { j with clk := c, ref := { r with
        utcOffset := if cfgd then (if bit r.leap.toNat 1 then r.utcOffset - 1 else r.utcOffset + 1) else r.utcOffset,
        leap := if cfgd then 0 else r.leap, leapAt := if cfgd then 0 else r.leapAt,
        masters := r.masters.map (fun m => if m.leap59 then { m with utcOffset := m.utcOffset - 1, leap59 := false } else if m.leap61 then { m with utcOffset := m.utcOffset + 1, leap61 := false } else m) } }

/-! ## REFCLK and SyncE (R178, R507, R508) -/

/-- SYNCE_IN becomes qualified at a measured rate, in parts in 10^12: a root's clock in HOLDOVER runs at it (R178, R508). -/
def Junction.synceOn (j : Junction) (ppt : Int) : Junction :=
  let j := { j with ref := { j.ref with synce := some ppt } }
  match j.synceRate with
  | some r => if j.clk.st = .holdover then { j with clk := { j.clk with rate := r } } else j
  | none => j

/-- SYNCE_IN is disqualified: a clock in HOLDOVER returns to its last rate (R508). -/
def Junction.synceOff (j : Junction) : Junction :=
  let was := j.synceRate.isSome
  let j := { j with ref := { j.ref with synce := none } }
  if was && j.clk.st = .holdover then { j with clk := { j.clk with rate := j.clk.lastRate } } else j

/-! ## Timing pins (R192 to R194) -/

/-- An edge on TS_IN[k] (R192): `wide` says its pulse lasts 10 ns or more. -/
def Junction.tsEdge (j : Junction) (k : Nat) (falling wide : Bool) : Junction :=
  match j.tsIn[k]? with
  | none => j
  | some x =>
    let t := ((j.clk.time : Int) - x.delay * 1024).toNat
    if !wide || !(bit x.edges (b2n falling)) then j
    else
      let close := match x.last with | some u => decide (t < u + 20 * uNs) | none => false
      if close || 64 ≤ x.queue.length then { j with tsIn := j.tsIn.set k { x with dropped := sat 16 (x.dropped + 1), last := if close then x.last else some t } }
      else
        let stepped := match j.clk.steppedAt with | some u => decide (u ≤ t) && decide (t ≤ u + 1000 * uNs) | none => false
        let rec_ := le 12 (packTime (capture t)) ++ le 1 (k + put 3 (b2n falling) + put 4 (b2n j.clk.untimed) + put 5 (b2n stepped)) ++ le 1 0 ++ le 2 x.dropped
        let j := { j with tsIn := j.tsIn.set k { x with queue := x.queue ++ [rec_], dropped := 0, last := some t } }
        j.exportTo x.owner 3 j.tickNow j.exp.nextMsg rec_

/-- A configuration is written: latched while a pulse is high (R193). The flag says it is PENDING. -/
def Trig.configure (x : Trig) (c : TrigCfg) (now : Nat) : Trig × Bool :=
  if x.high.isSome then ({ x with pending := some c }, true) else (x.armAt c now, false)

/-- The next edge of TRIG_OUT[k] (R193): a pulse ends at its width; an instant drives a pulse, late where a step passed it. -/
def Junction.trigEdge (j : Junction) (k : Nat) : Junction :=
  match j.trig[k]? with
  | none => j
  | some x =>
    match x.high, x.next with
    | some t, _ =>
      let j := { j with clk := j.clk.reach ((t + x.cfg.width * uNs : Nat) : Int) }
      { j with trig := j.trig.set k (x.pulseEnd j.clk.time) }
    | none, some t =>
      let late := decide (t < j.clk.time)
      let j := { j with clk := j.clk.reach (t : Int) }
      let squelched := x.cfg.squelch && j.clk.untimed
      let next := if x.cfg.mode = 2 then some (t + x.cfg.period * uNs) else none
      { j with trig := j.trig.set k { x with next := next, high := if squelched then none else some (max t j.clk.time), late := x.late + b2n late } }
    | none, none => j

/-- An edge of PPS_OUT (R194): it falls after its width, rises at the next TAI second unless the clock is UNLOCKED or ACQUIRING. -/
def Junction.ppsOut (j : Junction) : Junction :=
  match j.pps.high with
  | some t => { j with clk := j.clk.reach ((t + j.pps.width * uNs : Nat) : Int), pps := { j.pps with high := none } }
  | none =>
    if j.clk.untimed then j
    else
      let t := cdiv j.clk.time uSec * uSec
      { j with clk := j.clk.reach (t : Int), pps := { j.pps with high := some t } }

/-- The time-unlocked attention bit (R191). -/
def Junction.timeUnlocked (j : Junction) : Bool := j.clk.st != .locked || j.clk.rootHoldover

end Sys2Proof.Machine
end

