-- ==== Sys2Proof/Machine/JnTick.lean ====
section
/-! DEFINITION. The phases of a tick at a Junction: streams, frames, presence, reductions, publication, fleet statistics, twin comparison (R24, R25, R28, R37 to R46, R121 to R123, R248 to R263, R375 to R379). -/

namespace Sys2Proof.Machine

/-! ## Banks and deadlines of a tick (R39, R41, R60) -/

/-- The instant of deadline i of tick n, in u (R41). -/
def Junction.dueAt (j : Junction) (n i : Nat) : Int := j.dueNs n (((j.imageOf n).map (fun t => t.deadline i)).getD 0)

/-- The clock reaches deadline i of tick n. -/
def Junction.reachDue (j : Junction) (n i : Nat) : Junction := { j with clk := j.clk.reach (j.dueAt n i) }

/-- The oldest tick whose phase is still open. -/
def Junction.openTick (j : Junction) (closed : TickWork → Bool) : Option TickWork :=
  j.ticks.find? (fun w => !(closed w) && (j.imageOf w.tick).isSome)

/-! ## Received streams (R43, R65, R121) -/

/-- Every flit of the stream has arrived, none VOID, none withdrawn (R43). -/
def RxStream.whole (s : RxStream) (flits : Nat) : Bool := !s.taken && !s.void && !s.bad && decide (s.got.length = flits)

/-- The stream's data in flit order. -/
def RxStream.data (s : RxStream) : Bytes :=
  ((List.range s.got.length).map (fun i => match s.got.find? (fun g => g.1 == i) with | some g => g.2 | none => [])).flatten

/-- The image's receive streams of a port that meet a test, for tick n. -/
def Junction.rxStreams (j : Junction) (n p : Nat) (ok : Stream → Bool) : List Stream :=
  match j.imageOf n with
  | some t => t.streams.filter (fun s => !s.tx && s.port == p && ok s)
  | none => []

/-- The last flit of a stream came by its arrival deadline, TIME_NS after t_n (R41, R43). -/
def Junction.inTime (j : Junction) (s : Stream) (n arrived : Nat) : Bool := decide ((arrived : Int) ≤ j.dueNs n s.time)

/-- Take the oldest stream of a port that meets a test and is whole and in time: its entry, tick and data. -/
def Junction.takeStream (j : Junction) (p : Nat) (ok : Stream → Bool) : Option (Stream × Nat × Bytes) × Junction :=
  let x := j.port p
  let named := fun (r : RxStream) => (j.rxStreams r.tick p ok).find? (fun s => s.id == r.id)
  match x.streams.find? (fun r => match named r with | some s => r.whole s.flits && j.inTime s r.tick r.arrived | none => false) with
  | some r =>
    match named r with
    | some s =>
      (some (s, r.tick, r.data),
       j.setPort p { x with streams := x.streams.map (fun z => if z.id == r.id && z.tick == r.tick then { z with taken := true } else z) })
    | none => (none, j)
  | none => (none, j)

/-- A switch has ended the schedule of tick n, whose data no slot carries any more (R61). -/
def Junction.switched (j : Junction) (n : Nat) : Bool := match j.old with | some o => decide (n < o.upTo) | none => false

/-- Put data that is ready now into every transmit stream of the image that meets a test, for tick n. A stream whose ready time TIME_NS has
passed stays VOID, and so does one of a tick before a switch (R46, R51, R61). -/
def Junction.feed (j : Junction) (n : Nat) (b : Bytes) (ok : Stream → Bool) : Junction :=
  match (if j.switched n then none else j.imageOf n) with
  | some t => (t.streams.filter (fun s => s.tx && ok s && decide ((j.clk.time : Int) ≤ j.edgeOf n + ((s.time * uNs : Nat) : Int)))).foldl (fun j s =>
      j.onPort s.port (fun x => { x with vc0 := x.vc0.filter (fun y => !(y.id == s.id && y.tick == n)) ++ [⟨s.id, n, b⟩] })) j
  | none => j

/-- Twin digest streams of a level (R257). -/
def Stream.digest (level : Nat) (s : Stream) : Bool := s.kind == 4 && s.phase == level + 2

/-! ## Frames (R107 to R123) -/

/-- The frame configuration the Junction wrote for the bank a frame names (R121): MAP_ID and SIZE. -/
def Junction.frameCfg (j : Junction) (k bank : Nat) : Nat × Nat :=
  let v := (j.shadowOf k (0x204 + bank % 2)).toNat
  (v % 65536, fld v 16 2)

/-- A complete frame stream at a tray Junction is checked (R121). -/
def Junction.frameReceived (j : Junction) (k : Nat) : Junction :=
  match j.takeStream k (fun s => s.kind == 0) with
  | (some (_, n, data), j') =>
    match j'.work n with
    | some w =>
      if w.frameClosed then j'
      else
        let size := 256 * 2 ^ (rd data 0x12 1 % 4)
        let f := data.take size
        let cfg := j'.frameCfg k (rd f 0x13 1)
        let w := { w with seen := w.seen ||| BitVec.ofNat 32 (put k 1) }
        if Tbl.get none j'.portMap k ≠ some (rd f 8 4 % 2 ^ 17) then (j'.setWork w).countPort k 26
        else if f.length ≠ size || crcOf crc32 (f.take (size - 4)) ≠ rd f (size - 4) 4 || rd f 0 8 ≠ n || rd f 0x10 2 ≠ cfg.1 || rd f 0x12 1 % 4 ≠ cfg.2 then
          (j'.setWork w).countPort k 24
        else if rd f 0xC 4 ≠ (j'.die k).epoch then (j'.setWork { w with stale := w.stale ||| BitVec.ofNat 32 (put k 1) }).countPort k 25
        else j'.setWork { w with frames := Tbl.put [] w.frames k f }
    | none => j'
  | (none, _) => j

/-- The presence word: bit k set when the frame on Lk was accepted (R122). -/
def TickWork.presence (w : TickWork) : BitVec 32 := BitVec.ofNat 32 (w.frames.foldl (fun a x => Nat.lor a (put x.1 1)) 0)

/-- The partner's presence word arrives (R122): T34's copy prevails. -/
def Junction.presenceReceived (j : Junction) (p : Nat) : Junction :=
  match j.takeStream p (fun s => s.presence) with
  | (some (_, n, data), j') =>
    match j'.work n with
    | some w =>
      let ok := rd data 0 8 == n && rd data 8 4 % 2 ^ 17 == Nat.xor j'.id 1
      if ok && !w.trayClosed && (p = 66 || w.partnerWord.isNone) then j'.setWork { w with partnerWord := some (BitVec.ofNat 32 (rd data 12 4)) } else j'
    | none => j'
  | (none, _) => j

/-- The presence used and ALONE (R122). -/
def Junction.presentOf (j : Junction) (w : TickWork) : BitVec 32 × Bool :=
  match w.partnerWord with
  | some q => if j.twin.lost then (w.presence, true) else (w.presence &&& q, false)
  | none => (w.presence, true)

/-! ## Shard digests (R371, R375, R376) -/

/-- Where a frame's field i lies: its map entry and offset (R113). -/
def frameField (shadow : Tbl Word) (f : Bytes) (i : Nat) : MapEntry × Nat :=
  let base := if rd f 0x13 1 % 2 = 1 then 0x600 else 0x400
  let ents := (List.range (i + 1)).map (fun k => mapEntry (Tbl.get 0 shadow (base + k)).toNat)
  let e := ents.getLastD (mapEntry 0)
  (e, fieldStart (ents.dropLast.foldl (fun o x => fieldStart o x.bytes + x.bytes) 0x60) e.bytes)

/-- The shard slots of a frame: SHARD_ENTITY and SHARD_DIGEST of each slot (R114, R372). -/
def frameShards (shadow : Tbl Word) (f : Bytes) : List (Nat × Nat) :=
  let n := rd f (f.length - 8) 2
  let fields := (List.range n).map (fun i => frameField shadow f i)
  (List.range 64).filterMap (fun k =>
    match fields.find? (fun x => x.1.kind == 7 && x.1.index == k), fields.find? (fun x => x.1.kind == 8 && x.1.index == k) with
    | some a, some b => some (rd f a.2 4, rd f b.2 8)
    | _, _ => none)

/-- The class of a shard slot (R375): 0 unchecked, 1 skipped, 2 unreferenced, 3 mismatch, 4 match; with the reference digest and
the group to abort. `owner` owns the die's job. -/
def Junction.shardClass (j : Junction) (owner ent digest : Nat) : Nat × Nat × Nat :=
  let idx := fld ent 0 22
  let status := fld ent 28 2
  let table := ((j.refs.getD (fld ent 22 2) ⟨none, none⟩).active).bind (fun b => if rd b 6 1 % 16 = fld ent 24 4 then some b else none)
  if status = 2 then (0, 0, 0)
  else match table with
    | none => (2, 0, 0)
    | some b =>
      let e := sub b (64 + 16 * idx) 16
      if bit ent 30 && rd b 0xC 4 % 2 = 0 then (1, 0, 0)
      else if rd b 8 4 ≤ idx || rd e 12 4 % 2 = 0 || (!j.sec.open_ && fld ent 24 4 ≠ owner) then (2, 0, 0)
      else if status = 1 || digest ≠ rd e 0 8 then (3, rd e 0 8, rd b 0x20 4)
      else (4, 0, 0)

/-- The slot that holds a group entity (R395). -/
def Junction.slotOfGroup (j : Junction) (group : Nat) : Option Nat :=
  (List.range 256).find? (fun g => (j.slot g).entry.valid && (j.slot g).entry.group == group)

/-- Classify every shard slot in use of an accepted frame, and act on mismatches (R375, R376). -/
def Junction.classify (j : Junction) (k : Nat) (f : Bytes) : Junction :=
  let die := put 28 1 + (Tbl.get none j.portMap k).getD 0
  ((frameShards (Tbl.get ([] : Tbl Word) j.shadow k) f).filter (fun s => bit s.1 31)).foldl (fun j s =>
    let c := j.shardClass (j.die k).owner s.1 s.2
    let key := 8 * fld s.1 24 4 + c.1
    let j := { j with shardCnt := Tbl.put 0 j.shardCnt key (Tbl.get 0 j.shardCnt key + 1) }
    if c.1 = 3 then
      let j := j.alarmEvent 0x2B [die, s.1, s.2, c.2.1] 4 die
      match (if c.2.2 = 0 then none else j.slotOfGroup c.2.2) with | some g => j.originate g | none => j
    else j) j

/-! ## D_FRAME (R41, R42, R122, R375) -/

/-- D_FRAME of the oldest open tick: frames not arrived are missed, the presence word goes out, shards are classified. -/
def Junction.dFrame (j : Junction) : Junction :=
  match j.openTick (·.frameClosed) with
  | none => j
  | some w =>
    let n := w.tick
    let j := (j.reachDue n 0).setWork { w with frameClosed := true }
    if !j.tray then j
    else
      let j := (List.range 32).foldl (fun j k =>
        if (j.rxStreams n k (fun s => s.kind == 0)).length ≠ 0 && !(bit w.seen.toNat k) then j.countPort k 24 else j) j
      let j := j.feed n (le 8 n ++ le 4 j.id ++ le 4 w.presence.toNat) (fun s => s.presence && decide (66 ≤ s.port))
      w.frames.foldl (fun j x => j.classify x.1 x.2) j

/-! ## The tray reduction (R122, R235 to R237, R251, R252) -/

/-- One field reduced over the dies of the tray (R233 to R237): its record and how many inputs were excluded. -/
def Junction.reduceField (j : Junction) (p : Plan) (w : TickWork) (present : BitVec 32) (f : Field) : Rec × Nat :=
  let mask := p.mask f.ctx
  ((List.range 32).filter (fun k => bit mask k && bit present.toNat k)).foldl (fun (a : Rec × Nat) k =>
    match trayInput f (Tbl.get [] j.shadow k) (Tbl.get [] w.frames k) with
    | some raw => (f.merge a.1 (f.recOf (put 28 1 + (Tbl.get none j.portMap k).getD 0) raw), a.2)
    | none => (a.1, a.2 + 1)) (f.empty, 0)

/-- The merge of a tray has completed (R252). -/
def Junction.trayMerge (j : Junction) (w : TickWork) : Junction :=
  match j.planOf w.tick with
  | none => j
  | some p =>
    let (present, alone) := j.presentOf w
    let out := p.fields.map (fun f => j.reduceField p w present f)
    let ex := (List.zip (List.range out.length) out).foldl (fun (t : Tbl Nat) (x : Nat × Rec × Nat) => if x.2.2 = 0 then t else Tbl.incr t x.1 x.2.2) j.exclusions
    ({ j with exclusions := ex }).setWork { w with present := present, alone := alone, recs := out.map (fun (x : Rec × Nat) => x.1), merged := true }

/-- A presence word of tick n may still come in time (R122, R253): the twin is there, and a copy has neither arrived nor passed its deadline. -/
def Junction.presencePending (j : Junction) (n : Nat) : Bool :=
  !j.twin.lost && [66, 67].any (fun p => (j.rxStreams n p (fun s => s.presence)).any (fun s =>
    decide ((j.clk.time : Int) < j.dueNs n s.time) && !((j.port p).streams.any (fun r => r.id == s.id && r.tick == n && r.taken))))

/-- The lane cap of tick n (R252). -/
def Junction.laneCap (j : Junction) (n : Nat) : Nat := match j.imageOf n with | some t => Sys2Proof.Machine.laneCap t.step | none => 0

/-- A batch of merges completes: the tray's reduction, which starts once the partner's presence word is known or past its deadline, or the
children resolved so far, as far as the lanes of the tick go (R122, R250, R252, R253). -/
def Junction.mergeBatch (j : Junction) : Junction :=
  if j.tray then
    match j.openTick (fun w => w.trayClosed || !w.frameClosed || w.merged) with
    | some w =>
      let fits := match j.planOf w.tick with
        | some p => decide (popcount 32 p.anyMask * p.fields.length ≤ j.laneCap w.tick)
        | none => true
      if j.presencePending w.tick || !fits then j else j.trayMerge w
    | none => j
  else
    match j.openTick (fun w => w.reduceClosed || w.merging.length == 0) with
    | some w =>
      (match j.planOf w.tick with
      | some p =>
        let room := j.laneCap w.tick / max 1 p.childLanes - popcount 32 w.present.toNat
        let start := if w.recs.length = 0 then p.fields.map Field.empty else w.recs
        let recs := (w.merging.take room).foldl (fun r x => mergeRecs p.fields r (decodeRecs p.fields (x.2.drop 32))) start
        let present := (w.merging.take room).foldl (fun a x => a ||| BitVec.ofNat 32 (put x.1 1)) w.present
        j.setWork { w with recs := recs, present := present, merging := w.merging.drop room }
      | none => j)
    | none => j

/-! ## Child partials (R25, R250) -/

/-- The entity of the child pair in a slot (R20, R25). -/
def Junction.childEntity (j : Junction) (k : Nat) : Nat :=
  let idx := (Tbl.get none j.portMap k).getD 0
  if j.role.level = 1 then put 28 7 + idx else put 28 3 + put 15 (j.role.level - 1) + put 1 idx

/-- What is compared of two copies of a child partial: every byte but SENDER, which names the twin that sent the copy (R248, R250, R256,
log 78). -/
def partialCore (b : Bytes) : Bytes := sub b 0 8 ++ b.drop 12

/-- The same for copies of the statistics: all but SENDER (R259, R261, R262, log 78). -/
def statsCore (b : Bytes) : Bytes := sub b 0 8 ++ b.drop 12

/-- Resolve child slot k once the fate of both copies is known (R250). -/
def Junction.resolveChild (j : Junction) (w : TickWork) (k : Nat) : Junction :=
  let fate := fun (q : Nat) => w.copies.any (fun c => c.port == q) || (j.rxStreams w.tick q (fun s => s.kind == 1)).length == 0
  let copy := fun (q : Nat) => (w.copies.find? (fun c => c.port == q)).bind (·.data)
  if bit w.resolved.toNat k || !(fate k) || !(fate (32 + k)) then j.setWork w
  else
    let w := { w with resolved := w.resolved ||| BitVec.ofNat 32 (put k 1) }
    match copy (32 + k), copy k with
    | some a, some b =>
      if partialCore a = partialCore b then j.setWork { w with merging := w.merging ++ [(k, a)] }
      else ((j.setWork w).countPort (32 + k) 28).bareAlarm 4 (j.childEntity k) [j.childEntity k, w.tick]
    | some a, none => j.setWork { w with merging := w.merging ++ [(k, a)] }
    | none, some b => j.setWork { w with merging := w.merging ++ [(k, b)] }
    | none, none => j.setWork w

/-- A complete copy of a child partial (R250). -/
def Junction.partialReceived (j : Junction) (q : Nat) : Junction :=
  match j.takeStream q (fun s => s.kind == 1) with
  | (some (_, n, data), j') =>
    match j'.work n, j'.planOf n with
    | some w, some p =>
      if w.reduceClosed || w.copies.any (fun c => c.port == q) then j'
      else
        let k := q % 32
        let b := data.take p.partialLen
        let ok := rd b 0xC 4 == p.digest && fld (rd b 0x14 4) 0 18 == p.expectedOf k
        let j' := if ok then j' else j'.bareAlarm 6 (j'.childEntity k) [j'.childEntity k, rd b 0xC 4, rd b 0x14 4]
        j'.resolveChild { w with copies := w.copies ++ [⟨q, if ok then some b else none⟩] } k
    | _, _ => j'
  | (none, _) => j

/-! ## Statistics relayed (R262) -/

/-- The uplink whose copy of tick n's statistics is relayed: the cross uplink only when the primary copy is late-missing, which also a
withdrawn or VOID copy and a link out of service are (R43, R262). -/
def Junction.statsFrom (j : Junction) (n : Nat) : Nat :=
  let x := j.port j.role.primaryUp
  let late := x.streams.any (fun r => r.tick == n && (r.bad || r.void) && (j.rxStreams n j.role.primaryUp (fun s => s.kind == 2 && s.id == r.id)).length != 0)
  if x.st ≠ .active || late then j.role.crossUp else j.role.primaryUp

/-- A statistics flit on an uplink is relayed on every downlink whose map carries it, 40 ns ahead of its slot or not at all (R262). -/
def Junction.statsFlit (j : Junction) (p i : Nat) : Junction :=
  if j.tray || !j.full then j
  else
    match (j.port p).streams.find? (fun r => (j.rxStreams r.tick p (fun s => s.kind == 2 && s.id == r.id)).length != 0 && !r.bad && r.got.any (fun g => g.1 == i)) with
    | none => j
    | some r =>
      if p ≠ j.statsFrom r.tick then j else
      let d := match r.got.find? (fun g => g.1 == i) with | some g => g.2 | none => []
      match (if j.switched r.tick then none else j.imageOf r.tick) with
      | none => j
      | some t =>
        (t.streams.filter (fun s => s.tx && s.kind == 2)).foldl (fun j s =>
          match (t.slotsOf s).find? (fun x => x.2.index == i) with
          | some x =>
            let at_ : Int := j.edgeOf (r.tick + s.tickOffset) + ((x.1 * slotPs (j.role.rate400 s.port) * uNs / 1000 : Nat) : Int)
            if (j.clk.time : Int) + (40 * uNs : Nat) ≤ at_ then
              j.onPort s.port (fun y => { y with vc0 := y.vc0.filter (fun z => !(z.id == s.id + 65536 * (i + 1) && z.tick == r.tick)) ++ [⟨s.id + 65536 * (i + 1), r.tick, d⟩] })
            else j
          | none => j) j

/-- A receive stream's arrival deadline passes for a tick (R43, R250): an incomplete copy is late-missing. -/
def Junction.streamDeadline (j : Junction) (p id n : Nat) : Junction :=
  match (j.rxStreams n p (fun s => s.id == id)).head?, j.work n with
  | some s, some w =>
    let j := { j with clk := j.clk.reach (j.dueNs n s.time) }
    let done := (j.port p).streams.any (fun r => r.id == id && r.tick == n && (r.taken || (r.whole s.flits && j.inTime s n r.arrived)))
    if done then j
    else
      let j := j.countPort p 23
      let j := j.onPort p (fun x => { x with streams := x.streams.filter (fun r => !(r.id == id && r.tick == n)) ++ [⟨id, n, [], true, true, true, 0, false⟩] })
      let j := if s.kind = 2 && p = j.role.primaryUp then (List.range 16).foldl (fun (j : Junction) i => j.statsFlit j.role.crossUp i) j else j
      if s.kind = 1 && !w.reduceClosed && !(w.copies.any (fun c => c.port == p)) then j.resolveChild { w with copies := w.copies ++ [⟨p, none⟩] } (p % 32) else j
  | _, _ => j

/-! ## Publication, partials, digests (R254 to R257, R426, R427) -/

/-- Publish a result of a field for the contexts that see it (R426, R427). -/
def Junction.publishField (j : Junction) (n i : Nat) (f : Field) (b : Bytes) : Junction :=
  (j.viewers f.ctx).foldl (fun j c =>
    let d := Tbl.get 0 j.exp.fields (65536 * c + i)
    if d ≠ 0 && n % 2 ^ (d - 1) = 0 then j.export_ c 5 n i (le 8 n ++ le 2 i ++ le 1 j.role.level ++ le 1 0 ++ le 4 b.length ++ b) else j) j

/-- The output of a tick leaves at its deadline: partial or published results, digest, statistics (R254 to R258). -/
def Junction.output (j : Junction) (w : TickWork) (p : Plan) : Junction :=
  let n := w.tick
  let root := j.role.level == 3
  let void := if j.tray then !w.merged else w.merging.length != 0
  let w := if j.tray && void then { w with present := (j.presentOf w).1, alone := (j.presentOf w).2 } else w
  let recs := if w.recs.length = 0 || void then p.fields.map Field.empty else w.recs
  let digest := p.outputDigest root n w.present.toNat recs
  let j := if void then
      let m := j.boot.mergeFails + 1
      let j := ({ j with boot := { j.boot with mergeFails := m, relayNext := if 4 ≤ m && j.full then some 4 else j.boot.relayNext } }).bump 3 1
      (j.error 6 0 (1 + j.role.level)).logE 0x21 [n]
    else { j with boot := { j.boot with mergeFails := 0 } }
  let results := (List.zip (List.range p.fields.length) (List.zip p.fields (p.results recs))).filter (fun x => root || x.2.1.pubLocal)
  let stats := if root then some (p.statsBytes n j.id recs) else none
  let j := j.setWork { w with trayClosed := true, reduceClosed := true, void := void, recs := recs, digest := some digest,
                              results := results.map (fun x => (x.1, x.2.2)), stats := if root then stats else w.stats }
  let j := if root || void then j else j.feed n (p.partialBytes n j.id w.present.toNat w.alone recs) (fun s => s.kind == 1)
  let j := match stats with | some b => j.feed n b (fun s => s.kind == 2) | none => j
  let j := j.feed n (digestBytes n digest w.present.toNat w.alone void j.id) (fun s => s.digest j.role.level)
  results.foldl (fun j x => j.publishField n x.1 x.2.1 x.2.2) j

/-- D_TRAY of the oldest open tick: the partial leaves, and every die slot is evaluated (R387). -/
def Junction.dTray (j : Junction) : Junction :=
  match j.openTick (·.trayClosed) with
  | none => j
  | some w =>
    let n := w.tick
    let j := j.reachDue n 1
    let w := if j.tray then w else { w with trayClosed := true }
    if !j.tray then j.setWork w
    else
      let j := match j.planOf n with | some p => j.output w p | none => j.setWork { w with trayClosed := true, reduceClosed := true }
      let alone := (j.presentOf w).2
      let theirs := if alone then 0 else (w.partnerWord.getD 0).toNat
      (List.range 32).foldl (fun j k =>
        if (Tbl.get none j.portMap k).isSome then
          let stale := bit w.stale.toNat k
          j.evalDie n k (bit w.presence.toNat k || bit theirs k || stale) stale
        else j) j

/-! ## Twin comparison (R257, R379) -/

/-- The twin's digest arrives in time: a valid exchange (R28, R30, R257). -/
def Junction.twinDigestReceived (j : Junction) (p : Nat) : Junction :=
  match j.takeStream p (fun s => s.digest j.role.level && decide (66 ≤ s.port)) with
  | (some (_, n, data), j') =>
    let j' := j'.validExchange
    match j'.work n with
    | some w => if w.twinDigest.isNone && !w.compared then j'.setWork { w with twinDigest := some (data.take 28) } else j'
    | none => j'
  | (none, _) => j

/-- Compare the digests of a tick (R257, R379). -/
def Junction.compareTwin (j : Junction) (w : TickWork) : Junction :=
  let j := j.setWork { w with compared := true }
  match w.digest with
  | none => j
  | some d =>
      let fl := fun (b : Bytes) => rd b 0x14 4 % 4
      match w.twinDigest with
      | none => j.bump 2 1
      | some b =>
        if w.alone || w.void || fl b ≠ 0 || rd b 0x10 4 ≠ w.present.toNat || rd b 0 8 ≠ w.tick then j.bump 2 1
        else if rd b 8 8 = d then j.bump 0 1
        else (j.bump 1 1).alarmEvent 0x2C [w.tick, d, rd b 8 8, j.id] 4 j.entity

/-- D_RACK, D_POD or D_ROOT, phase 2, 3 or 4 (R255, R379): this level's reduction closes, or the digests are compared. -/
def Junction.dReduce (j : Junction) (phase : Nat) : Junction :=
  if phase = 1 + j.role.level then
    match j.openTick (·.reduceClosed) with
    | some w =>
      let j := j.reachDue w.tick phase
      (match j.planOf w.tick with | some p => j.output w p | none => j.setWork { w with reduceClosed := true })
    | none => j
  else if phase = 2 + j.role.level then
    match j.openTick (fun w => w.compared || !w.reduceClosed) with
    | some w => (j.reachDue w.tick phase).compareTwin w
    | none => j
  else j

/-! ## Fleet statistics (R258 to R263) -/

/-- A complete statistics stream on an uplink (R262, R263). -/
def Junction.statsStream (j : Junction) (p : Nat) : Junction :=
  match j.takeStream p (fun s => s.kind == 2) with
  | (some (_, n, data), j') =>
    match j'.work n with
    | some w =>
      if w.bcastClosed then j'
      else
        let wrong := crcOf crc64Ecma (sub data 32 (32 * rd data 0x10 2)) ≠ rd data 0x14 8
        let j' := if wrong && !j'.tray && p = j'.statsFrom n then j'.logE 0x23 [n] else j'
        j'.setWork (if p = j'.role.primaryUp then { w with statsPrim := some data } else { w with statsCross := some data })
    | none => j'
  | (none, _) => j

/-- D_BCAST of the oldest open tick (R262, R263): the statistics are accepted, or aged. -/
def Junction.dBcast (j : Junction) : Junction :=
  match j.openTick (·.bcastClosed) with
  | none => j
  | some w =>
    let n := w.tick
    let j := j.reachDue n 5
    if j.role.level = 3 then
      let j := j.compareTwin w
      let w := { ((j.work n).getD w) with bcastClosed := true }
      let j := { j with stats := match w.stats with | some b => some (n, b) | none => j.stats }.setWork w
      match w.stats, j.planOf n with
      | some b, some p => ((List.range 16).filter (fun c => p.fields.all (fun f => !f.broadcast || j.sees c f.ctx))).foldl (fun j c => j.export_ c 6 n j.exp.nextMsg b) j
      | _, _ => j
    else
      let differ := match w.statsPrim, w.statsCross with | some a, some b => statsCore a != statsCore b | _, _ => false
      let j := if differ then (j.countPort j.role.primaryUp 28).alarmEvent 0x23 [n] 4 j.entity else j
      let got := if differ then none else match w.statsPrim with | some a => some a | none => w.statsCross
      let ok := match got, j.planOf n with | some b, some p => statsOk p.digest n b | _, _ => false
      let j := j.setWork { w with bcastClosed := true, stats := if ok then got else none }
      if ok then { j with stats := got.map (fun b => (n, b)) } else j

end Sys2Proof.Machine
end

