-- ==== Sys2Proof/Machine/JnScore.lean ====
section
/-! DEFINITION. Scoring at a Junction: models of a tick, detectors and their actions, features, Waybill lookups, walks, siding pages, verdicts, history (R264 to R307, R350, R351, R354, R357). -/

namespace Sys2Proof.Machine

/-! ## Models and entities of a tick (R264, R278, R279, R334 to R343) -/

/-- The context scores tick n (R337). -/
def Junction.scores (j : Junction) (n c : Nat) : Bool :=
  match (j.ctx c).st with
  | .enabled => true
  | .draining => decide (n < (j.ctx c).drainFrom)
  | .disabled => false

/-- The model bundle active at t_n (R343). -/
def Junction.bundleOf (j : Junction) (n c : Nat) : Option Bundle :=
  j.bundles.foldl (fun r b =>
    if b.ctx = c && b.type = 0 && (b.st = .active || b.st = .retiring) && b.effective ≤ n && (match r with | some y => decide (y.effective ≤ b.effective) | none => true)
    then some b else r) none

/-- The sections of a kind. -/
def Bundle.sections (b : Bundle) (kind : Nat) : List Bytes :=
  let ss := bundleSections (rd b.data 0x28 4) b.plain
  ((List.zip (List.range ss.length) ss).filter (fun s => s.2.1 == kind && !(b.lost.contains s.1))).map (fun s => sub b.plain s.2.2.1 s.2.2.2)

/-- Insert into a list in rising order of a key. -/
def insertBy {α : Type} (key : α → Nat) (x : α) : List α → List α
  | [] => [x]
  | y :: t => if key x ≤ key y then x :: y :: t else y :: insertBy key x t

def sortBy {α : Type} (key : α → Nat) (l : List α) : List α := l.foldr (insertBy key) []

/-- Detector table, ensembles and groups of a bundle. -/
def Bundle.table (b : Bundle) : DetTable := DetTable.decode ((sectionsOf 0 (rd b.data 0x28 4) b.plain).headD [])
def Bundle.ensembles (b : Bundle) : List Ens := sortBy Ens.index ((b.sections 1).map Ens.decode)
def Bundle.groups (b : Bundle) : List Grp := sortBy Grp.group ((b.sections 2).map Grp.decode)

/-- The detector table of a context for tick n. -/
def Junction.tableOf (j : Junction) (n c : Nat) : Option DetTable := if j.scores n c then (j.bundleOf n c).map (·.table) else none
def Junction.ensOf (j : Junction) (n c : Nat) : List Ens := if j.scores n c then ((j.bundleOf n c).map (·.ensembles)).getD [] else []

/-- The entities of a SCOPE with the slot or port they come from (R20, R21, R264). -/
def Junction.entities (j : Junction) (n c scope job : Nat) : List (Nat × Nat) :=
  match scope with
  | 3 => ((j.uplinks ++ (if j.role.twinB then [] else [66, 67]))).map (fun p => (put 28 4 + put 17 (p - 32) + j.id, p))
  | 4 => if j.role.level = 3 then [(job, 0)] else []
  | _ =>
    if !j.tray then []
    else
      let mask := match j.planOf n with | some p => p.mask c | none => 0
      (bitsSet 32 mask).filterMap (fun k => (Tbl.get none j.portMap k).map (fun d =>
        (if scope = 0 then put 28 1 + d else put 28 2 + put 17 (scope - 1) + d, k)))

/-! ## Inputs (R266, R271, R279) -/

def TickWork.frame? (w : TickWork) (k : Nat) : Option Bytes := (w.frames.find? (fun x => x.1 == k)).map (·.2)

/-- VALUE of a published scalar result (R243, R266): none with COUNT 0, and none of a record that has no scalar VALUE. -/
def resultValue (f : Field) (b : Bytes) : Option Fp :=
  if f.out = 3 || f.out = 5 || rd b 0xC 4 = 0 then none
  else
    let v := rd b 0 8
    some (match f.out with | 0 => Fp.decode fp32 v | 1 => Fp.decode fp64 v | 2 => Fp.ofRat (signed 64 v : Int) | _ => typeVal f.type v)

/-- The input of an entity for a plan field or port statistic (R266, R279). -/
def Junction.inputOf (j : Junction) (w : TickWork) (scope field k : Nat) : Option Fp :=
  match scope with
  | 3 => if (j.port k).st = .active then some (.fin false ((((w.statDelta.find? (fun x => x.1 == (k, field))).map (·.2)).getD 0 : Nat) : Rat)) else none
  | 4 => (j.planOf w.tick).bind (fun p => (p.fields[field]?).bind (fun f => ((w.results.find? (fun x => x.1 == field)).bind (fun x => resultValue f x.2)).map (fun v => v.round fp64)))
  | _ => (j.planOf w.tick).bind (fun p => (p.fields[field]?).bind (fun f => (w.frame? k).bind (fun b => (trayInput f (Tbl.get [] j.shadow k) b).map (typeVal f.type))))

/-- A detector is suppressed for a die (R271). -/
def Junction.suppressed (j : Junction) (w : TickWork) (e : Det) (k : Nat) : Bool :=
  match w.frame? k with
  | none => false
  | some f =>
    let sh := Tbl.get [] j.shadow k
    let frozen := match (j.planOf w.tick).bind (fun p => p.fields[e.input]?) with
      | some fld_ =>
        if 0x1DF < fld_.source then false
        else
          let m := (frameField sh f fld_.source).1
          let group := fld (Tbl.get 0 sh (0x1000 + m.index)).toNat 10 6
          let region := fld (Tbl.get 0 sh (8 + group / 16)).toNat (4 * (group % 16)) 4
          m.kind ≤ 1 && bit (rd f 0x28 2) region
      | none => false
    decide (e.scope ≤ 2) && (Nat.land (rd f 0x14 4 % 65536) e.suppress != 0 || (e.frozen && !(e.form == 2 && e.residual) && e.form != 3 && frozen))

/-- The statistics a context may use for a tick, with their age (R263). -/
def Junction.statsFor (j : Junction) (w : TickWork) (maxAge : Nat) : StatView :=
  match w.stats, j.stats with
  | some b, _ => some (b, 0)
  | none, some (p, b) => if p ≤ w.tick && w.tick - p ≤ maxAge then some (b, w.tick - p) else none
  | none, none => none

/-! ## Ensembles (R288 to R298) -/

def TickWork.walk? (w : TickWork) (c ens entity : Nat) : Option WalkSet := w.walks.find? (fun s => s.ctx == c && s.ens == ens && s.entity == entity)
def TickWork.setWalk (w : TickWork) (s : WalkSet) : TickWork :=
  { w with walks := w.walks.filter (fun x => !(x.ctx == s.ctx && x.ens == s.ens && x.entity == s.entity)) ++ [s] }

/-- The output of an ensemble for an entity, once every tree has been walked (R298). -/
def TickWork.ensOut (w : TickWork) (c : Nat) (e : Ens) (entity : Nat) : Option Fp :=
  (w.walk? c e.index entity).bind (fun s => if s.lost || s.walked.length ≠ e.trees.length then none else some (e.output s.sum))

/-- A feature of an entity: none while it is not resolved (R288 to R290). -/
def Junction.feature (j : Junction) (w : TickWork) (c : Nat) (t : DetTable) (scope entity k : Nat) (f : Nat × Nat × Nat) : Option Feat :=
  let stat := fun (off : Nat) =>
    if !w.bcastClosed then none
    else some (match j.statsFor w t.maxAge with
      | some (b, _) => (match statOf b f.2.1 with
        | some e => if bit (rd e 3 1) 0 then Feat.absent else Feat.of (some (
            if rd e 2 1 = 1 then Fp.decode fp64 (rd e off 8)
            else match (j.planOf w.tick).bind (fun p => p.fields[f.2.1]?) with
              | some fl => if off = 0x18 then .fin false (rd e off 8 : Nat) else (match fl.out with | 0 => Fp.decode fp32 (rd e off 8) | 1 => Fp.decode fp64 (rd e off 8) | 2 => Fp.ofRat (signed 64 (rd e off 8) : Int) | _ => typeVal fl.type (rd e off 8))
              | none => .nan))
        | none => Feat.absent)
      | none => Feat.absent)
  let eval := w.evals.find? (fun x => x.ctx == c && x.det == f.2.1 && x.entity == entity)
  match f.1 with
  | 0 => if w.frameClosed then some (Feat.of (j.inputOf w scope f.2.1 k)) else none
  | 1 => match w.residuals.find? (fun x => x.1 == (c, f.2.1, k)) with
    | some x => some (Feat.of (some (Fp.decode fp32 x.2.2)))
    | none => if w.residDone then some Feat.absent else none
  | 2 =>
    if (j.ctx c).rec_.wbSize = 0 then some Feat.absent
    else match w.lookups.find? (fun x => x.ctx == c && x.entity == entity) with
      | some l =>
        if !l.done then none
        else some (match l.found with
          | some b => if bit (rd b 8 8) f.2.1 then Feat.absent else Feat.of (some (Fp.decode fp32 (rd b (0x10 + 4 * f.2.1) 4)))
          | none => Feat.absent)
      | none => some Feat.absent
  | 3 => eval.map (fun x => match x.q with | some q => Feat.of (some q) | none => Feat.absent)
  | 4 => eval.map (fun x => match x.q with | some _ => Feat.of (some (.fin false (x.level : Nat))) | none => Feat.absent)
  | 5 => stat 0x10
  | 6 => stat 0x18
  | 7 => some (Feat.of (j.inputOf w 3 f.2.1 k))
  | 8 => if w.reduceClosed then some (Feat.of (j.inputOf w 4 f.2.1 k)) else none
  | _ => some (Feat.of (some (Fp.decode fp32 f.2.2)))

/-- The feature vector of an entity: fixed once every feature is resolved, or, at the feature deadline (`force`), with the rest
missing (R290). -/
def Junction.vector (j : Junction) (w : TickWork) (c : Nat) (t : DetTable) (e : Ens) (entity k : Nat) (force : Bool) : Option (List Feat) :=
  let fs := e.features.map (j.feature w c t e.scope entity k)
  if force || fs.all (·.isSome) then some (fs.map (fun x => x.getD Feat.absent)) else none

/-- Fix the vectors of an ensemble that can be fixed. -/
def Junction.fixVectors (j : Junction) (n c : Nat) (e : Ens) (force : Bool) : Junction :=
  match j.tableOf n c with
  | none => j
  | some t =>
    (j.entities n c e.scope t.job).foldl (fun j x =>
      match j.work n with
      | none => j
      | some w =>
        let s := (w.walk? c e.index x.1).getD ⟨c, e.index, x.1, none, [], ⟨0, 0, false, false, false⟩, false⟩
        if s.feats.isSome then j
        else match j.vector w c t e x.1 x.2 force with
          | some v => j.setWork (w.setWalk { s with feats := some v })
          | none => j) j

/-- D_BCAST + FEATURE_DEADLINE of an ensemble (R290). -/
def Junction.featureDeadline (j : Junction) (n c ens : Nat) : Junction :=
  match (j.ensOf n c).find? (fun e => e.index == ens) with
  | some e =>
    let j := { j with clk := j.clk.reach (j.dueNs n ((((j.imageOf n).map (fun (t : TtImage) => t.deadline 5)).getD 0) + e.deadline)) }
    j.fixVectors n c e true
  | none => j

/-! ## Waybill lookups (R292 to R294) -/

/-- The probe slots of an entity in its context's partition, with what they hold. -/
def Junction.probes (j : Junction) (c entity : Nat) : List (Nat × Bytes) :=
  (waybillProbes (j.ctx c).rec_.wbBase (j.ctx c).rec_.wbSize entity).map (fun i => (i, j.read (wayAddr i) 256))

/-- A lookup of an entity with what its probes hold now (R292, R294). -/
def Junction.lookupOf (j : Junction) (c ent : Nat) : Lookup :=
  let l := j.probes c ent
  let bad := l.any (fun x => (j.poisonAt (wayAddr x.1) 256).isSome)
  ⟨c, ent, false, if bad then none else (waybillFind ent l).bind (fun i => (l.find? (fun x => x.1 == i)).map (·.2)), bad⟩

/-- Issue the lookups of tick n that have not been issued, for every entity an ensemble with WAYBILL features will score (R294). -/
def Junction.issueLookups (j : Junction) (n : Nat) : Junction :=
  (List.range 16).foldl (fun j c =>
    if (j.ctx c).rec_.wbSize = 0 then j
    else
      let job := ((j.tableOf n c).map (·.job)).getD 0
      let ents := (((j.ensOf n c).filter (fun e => e.features.any (fun f => f.1 == 2))).flatMap (fun e => (j.entities n c e.scope job).map (·.1))).eraseDups
      ents.foldl (fun j ent =>
        match j.work n with
        | some w => if w.lookups.any (fun l => l.ctx == c && l.entity == ent) then j else j.setWork { w with lookups := w.lookups ++ [j.lookupOf c ent] }
        | none => j) j) j

/-- The lookups of ticks from m on see what has just taken effect at t_m: writes, bundles, records (R293, R294). -/
def Junction.relook (j : Junction) (m : Nat) : Junction :=
  (j.ticks.filter (fun w => decide (m ≤ w.tick))).foldl (fun (j : Junction) w =>
    (j.setWork { w with lookups := w.lookups.map (fun l => if l.done then l else j.lookupOf l.ctx l.entity) }).issueLookups w.tick) j

/-- A lookup completes (R292, R294): a hit, a miss, or an uncorrectable error, which poisons the line of the entry found, or of the first
probe (R353, log 92). -/
def Junction.lookupDone (j : Junction) (n c entity : Nat) (error : Bool) : Junction :=
  match j.work n with
  | none => j
  | some w =>
    match w.lookups.find? (fun l => l.ctx == c && l.entity == entity && !l.done) with
    | none => j
    | some l =>
      let err := error || l.failed
      let probes := j.probes c entity
      let slot := ((waybillFind entity probes).orElse (fun _ => (probes.head?).map (·.1))).getD 0
      let j := if error && !l.failed then j.poison 2 (wayAddr slot) else j
      let l' : Lookup := { l with done := true, found := if err then none else l.found, failed := err }
      let x := j.ctx c
      let x := if err then { x with wbErr := x.wbErr + 1 } else if l.found.isNone then { x with wbMiss := x.wbMiss + 1 } else x
      (j.setCtx c x).setWork { w with lookups := w.lookups.map (fun z => if z = l then l' else z) }

/-! ## Walks and siding pages (R295, R302 to R307) -/

/-- Where a tree is evaluated (R299, R302). -/
def Junction.placeOf (j : Junction) (n c ens tree : Nat) : Option Placed :=
  (j.bundleOf n c).bind (fun b => b.placing.bind (fun p => p.placed.find? (fun x => x.ens == ens && x.tree == tree)))

def pageKey (c page : Nat) : Nat := page + 2 ^ 20 * c

/-- The trees of a page are all walked, for every entity: its frame is freed (R303). -/
def Junction.freePages (j : Junction) (n c : Nat) : Junction :=
  match (j.bundleOf n c).bind (·.placing), j.work n with
  | some p, some w =>
    let job := ((j.tableOf n c).map (·.job)).getD 0
    let done := fun (page : Nat) => (p.placed.filter (fun x => x.page == some page)).all (fun x =>
      match (j.ensOf n c).find? (fun e => e.index == x.ens) with
      | some e => (j.entities n c e.scope job).all (fun y => match w.walk? c x.ens y.1 with | some s => s.walked.contains x.tree | none => false)
      | none => true)
    j.setWork { w with pages := (List.range p.pages.length).foldl (fun (t : Tbl Nat) i => if Tbl.get 0 t (pageKey c i) = 2 && done i then Tbl.put 0 t (pageKey c i) 3 else t) w.pages }
  | _, _ => j

/-- A placed tree can be walked: its engine is in service, or its page is loaded (R302, R303, R307). -/
def Junction.walkHere (j : Junction) (w : TickWork) (c : Nat) (p : Placed) : Bool :=
  match p.page with
  | none => !(bit j.boot.retired.toNat p.engine)
  | some pg => Tbl.get 0 w.pages (pageKey c pg) == 2

/-- The walks of a context that are ready and not done, in service order: tick, ensemble, entity, tree (R282, R290, R303). -/
def Junction.readyWalks (j : Junction) (c : Nat) : List Flight :=
  (sortBy TickWork.tick j.ticks).flatMap (fun w =>
    if w.scoreClosed then []
    else (j.ensOf w.tick c).flatMap (fun e =>
      (sortBy WalkSet.entity (w.walks.filter (fun s => s.ctx == c && s.ens == e.index && s.feats.isSome))).flatMap (fun s =>
        (List.range e.trees.length).filterMap (fun t =>
          match (if s.walked.contains t then none else j.placeOf w.tick c e.index t) with
          | some p => if j.walkHere w c p then some ⟨c, p.engine, w.tick, e.index, s.entity, t⟩ else none
          | none => none))))

/-- Give the free threads of a context's slice to its ready walks, k_c on each engine, in service order (R281, R282). -/
def Junction.serveCtx (j : Junction) (c : Nat) : Junction :=
  let ready := j.readyWalks c
  let k := (j.ctx c).rec_.threads
  let busy := j.flights.filter (fun f => f.ctx != c || ready.contains f)
  { j with flights := ready.foldl (fun (fs : List Flight) f =>
      if fs.contains f || k ≤ (fs.filter (fun x => x.ctx == c && x.engine == f.engine)).length then fs else fs ++ [f]) busy }

/-- Fix what vectors can be fixed and serve the walks of every context (R282, R290). -/
def Junction.serve (j : Junction) : Junction :=
  (List.range 16).foldl (fun (j : Junction) c =>
    ((j.ticks.filter (fun w => !w.scoreClosed)).foldl (fun (j : Junction) w => (j.ensOf w.tick c).foldl (fun (j : Junction) e => j.fixVectors w.tick c e false) j) j).serveCtx c) j

/-- A thread has walked one tree for one entity (R282, R295, R296): a walk in progress returns; `fault` is an uncorrectable error, its
engine and row (R306). -/
def Junction.treeWalk (j : Junction) (n c ens entity tree : Nat) (fault : Option (Nat × Nat)) : Junction :=
  match (j.ensOf n c).find? (fun e => e.index == ens), j.work n, j.flights.find? (fun f => f.tick == n && f.ctx == c && f.ens == ens && f.entity == entity && f.tree == tree) with
  | some e, some w, some fl =>
    (match w.walk? c ens entity with
    | some s =>
      match s.feats with
      | none => j
      | some fv =>
        let j := { j with flights := j.flights.erase fl }
        let t := e.trees.getD tree (0, 0, 0)
        let leaf := match fault with | some _ => none | none => e.walk t.1 fv (t.2.1 + 1) 0
        let s := match leaf with
          | some v => { s with walked := s.walked ++ [tree], sum := s.sum.merge (Acc.of (Fp.decode fp32 v)) }
          | none => { s with walked := s.walked ++ [tree], lost := true }
        let j := match fault with | some (eng, row) => (j.error 1 eng row).logE 0x24 [eng, row] | none => j
        (j.setWork (w.setWalk s)).freePages n c
    | none => j)
  | _, _, _ => j

/-- Page frames in use on an engine, of every context and tick (R304). -/
def Junction.framesUsed (j : Junction) (eng : Nat) : Nat :=
  j.ticks.foldl (fun a w => a + ((w.pages.filter (fun x => x.2 == 2 &&
    (match (j.bundleOf w.tick (x.1 / 2 ^ 20)).bind (·.placing) with
    | some p => ((p.pages[x.1 % 2 ^ 20]?).map (·.1)) == some eng
    | none => false))).length)) 0

/-- The siding page an address of the near tier holds (R346, log 92). -/
def sidingAddr (page : Nat) : Nat := 0x9C0000000 + 65536 * page

/-- The siding channel has fetched the next page of a context (R303, R305); `ok` false is an uncorrectable error, which the rebuild from
the bundle copy clears before the next use (R353). -/
def Junction.pageFetched (j : Junction) (n c : Nat) (ok : Bool) : Junction :=
  match (j.bundleOf n c).bind (·.placing), j.work n with
  | some p, some w =>
    let st := fun (i : Nat) => Tbl.get 0 w.pages (pageKey c i)
    match (List.range p.pages.length).find? (fun i => decide (st i ≤ 1)) with
    | none => j
    | some i =>
      let eng := ((p.pages[i]?).map (·.1)).getD 0
      if 2 ≤ j.framesUsed eng || w.scoreClosed || !(j.scores n c) then j
      else if ok then (j.setWork { w with pages := Tbl.put 0 w.pages (pageKey c i) 2 }).freePages n c
      else
        let j := { j.poison 2 (sidingAddr i) with poisoned := j.poisoned }
        if st i = 0 then j.setWork { w with pages := Tbl.put 0 w.pages (pageKey c i) 1 }
        else
          let ens := ((p.placed.find? (fun x => x.page == some i)).map (·.ens)).getD 0
          (j.setWork { w with pages := Tbl.put 0 w.pages (pageKey c i) 4 }).logE 0x25 [ens, i]
  | _, _ => j

/-! ## Detector evaluation (R266 to R275) -/

def detKey (c det entity : Nat) : Nat := entity + 2 ^ 32 * (det + 64 * c)

/-- The residual of a stream for a slot has been delivered (R311). -/
def TickWork.residual? (w : TickWork) (c stream k : Nat) : Option Fp :=
  (w.residuals.find? (fun x => x.1 == (c, stream, k))).map (fun x => Fp.decode fp32 x.2.2)

/-- A pair is ready (R275, R278); a residual that the pass did not deliver is known to be missing. -/
def Junction.pairReady (j : Junction) (w : TickWork) (c : Nat) (e : Det) (entity k : Nat) : Bool :=
  match e.form with
  | 3 => match (j.ensOf w.tick c).find? (fun x => x.index == e.input) with | some x => (w.ensOut c x entity).isSome | none => false
  | 2 => if e.residual then (w.residual? c e.input k).isSome || w.residDone else if e.scope = 4 then w.reduceClosed else w.bcastClosed
  | _ => if e.scope = 4 then w.reduceClosed else w.bcastClosed

/-- The actions of a level change (R274). -/
def Junction.detActions (j : Junction) (n : Nat) (e : Det) (old new : Nat) (q : Fp) (entity k : Nat) : Junction :=
  if old = new then j
  else
    let words := [e.id, entity, old + put 2 new, (q.round fp32).encode fp32]
    let (j, b) := if bit e.action 0 then j.event 0x22 words else (j, j.ownRecord 0x22 0 true words)
    let j := if bit e.action 1 && new = 2 then j.sendAlarm 5 entity b else j
    let j := if bit e.action 2 && old < new && e.scope ≤ 2 then j.signal k 6 0 else j
    if bit e.action 3 && new = 2 && e.scope = 0 then
      (List.range 256).foldl (fun j g =>
        match j.work n with
        | some w =>
          let s := j.slot g
          if s.entry.valid && s.entry.abort && bit s.entry.mask k && !(w.aborted.contains (k, g)) then
            (j.setWork { w with aborted := w.aborted ++ [(k, g)] }).originate g
          else j
        | none => j) j
    else j

/-- Evaluate a ready pair once (R266 to R272). -/
def Junction.evalPair (j : Junction) (n c : Nat) (t : DetTable) (e : Det) (entity k : Nat) : Junction :=
  match j.work n with
  | none => j
  | some w =>
    if w.scoreClosed || w.evals.any (fun x => x.ctx == c && x.det == e.id && x.entity == entity) || !(j.pairReady w c e entity k) then j
    else
      let key := detKey c e.id entity
      let st0 := Tbl.get DetState.fresh j.det key
      let restored := decide (e.scope ≤ 2) && (match w.frame? k with | some f => bit (rd f 0x14 4) 7 | none => false)
      let st := if restored then { st0 with sp := 0, sn := 0 } else st0
      let y := ((j.ensOf n c).find? (fun x => x.index == e.input)).bind (fun x => w.ensOut c x entity)
      let u := w.residual? c e.input k
      let r := e.eval st (j.suppressed w e k) (j.inputOf w e.scope e.input k) (j.statsFor w t.maxAge) u y
      let w := { w with undo := w.undo ++ [(key, st0)] }
      match r with
      | .skip fl =>
        ({ j with det := Tbl.put DetState.fresh j.det key st }).setWork { w with evals := w.evals ++ [(⟨c, e.id, entity, fl, none, st.level⟩ : EvalRec)] }
      | .done q sp sn =>
        let st := if e.form = 2 then { st with sp := sp, sn := sn } else st
        let st' := e.update st q
        let j := ({ j with det := Tbl.put DetState.fresh j.det key st' }).setWork { w with evals := w.evals ++ [(⟨c, e.id, entity, 0, some q, st'.level⟩ : EvalRec)] }
        j.detActions n e st.level st'.level q entity k

/-- A batch: every ready pair of a context in a tick (R275). -/
def Junction.detBatch (j : Junction) (n c : Nat) : Junction :=
  match j.tableOf n c with
  | none => j
  | some t => t.dets.foldl (fun j e => (j.entities n c e.scope t.job).foldl (fun j x => j.evalPair n c t e x.1 x.2) j) j

/-! ## Verdicts (R273, R276 to R278) -/

def verdictKey (c entity : Nat) : Nat := entity + 2 ^ 32 * c

/-- The verdict of an entity of a context (R273, R276, R277). -/
def Junction.verdict (j : Junction) (w : TickWork) (c : Nat) (t : DetTable) (scope entity k : Nat) : Junction :=
  let dets := t.dets.filter (fun e => e.scope == scope)
  let evs := w.evals.filter (fun x => x.ctx == c && x.entity == entity)
  let done := fun (e : Det) => evs.any (fun x => x.det == e.id)
  let late := dets.any (fun e => e.form != 3 && (if e.form = 2 && e.residual then (w.residual? c e.input k).isSome else j.pairReady w c e entity k) && !(done e))
  let extra := (dets.filter (fun e => !(done e) && (e.form == 3 || (e.form == 2 && e.residual)))).map (fun e =>
    (⟨c, e.id, entity, e.barred (j.suppressed w e k) none none none none, none, 0⟩ : EvalRec))
  let j := if late then
      { j with det := w.undo.reverse.foldl (fun (d : Tbl DetState) (x : Nat × DetState) => if x.1 % 2 ^ 32 = entity && x.1 / 2 ^ 38 = c then Tbl.put DetState.fresh d x.1 x.2 else d) j.det }
    else j
  let evs := if late then [] else evs
  let level := fun (e : Det) => match evs.find? (fun x => x.det == e.id) with | some x => x.level | none => (Tbl.get DetState.fresh j.det (detKey c e.id entity)).level
  let f := if scope ≤ 2 then w.frame? k else none
  let die := decide (scope ≤ 2)
  let key := verdictKey c entity
  let age := match j.statsFor w t.maxAge with | some (_, a) => a | none => 0
  let env : VerdictEnv := {
    tick := w.tick, entity := entity, ctx := c, scorer := j.id, missed := die && f.isNone, dead := die && (j.die k).st == .dead,
    oneSided := die && f.isSome && (match w.partnerWord with | some q => !(bit q.toNat k) && !j.twin.lost | none => false),
    untimed := j.clk.untimed || (match f with | some b => bit (rd b 0x14 4) 0 | none => false), late := late, statsAge := age,
    aux := match scope, f with
      | 0, some b => rd b 0x18 4
      | 4, _ => (match (topDet t (evs.filter (fun x => x.q.isSome))).bind (fun x => t.dets.find? (fun d => d.id == x.det)) with
        | some d => (match (j.planOf w.tick).bind (fun p => p.fields[d.input]?), w.results.find? (fun x => x.1 == d.input) with
          | some fl, some r => if (fl.op = 2 || fl.op = 3) && d.form ≠ 3 then rd r.2 8 4 else 0
          | _, _ => 0)
        | none => 0)
      | _, _ => 0,
    prev := (let v := Tbl.get 0 j.verdictPrev key; if v / 4 = w.tick then v % 4 else 0) }
  let (b, st) := verdictOf t env (if late then [] else evs ++ extra) (dets.map (fun e => (e, level e)))
  let j := { j with verdictPrev := Tbl.put 0 j.verdictPrev key (4 * (w.tick + 1) + st % 4) }
  match j.work w.tick with
  | some w => j.setWork { w with verdicts := w.verdicts ++ [b] }
  | none => j

/-- An update of a tick up to n runs or is still to come, so that the bundles active at it stay (R332, R343, log 92). -/
def Junction.updating (j : Junction) (n : Nat) : Bool :=
  (match j.seqRun with | some s => decide (s.tick ≤ n) | none => false)
  || (j.tray && !j.boot.seqFailed && (match j.work n with
    | some w => (List.range 16).any (fun c => j.scores n c && (((j.bundleOf n c).map (·.groups)).getD []).any (fun g => !(w.groups.contains (g.ctx, g.group))))
    | none => false))

/-- D_SCORE_END of the oldest open tick (R277, R304, R343): verdicts are formed, pages abandoned, replaced bundles freed. -/
def Junction.dScoreEnd (j : Junction) : Junction :=
  match j.openTick (·.scoreClosed) with
  | none => j
  | some w =>
    let n := w.tick
    let j := j.reachDue n 6
    let j := (List.range 16).foldl (fun j c =>
      match j.tableOf n c with
      | none => j
      | some t =>
        let scopes := [0, 1, 2, 3, 4].filter (fun s => t.dets.any (fun e => e.scope == s))
        scopes.foldl (fun j s => (j.entities n c s t.job).foldl (fun j x => match j.work n with | some w => j.verdict w c t s x.1 x.2 | none => j) j) j) j
    let j := match j.work n with
      | some w =>
        let left := (List.range 16).foldl (fun (t : Tbl Nat) c =>
          match (if j.scores n c then (j.bundleOf n c).bind (·.placing) else none) with
          | some p => (List.range p.pages.length).foldl (fun (t : Tbl Nat) i => if Tbl.get 0 t (pageKey c i) ≤ 2 then Tbl.put 0 t (pageKey c i) 4 else t) t
          | none => t) w.pages
        j.setWork { w with scoreClosed := true, pages := left, verdicts := sortBy (fun b => rd b 8 4 + 2 ^ 32 * (rd b 0xC 1 % 16)) w.verdicts }
      | none => j
    if j.updating n then j
    else { j with bundles := j.bundles.filter (fun b => !(b.st == .retiring && j.bundles.any (fun x => x.ctx == b.ctx && x.type == b.type && x.st == .active && decide (x.effective ≤ n + 1)))) }

/-! ## History and the verdict journal (R350, R351, R354, R357) -/

/-- Bytes a ring holds. -/
def ringBytes (l : List Bytes) : Nat := l.foldl (fun a b => a + b.length) 0

/-- Drop the oldest copied blocks until `need` more bytes fit: the blocks kept and how many went. -/
def evict (cap need : Nat) : List (Bytes × Bool) → List (Bytes × Bool) × Nat
  | [] => ([], 0)
  | (b, c) :: t =>
    if ringBytes (((b, c) :: t).map (·.1)) + need ≤ cap || !c then ((b, c) :: t, 0) else let (l, n) := evict cap need t; (l, n + 1)

/-- The far ring is 64 MiB or more behind (R351). -/
def Hist.behind (h : Hist) : Bool := decide (67108864 ≤ ringBytes ((h.near.filter (fun x => !x.2)).map (·.1)))

/-- Write a context's history block of a tick into its near ring (R350, R351). -/
def Junction.history (j : Junction) (n c : Nat) (vs : List Bytes) : Junction :=
  let r := (j.ctx c).rec_
  let cap := r.histNear * 67108864
  if vs.length = 0 || cap = 0 then j
  else
    let proj := ((vs.filter (fun v => rd v 8 4 / 2 ^ 28 == 1)).map (fun v =>
      match (j.slotOfDie (rd v 8 4 % 2 ^ 17)).bind (fun k => (j.work n).bind (fun w => w.frame? k)) with
      | some f => fit r.histProj f
      | none => zeros r.histProj)).flatten
    let h := j.histOf c
    let x := j.ctx c
    let size := 16 + 48 * vs.length + proj.length
    let (near, gone) := evict cap size h.near
    if (decide (0 < r.histFar) && h.behind) || cap < ringBytes (near.map (·.1)) + size then
      j.setCtx c { x with histDropped := x.histDropped + 1 }
    else
      let lost := h.lostNear || gone != 0
      let b := le 8 n ++ le 1 c ++ le 1 (b2n lost) ++ le 2 vs.length ++ le 2 r.histProj ++ le 2 0 ++ vs.flatten ++ proj
      (j.setHist c { h with near := near ++ [(b, r.histFar == 0)], lostNear := lost }).setCtx c { x with histOver := x.histOver + gone }

/-- The near ring copies a batch of at most 2 MiB to the far ring (R351). -/
def takeBatch : Nat → List (Bytes × Bool) → List Bytes
  | _, [] => []
  | room, (b, c) :: t => if c then takeBatch room t else if b.length ≤ room then b :: takeBatch (room - b.length) t else []

def Junction.farCopy (j : Junction) (c : Nat) : Junction :=
  let h := j.histOf c
  let cap := (j.ctx c).rec_.histFar * 1073741824
  if cap = 0 then j
  else
    let bs := takeBatch 2097152 h.near
    let near := (h.near.foldl (fun (a : List (Bytes × Bool) × Nat) x => if x.2 || a.2 = 0 then (a.1 ++ [x], a.2) else (a.1 ++ [(x.1, true)], a.2 - 1)) ([], bs.length)).1
    let (far, gone) := evict cap (ringBytes bs) (h.far.map (fun b => (b, true)))
    let x := j.ctx c
    (j.setHist c { h with near := near, far := far.map (·.1) ++ bs, lostFar := h.lostFar || gone != 0 }).setCtx c { x with histOver := x.histOver + gone }

/-- A write that the Junction controls: at most 40,000,000 B in any 10 s (R357). The flag says it may be made. -/
def Store.spend (s : Store) (now size : Nat) : Store × Bool :=
  let ws := s.writes.filter (fun x => decide (now < x.1 + 10 * uSec))
  let sum := ws.foldl (fun a x => a + x.2) 0
  if sum + size ≤ 40000000 then ({ s with writes := ws ++ [(now, size)] }, true) else ({ s with writes := ws }, false)

/-- A verdict with DEAD set or STATE ALARM enters the journal's ring (R354, R357). -/
def Junction.journal (j : Junction) (b : Bytes) : Junction :=
  let st := rd b 0xD 1
  if st % 4 = 2 || bit st 3 then
    let (s, ok) := j.store.spend j.clk.up 48
    if ok then
      let l := s.journal ++ [b]
      { j with store := { s with journal := l.drop (l.length - 27262976 / 48) } }
    else { j with store := { s with journalDropped := s.journalDropped + 1 } }
  else j

/-- D_PUBLISH of the oldest open tick (R277, R350): history, journal, export queue. -/
def Junction.dPublish (j : Junction) : Junction :=
  match j.openTick (·.published) with
  | none => j
  | some w =>
    let n := w.tick
    let j := (j.reachDue n 7).setWork { w with published := true }
    (List.range 16).foldl (fun j c =>
      let vs := w.verdicts.filter (fun v => rd v 0xC 1 % 16 == c)
      let j := j.history n c vs
      vs.foldl (fun j v =>
        let st := rd v 0xD 1
        let j := j.journal v
        let x := j.ctx c
        let j := j.setCtx c { x with published := x.published + 1 }
        if (st % 4 ≠ 0 || bit st 2) && j.sees c (j.ownerOf (rd v 8 4)) then
          let held := ((j.exp.stream c 2).held).length
          let j := j.export_ c 2 n (rd v 8 4) v
          if held < ((j.exp.stream c 2).held).length then let x := j.ctx c; j.setCtx c { x with exported := x.exported + 1 } else j
        else j) j) j

/-- The verdict-backlog attention bit of a context (R277, R351, R453). -/
def Junction.backlog (j : Junction) (c : Nat) : Bool :=
  (j.ctx c).st != .disabled && (decide ((j.ctx c).rec_.exportHigh < ((j.exp.stream c 2).held).length)
    || (decide (0 < (j.ctx c).rec_.histFar) && (j.histOf c).behind))

end Sys2Proof.Machine
end

