-- ==== Sys2Proof/Machine/JnForecast.lean ====
section
/-! DEFINITION. Forecasters at a tray Junction: residual pass, staging, instructions, commit (R308 to R312, R324, R328 to R332). -/

namespace Sys2Proof.Machine

/-- The groups that run in tick n, in ascending context and group order (R310, R332). -/
def Junction.groupsOf (j : Junction) (n : Nat) : List Grp :=
  if !j.tray || j.boot.seqFailed then []
  else (List.range 16).flatMap (fun c => if j.scores n c then ((j.bundleOf n c).map (·.groups)).getD [] else [])

def grpKey (c g : Nat) : Nat := 64 * c + g
def rowKey (c stream slot : Nat) : Nat := 65536 * c + 32 * stream + slot

/-- The address of a row's state slot (R328). -/
def rowAddr (c stream slot : Nat) : Nat := stateAddr c + (stream * 32 + slot) * 576

/-- A forecast entry of local memory: FOR_TICK, FORECAST and SCALE, WARM (R310, R327); a fresh one predicts no tick. -/
def Junction.entry (j : Junction) (c stream slot : Nat) : Nat × Nat × Nat := Tbl.get (2 ^ 64 - 1, 0, 0) j.fc (rowKey c stream slot)

/-- The state slot of a row in the near tier. -/
def Junction.row (j : Junction) (g : Grp) (r : Nat) : RowState :=
  RowState.decode g.d (j.read (rowAddr g.ctx (g.rowOf r).1 (g.rowOf r).2) (64 + 4 * g.d))

/-- Row r lies in its context's SLOT_MASK (R309). -/
def Junction.rowIn (j : Junction) (n : Nat) (g : Grp) (r : Nat) : Bool :=
  match j.planOf n with | some p => bit (p.mask g.ctx) (g.rowOf r).2 | none => false

/-- The input of row r, as fp32 (R266, R311). -/
def Junction.rowInput (j : Junction) (w : TickWork) (g : Grp) (r : Nat) : Option Fp :=
  let field := (g.streams.getD (r / g.slots) (0, 0, 0)).2.1
  match j.inputOf w 0 field (g.rowOf r).2 with
  | some x => if x.isNan then none else some ((x.round fp32).posZero)
  | none => none

/-- The frame of row r's die carries COUNTERS_RESTORED (R110). -/
def Junction.rowRestored (w : TickWork) (g : Grp) (r : Nat) : Bool :=
  match w.frame? (g.rowOf r).2 with | some f => bit (rd f 0x14 4) 7 | none => false

/-- The residual of a row: delivered, or the cause it counts under, 1 WARM, 2 excluded, 3 restored or fenced, 4 not finite (R311). -/
def Junction.rowResidual (j : Junction) (w : TickWork) (g : Grp) (r : Nat) : (Nat × Nat) ⊕ Nat :=
  let (s, k) := g.rowOf r
  let e := j.entry g.ctx s k
  if e.1 ≠ w.tick || e.2.2 < g.warmup then .inr 1
  else match j.rowInput w g r with
  | none => .inr 2
  | some x =>
    let epoch := match w.frame? k with | some f => rd f 0xC 4 | none => 0
    if Junction.rowRestored w g r || epoch ≠ (j.row g r).epoch then .inr 3
    else
      let fo := e.2.1 % 2 ^ 32
      let sc := e.2.1 / 2 ^ 32
      if !(finBits fo) || (Fp.decode fp32 sc).isNan then .inr 4
      else
        let (a, u) := residual x fo sc g.sigma
        .inl (a.encode fp32, u.encode fp32)

def Junction.count (j : Junction) (g : Grp) (f : GrpCounts → GrpCounts) : Junction :=
  { j with grp := Tbl.put GrpCounts.zero j.grp (grpKey g.ctx g.group) (f (Tbl.get GrpCounts.zero j.grp (grpKey g.ctx g.group))) }

/-- The residual pass of a tick ends (R310 to R312). -/
def Junction.residualPass (j : Junction) : Junction :=
  match j.openTick (fun w => w.residDone || !w.frameClosed) with
  | none => j
  | some w =>
    let j := (j.groupsOf w.tick).foldl (fun j g => ((List.range g.rows).filter (j.rowIn w.tick g)).foldl (fun j r =>
      match j.rowResidual w g r with
      | .inl v =>
        (match j.work w.tick with
        | some w => (j.count g (fun c => { c with delivered := c.delivered + 1 })).setWork
            { w with residuals := w.residuals ++ [((g.ctx, (g.rowOf r).1, (g.rowOf r).2), v)] }
        | none => j)
      | .inr k => j.count g (fun c => match k with
        | 1 => { c with warm := c.warm + 1 } | 2 => { c with excluded := c.excluded + 1 }
        | 3 => { c with restored := c.restored + 1 } | _ => { c with nonfinite := c.nonfinite + 1 })) j) j
    match j.work w.tick with
    | some w => j.setWork { w with residDone := true }
    | none => j

/-- Row r is reset at its staging in tick n, and whether by a near-tier error (R329, R331). -/
def Junction.rowReset (j : Junction) (w : TickWork) (g : Grp) (r : Nat) : Bool × Bool :=
  let (s, k) := g.rowOf r
  let st := j.row g r
  let bad := (j.poisonAt (rowAddr g.ctx s k) (64 + 4 * g.d)).isSome
  (bad || !(j.rowIn w.tick g r) || st.key ≠ g.key || st.forTick = 2 ^ 64 - 1 || st.epoch ≠ (j.die k).epoch || Junction.rowRestored w g r
    || st.forTick + g.maxGap < w.tick, bad)

/-- The input of row r is present (R329). -/
def Junction.rowPresent (j : Junction) (w : TickWork) (g : Grp) (r : Nat) : Bool :=
  bit (j.presentOf w).1.toNat (g.rowOf r).2 && (j.rowInput w g r).isSome

/-- An fp32 value in the area. -/
def Area.put32 (a : Area) (off v : Nat) : Area := a.wr off (le 4 v)

/-- Stage one row (R329). -/
def Junction.stageRow (j : Junction) (w : TickWork) (g : Grp) (a : Area) (r : Nat) : Area :=
  let off := fun (i : Nat) => g.offs.getD i 0
  let st := j.row g r
  let reset := (j.rowReset w g r).1
  let here := j.rowPresent w g r
  let x : Fp := if here then (j.rowInput w g r).getD (.fin false 0) else .fin false 0
  let u := if here && st.forTick = w.tick then ((residual x st.forecast st.scale g.sigma).1).encode fp32 else 0
  let gap : Nat := if reset then 0 else w.tick - st.forTick
  let a := ((a.put32 (off 0 + 4 * r) (x.encode fp32)).put32 (off 1 + 4 * r) (if here then 0x3F800000 else 0)).put32 (off 2 + 4 * r) u
  let a := a.put32 (off 3 + 4 * r) (((Fp.fin false (gap : Nat)).round fp32).encode fp32)
  (List.range g.d).foldl (fun a i => Area.put32 a (off 4 + 4 * (r * g.d + i)) (if reset then g.initVec.getD i 0 else st.state.getD i 0)) a

/-- The area of a group with its constant image (R325, R331). -/
def Grp.freshArea (g : Grp) : Area := Area.wr [] g.constOff g.constImg

/-- The update of the next group of a tick starts, at t_n + T_P at the earliest (R310, R329): none while another runs. -/
def Junction.updateStart (j : Junction) : Junction :=
  match j.seqRun, j.openTick (fun w => !w.frameClosed || decide ((j.groupsOf w.tick).length ≤ w.groups.length)) with
  | none, some w =>
    (match (j.groupsOf w.tick).find? (fun g => !(w.groups.contains (g.ctx, g.group))) with
    | none => j
    | some g =>
      let j := { j with clk := j.clk.reach (j.dueNs w.tick (((j.imageOf w.tick).map (fun (t : TtImage) => t.tReady 0)).getD 0)) }
      let rows := List.range g.rows
      let area := rows.foldl (j.stageRow w g) (Tbl.get g.freshArea j.areas (grpKey g.ctx g.group))
      let resets := rows.filter (fun r => (j.rowReset w g r).1)
      let inScope := resets.filter (j.rowIn w.tick g)
      let j := (rows.filter (fun r => (j.rowReset w g r).2)).foldl (fun j r => j.logE 0x27 [(g.rowOf r).1 + put 16 (g.rowOf r).2, 2]) j
      let j := j.count g (fun c => { c with reset := c.reset + inScope.length })
      { j.setWork { w with groups := w.groups ++ [(g.ctx, g.group)] } with seqRun := some ⟨g.ctx, g.group, w.tick, 0, area, resets⟩ })
  | _, _ => j

/-- The group of the update in progress. -/
def Junction.runGroup (j : Junction) (s : SeqRun) : Option Grp := (j.groupsOf s.tick).find? (fun g => g.ctx == s.ctx && g.group == s.group)

/-- The next instruction of the update in progress (R324), with the values that R318 leaves open; `fault` is an uncorrectable
error in the group area, which abandons the group for the tick (R331). -/
def Junction.seqStep (j : Junction) (fv : Nat → Nat) (fault : Bool) : Junction :=
  match j.seqRun with
  | none => j
  | some s =>
    match j.runGroup s with
    | none => { j with seqRun := none }
    | some g =>
      if fault then
        let j := ({ j with seqRun := none, areas := Tbl.put [] j.areas (grpKey g.ctx g.group) (s.area.wr g.constOff g.constImg) }).logE 0x26 [g.group + put 24 g.ctx]
        j.count g (fun c => { c with abandoned := c.abandoned + 1 })
      else
        let i := SeqInstr.decode (g.prog.getD s.pc 0x3F)
        if i.op = 0x3F then j
        else
          let (a, n) := i.exec fv s.area
          { j.count g (fun c => { c with saturated := c.saturated + n }) with seqRun := some { s with area := a, pc := s.pc + 1 } }

/-- Commit one row (R330). -/
def Junction.commitRow (j : Junction) (g : Grp) (s : SeqRun) (r : Nat) : Junction :=
  let (stream, k) := g.rowOf r
  let off := fun (i : Nat) => g.offs.getD i 0
  let out := (List.range g.d).map (fun i => Area.rd s.area (off 5 + 4 * (r * g.d + i)) 4)
  let y0 := Area.rd s.area (off 6 + 8 * r) 4
  let y1 := Area.rd s.area (off 6 + 8 * r + 4) 4
  let old := j.row g r
  let warm := if s.resetRows.contains r then 0 else old.warm
  let good := (y0 :: y1 :: out).all finBits
  let st : RowState :=
    if good then { forTick := s.tick + 1, forecast := y0, scale := y1, warm := sat 16 (warm + 1), epoch := (j.die k).epoch, key := g.key, state := out }
    else { old with forTick := 2 ^ 64 - 1, warm := 0, epoch := (j.die k).epoch, key := g.key, state := g.initVec }
  let j := j.write (rowAddr g.ctx stream k) st.encode
  let j := { j with fc := Tbl.put (2 ^ 64 - 1, 0, 0) j.fc (rowKey g.ctx stream k) (st.forTick, st.forecast + put 32 st.scale, st.warm) }
  if good then j
  else (j.count g (fun c => { c with poisoned := c.poisoned + 1 })).logE 0x27 [stream + put 16 k, 1]

/-- The program has ended: every in-scope row is committed, once the tick's residual pass is over (R312, R330). -/
def Junction.groupCommit (j : Junction) : Junction :=
  match j.seqRun with
  | none => j
  | some s =>
    match j.runGroup s with
    | none => { j with seqRun := none }
    | some g =>
      let ready := match j.work s.tick with | some w => w.residDone | none => true
      if (SeqInstr.decode (g.prog.getD s.pc 0x3F)).op ≠ 0x3F || !ready then j
      else
        let j := ((List.range g.rows).filter (j.rowIn s.tick g)).foldl (fun j r => j.commitRow g s r) j
        { j with seqRun := none, areas := Tbl.put [] j.areas (grpKey g.ctx g.group) s.area }

end Sys2Proof.Machine
end

