-- ==== Sys2Proof/Machine/JnModel.lean ====
section
/-! DEFINITION. Contexts, bundles, admission, Waybill writes, reference tables, test packs, scrubbing and wear (R264, R287, R293, R299 to R307, R327, R333 to R345, R349, R352, R353, R356, R374, R381 to R384). -/

namespace Sys2Proof.Machine

/-! ## Results of commands (R448, R452) -/

/-- A result code, the check code and the offset that go with it. -/
structure Rc where
  code : Nat
  check : Nat
  offset : Nat
deriving DecidableEq, Repr

/-- A result with nothing to locate. -/
def rc (code : Nat) : Rc := ⟨code, 0, 0xFFFFFFFF⟩

/-- A field value out of range, at a byte offset of the body (R452). -/
def badArg (offset : Nat) : Rc := ⟨0x16, 0, offset⟩

/-- The sample edge of a tick lies at least 100 us after now; no clock index, no such tick. -/
def Junction.ahead (j : Junction) (m : Nat) : Bool := j.clk.tick.isSome && decide ((j.clk.time : Int) + (100000 * uNs : Nat) ≤ j.clk.tickAt m)

/-- The sample edge of a tick has been reached. -/
def Junction.reached (j : Junction) (m : Nat) : Bool := j.clk.tick.isSome && decide (m ≤ j.tickNow)

/-! ## Admission (R40, R299 to R302, R333) -/

/-- Entities that a SCOPE of a context has here under a plan (R264, R279). -/
def Junction.entityCount (j : Junction) (p : Option Plan) (c scope job : Nat) : Nat :=
  match scope with
  | 3 => (j.entities 0 c 3 job).length
  | 4 => (j.entities 0 c 4 job).length
  | _ => if j.tray then (match p with | some p => ((bitsSet 32 (p.mask c)).filter (fun k => (Tbl.get none j.portMap k).isSome)).length | none => 0) else 0

/-- The banks whose headway admission must meet: the active one and armed ones (R301, R333). -/
def Junction.admitBanks (j : Junction) : List JnBank := [j.b0, j.b1].filter (fun b => (b.tt == .active || b.tt == .armed) && b.image.isSome)

/-- The walk bound fits the headway and the scoring window of an image (R40, R301); `fd` is the largest FEATURE_DEADLINE. -/
def walkFits (t : TtImage) (bound fd : Nat) : Bool :=
  let d := t.deadline
  decide (bound * 625 + 1000 * d 5 ≤ 1000 * d 6) && decide (bound * 625 + 500000 ≤ 1000 * hNs t.step)
  && decide (bound * 625 + 1000 * (d 5 + fd + 50) ≤ 1000 * d 6)

/-- The ensembles of a context meet the bounds of R301 under a bank. -/
def Junction.ensFit (j : Junction) (b : JnBank) (c threads job : Nat) (p : Placing) (es : List Ens) : Bool :=
  match b.image with
  | some t => walkFits t (walkBound p es (fun e => j.entityCount b.planv c e.scope job) threads) (es.foldl (fun a e => max a e.deadline) 0)
  | none => true

/-- The update times of groups fit the window of an image (R333). -/
def seqFits (t : TtImage) (gs : List Grp) : Bool :=
  let sum := gs.foldl (fun a g => a + g.time) 16
  let tp := t.tReady 0
  decide ((sum + 64) * 625 + 1000 * tp ≤ 1000 * (hNs t.step + t.deadline 0))

/-- Groups of every context but one, active or staged. -/
def Junction.otherGroups (j : Junction) (c : Nat) : List Grp :=
  (j.bundles.filter (fun b => b.ctx != c && b.type == 0 && b.st == .active)).flatMap Bundle.groups

/-- Groups of the active bundles. -/
def Junction.activeGroups (j : Junction) : List Grp := (j.bundles.filter (fun b => b.type == 0 && b.st == .active)).flatMap Bundle.groups

/-- Engines in use (R491). -/
def Junction.engineCount (j : Junction) : Nat := j.boot.engines.length

/-- The active bundle of a context (R343). -/
def Junction.activeBundle (j : Junction) (c : Nat) : Option Bundle := j.bundles.find? (fun b => b.ctx == c && b.type == 0 && b.st == .active)
def Junction.stagedBundle (j : Junction) (c : Nat) : Option Bundle := j.bundles.find? (fun b => b.ctx == c && b.type == 0 && b.st == .staged)

/-- Place a bundle's ensembles in what the context's active bundle leaves of the quota (R299). -/
def Junction.placeBundle (j : Junction) (c quotaKiB : Nat) (es : List Ens) : Placing :=
  let used := ((j.activeBundle c).bind (·.placing)).map (·.used)
  placeAll j.engineCount (fun e => 1024 * quotaKiB - (match used with | some u => u.getD e 0 | none => 0)) es

/-- Siding pages of a context's bundles in a state (R349). -/
def Junction.pagesOf (j : Junction) (c : Nat) (st : BundleSt) : Nat :=
  (j.bundles.filter (fun b => b.ctx == c && b.st == st)).foldl (fun a b => a + (match b.placing with | some p => p.pages.length | none => 0)) 0

/-- Check 9 of R287: quota, siding pages, threads and the walk bound. -/
def Junction.admits (j : Junction) (c job : Nat) (r : CtxRec) (p : Placing) (es : List Ens) : Bool :=
  sidingFits es && decide (p.pages.length + j.pagesOf c .active + j.pagesOf c .retiring ≤ r.sidingPages)
  && (es.length == 0 || decide (0 < r.threads)) && (es.length == 0 || decide (0 < j.engineCount))
  && j.admitBanks.all (fun b => j.ensFit b c r.threads job p es)

/-! ## Bundle checks (R264, R287, R327, R341, R382) -/

/-- The record a context will have at a tick (R336). -/
def Junction.recAt (j : Junction) (c m : Nat) : CtxRec :=
  let x := j.ctx c
  match x.next with | some r => if r.effective ≤ m then r else x.rec_ | none => x.rec_

/-- Check 2 of R341: the context is ENABLED, or becomes so by a tick. -/
def Junction.enabledBy (j : Junction) (c m : Nat) : Bool :=
  let x := j.ctx c
  (x.st == .enabled && (match x.next with | some r => r.enable || decide (m < r.effective) | none => true))
  || (match x.next with | some r => r.enable && decide (r.effective ≤ m) | none => false)
  || (match x.latched with | some r => r.enable && decide (r.effective ≤ m) | none => false)

/-- Bytes of a context's active and staged bundles, test packs among them (R341 check 3, R382). -/
def Junction.bundleBytes (j : Junction) (c : Nat) : Nat :=
  (j.bundles.filter (fun b => b.ctx == c && (b.st == .active || b.st == .staged))).foldl (fun a b => a + bundlePayload b.data) 0

/-- Checks 1 to 3, on the header (R341, R382). -/
def Junction.headCheck (j : Junction) (b : Bytes) : Option Rc :=
  let c := rd b 7 1 % 16
  if b.length < 256 then some ⟨0x31, 1, 0⟩
  else match bundleHeadBad b with
  | some o => some ⟨0x31, 1, o⟩
  | none =>
    if rd b 6 1 = 1 && c ≠ 0 then some ⟨0x31, 1, 7⟩
    else if !(j.enabledBy c (rd b 0x10 8)) then some ⟨0x31, 2, 7⟩
    else if (j.recAt c (rd b 0x10 8)).bundleQuota * 268435456 < bundlePayload b + j.bundleBytes c then some ⟨0x1A, 3, 0x20⟩
    else none

/-- Detector entries of the other contexts, each with the larger of its active and staged tables (R264). -/
def Junction.otherDets (j : Junction) (c : Nat) : Nat :=
  ((List.range 16).filter (· != c)).foldl (fun a x =>
    a + (j.bundles.filter (fun b => b.ctx == x && b.type == 0 && (b.st == .active || b.st == .staged))).foldl (fun m b => max m b.table.dets.length) 0) 0

/-- Ensembles of the other contexts, counted in the same way (R287 check 2). -/
def Junction.otherEns (j : Junction) (c : Nat) : Nat :=
  ((List.range 16).filter (· != c)).foldl (fun a x =>
    a + (j.bundles.filter (fun b => b.ctx == x && b.type == 0 && (b.st == .active || b.st == .staged))).foldl (fun m b => max m b.ensembles.length) 0) 0

/-- The first section of a list that fails a check, with MODEL_INVALID. -/
def firstBad {α : Type} (l : List α) (f : α → Option (Nat × Nat)) : Option Rc :=
  l.foldl (fun r x => match r with | some y => some y | none => (f x).map (fun c => ⟨0x30, c.1, c.2⟩)) none

/-- Values that occur more than once. -/
def dups (l : List Nat) : Bool := l.length != l.eraseDups.length

/-- Check 7 of R327 of a table and ensembles: every RESIDUAL detector and feature names a stream of its SCOPE. -/
def residualsOk (t : DetTable) (es : List Ens) (gs : List Grp) : Option (Nat × Nat) :=
  let streams := gs.flatMap (·.streams)
  let names := fun (i scope : Nat) => streams.any (fun s => s.1 == i && s.2.2 == scope)
  match (List.range t.dets.length).find? (fun i => match t.dets[i]? with | some d => d.form == 2 && d.residual && !(names d.input d.scope) | none => false) with
  | some i => some (7, 16 + 32 * i)
  | none => es.foldl (fun r e => match r with
      | some x => some x
      | none => ((List.range e.features.length).find? (fun i => let f := e.features.getD i (0, 0, 0); f.1 == 1 && !(names f.2.1 e.scope))).map (fun i => (7, 64 + 8 * i))) none

/-- The section checks of a model bundle (R264, R287, R327): a refusal or the placement. -/
def Junction.modelCheck (j : Junction) (b : Bundle) : Rc ⊕ Placing :=
  let c := b.ctx
  let fields := j.plan.map (·.fields)
  let op := j.sec.open_
  let n := rd b.data 0x28 4
  let sects := fun (k : Nat) => sectionsOf k n b.plain
  let t := b.table
  let es := b.ensembles
  let gs := b.groups
  let r := j.recAt c b.effective
  let others := j.otherGroups c
  let p := j.placeBundle c r.treeQuota es
  let bad : Option Rc :=
    if !(detTableOk fields op c ((sects 0).headD [])) || 512 < t.dets.length + j.otherDets c then some ⟨0x30, 0, 0⟩
    else match firstBad (sects 1) (fun s => ensCheck fields op c t s) with
    | some x => some x
    | none =>
      if dups (es.map (·.index)) || 256 < es.length + j.otherEns c then some ⟨0x30, 2, 6⟩
      else if !(j.admits c t.job r p es) then some ⟨0x30, 9, 0⟩
      else match firstBad (sects 2) (fun s => grpCheck fields op c s) with
      | some x => some x
      | none =>
        if dups (gs.map (·.group)) then some ⟨0x30, 2, 6⟩
        else if dups ((gs.flatMap (·.streams)).map (·.1)) then some ⟨0x30, 2, 64⟩
        else if 16515072 < (gs ++ others).foldl (fun a g => a + g.area) 0 || 16384 < (gs ++ others).foldl (fun a g => a + g.rows) 0 then some ⟨0x30, 5, 0x14⟩
        else match residualsOk t es gs with
        | some x => some ⟨0x30, x.1, x.2⟩
        | none =>
          if gs.length ≠ 0 && j.tray && (j.boot.seqFailed || !(j.admitBanks.all (fun k => match k.image with | some i => seqFits i (gs ++ others) | none => true))) then some ⟨0x30, 8, 0⟩
          else none
  match bad with
  | some x => .inl x
  | none => .inr p

/-! ## Bundle arrival (R341 to R345) -/

def Junction.setBundle (j : Junction) (b : Bundle) : Junction := { j with bundles := j.bundles.map (fun x => if x.id = b.id then b else x) }
def Junction.bundle? (j : Junction) (id : Nat) : Option Bundle := j.bundles.find? (fun b => b.id == id)
def Junction.dropBundle (j : Junction) (id : Nat) : Junction := { j with bundles := j.bundles.filter (fun b => b.id != id) }

/-- A bundle is refused: its store is freed, its status kept (R341, R462). -/
def Bundle.refuse (b : Bundle) (r : Rc) : Bundle := { b with st := .refused, result := r.code, check := r.check, offset := r.offset, plain := [], data := b.data.take 256 }

/-- This Junction's level is set in LEVEL_MASK. -/
def Junction.levelNamed (j : Junction) (head : Bytes) : Bool := bit (rd head 0x18 4) j.role.level

/-- Forward a chunk on every primary downlink in service, where LEVEL_MASK names a lower level (R345). -/
def Junction.forwardChunk (j : Junction) (head : Bytes) (c : Chunk) : Junction :=
  if j.tray || rd head 0x18 4 % 2 ^ j.role.level = 0 then j
  else (List.range 32).foldl (fun j k => if (j.port (32 + k)).st = .active then (j.send (32 + k) 2 3 0 c.bytes).countPort (32 + k) 29 else j) j

/-- A chunk arrives, by a downlink message or the command (R344, R345). -/
def Junction.chunk (j : Junction) (c : Chunk) : Junction × Rc :=
  if c.chunk = 0 then
    let busy := match j.bundle? c.id with
      | some b => b.st == BundleSt.staged || b.st == BundleSt.active || b.st == BundleSt.retiring || b.st == BundleSt.checking
      | none => false
    if busy then (j.forwardChunk c.data c, rc 0x19)
    else
      let h := c.data
      let b : Bundle := { id := c.id, ctx := rd h 7 1 % 16, type := rd h 6 1, st := .receiving, chunks := c.chunks, got := 1, data := h, plain := [],
                          effective := rd h 0x10 8, result := 0, check := 0, offset := 0, lastAt := j.clk.up, placing := none, lost := [] }
      let bad := if rd h 8 8 ≠ c.id || c.chunks = 0 then some ⟨0x31, 1, 8⟩ else if j.levelNamed h then j.headCheck h else none
      let b := match bad with | some r => { b.refuse r with got := 1 } | none => b
      let b := if bad.isNone && c.chunks = 1 then { b with st := .checking } else b
      let j := { j.dropBundle c.id with bundles := (j.dropBundle c.id).bundles ++ [b] }
      (j.forwardChunk h c, bad.getD (rc 0))
  else
    match j.bundle? c.id with
    | some b =>
      if c.chunk ≠ b.got || c.chunks ≠ b.chunks || b.chunks ≤ c.chunk then (j, badArg 12)
      else
        let b' := { b with got := b.got + 1, lastAt := j.clk.up, data := if b.st = .receiving || b.st = .incomplete then b.data ++ c.data else b.data }
        let b' := if (b.st = .receiving || b.st = .incomplete) then { b' with st := if b'.got = b.chunks then .checking else .receiving } else b'
        ((j.setBundle b').forwardChunk b.data c, rc 0)
    | none => (j, badArg 12)

/-- A chunk message on an uplink (R345); a cross uplink carries none. One out of order is lost to this Junction and goes on all the same. -/
def Junction.chunkReceived (j : Junction) (p : Nat) : Junction :=
  match (j.port p).takeInbox 2 3 (fun b => rd b 0 2 == 5) with
  | (some m, x) =>
    match Chunk.decode m.bytes with
    | some c =>
      let j := j.setPort p x
      let (k, r) := j.chunk c
      if r.code ≠ 0x16 then k
      else (match j.bundle? c.id with
        | some b => (j.setBundle { b with lastAt := j.clk.up }).forwardChunk b.data c
        | none => j)
    | none => j.setPort p x
  | (none, _) => j

/-- No chunk has arrived for 100 ms (R345). -/
def Junction.bundleTimeout (j : Junction) (id : Nat) : Junction :=
  match j.bundle? id with
  | some b => if b.st = .receiving && b.lastAt + 100000000 * uNs ≤ j.clk.up then j.setBundle { b with st := .incomplete } else j
  | none => j

/-- A test pack passes its checks and becomes staged (R382). -/
def Junction.stagePack (j : Junction) (b : Bundle) : Junction :=
  let s := (sectionsOf 3 (rd b.data 0x28 4) b.plain).headD []
  match testPackBad b.effective s with
  | some o => j.setBundle (b.refuse ⟨0x31, 0, o⟩)
  | none =>
    let old := j.tests.staged
    match old with
    | some o => if j.reached o.effective then j.setBundle (b.refuse (rc 0x1B))
        else { (j.dropBundle o.id).setBundle { b with st := .staged } with tests := { j.tests with staged := some ⟨b.id, s, b.effective⟩ } }
    | none => { j.setBundle { b with st := .staged } with tests := { j.tests with staged := some ⟨b.id, s, b.effective⟩ } }

/-- After the last chunk: checks 4 to 7 and the section checks (R341, R343). -/
def Junction.bundleVerify (j : Junction) (id : Nat) : Junction :=
  match j.bundle? id with
  | none => j
  | some b =>
    if b.st ≠ .checking then j
    else if !(j.levelNamed b.data) || (bundleEntry b.data j.id).isNone then j.dropBundle id
    else
      let auth := fun (n : Nat) => (j.setBundle (b.refuse ⟨0x32, n, 0xFFFFFFFF⟩)).secEvent 3 id
      if !(bundleSigOk j.sec b.data) then auth 4
      else match bundleOpen j.sec j.id b.data with
      | none => auth 5
      | some plain =>
        let b := { b with plain := plain }
        match bundleDirBad b.type (rd b.data 0x28 4) plain with
        | some o => j.setBundle (b.refuse ⟨0x31, 6, o⟩)
        | none =>
          if !(j.ahead b.effective) then j.setBundle (b.refuse ⟨0x1B, 7, 0x10⟩)
          else if b.type = 1 then j.stagePack b
          else match j.modelCheck b with
          | .inl r => j.setBundle (b.refuse r)
          | .inr p =>
            match j.stagedBundle b.ctx with
            | some o => if j.reached o.effective then j.setBundle (b.refuse (rc 0x1B)) else (j.dropBundle o.id).setBundle { b with st := .staged, placing := some p }
            | none => j.setBundle { b with st := .staged, placing := some p }

/-! ## Activation (R264, R331, R332, R336, R343, R382) -/

/-- Entries that a new table changes start afresh; unchanged ones keep their state (R264). -/
def Junction.freshDets (j : Junction) (c : Nat) (old new : Option DetTable) : Junction :=
  let kept := fun (id : Nat) => match old.bind (fun t => t.dets.find? (fun d => d.id == id)), new.bind (fun t => t.dets.find? (fun d => d.id == id)) with
    | some a, some b => a.bytes == b.bytes
    | _, _ => false
  { j with det := j.det.filter (fun x => !(x.1 / 2 ^ 38 == c && !(kept (x.1 / 2 ^ 32 % 64)))) }

/-- Groups that a new bundle changes lose their area and forecast entries; unchanged ones keep them (R327, R331, R332). -/
def Junction.freshGroups (j : Junction) (c : Nat) (old new : List Grp) : Junction :=
  let same := new.filter (fun g => old.any (fun o => o.group == g.group && o.key == g.key))
  let streams := (same.flatMap (·.streams)).map (·.1)
  { j with areas := j.areas.filter (fun x => !(x.1 / 64 == c && !(same.any (fun g => g.group == x.1 % 64)))),
           fc := j.fc.filter (fun x => !(x.1 / 65536 == c && !(streams.contains (x.1 % 65536 / 32)))) }

/-- A bundle fits the quotas of its context's record (R336). -/
def Junction.stillFits (j : Junction) (b : Bundle) : Bool :=
  let r := (j.ctx b.ctx).rec_
  let es := b.ensembles
  let p := j.placeBundle b.ctx r.treeQuota es
  decide (j.bundleBytes b.ctx ≤ r.bundleQuota * 268435456) && j.admits b.ctx b.table.job r p es

/-- Write the test entries and the window into every Lineside in service (R382). -/
def Junction.writePack (j : Junction) (t : TestPack) : Junction :=
  let n := rd t.section_ 6 2
  let entry := fun (e : Nat) => let b := sub t.section_ (32 + 16 * e) 16
    if e < n then [(0x3600 + e, fld (rd b 0 4) 0 28 + put 28 (rd b 4 2 % 2 ^ 14) + put 42 1), (0x3700 + e, rd b 8 8)] else [(0x3600 + e, 0)]
  let ws := (List.range 256).flatMap entry ++ [(0x238, rd t.section_ 8 8), (0x239, rd t.section_ 0x10 4)]
  if !j.tray then j
  else (List.range 32).foldl (fun j k =>
    if (j.port k).st = .active then
      let j := j.writeLs k .own (ws.filter (fun w => !(inRange w.1 0x3600 256 && w.2 == 0 && j.shadowOf k w.1 == 0)))
      { j with tests := { j.tests with written := j.tests.written ||| BitVec.ofNat 32 (put k 1) } }
    else j) { j with tests := { j.tests with written := 0, results := [] } }

/-- The staged bundle or pack of a context becomes active at its tick (R343, R382). -/
def Junction.bundleActivate (j : Junction) (c type : Nat) : Junction :=
  if type = 1 then
    match j.tests.staged with
    | some t =>
      if j.reached t.effective then
        let j := match j.tests.active with | some o => j.dropBundle o.id | none => j
        let bs := j.bundles.map (fun (b : Bundle) => if b.id = t.id then { b with st := BundleSt.active } else b)
        let j := { j with bundles := bs, tests := { j.tests with active := some t, staged := none } }
        j.writePack t
      else j
    | none => j
  else match j.stagedBundle c with
  | none => j
  | some b =>
    if !(j.reached b.effective) then j
    else if !(j.stillFits b) then j.setBundle (b.refuse (rc 0x1A))
    else
      let old := j.activeBundle c
      let j := match old with | some o => j.setBundle { o with st := .retiring } | none => j
      let j := j.setBundle { b with st := .active }
      ((j.freshDets c (old.map (·.table)) (some b.table)).freshGroups c ((old.map (·.groups)).getD []) b.groups).relook b.effective

/-! ## Contexts (R335 to R337) -/

/-- A context record takes effect (R336, R337). -/
def Junction.applyRec (j : Junction) (c : Nat) (r : CtxRec) : Junction :=
  let x := j.ctx c
  match x.st with
  | .draining => j
  | .enabled =>
    if r.enable then j.setCtx c { x with rec_ := r, next := none }
    else j.setCtx c { x with st := .draining, drainFrom := r.effective, next := none }
  | .disabled =>
    let j := j.setCtx c { x with rec_ := r, next := none, st := if r.enable then .enabled else .disabled }
    let j := if r.histNear ≠ x.rec_.histNear || r.histFar ≠ x.rec_.histFar || r.histProj ≠ x.rec_.histProj then j.setHist c Hist.init else j
    if r.enable then { j with exp := j.exp.enableCtx c } else j

/-- A latched enable takes effect once the drain is over and its own tick is reached (R337, R459). -/
def Junction.contextLatched (j : Junction) (c : Nat) : Junction :=
  let x := j.ctx c
  match x.latched with
  | some l => if x.st = .disabled && j.reached l.effective then ((j.setCtx c { x with latched := none }).applyRec c l).relook l.effective else j
  | none => j

/-- A record of a context takes effect at its tick (R336, R459). -/
def Junction.contextEffect (j : Junction) (c : Nat) : Junction :=
  match (j.ctx c).next with
  | some r => if j.reached r.effective then (j.applyRec c r).relook r.effective else j
  | none => j.contextLatched c

/-- The drain of a context completes (R337): queued export records go out or, 100 ms after t_m, are discarded. -/
def Junction.drainDone (j : Junction) (c : Nat) : Junction :=
  let x := j.ctx c
  let late := decide (j.edgeOf x.drainFrom + (100000000 * uNs : Nat) ≤ (j.clk.time : Int))
  let scored := match j.work (x.drainFrom - 1) with | some w => w.scoreClosed | none => true
  if x.st ≠ .draining || !scored || !(late || j.exp.queued c = 0) then j
  else
    let left := j.exp.queued c
    let r := { x.rec_ with enable := false, threads := 0, treeQuota := 0, bundleQuota := 0, sidingPages := 0 }
    let j := { j with exp := j.exp.discard c, bundles := j.bundles.filter (fun b => !(b.ctx == c && b.type == 0)) }
    let j := (j.freshDets c none none).freshGroups c [] []
    let j := j.setCtx c { x with st := .disabled, rec_ := r, expDropped := x.expDropped + left }
    j.contextLatched c

/-! ## Waybill writes (R292, R293) -/

/-- What a Waybill operation does to the table at its tick; the flag says that a slot qualified. -/
def Junction.wayApply (j : Junction) (o : WayOp) : Junction × Bool :=
  let probes := j.probes o.ctx o.entity
  match (if o.remove then waybillFind o.entity probes else waybillPlace o.entity probes) with
  | none => (j, o.remove)
  | some i =>
    let old := j.read (wayAddr i) 256
    let v := le 2 (rd old 6 2 + 1)
    if o.remove then (j.write (wayAddr i) (le 4 o.entity ++ le 1 2 ++ sub old 5 1 ++ v ++ old.drop 8), true)
    else (j.write (wayAddr i) (le 4 o.entity ++ le 1 1 ++ le 1 o.ctx ++ v ++ o.entry), true)

/-- The earliest Waybill write that waits takes effect at its tick (R293). -/
def Junction.wayEffect (j : Junction) : Junction :=
  match sortBy WayOp.tick j.wayOps with
  | o :: _ => if j.reached o.tick then ((({ j with wayOps := j.wayOps.erase o }).wayApply o).1).relook o.tick else j
  | [] => j

/-! ## Reference tables and test results (R374, R384) -/

/-- A staged reference table becomes active at its tick (R374). -/
def Junction.refActivate (j : Junction) (s : Nat) : Junction :=
  match (j.refs.getD s ⟨none, none⟩).staged with
  | some b => if j.reached (rd b 0x18 8) then { j with refs := j.refs.set s ⟨some b, none⟩ } else j
  | none => j

/-- After the window the tray reads the results of each die (R384). -/
def Junction.testCollect (j : Junction) : Junction :=
  match j.tests.active with
  | some t =>
    if j.tray && j.reached (rd t.section_ 8 8 + rd t.section_ 0x10 4) then
      (bitsSet 32 j.tests.written.toNat).foldl (fun j k =>
        if (j.port k).st = .active then j.request k .test ((List.range 8).map (fun i => (⟨1, 0x240 + i, 0, 0⟩ : CfgOp))) else j) j
    else j
  | none => j

/-- Entries of a result image with a value, 0 to 3 (R383). -/
def testCount (n v : Nat) (img : Bytes) : Nat := ((List.range n).filter (fun e => fld (rd img (e / 32 * 8) 8) (2 * (e % 32)) 2 == v)).length

/-- A die's results have been read: code 0x2D (R384). -/
def Junction.testResult (j : Junction) (k : Nat) (img : Bytes) : Junction :=
  match j.tests.active with
  | some t =>
    let n := rd t.section_ 6 2
    ({ j with tests := { j.tests with results := Tbl.put none j.tests.results k (some (t.id, img)) } }).logE 0x2D
      [t.id, testCount n 1 img, testCount n 2 img, testCount n 3 img]
  | none => j

/-! ## Scrub, poison and wear (R352, R353, R356) -/

/-- A scrub of a line, 0 clean, 1 corrected, 2 uncorrectable (R352, R353). -/
def Junction.scrub (j : Junction) (memory addr fate : Nat) (owner : LineOwner) : Junction :=
  match fate with
  | 0 => j
  | 1 => { j with errs := { j.errs with corrected := j.errs.corrected + 1 } }
  | _ =>
    let was := j.poisoned
    let j := j.poison memory addr
    match owner with
    | .byAddress => j
    | .firmware => j.flushFor 3
    | .section_ id i =>
      let j := { j with poisoned := was }
      if j.boot.farGiB ≠ 0 then j
      else
        let bs := j.bundles.map (fun (b : Bundle) => if b.id = id && !(b.lost.contains i) then { b with lost := b.lost ++ [i] } else b)
        { j with bundles := bs }
    | .history c far tick =>
      let h := j.histOf c
      let j := { j with poisoned := was }
      j.setHist c (if far then { h with far := h.far.filter (fun b => rd b 0 8 != tick), lostFar := true }
                   else { h with near := h.near.filter (fun b => rd b.1 0 8 != tick), lostNear := true })

/-- Fewer than 16 spares: notice 6 and code 0x2A, once (R356). -/
def Junction.spareCheck (j : Junction) : Junction :=
  if !j.store.lowSpares && j.store.spares j.tray < 16 then (({ j with store := { j.store with lowSpares := true } }).notice 6).logE 0x2A [j.store.spares j.tray] else j

/-- A static move of the least-erased mapped block (R356, R357); `failed` says the target block failed verification and is retired. -/
def Junction.wearMove (j : Junction) (failed : Bool) : Junction :=
  let s := j.store
  let count := fun (l : Nat) => Tbl.get 0 s.erase (s.phys l)
  let ls := storeBlocks j.tray
  let lo := ls.foldl (fun b l => if count l < count b then l else b) (ls.headD 0)
  let hi := ls.foldl (fun m l => max m (count l)) 0
  let soon := match s.lastMove with | some t => decide (j.clk.up < t + uSec) | none => false
  if hi ≤ count lo + 2048 || soon then j
  else
    let (s, ok) := s.spend j.clk.up 65536
    if !ok then { j with store := s }
    else if failed then
      match s.freeBlock j.tray with
      | some b => (({ j with store := { s with retired := s.retired ++ [b], lastMove := some j.clk.up } }).error 4 0 (16 * b)).spareCheck
      | none => { j with store := s }
    else { j with store := { s.openBlock j.tray lo with lastMove := some j.clk.up } }

end Sys2Proof.Machine
end

