-- ==== Sys2Proof/Machine/JnBank.lean ====
section
/-! DEFINITION. Timetable and plan banks of the Junction: load, arm, cancel, switch, release; the Lineside banks derived from an image (R52, R57 to R63, R228, R232, R301, R333, R500, R524). -/

namespace Sys2Proof.Machine

/-! ## Lineside banks (R52, R118, R500, R524) -/

/-- The 2-bit classes of 32 slots in a register. -/
def classWord (m : List SlotEntry) (i : Nat) : Nat :=
  (List.range 32).foldl (fun a t => a + put (2 * t) ((m.getD (32 * i + t) ⟨0, 0, 0⟩).cls % 4)) 0

/-- Bank register writes for the Lineside of port k, derived from an image: addresses and values for bank sb (R52, R524). A direction with no
entry gets the bootstrap pattern on the image's slots, with the stream 0xFFFF as tick mark (R54, R62). -/
def TtImage.lineside (t : TtImage) (k : Nat) (sb : Nat) : List (Nat × Nat) :=
  let S := Machine.slotsOf false t.step
  let map := fun (tx : Bool) => (t.map? k tx).getD ((List.range S).map (bootSlot tx S))
  let fr := t.streams.find? (fun s => s.kind == 0 && !s.tx && s.port == k)
  let mk := t.streams.find? (fun s => s.kind == 3 && s.tx && s.port == k)
  let slot : Option Nat := match mk with | some s => ((t.slotsOf s).head?).map (fun (x : Nat × SlotEntry) => x.1) | none => none
  let own : List (Nat × SlotEntry) := match fr with | some s => t.slotsOf s | none => []
  let cfg := (match fr with | some s => s.id | none => 0) + put 16 (match mk with | some s => s.id | none => 0xFFFF) + put 32 (slot.getD 0) + put 44 t.step
    + put 51 (b2n t.planP) + put 52 (match fr with | some s => s.tickOffset | none => 0)
  (0x214 + sb, cfg) :: ((List.range 9).map (fun i => (0x218 + 16 * sb + i, match own[i]? with | some (x : Nat × SlotEntry) => x.1 + put 12 x.2.index + put 16 1 | none => 0))
    ++ (List.range 98).map (fun i => (0x800 + 128 * sb + i, classWord (map false) i)) ++ (List.range 98).map (fun i => (0x900 + 128 * sb + i, classWord (map true) i)))

/-- Latest known value of a Lineside register (log 50). -/
def Junction.known (j : Junction) (k a : Nat) : Nat := (Tbl.get 0 (Tbl.get [] j.lineCfg k) a).toNat

/-- The standby Timetable bank and frame-map bank of a Lineside, as last read. -/
def Junction.lsStandby (j : Junction) (k : Nat) : Nat := if j.known k 0x211 % 8 = 4 then 1 else 0
def Junction.lsFrameStandby (j : Junction) (k : Nat) : Nat := let v := j.known k 0x201; if bit v 3 then 0 else 1 - fld v 2 1

/-- Write the derived maps into a Lineside's standby bank and validate it, once its banks are known (R52, R63). -/
def Junction.deriveMaps (j : Junction) (t : TtImage) (k : Nat) : Junction :=
  if !j.tray || (j.port k).st ≠ .active || !(bit j.banksRead.toNat k) then j
  else (j.writeLs k .own (t.lineside k (j.lsStandby k) ++ [(0x210, 1)])).request k .own bankReads

/-- The shadow holds an image's maps of port k in Lineside bank sb (R59). -/
def Junction.holdsMaps (j : Junction) (t : TtImage) (k sb : Nat) : Bool := (t.lineside k sb).all (fun w => (j.shadowOf k w.1).toNat == w.2)

/-- The state code of Lineside bank sb, as last read. -/
def Junction.lsBankState (j : Junction) (k sb : Nat) : Nat := fld (j.known k 0x211) (3 * sb) 3

/-- The image whose maps a Lineside's standby bank is to hold, and the tick to arm it for (R52, R59, R63, log 50): the ACTIVE image, where no
ACTIVE bank of the Lineside holds its maps, a few ticks ahead; else the ARMED image at its tick; else a VALID image. -/
def Junction.lsWant (j : Junction) (k : Nat) : Option (TtImage × Option Nat) :=
  let active := fun (t : TtImage) => [0, 1].any (fun sb => j.lsBankState k sb == 4 && j.holdsMaps t k sb)
  let next : Option (TtImage × Option Nat) :=
    match [j.b0, j.b1].find? (fun b => b.tt == .armed) with
    | some b => b.image.map (fun t => (t, b.arm))
    | none =>
      let valid := ([j.b0, j.b1].filter (fun b => b.tt == .valid && !b.leaving)).filterMap (·.image)
      ((valid.find? (fun t => j.holdsMaps t k (j.lsStandby k))).orElse (fun _ => valid.head?)).map (fun t => (t, none))
  match j.image with
  | some t => if active t then next else some (t, some (j.tickNow + 4))
  | none => next

/-- The banks of the Lineside of port k have been read: its standby bank is given the maps it is to hold, validated and armed (R63). -/
def Junction.banksKnown (j : Junction) (k : Nat) : Junction :=
  let j := { j with banksRead := setBit32 j.banksRead k true }
  let sb := j.lsStandby k
  match j.lsWant k with
  | some (t, arm) =>
    if !(j.holdsMaps t k sb) then j.deriveMaps t k
    else if j.lsBankState k sb = 0 then (j.writeLs k .own [(0x210, 1)]).request k .own bankReads
    else match arm with
      | some m => if j.lsBankState k sb = 2 && j.tickNow + 1 < m then (j.writeLs k .own [(0x212, m), (0x210, 2)]).request k .own bankReads else j
      | none => j
  | none => j

/-- Flits of a frame SIZE (R109, R56). -/
def frameFlits (size : Nat) : Nat := cdiv (256 * 2 ^ size) 236

/-- The Lineside on port k can take part in a switch to an image (R59, R500). -/
def Junction.linesideReady (j : Junction) (t : TtImage) (k : Nat) : Bool :=
  let sb := j.lsStandby k
  let fb := j.lsFrameStandby k
  let st := j.lsBankState k sb
  let size := fld (j.shadowOf k (0x204 + fb)).toNat 16 2
  let want := match t.streams.find? (fun s => s.kind == 0 && !s.tx && s.port == k) with | some s => s.flits | none => frameFlits size
  bit j.banksRead.toNat k && bit (j.known k 1) 30 && (st == 2 || st == 3) && j.holdsMaps t k sb
  && bit (j.known k 0x201) fb && frameFlits size == want && (j.shadowOf k 0x14).toNat % 2 ^ 32 == (j.die k).epoch

/-! ## Load (R56, R58, R228, R232) -/

/-- A bank may not be loaded: BANK_ACTIVE or BANK_ARMED (R58). -/
def JnBank.loadRefusal (st : BankSt) (leaving : Bool) : Option Rc :=
  if st = .active || leaving then some (rc 0x22) else if st = .armed then some (rc 0x23) else none

/-- A Timetable image is loaded into a bank (R56, R58). -/
def Junction.ttLoad (j : Junction) (b : Nat) (img : Bytes) : Junction × Rc :=
  let k := j.bank b
  match JnBank.loadRefusal k.tt k.leaving with
  | some r => (j, r)
  | none =>
    match imageCheck j.role j.id img with
    | .inr (c, o) => (j.setBank b { k with tt := .invalid, image := none, imageBytes := img }, ⟨0x21, c, o⟩)
    | .inl t =>
      let j := j.setBank b { k with tt := .valid, image := some t, imageBytes := img }
      ((List.range 32).foldl (fun j p => j.deriveMaps t p) j, rc 0)

/-- Child slots that the level does not use (R22). -/
def Junction.unusedSlots (j : Junction) : Nat :=
  if j.tray then 0 else (List.range 32).foldl (fun a k => if j.role.unused (32 + k) then a + put k 1 else a) 0

/-- A plan is loaded into a bank (R228, R232). -/
def Junction.planLoad (j : Junction) (b : Nat) (img : Bytes) : Junction × Rc :=
  let k := j.bank b
  match JnBank.loadRefusal k.plan k.leaving with
  | some r => (j, r)
  | none =>
    match planCheck j.role.level j.id j.unusedSlots img with
    | .inr (c, o) => (j.setBank b { k with plan := .invalid, planv := none }, ⟨0x26, c, o⟩)
    | .inl p => (j.setBank b { k with plan := .valid, planv := some p }, rc 0)

/-! ## Arm and cancel (R59, R228, R301, R333) -/

/-- Check 15: an active bundle fails R301 at the new headway. -/
def Junction.armWalks (j : Junction) (b : JnBank) : Bool :=
  (List.range 16).all (fun c => match j.activeBundle c with
    | some x => match x.placing with
      | some p => x.ensembles.length == 0 || j.ensFit b c (j.ctx c).rec_.threads x.table.job p x.ensembles
      | none => true
    | none => true)

/-- Check 16: the groups fail R333, or SLOTS does not cover the new plan's mask. -/
def Junction.armGroups (j : Junction) (t : TtImage) (p : Plan) : Bool :=
  let gs := j.activeGroups
  !j.tray || gs.length == 0 || (seqFits t gs && gs.all (fun g => decide (p.mask g.ctx < 2 ^ g.slots)))

/-- An arm of a bank for a tick (R59, R228). -/
def Junction.ttArm (j : Junction) (b m : Nat) : Junction × Rc :=
  let k := j.bank b
  match k.image with
  | none => (j, rc 0x24)
  | some t =>
    if k.tt ≠ .valid && k.tt ≠ .armed || k.leaving then (j, rc 0x24)
    else if !(j.ahead m) then (j, rc 0x1B)
    else match k.planv with
    | none => (j, rc 0x27)
    | some p =>
      if k.plan ≠ .valid && k.plan ≠ .armed then (j, rc 0x27)
      else match armCheck j.role (rd k.imageBytes 0x20 4) t p with
      | some (c, o) => (j, ⟨0x27, c, o⟩)
      | none =>
        if !(j.armWalks k) then (j, ⟨0x27, 15, 0xFFFFFFFF⟩)
        else if !(j.armGroups t p) then (j, ⟨0x27, 16, 0xFFFFFFFF⟩)
        else match (List.range 32).find? (fun q => j.linesidePort q && (j.port q).st == .active && !(j.linesideReady t q)) with
        | some q => (j, ⟨0x25, 0, q⟩)
        | none =>
          let o := j.bank (1 - b)
          let j := if o.tt = .armed then j.setBank (1 - b) { o with tt := .valid, plan := .valid, arm := none } else j
          let j := j.setBank b { k with tt := .armed, plan := .armed, arm := some m }
          (if j.tray then (List.range 32).foldl (fun j q => j.writeLs q .own [(0x212, m), (0x210, 2)]) j else j, rc 0)

/-- A cancel (R59). -/
def Junction.ttCancel (j : Junction) (b : Nat) : Junction × Rc :=
  let k := j.bank b
  match k.tt, k.arm with
  | .armed, some m =>
    if j.reached m then (j, rc 2)
    else
      let j := j.setBank b { k with tt := .valid, plan := .valid, arm := none }
      (if j.tray then (List.range 32).foldl (fun j q => j.writeLs q .own [(0x210, 4)]) j else j, rc 0)
  | .active, _ => (j, rc 2)
  | _, _ => (j, rc 0x24)

/-- TT_STATUS of a bank. -/
def JnBank.status (k : JnBank) (now : Option Nat) : Bytes :=
  let st := fun (s : BankSt) => if k.leaving then 4 else s.code
  let since := match now with | some _ => k.since | none => 0
  le 1 (st k.tt) ++ le 1 (st k.plan) ++ zeros 6 ++ le 8 (match k.image with | some t => t.imageId | none => 0)
  ++ le 8 (match k.arm with | some m => m | none => since) ++ le 1 (match k.image with | some t => t.step | none => 0) ++ zeros 7

/-! ## Switch (R37, R60) -/

/-- At the switch tick the ARMED bank becomes ACTIVE with its plan, and E is rebased (R37, R60). What the ticks before follow is kept; their
data that has not left is withdrawn (R61); the banks of the Linesides are read again (log 50). -/
def Junction.bankSwitch (j : Junction) : Junction :=
  let pick := fun (b : Nat) => (j.bank b).tt == .armed && (match (j.bank b).arm with | some m => j.reached m | none => false)
  match (if pick 0 then some 0 else if pick 1 then some 1 else none) with
  | none => j
  | some b =>
    let k := j.bank b
    let m := k.arm.getD 0
    let o := j.bank (1 - b)
    let grid : OldGrid := { upTo := m, image := j.image, plan := j.plan, e := j.clk.e, headway := j.clk.headway }
    let j := { j with old := some grid, banksRead := 0, ports := j.ports.map (fun (x : Port) => { x with vc0 := x.vc0.filter (fun d => decide (m ≤ d.tick)) }) }
    let j := if o.tt = .active then j.setBank (1 - b) { o with tt := .valid, plan := if o.plan = .active then .valid else o.plan, leaving := true } else j
    let j := j.setBank b { k with tt := .active, plan := .active, arm := none, since := m }
    let j := match k.image with
      | some t => { j with clk := j.clk.rebase m t.step }
      | none => j
    if j.tray then (List.range 32).foldl (fun j q => if (j.port q).st = .active then j.request q .own bankReads else j) j else j

/-- One tick after the switch the previous bank is VALID (R60). -/
def Junction.bankRelease (j : Junction) : Junction :=
  match j.activeBank with
  | some b =>
    let o := j.bank (1 - b)
    if o.leaving && j.reached ((j.bank b).since + 1) then j.setBank (1 - b) { o with leaving := false } else j
  | none => j

end Sys2Proof.Machine
end

