-- ==== Sys2Proof/Machine/JnReply.lean ====
section
/-! DEFINITION. Replies of the mailboxes: attention bits, building, storing and delivering them, and the replies still owed (R443 to R450, R453, R455, R456). -/

namespace Sys2Proof.Machine

/-! ## The status field (R453, R454) -/

/-- The attention bits of a context, bit 0 for status bit [8] (R453, R454). -/
def Junction.attention (j : Junction) (c : Nat) : Nat :=
  b2n ((Tbl.get [] j.alarms c).length != 0 || (c == 0 && Tbl.get 0 j.cnt 10 != 0)) + put 1 (b2n j.nearFull) + put 2 (b2n j.timeUnlocked)
  + put 3 (b2n j.twin.lost) + put 4 (b2n (j.backlog c)) + put 5 (b2n (j.notices.length != 0 || j.boot.service == 3 || j.store.lowSpares))
  + put 6 (b2n ((j.sec.open_ || c == 0) && j.sec.events.length != 0))

/-! ## Building a reply (R448) -/

/-- The tick word of replies (R448). -/
def Junction.execTick (j : Junction) : Nat := j.clk.tickWord.toNat

/-- A reply of this Junction to a request of mailbox m. -/
def Junction.reply (j : Junction) (m : Nat) (q : Request) (exec : Nat) (r : Rc) (body : Bytes) : Reply :=
  { opcode := q.opcode, result := r.code, attention := j.attention q.ctx, tag := q.tag, seq := q.seq, responder := j.id, relayed := m == 16,
    execTick := exec, check := r.check, offset := r.offset, body := body }

/-- The reply in received bytes (R445, R448). -/
def Reply.decode (b : Bytes) : Reply :=
  { opcode := rd b 0 2, result := rd b 2 1, attention := rd b 3 1, tag := rd b 4 4, seq := rd b 8 8, responder := rd b 0x14 4 % 2 ^ 17,
    relayed := bit (rd b 0x14 4) 17, execTick := rd b 0x18 8, check := rd b 0x20 2, offset := rd b 0x24 4, body := b.drop 48 }

/-! ## Delivery (R443, R444, R445) -/

/-- Bytes cut into segments of at most 8,192 B (R444). -/
def segments (b : Bytes) : List Bytes := (List.range (max 1 (cdiv b.length 8192))).map (fun i => sub b (8192 * i) 8192)

/-- The datagrams of a mailbox message: segment headers and segments (R444). -/
def mailboxDatagrams (m : Nat) (reply : Bool) (seq : Nat) (b : Bytes) : List Bytes :=
  let ss := segments b
  (List.zip (List.range ss.length) ss).map (fun (x : Nat × Bytes) =>
    le 4 0x58424D44 ++ le 1 m ++ le 1 (b2n reply) ++ le 1 x.1 ++ le 1 ss.length ++ le 8 seq ++ x.2)

/-- The active transmit association of an Ethernet port (R444, R475). -/
def Sec.txSa (s : Sec) (port : Nat) : Option Sa := s.sas.find? (fun a => a.port == port && a.dir == 1 && a.active && !a.stopped)

/-- The packet number at which an association stops (R475). -/
def pnEnd : Nat := 2 ^ 64 - 2 ^ 32

/-- Send mailbox datagrams in queue 0 of a port, each in a frame of the active association; without one none is sent (R444, R475). -/
def Junction.sendProtected (j : Junction) (port : Nat) (l : List Bytes) : Junction :=
  match j.sec.txSa port with
  | none => j
  | some a =>
    let n := min l.length (pnEnd - a.nextPn)
    let gone := decide (pnEnd ≤ a.nextPn + n)
    let sas := j.sec.sas.map (fun (x : Sa) => if x = a then { x with nextPn := x.nextPn + n, stopped := gone } else x)
    let e := j.exp.eth port
    let j := if gone then j.secEvent 10 port else j
    { j with sec := { j.sec with sas := sas }, exp := j.exp.setEth port { e with q0 := e.q0 ++ l.take n } }

/-- The 16-byte relay header (R445); byte 9 marks a reply (log 41). -/
def relayHead (origin target hops : Nat) (reply : Bool) : Bytes := le 4 origin ++ le 4 target ++ le 1 hops ++ le 1 (b2n reply) ++ zeros 6

/-- Write a reply (R443 to R445): into the reply ring, in datagrams, or back along the relay path. -/
def Junction.deliver (j : Junction) (m : Nat) (it : Taken) (r : Reply) : Junction :=
  if m = 16 then j.send it.port 3 1 0 (relayHead it.origin j.id 0 true ++ r.bytes)
  else if m < 8 then
    let x := j.mbox m
    j.setMbox m { x with replies := x.replies ++ [r], rplTail := (x.rplTail + 1) % 65536 }
  else j.sendProtected (j.mbox m).via (mailboxDatagrams m true r.seq r.bytes)

/-- Keep the reply for retransmission, when it answers the last request executed (R449). -/
def Mailbox.store (x : Mailbox) (r : Reply) : Mailbox :=
  match x.session with
  | some s => if s.seq = r.seq then { x with session := some { s with stored := some r } } else x
  | none => x

/-- A closing or expired session ends once nothing of it is left (R455, R456). -/
def Mailbox.settleSession (x : Mailbox) : Mailbox :=
  match x.session with
  | some s => if (s.closing == some 0 || (s.expired && x.taken.length == 0)) && x.owed.length == 0 then { x with session := none } else x
  | none => x

/-- A reply goes out, stored when `keep`; of an expired session it is discarded (R449, R450, R456). -/
def Junction.giveReply (j : Junction) (m : Nat) (it : Taken) (r : Reply) (keep : Bool) : Junction :=
  let x := j.mbox m
  let gone := match x.session with | some s => s.expired | none => false
  let j := j.setMbox m (if keep then x.store r else x)
  let j := if gone then j else j.deliver m it r
  j.setMbox m (j.mbox m).settleSession

/-! ## Replies still owed (R445, R452, R462) -/

/-- A command's reply is owed. -/
def Junction.owe (j : Junction) (m : Nat) (it : Taken) (w : Waits) : Junction :=
  let x := j.mbox m
  j.setMbox m { x with owed := x.owed ++ [⟨it, j.clk.up, j.execTick, w⟩] }

/-- Complete every owed reply of a mailbox that a test picks. -/
def Junction.payMailbox (j : Junction) (m : Nat) (pick : Owed → Bool) (r : Request → Nat → Reply) : Junction :=
  let due := (j.mbox m).owed.filter pick
  if due.length = 0 then j
  else
    let x := j.mbox m
    let j := j.setMbox m { x with owed := x.owed.filter (fun o => !pick o) }
    due.foldl (fun (j : Junction) o => let a := r o.item.req o.exec; j.giveReply m o.item { a with attention := j.attention o.item.req.ctx } true) j

/-- Complete owed replies in every mailbox, with a result and a body. -/
def Junction.pay (j : Junction) (pick : Owed → Bool) (r : Rc) (body : Bytes) : Junction :=
  (List.range 17).foldl (fun j m => j.payMailbox m pick (fun q e => j.reply m q e r body)) j

/-- Some mailbox owes a reply that a test picks. -/
def Junction.owes (j : Junction) (pick : Owed → Bool) : Bool := j.mail.any (fun x => x.owed.any pick)

/-- An LS_READ or LS_WRITE whose link has left service in flight ends INDETERMINATE (R452, R462). -/
def Junction.settleLinks (j : Junction) : Junction :=
  j.pay (fun o => match o.waits with
    | .lineside p k => !(j.txns.any (fun t => t.port == p && t.use == TxnUse.mailbox k))
    | _ => false) (rc 0xF0) []

end Sys2Proof.Machine
end

