-- ==== Sys2Proof/Machine/JnEdge.lean ====
section
/-! DEFINITION. The sample edge of a Junction, its twin, export, Ballast jobs, and the messages Linesides and twins send it (R27 to R30, R37, R60, R153, R156, R159, R307, R394, R405 to R413, R422, R426 to R435, R454, R519). -/

namespace Sys2Proof.Machine

/-! ## The sample edge (R37, R38, R153, R181, R294, R307, R389, R402, R535) -/

/-- Port statistics of a port that have advanced since the last edge (R535). -/
def statSteps (p : Nat) (now prev : Tbl Word) : List ((Nat × Nat) × Nat) :=
  (List.range 31).filterMap (fun s => let d := Tbl.get 0 now s - Tbl.get 0 prev s; if d = 0 then none else some ((p, s), d.toNat))

/-- Logbook rates and tokens at the edge of tick n (R152, R153). -/
def Junction.rateEdge (j : Junction) (n : Nat) : Junction :=
  ({ j with logRate := j.logRateNew.foldl (fun t (x : Nat × Nat) => Tbl.put 8 t x.1 x.2) j.logRate, logRateNew := [] }).addTokens n

/-- A tick mark of tick n has been taken on a port: the image's stream of marks, or the bootstrap stream (R62, R182). -/
def Junction.markCame (j : Junction) (x : Port) (p n : Nat) : Bool :=
  x.streams.any (fun r => r.taken && r.tick == n && (r.id == 0xFFFF || (match j.imageOf n with
    | some t => (match t.stream? r.id with | some s => s.kind == 3 && !s.tx && s.port == p | none => false) | none => false)))

/-- The ports at an edge: an uplink whose tick mark did not come has missed it, in service or not (R222); slots start again, sources age, streams of old ticks are dropped, statistics are sampled (R49, R172, R221, R535). -/
def Junction.portEdge (j : Junction) (n : Nat) : Junction :=
  let age := fun (p : Nat) (x : Port) =>
    let x := if j.confirmed && j.uplinks.contains p && !(j.markCame x p (n - 1)) then x.count 16 1 else x
    let x := x.tickStart
    { x with time := x.time.tickEnd j.clk.servo.lossTicks (decide (66 ≤ p)), streams := x.streams.filter (fun r => decide (n < r.tick + 4)),
             vc0 := x.vc0.filter (fun r => decide (n < r.tick + 4)) }
  { j with ports := (List.zip (List.range j.ports.length) j.ports).map (fun (x : Nat × Port) => age x.1 x.2) }

/-- A tick outside full service: every phase is closed from the start, so nothing is accepted, reduced, scored or published (R34). -/
def TickWork.idle (n : Nat) : TickWork :=
  (TickWork.empty n).shut

/-- The work of tick n begins; the last four ticks are kept. -/
def Junction.workEdge (j : Junction) (n : Nat) : Junction :=
  let steps := ((List.zip (List.range j.ports.length) (List.zip j.ports j.statPrev)).map (fun (x : Nat × Port × Tbl Word) => statSteps x.1 x.2.1.stats x.2.2)).flatten
  { j with ticks := (j.ticks ++ [({ (if j.full then TickWork.empty n else TickWork.idle n) with statDelta := steps } : TickWork)]).drop (j.ticks.length + 1 - 4), statPrev := j.ports.map (·.stats) }

/-- The twin at an edge: a tick without a valid exchange counts, and the time and state messages go out (R28, R30, R181, R394). -/
def Junction.twinEdge (j : Junction) : Junction :=
  let t := j.twin
  let j := if t.judging then { j with twin := { t with missing := if t.exchanged then 0 else t.missing + 1, exchanged := false } } else j
  let ports := [66, 67].filter (fun p => (j.port p).st == .active)
  let j := ports.foldl (fun j p => j.send p 3 2 0 (le 2 0x32 ++ zeros 82)) j
  if j.twin.owesStates then { ports.foldl (fun j p => j.send p 3 2 0 j.stateMessage) j with twin := { j.twin with owesStates := false } } else j

/-- Engines whose runtime self-check failed are retired, and their trees move to the siding two ticks later (R307). -/
def Junction.engineEdge (j : Junction) (n : Nat) : Junction :=
  let now := j.boot.retiring.filter (fun x => decide (x.2 ≤ n + 2))
  let moved := j.boot.retiring.filter (fun x => decide (x.2 ≤ n))
  let bs := j.bundles.map (fun (b : Bundle) => match b.placing with
    | some p => { b with placing := some (moved.foldl (fun (q : Placing) (x : Nat × Nat) => q.retire x.1 b.ensembles) p) }
    | none => b)
  { j with boot := { j.boot with retired := now.foldl (fun (a : BitVec 64) x => a ||| BitVec.ofNat 64 (put x.1 1)) j.boot.retired,
                                 retiring := j.boot.retiring.filter (fun x => decide (n < x.2)) },
           bundles := if moved.length = 0 then j.bundles else bs }

/-- Fences owed again (R389). -/
def Junction.fenceEdge (j : Junction) : Junction :=
  (List.range 32).foldl (fun j k => let d := j.die k; if d.refence then (j.setDie k { d with refence := false }).fence k else j) j

/-- A sample edge of the Junction's clock (R37): a tick index, where the clock has one, gives the tick its work. -/
def Junction.sampleEdge (j : Junction) : Junction :=
  if j.boot.porst then j
  else
    let j := (({ j with clk := j.clk.edge, ref := { j.ref with run := if j.extOk then j.ref.run + 1 else 0 } }).setEdge).dropMasters
    match j.clk.tick with
    | some n => (((((((j.rateEdge n).portEdge n).workEdge n).twinEdge).engineEdge n).fenceEdge).writeEpochs).issueLookups n
    | none => ((j.portEdge j.clk.prov).rateEdge j.clk.prov).twinEdge

/-! ## Twin and duty (R27 to R30, R433, R434) -/

/-- Judging starts 40 ms after confirmation where no twin port has become ACTIVE (R30). -/
def Junction.judgingStart (j : Junction) : Junction := if j.confirmed then { j with twin := { j.twin with judging := true } } else j

/-- Two consecutive ticks without a valid exchange: the twin is lost (R28); no stream waits for its last number any more (log 93). -/
def Junction.twinLost (j : Junction) : Junction :=
  if j.twin.judging && 2 ≤ j.twin.missing && !j.twin.lost then
    let take := if j.role.twinB && !j.twin.duty then some (j.clk.markTick + 1) else j.twin.takeoverTick
    { j with twin := { j.twin with lost := true, takeoverTick := take, taking := j.twin.taking.map (fun t => (t.1, [])) } }
  else j

/-- At the next sample edge a Twin B that has lost Twin A takes duty (R28, R433). -/
def Junction.takeover (j : Junction) : Junction :=
  match j.twin.takeoverTick with
  | some t =>
    if j.role.twinB && j.twin.lost && !j.twin.duty && t ≤ j.clk.markTick then
      { j with twin := { j.twin with duty := true, takeoverTick := some j.clk.markTick }, exp := j.exp.takeDuty }
    else j
  | none => j

/-- DUTY_TRANSFER: Twin A is to hold duty from tick m (R29, R434). -/
def Junction.dutyTransfer (j : Junction) (m : Nat) : Junction × Rc :=
  if j.twin.lost then (j, rc 0x28)
  else if !(j.clk.tick.isSome && decide ((j.clk.time : Int) < j.clk.tickAt m)) then (j, rc 0x1B)
  else ({ j with twin := { j.twin with transferAt := some m } }, rc 0)

/-- A twin that gave duty up passes the last sequence number of each stream whose earlier records have all gone, once (R434). -/
def Junction.finalAcks (j : Junction) : Junction :=
  match j.twin.handing with
  | some (m, l) =>
    let now := l.filter (j.exp.drained m)
    let msg := fun k => finalAck (k / 8) (k % 8) (((j.exp.stream (k / 8) (k % 8)).nextSeq + 2 ^ 64 - 1) % 2 ^ 64) m
    let j := now.foldl (fun j k => [66, 67].foldl (fun j p => j.send p 3 3 0 (msg k)) j) j
    { j with twin := { j.twin with handing := some (m, l.filter (fun k => !(now.contains k))) } }
  | none => j

/-- The transfer tick m is reached (R29, R434): Twin B gives duty up, with the records of ticks before m still its own to export; Twin A takes it, and
each stream waits for the twin's last number, unless the twin is lost. Each twin acts on the command it was given itself (log 81). -/
def Junction.dutyEffect (j : Junction) : Junction :=
  match j.twin.transferAt with
  | some m =>
    if !(j.reached m) then j
    else
      let t := { j.twin with transferAt := none, duty := !j.role.twinB }
      if j.twin.duty == t.duty then { j with twin := t }
      else if j.role.twinB then ({ j with twin := { t with handing := some (m, j.exp.enabled), taking := none } }).finalAcks
      else { j with twin := { t with handing := none, taking := some (m, if j.twin.lost then [] else j.exp.enabled) }, exp := j.exp.takeDuty }
  | none => j

/-- Die states and epochs from the twin (R394). -/
def Junction.twinStatesReceived (j : Junction) (p : Nat) : Junction :=
  match (j.port p).takeInbox 3 2 (fun b => rd b 0 2 == 0x34) with
  | (some m, x) => if 66 ≤ p then (j.setPort p x).twinStates m.bytes else j.setPort p x
  | (none, _) => j

/-! ## Export (R430 to R435) -/

/-- Hand the messages that wait for compression to Ballast's export queue (R405, R431). -/
def Junction.packJobs (j : Junction) : Junction :=
  let b := j.ballast
  let has := fun (id : Nat) => b.export_.any (fun x => x.id == id) || (match b.run0 with | some (x, true) => x.id == id | _ => false)
  let new := (j.exp.packing.filter (fun m => !(has m.id))).map (fun (m : ExpMsg) =>
    ({ decompress := false, ctx := m.ctx, crcSel := 0, inLen := m.raw.length, inAddr := 0, outAddr := 0, outCap := deflateBound m.raw.length, tag := 0, junk := false, id := m.id } : BallastJob))
  { j with ballast := { b with export_ := b.export_ ++ new } }

/-- Compression runs where the stream asks for it and unit 0 works (R431, R493). -/
def Junction.compresses (j : Junction) (ctx kind : Nat) : Bool := (j.exp.stream ctx kind).compress && !(bit j.boot.ballastFailed.toNat 0)

/-- Logbook records that a message carries count as exported from its closing on, so nothing folds into them any more (R160, log 88). -/
def Junction.markExported (j : Junction) (kind : Nat) (out : List Bytes) : Junction :=
  if kind = 4 then { j with logs := j.logs.map (fun g => { g with recs := g.recs.map (fun r => if out.contains r.data then { r with exported := true } else r) }) } else j

/-- This twin exports a record of a stream, 8·CTX + KIND (R27, R434): it holds duty and has the stream's last number, or it gave duty up at a later tick. -/
def JnTwin.exports (t : JnTwin) (k tick : Nat) : Bool :=
  (t.duty && (match t.taking with | some (_, l) => !(l.contains k) | none => true))
  || (match t.handing with | some (m, l) => !t.duty && l.contains k && decide (tick < m) | none => false)

/-- The exporter closes the next message of a stream (R430): at a limit, or once the tick of its records is over. -/
def Junction.exportClose (j : Junction) (ctx kind : Nat) : Junction :=
  let s := j.exp.stream ctx kind
  match s.held.drop s.closed with
  | [] => j
  | r :: t =>
    let run := t.takeWhile (fun x => x.tick == r.tick)
    let size := run.foldl (fun a x => a + x.data.length) r.data.length
    let ended := (match j.clk.tick with | some n => decide (r.tick ≠ n) | none => true) || run.length != t.length
    if !j.full || !(j.twin.exports (8 * ctx + kind) r.tick) || (j.ctx ctx).st == .draining || !(ended || decide (8192 < size) || decide (512 ≤ run.length)) then j
    else
      let takes := j.twin.takeoverTick == some j.clk.markTick
      let e := j.exp.close ctx kind takes (j.compresses ctx kind)
      let out := ((s.held.drop s.closed).take ((e.stream ctx kind).closed - s.closed)).map (·.data)
      (({ j with exp := e }).markExported kind out).packJobs

/-- Between frames an Ethernet port takes its next message (R435); in relay-only service only mailbox frames go (R34). -/
def Junction.exportService (j : Junction) (port : Nat) : Junction :=
  if port < 2 then ({ j with exp := if j.full then j.exp.serve j.id port else j.exp.serveMailbox port }).finalAcks else j

/-- The last bit of a frame has left (R432): the twin is told, and the records go. -/
def Junction.exportSent (j : Junction) (port : Nat) : Junction :=
  if 2 ≤ port then j
  else
    let (e, m) := j.exp.sent port
    let j := { j with exp := e }
    match m with
    | some m => ([66, 67].foldl (fun j p => j.send p 3 3 0 (mirrorAck m)) j).finalAcks
    | none => j

/-- The books of a stream follow a mirror acknowledgement (R432): records it covers go and count as exported, and the number is held. -/
def Junction.mirrored (j : Junction) (b : Bytes) : Junction :=
  let ctx := rd b 2 1 % 16
  let kind := rd b 3 1 % 8
  let e := j.exp.mirror b
  let gone := ((j.exp.stream ctx kind).held.filter (fun r => !((e.stream ctx kind).held.contains r))).map (·.data)
  { j.markExported kind gone with exp := e }

/-- A mirror acknowledgement from the twin (R432). A Twin A that has taken duty at a tick has from it the numbers of earlier records, the final one
among them (R434); any other shows that the twin holds duty, so a Twin A that has it gives it up (R29). -/
def Junction.mirrorReceived (j : Junction) (p : Nat) : Junction :=
  match (j.port p).takeInbox 3 3 (fun b => rd b 0 2 == 0x33) with
  | (some m, x) =>
    let j := j.setPort p x
    let b := m.bytes
    let k := 8 * (rd b 2 1 % 16) + rd b 3 1 % 8
    if p < 66 || (j.twin.duty && j.role.twinB) then j
    else if !j.twin.duty then j.mirrored b
    else match j.twin.taking with
    | some (at_, l) =>
      if at_ ≤ rd b 0x10 8 then { ({ j with exp := j.exp.giveDuty }).mirrored b with twin := { j.twin with duty := false, taking := none } }
      else if !(l.contains k) then j
      else { j.mirrored b with twin := { j.twin with taking := some (at_, if bit (rd b 4 1) 0 then l.filter (fun q => q != k) else l) } }
    | none => { ({ j with exp := j.exp.giveDuty }).mirrored b with twin := { j.twin with duty := false } }
  | (none, _) => j

/-- Bytes of a relayed read-out have arrived, or its end (R131, R430). -/
def Junction.bulkReceived (j : Junction) (p subch : Nat) : Junction :=
  if !(j.linesidePort p) || !(subch == 1 || subch == 2) then j
  else
    let x := j.port p
    match x.takeInbox 2 subch (fun _ => true) with
    | (some m, x) =>
      let b := m.bytes
      let short := rd b 0 2 == 1 && decide (b.length < 48 * (rd b 8 4 + 1))
      ((j.setPort p x).bulkBytes p subch b (!short) short short).packJobs
    | (none, _) =>
      match x.partials.find? (fun m => m.vc == 2 && m.subch == subch) with
      | some m => (j.bulkBytes p subch m.seen false false false).packJobs
      | none => j

/-! ## Ballast jobs (R405 to R413, R422) -/

def Junction.unitRun (j : Junction) (u : Nat) : Option (BallastJob × Bool) := if u = 0 then j.ballast.run0 else j.ballast.run1
def Junction.setRun (j : Junction) (u : Nat) (r : Option (BallastJob × Bool)) : Junction :=
  { j with ballast := if u = 0 then { j.ballast with run0 := r } else { j.ballast with run1 := r } }

def Junction.setEngine (j : Junction) (i : Nat) (e : CrcEng) : Junction := { j with crc := j.crc.set i e }

/-- The job a unit would start next, with its queue (R405): the queues in turn, and the export queue first on a tie. -/
def Junction.nextJob (j : Junction) (u : Nat) : Option (BallastJob × Bool) :=
  let mine := fun (l : List BallastJob) => match l with | x :: _ => if x.decompress == (u == 1) then some x else none | [] => none
  let turn := if u = 0 then j.ballast.exportTurn0 else j.ballast.exportTurn1
  match mine j.ballast.export_, mine j.ballast.software with
  | some a, some b => if turn then some (a, true) else some (b, false)
  | some a, none => some (a, true)
  | none, some b => some (b, false)
  | none, none => none

/-- A software job ends: the completion record is its reply (R407, R462). -/
def Junction.jobReply (j : Junction) (u id : Nat) (c : Bytes) : Junction := j.pay (fun o => o.waits == Waits.ballast u id) (rc 0) c

/-- A unit takes its next job, once it and the job's CRC engine are free (R405, R422). -/
def Junction.jobStart (j : Junction) (u : Nat) : Junction :=
  if 2 ≤ u || (j.unitRun u).isSome || bit j.boot.ballastFailed.toNat u then j
  else
    match j.nextJob u with
    | none => j
    | some (b, ex) =>
      let e := j.engine (b.crcSel - 1)
      let e := e.settle (j.crcBusy (b.crcSel - 1))
      let named := b.crcSel != 0
      let bad := named && !(e.act.enable && e.act.bind == 3)
      if named && !bad && e.jobUnit.isSome then j
      else
        let bl := j.ballast
        let bl := if ex then { bl with export_ := bl.export_.drop 1 } else { bl with software := bl.software.drop 1 }
        let bl := if u = 0 then { bl with exportTurn0 := !ex } else { bl with exportTurn1 := !ex }
        let j := { j with ballast := bl }
        if bad then j.jobReply u b.id (completion b.tag 2 0x12 false false 0 0 0 0)
        else
          let j := if named then j.setEngine (b.crcSel - 1) { e with value := e.act.init, jobUnit := some u } else j
          j.setRun u (some (b, ex))

/-- A job ends (R407 to R412, R422): the output is written, the engine has the CRC of the uncompressed bytes, and the completion
record is the reply; a job of the exporter gives its message. -/
def Junction.jobComplete (j : Junction) (u : Nat) : Junction :=
  if 2 ≤ u then j
  else
    match j.unitRun u with
    | none => j
    | some (b, true) =>
      let j := j.setRun u none
      (match j.exp.packing.find? (fun m => m.id == b.id) with
      | some m => { j with exp := j.exp.packed b.id (deflate m.raw) }
      | none => j)
    | some (b, false) =>
      let input := j.read b.inAddr b.inLen
      let cut := j.poisonAt b.inAddr b.inLen
      let (code, trailing, consumed, errBit, out) := b.work input cut
      let j := (j.setRun u none).write b.outAddr out
      let named := b.crcSel != 0
      let e := j.engine (b.crcSel - 1)
      let plain := if b.decompress then out else input.take (cut.getD b.inLen)
      let e := if named then { e.feed plain with jobUnit := none } else e
      let j := if named then j.setEngine (b.crcSel - 1) e else j
      j.jobReply u b.id (completion b.tag (if code = 0 then 0 else 1) code trailing named consumed out.length (if code = 0 then 0 else errBit) e.result)

/-! ## Messages of Linesides (R156, R159, R454, R519) -/

/-- A Logbook Bulk message: its records wait for commit (R156). -/
def Junction.logbookReceived (j : Junction) (p : Nat) : Junction :=
  if !(j.linesidePort p) then j
  else
    match (j.port p).takeInbox 2 0 (fun b => rd b 0 2 == 4) with
    | (some m, x) =>
      let recs := (List.range (rd m.bytes 2 2)).map (fun i => sub m.bytes (16 + 256 * i) 256)
      let g := j.log (p + 1)
      (j.setPort p x).setLog (p + 1) { g with waiting := g.waiting ++ recs }
    | (none, _) => j

/-- A record of code 0x17, a debug unlock, is a security event (R481). -/
def Junction.noteUnlock (j : Junction) (l dup : Nat) (b : Bytes) : Junction :=
  if fld (rd b 0xE 1) 0 6 = 0x17 && (j.log l).duplicate = dup then j.secEvent 7 (rd b 0x10 4 % 2 ^ 17) else j

/-- The oldest record that waits is committed, folded, dropped or a duplicate, and the commit SEQ goes to the Lineside (R156, R159, R160, R540). -/
def Junction.logCommit (j : Junction) (l : Nat) : Junction :=
  match (j.log l).waiting with
  | b :: t =>
    let dup := (j.log l).duplicate
    let j := j.setLog l { j.log l with waiting := t }
    let j := j.commitRecord l (if l = 0 then 0 else (j.die (l - 1)).owner) b
    if l = 0 then j
    else
      let j := j.noteUnlock l dup b
      match (j.log l).expected with
      | some e =>
        let v := (e + 2 ^ 32 - 1) % 2 ^ 32
        if (j.log l).commitSent = some v || (j.port (l - 1)).st != .active then j
        else (j.setLog l { j.log l with commitSent := some v }).writeLs (l - 1) .own [(0x304, v)]
      | none => j
  | [] => j

/-- An alarm detail record is queued for its contexts and for export (R426, R454). -/
def Junction.alarmReceived (j : Junction) (p : Nat) : Junction :=
  match (j.port p).takeInbox 1 0 (fun _ => true) with
  | (some m, x) => (j.setPort p x).queueAlarm (rd m.bytes 0x10 4) m.bytes
  | (none, _) => j

/-- A configuration reply (R519): register values seen, and whatever its transaction was for. -/
def Junction.cfgReply (j : Junction) (p : Nat) : Junction :=
  if !(j.linesidePort p) then j
  else
    match (j.port p).takeInbox 3 0 (fun b => rd b 0 2 == 0x11) with
    | (none, _) => j
    | (some m, x) =>
      let j := j.setPort p x
      let b := m.bytes
      let id := rd b 4 4
      let ops := (List.range (rd b 2 2)).map (fun i => (rd b (8 + 24 * i + 2) 2, rd b (8 + 24 * i + 8) 8))
      match j.txns.find? (fun t => t.port == p && t.id == id) with
      | none => j
      | some t =>
        let seen := ops.foldl (fun (a : Tbl Word) (o : Nat × Nat) => Tbl.put 0 a o.1 (BitVec.ofNat 64 o.2)) (Tbl.get [] j.lineCfg p)
        let j := { j with txns := j.txns.filter (fun y => !(y.port == p && y.id == id)), lineCfg := Tbl.put [] j.lineCfg p seen }
        let j := if ops.any (fun o => o.1 == 0x211) then j.banksKnown p else j
        match t.use with
        | .test => j.testResult p ((ops.take 8).map (fun (o : Nat × Nat) => le 8 o.2)).flatten
        | .mailbox k =>
          let wrote := t.writes.length != 0
          let hide := fun (o : Nat × Nat) => if inRange o.1 0x3200 256 then 0 else o.2
          let last := !(j.txns.any (fun y => y.port == p && y.use == TxnUse.mailbox k))
          let j := if wrote then ops.foldl (fun (j : Junction) (o : Nat × Nat) => j.noteShadow p o.1 (BitVec.ofNat 64 o.2)) j else j
          let body := if wrote then [] else (ops.map (fun o => le 8 (hide o))).flatten
          if wrote then j.pay (fun o => o.waits == Waits.lineside p k) (rc 0) []
          else
            let part := Tbl.get [] j.lineParts k ++ body
            if last then ({ j with lineParts := Tbl.put [] j.lineParts k [] }).pay (fun o => o.waits == Waits.lineside p k) (rc 0) part
            else { j with lineParts := Tbl.put [] j.lineParts k part }
        | _ => j

end Sys2Proof.Machine
end

