-- ==== Sys2Proof/Machine/JnBoot.lean ====
section
/-! DEFINITION. Resets, bring-up, service states, power failure and self-checks of a Junction (R15 to R17, R162, R163, R307, R484 to R494, R502, R504, R507, R509 to R511, R514). -/

namespace Sys2Proof.Machine

/-! ## The state after cold reset (R168, R484, R523, R531) -/

def JnBoot.init : JnBoot :=
  { service := 0, phase := 0, fallback := false, cause := 0, kat := 0, readyMs := 0, last := 1, thermtrip := false, warmCount := 0, porst := true, pin := true,
    waitPorst := false, waitRefclk := false, engines := [], spares := [], failed := 0, retired := 0, retiring := [], sramRepaired := 0, sramSpare := 0,
    sramBad := 0, seqFailed := false, ballastFailed := 0, crcFailed := 0, farGiB := 0, relayNext := none, mergeFails := 0, resetAt := 0,
    hot := false, tripped := false }

def JnTwin.init : JnTwin := ⟨false, false, false, 0, false, none, none, false, none, none⟩

def JnRef.init : JnRef :=
  { ref := none, domain := 0, ppsDelay := 0, ppsNext := none, ppsLast := none, masters := [], gm := none, newGm := false, parked := false, stepping := false,
    sync := none, ms := none, delayReq := (0, none), delays := [], asym := 0, run := 0, lastValid := none, synce := none, utcOffset := 0, leap := 0, leapAt := 0 }

def Store.init : Store := ⟨[], [], [], 0, [], 0, [], none, false, List.replicate 32 0, false⟩

def Tests.init : Tests := ⟨none, none, 0, []⟩

def ErrCap.init : ErrCap := ⟨false, false, 0, 0, 0, 0, [], 0⟩

def Fw.init : Fw :=
  { slot0 := [], slot1 := [], marked := 0, running := 0, rom := true, got := 0, total := 0, st := .none_, result := 0, at_ := none, last := 0, paused := false,
    reverting := false, fallback := false, pausedAt := 0, resumedAt := 0 }

def Sec.init : Sec :=
  { ownerHash := zeros 48, floor := 0, lockPart := false, lockOpen := false, keys := [], sas := [], open_ := false, modeAt := none,
    tap := ⟨0, none, 0, 0⟩, events := [], evDropped := 0, fw := Fw.init, lastOpen := [], zeroised := false, memKeys := none, memDrawn := 0 }

/-- A Junction in cold reset, straps at 0: a tray Twin A (log 6). -/
def Junction.init : Junction :=
  { boot := JnBoot.init, straps := 0, confirmed := false, index := 0, twin := JnTwin.init, portMap := [], subtree := [], clk := Clock.init,
    ext := Servo.extDefault, ref := JnRef.init, tsIn := List.replicate 8 ⟨0, 0, 0, [], 0, none⟩, trig := List.replicate 4 ⟨TrigCfg.off, none, 0, none, none, false, 0⟩,
    pps := ⟨100000000, 0, none⟩, b0 := JnBank.empty, b1 := JnBank.empty, old := none, stopAt := none, ports := List.replicate 68 (Port.init false false), shadow := [], txns := [], nextTxn := 0,
    lineCfg := [], banksRead := 0, lineParts := [], ticks := [], flights := [], statPrev := List.replicate 68 [], det := [], verdictPrev := [], stats := none, exclusions := [], mem := [],
    poisoned := [], store := Store.init, hist := [], ctxs := List.replicate 16 Ctx.init, bundles := [], wayOps := [], grp := [], seqRun := none, fc := [],
    areas := [], refs := List.replicate 4 ⟨none, none⟩, shardCnt := [], tests := Tests.init, dies := List.replicate 32 (DieSlot.init 0), slots := [],
    logs := List.replicate 33 JnLog.init, logRate := [], logRateNew := [], logTokens := [], rateDrop := [], ownSeq := 0, nearFull := false,
    mail := List.replicate 17 Mailbox.init, hops := [], alarms := [], alarmDrop := [], notices := [], sec := Sec.init, ballast := Ballast.init,
    crc := List.replicate 8 CrcEng.init, exp := Exp.init, errs := ErrCap.init, latch := [], readData := none, flush := ⟨false, false, 0, false⟩, cnt := [], jobSeq := 0 }

/-! ## What a reset keeps (R484, R485) -/

/-- The logs in the Record Store: records and whether they are exported; counters and expected SEQs start again (R159, R484, R540). -/
def JnLog.kept (g : JnLog) : JnLog := { JnLog.init with recs := g.recs }

/-- What a warm reset keeps of a log: the expected SEQ too, which only a cold reset forgets (R156, R540). -/
def JnLog.warm (g : JnLog) : JnLog := { g.kept with expected := g.expected }

/-- Enter cold reset: fuses, firmware store and Record Store are kept (R484, R505, R511). -/
def Junction.coldHold (j : Junction) (last : Nat) (pin waitPorst waitRefclk : Bool) : Junction :=
  let i := Junction.init
  let f := j.sec.fw
  { i with
    boot := { i.boot with last := last, pin := pin, waitPorst := waitPorst, waitRefclk := waitRefclk, tripped := j.boot.tripped }, straps := j.straps,
    store := { j.store with writes := [], lastMove := none },
    dies := j.store.epochs.map DieSlot.init, logs := j.logs.map JnLog.kept, ownSeq := j.ownSeq,
    sec := { i.sec with ownerHash := j.sec.ownerHash, floor := j.sec.floor, lockPart := j.sec.lockPart, lockOpen := j.sec.lockOpen, open_ := j.sec.resetMode, memDrawn := j.sec.memDrawn,
                        fw := { i.sec.fw with slot0 := f.slot0, slot1 := f.slot1, marked := f.marked, running := f.marked, last := f.last } },
    jobSeq := j.jobSeq }

/-- A port after a reset: DOWN, its parameters from the role, powered down where the role leaves it unused (R22, R196, R488). -/
def Junction.freshPort (j : Junction) (p : Nat) : Port :=
  let x := Port.init false (j.tray && decide (p < 32))
  { x with rate400 := j.role.rate400 p, unused := j.role.unused p, time := { x.time with asym := (j.port p).time.asym } }

/-- What a warm reset loses of the on-die SRAM, sessions and links (R484, R485): the time base, the near tier with its banks, contexts,
bundles, histories and export staging, keys, mode, role, port map, shadow and error capture are kept. -/
def Junction.warmHold (j : Junction) (last : Nat) : Junction :=
  let i := Junction.init
  let t := j.twin
  { j with
    boot := { i.boot with last := last, porst := false, pin := false, warmCount := sat 16 (j.boot.warmCount + 1), thermtrip := j.boot.thermtrip, farGiB := j.boot.farGiB, resetAt := j.clk.up, hot := j.boot.hot },
    twin := { i.twin with duty := t.duty && (j.role.twinB || t.lost) },
    stopAt := none, ports := (List.range 68).map j.freshPort, subtree := [], txns := [], lineCfg := [], banksRead := 0, lineParts := [], ticks := [], flights := [], statPrev := i.statPrev,
    det := [], verdictPrev := [], stats := none, exclusions := [], wayOps := [], grp := [], seqRun := none, fc := [], areas := [],
    shardCnt := [], dies := j.store.epochs.map DieSlot.init, slots := [], logs := j.logs.map JnLog.warm, logRate := [], logRateNew := [], logTokens := [],
    rateDrop := [], nearFull := false, mail := i.mail, hops := [], alarms := [], alarmDrop := [], notices := [],
    poisoned := j.poisoned.filter (fun x => x.1 != 1),
    sec := { j.sec with events := [], evDropped := 0, modeAt := none, fw := { j.sec.fw with got := 0, total := 0, st := .none_, result := 0, at_ := none, paused := false, reverting := false } },
    ballast := i.ballast, crc := i.crc,
    exp := { j.exp.giveDuty with e0 := { j.exp.e0 with q0 := [], sending := none }, e1 := { j.exp.e1 with q0 := [], sending := none }, bulk := [] },
    latch := [], flush := i.flush, cnt := [] }

/-! ## Bring-up (R486 to R493) -/

/-- The part boots with everything passing. -/
def BootIn.clean : BootIn := ⟨0, [], 0, 0, 0, false, false, 0, 45⟩

/-- An instance of a known-answer row failed. -/
def BootIn.fails (b : BootIn) (row i : Nat) : Bool := b.katFail.any (fun x => x.1 == row && x.2.1 == i)
def BootIn.failsRow (b : BootIn) (row : Nat) : Bool := b.katFail.any (fun x => x.1 == row)

/-- The failures of units that run: an engine fused off has no known-answer run (R489). -/
def BootIn.ran (b : BootIn) : BootIn := { b with katFail := b.katFail.filter (fun x => !(x.1 == 0 && bit Config.enginesFused.toNat x.2.1)) }

/-- Engines that pass, in physical order (R491). -/
def BootIn.passing (b : BootIn) : List Nat := (List.range 68).filter (fun e => !(bit Config.enginesFused.toNat e) && !(b.fails 0 e))

/-- The cause of relay-only service that bring-up finds, 0 for none (R493). -/
def BootIn.cause (b : BootIn) (rom : Bool) : Nat :=
  if rom then 1 else if b.stackFail then 2 else if b.storeFail then 3 else if b.failsRow 2 then 4 else if b.failsRow 3 then 5 else if b.failsRow 6 then 6 else 0

/-- Enter a service state: code 0x33, and notices 1 and 2 for relay-only service (R457, R492). -/
def Junction.enterService (j : Junction) (st cause : Nat) : Junction :=
  let was := j.boot.service
  let ms := (j.clk.up - j.boot.resetAt) / (1000000 * uNs)
  let j := ({ j with boot := { j.boot with service := st, cause := if st = 3 then cause else 0 } }).logE 0x33 [st, cause, ms]
  if st = 3 && was ≠ 3 then j.notice 1 else if was = 3 && st ≠ 3 then j.notice 2 else j

/-- Relay-only service from now on (R34, R492): nothing more is exported, and the ticks already open give nothing more; the duty flag stays until the
twin takes duty (log 81). -/
def Junction.toRelay (j : Junction) (cause : Nat) : Junction :=
  ({ j with exp := j.exp.giveDuty, seqRun := none, flights := [], ticks := j.ticks.map TickWork.shut }).enterService 3 cause

/-- Phases 2 to 4 of a reset (R486, R489 to R493); a role kept confirmed resumes and its ports enter TRAIN (R485, R488). -/
def Junction.bringUp (j : Junction) (b : BootIn) (wasRelay : Bool) : Junction :=
  let b := b.ran
  let pass := b.passing
  let kat := (List.range 7).foldl (fun a r => if b.failsRow r then a else a + put r 1) 0
  let mask := fun (row n : Nat) => (List.range n).foldl (fun a i => if b.fails row i then a + put i 1 else a) 0
  let cause := b.cause j.sec.fw.rom
  let clk := j.clk.reach ((j.clk.time + b.ms * 1000000 * uNs : Nat) : Int)
  let j := { j with
    clk := clk,
    boot := { j.boot with porst := false, phase := 4, kat := BitVec.ofNat 7 kat, engines := pass.take 64, spares := pass.drop 64,
                          failed := ((List.range 68).filter (fun e => !(bit Config.enginesFused.toNat e) && b.fails 0 e)).length, sramRepaired := b.repaired, sramSpare := b.spareRows, sramBad := b.badArrays,
                          seqFailed := b.failsRow 1, ballastFailed := BitVec.ofNat 2 (mask 4 2), crcFailed := BitVec.ofNat 8 (mask 5 8),
                          farGiB := b.farGiB, readyMs := if cause = 0 then sat 16 b.ms else 0, relayNext := none } }
  let j := b.katFail.foldl (fun j x => j.logE 0x34 [x.1, x.2.1, x.2.2]) j
  let j := { j with boot := { j.boot with service := if wasRelay then 3 else 0 } }
  let j := if cause = 0 then (let j := j.enterService 1 0; if j.confirmed then j.enterService 2 0 else j) else j.enterService 3 cause
  let j := if pass.length < 64 then j.bareAlarm 6 j.entity [pass.length] else j
  if j.confirmed then { j with ports := (List.zip (List.range j.ports.length) j.ports).map (fun (x : Nat × Port) => if j.mayTrain x.1 then x.2.startTrain else x.2) } else j

/-- COLD_RESET work once PORST_N, the supplies and REFCLK allow it (R15, R348, R484 to R487): straps sampled, firmware chosen, memory keys
drawn. -/
def Junction.coldBoot (j : Junction) (b : BootIn) : Junction :=
  let f := j.sec.fw
  let boot := f.boot j.sec.floor
  let f := match boot with
    | some (s, fb) => { f with marked := s, running := s, rom := false, last := if fb then 2 else f.last }
    | none => { f with rom := true }
  let fb := match boot with | some (_, fb) => fb | none => false
  let old := fwVersion (j.sec.fw.slot j.sec.fw.marked)
  let j := { j with straps := b.straps, sec := ({ j.sec with fw := f }).drawKeys }
  let j := { j with ports := (List.range 68).map j.freshPort, boot := { j.boot with fallback := fb, thermtrip := j.store.thermtrip },
                    store := { j.store with thermtrip := false } }
  let j := j.bringUp b false
  if fb then (j.notice 3).logE 0x31 [old, f.version, 2] else j

/-- PORST_N rises (R486, R504, R507). -/
def Junction.porstRise (j : Junction) (b : BootIn) : Junction :=
  let j := { j with boot := { j.boot with pin := false } }
  if j.boot.porst && !j.boot.waitRefclk && !j.boot.waitPorst then j.coldBoot b else j

/-- PORST_N low for a time in ns (R511): under 1 us ignored, from 10 us taken; between, `taken` says which. -/
def Junction.porstFall (j : Junction) (ns : Nat) (taken : Bool) : Junction :=
  if ns < 1000 || (ns < 10000 && !taken) then j else
    let j := j.coldHold 1 true false j.boot.waitRefclk
    { j with boot := { j.boot with tripped := false } }

/-- A rail below 92 % of nominal for 1 us or longer (R504). -/
def Junction.supplyLoss (j : Junction) : Junction := j.coldHold 2 j.boot.pin (!j.boot.pin) j.boot.waitRefclk

/-- REFCLK lost for a time in ns (R507). -/
def Junction.refclkLoss (j : Junction) (ns : Nat) : Junction :=
  if ns ≤ 64 then j
  else if 1000 ≤ ns then j.coldHold (if j.boot.porst then j.boot.last else 3) j.boot.pin j.boot.waitPorst true
  else j.setClk j.clk.unlock

/-- REFCLK stable for 100 us (R507). -/
def Junction.refclkBack (j : Junction) (b : BootIn) : Junction :=
  let was := j.boot.waitRefclk
  let j := { j with boot := { j.boot with waitRefclk := false } }
  if was && j.boot.porst && !j.boot.pin && !j.boot.waitPorst then j.coldBoot b else j

/-! ## Temperature (R514) -/

/-- The warning and the trip threshold of a sensor in 1/64 °C: sensors below 32 are on the die, the others are DRAM stacks (R514, log 72). -/
def warnAt (sensor : Nat) : Int := if sensor < 32 then 7040 else 5632
def tripAt (sensor : Nat) : Int := if sensor < 32 then 7680 else 6080

/-- The sensor readings of a tick in 1/64 °C (R514): the first sensor at its warning threshold is recorded as code 0x35 with an ALARM of
class 6, and again only after every sensor has fallen 5 °C below its threshold. A sensor at its trip threshold drives THERMTRIP_N low, which
the crash state keeps, and gates every clock until PORST_N is taken. -/
def Junction.temperatures (j : Junction) (temps : List (Nat × Int)) : Junction :=
  let cool := temps.all (fun (x : Nat × Int) => decide (x.2 ≤ warnAt x.1 - 320))
  let j := match temps.find? (fun (x : Nat × Int) => decide (warnAt x.1 ≤ x.2)) with
    | some x => if j.boot.hot then j else ({ j with boot := { j.boot with hot := true } }).alarmEvent 0x35 [x.1, (BitVec.ofInt 32 x.2).toNat] 6 j.entity
    | none => if cool && temps.length != 0 then { j with boot := { j.boot with hot := false } } else j
  if temps.any (fun (x : Nat × Int) => decide (tripAt x.1 ≤ x.2)) then
    let j := { j with boot := { j.boot with tripped := true }, store := { j.store with thermtrip := true } }
    j.coldHold j.boot.last j.boot.pin (!j.boot.pin) j.boot.waitRefclk
  else j

/-! ## Flush and warm reset (R162, R163, R484, R485, R509, R510) -/

/-- Records received and not yet committed, all logs (R162). -/
def Junction.commitAll (j : Junction) : Junction :=
  (List.range 33).foldl (fun j l => (List.range (j.log l).waiting.length).foldl (fun j _ => j.logCommit l) j) j

/-- The residues are committed (R163), and the reset that waited follows (R484, R485). -/
def Junction.flushExpiry (j : Junction) (b : BootIn) : Junction :=
  let r := j.flush.reset
  if !j.flush.running || r = 0 then j
  else
    let j := (j.commitAll).logE 0x20 []
    let relay := j.boot.service == 3
    (j.warmHold (if r = 2 then 9 else 8)).bringUp b relay

/-- PWRFAIL_N low for a time in ns (R162, R488, R509): under 40 ns ignored, from 100 ns taken; between, `taken` says which. -/
def Junction.powerFail (j : Junction) (ns : Nat) (taken : Bool) : Junction :=
  if ns < 40 || (ns < 100 && !taken) || j.boot.phase < 4 then j
  else
    let j := if j.flush.running then j else j.sendFlush
    { j with flush := { j.flush with pwrfail := true, running := true, stopped := true } }

/-- The flush of a power failure has committed everything (R162). -/
def Junction.powerFlushed (j : Junction) : Junction :=
  if j.flush.pwrfail && j.flush.running then
    let j := (j.commitAll).logE 0x20 []
    { j with flush := { j.flush with running := j.flush.reset != 0 } }
  else j

/-- PWRFAIL_N has been high for 1 ms after the flush: mailbox work resumes (R510). -/
def Junction.powerClear (j : Junction) : Junction :=
  if j.flush.pwrfail && !j.flush.running then { j with flush := { j.flush with pwrfail := false, stopped := false } } else j

/-! ## Role (R16, R17, R27, R488, R492) -/

/-- ROLE_CONFIRM with a level, a twin and a pair index (R16, R17). A root with an index other than 0 is not refused: R19 gives the value and
no refusal (log 81). -/
def Junction.roleConfirm (j : Junction) (level twin index : Nat) : Junction × Rc :=
  let r := j.role
  if level ≠ r.level || twin ≠ b2n r.twinB then (j, rc 0x20)
  else if j.confirmed then (j, if index = j.index then rc 0 else rc 0x20)
  else if 2 ^ 14 ≤ index then (j, badArg 2)
  else
    let j : Junction := { j with confirmed := true, index := index, twin := { j.twin with duty := !r.twinB } }
    let ports := (List.zip (List.range j.ports.length) j.ports).map (fun (x : Nat × Port) => if j.mayTrain x.1 then x.2.startTrain else x.2)
    let j := { j with ports := ports }
    let k : Junction := if j.boot.service = 1 then j.enterService 2 0 else j
    (k, rc 0)

/-! ## Run-time failures (R307, R493, R494, R502) -/

/-- A run-time self-check of instance i of a known-answer row (R502). -/
def Junction.selfCheck (j : Junction) (row i : Nat) (ok : Bool) : Junction :=
  if ok || j.boot.porst || 3 < row then j
  else
    let n := j.clk.markTick
    let j := j.error 7 i row
    match row with
    | 0 =>
      if j.boot.engines.length ≤ i || bit j.boot.retired.toNat i || j.boot.retiring.any (fun x => x.1 == i) then j
      else ({ j with boot := { j.boot with retiring := j.boot.retiring ++ [(i, n + 3)] } }).logE 0x24 [i, 0xFFFFFFFF]
    | 1 => { j with boot := { j.boot with seqFailed := true } }
    | r => { j with boot := { j.boot with relayNext := if j.boot.relayNext.isNone then some (r + 2) else j.boot.relayNext } }

/-- A near-tier stack reports an uncorrectable training or link error (R494). -/
def Junction.stackError (j : Junction) : Junction :=
  if j.boot.porst then j else { j with boot := { j.boot with relayNext := if j.boot.relayNext.isNone then some 2 else j.boot.relayNext } }

/-- At the next sample edge after a required unit failed: relay-only service (R34, R492, R494). The ticks already open give nothing more. -/
def Junction.relayOnly (j : Junction) : Junction :=
  match j.boot.relayNext with
  | some c =>
    let j := { j with boot := { j.boot with relayNext := none } }
    if j.boot.service = 2 || j.boot.service = 1 then j.toRelay c else j
  | none => j

end Sys2Proof.Machine
end

