-- ==== Sys2Proof/Machine/JnMail.lean ====
section
/-! DEFINITION. Mailboxes: taking requests, admission, sessions, relays, the frame in which every command executes (R442 to R452, R455 to R460). -/

namespace Sys2Proof.Machine

/-! ## Rings (R442, R443) -/

/-- Slots of a ring (R442). -/
def Mailbox.slots (x : Mailbox) : Nat := 2 ^ x.slotsLog2

/-- a − b modulo 2^16 (R443). -/
def idxDiff (a b : Nat) : Nat := (a + 65536 - b % 65536) % 65536

/-- A host write of JN_MBOX_REQ_TAIL (R443). -/
def Mailbox.writeReqTail (x : Mailbox) (v : Nat) : Mailbox :=
  let v := v % 65536
  { x with reqTail := v, err := x.err || (x.enable && decide (x.slots < idxDiff v x.reqHead)) }

/-- A host write of JN_MBOX_RPL_HEAD (R443). -/
def Mailbox.writeRplHead (x : Mailbox) (v : Nat) : Mailbox :=
  let v := v % 65536
  let beyond := decide (idxDiff x.rplTail x.rplHead < idxDiff v x.rplHead)
  if beyond then { x with rplHead := v, err := true } else { x with rplHead := v, replies := x.replies.drop (idxDiff v x.rplHead) }

/-- The mailbox restarts: indices 0, session closed (R443). -/
def Mailbox.restart (x : Mailbox) : Mailbox :=
  { x with reqTail := 0, reqHead := 0, rplTail := 0, rplHead := 0, session := none, taken := [], replies := [], owed := [], segs := [] }

/-- A host write of JN_MBOX_CTRL (R442, R443): while in use it breaks the ring rule; with ERR written 1 it clears ERR. -/
def Mailbox.writeCtrl (x : Mailbox) (v : Nat) : Mailbox :=
  if x.err then
    if bit v 4 then
      let x := { x with err := false, enable := bit v 0, slotsLog2 := fld v 1 3 }
      if bit v 0 then x.restart else x
    else x
  else if x.enable then { x with err := true }
  else
    let x := { x with enable := bit v 0, slotsLog2 := fld v 1 3 }
    if bit v 0 then x.restart else x

/-- A host write of JN_MBOX_REQ_BASE or JN_MBOX_RPL_BASE (R442, R443). -/
def Mailbox.writeBase (x : Mailbox) (rpl : Bool) (v : Nat) : Mailbox :=
  if x.enable then { x with err := true }
  else if rpl then { x with rplBase := BitVec.ofNat 64 (v / 4096 * 4096) } else { x with reqBase := BitVec.ofNat 64 (v / 4096 * 4096) }

/-! ## Relays (R445, R446) -/

/-- The port toward another Junction (R445, R446); none when no next hop is in service. -/
def Junction.nextHop (j : Junction) (target : Nat) : Option Nat :=
  let pair := target / 2 ^ 15 % 4 * 16384 + fld target 1 14
  let live := fun (p : Nat) => (j.port p).st == .active
  let own := decide (pair = j.role.level * 16384 + j.index)
  if own then [66, 67].find? live
  else match (if j.tray then none else (List.range 32).find? (fun k => (Tbl.get [] j.subtree k).contains pair)) with
  | some k => if live (32 + k) then some (32 + k) else none
  | none => j.uplinks.find? live

/-- The target of a request is another Junction (R447). -/
def Junction.remote (j : Junction) (q : Request) : Bool := !(bit q.target 31) && q.target % 2 ^ 17 != j.id

/-- A message on VC3 subchannel 1 is an advertisement (R446), or a relayed request or reply. -/
def isAdvert (b : Bytes) : Bool := rd b 0 2 == 0x20 && b.length == 8 + 2 * rd b 2 2
def isRelayed (reply : Bool) (b : Bytes) : Bool := !(isAdvert b) && decide (48 ≤ b.length) && bit (rd b 9 1) 0 == reply

/-! ## Admission (R447, R449, R452, R455, R458, R460) -/

/-- Who may issue a command (R460): M; M, and in Open mode any context, for a read command; or any context, the command looking at
its object itself. -/
inductive Who where
  | m | mRead | any
deriving DecidableEq, Repr

/-- What a command gives: a result and a reply body now, or a reply later. -/
inductive Out where
  | done (r : Rc) (body : Bytes)
  | wait (w : Waits)

/-- A refusal or a result without a body. -/
def Out.rc (code : Nat) : Out := .done (Sys2Proof.Machine.rc code) []

/-- A row of the command table (R458, R461): opcode, who, whether it is in the recovery set, whether it only reports status (R162), the
form of its body, and its effect in mailbox m. -/
structure Cmd where
  op : Nat
  who : Who
  recovery : Bool
  status : Bool
  shape : Bytes → Bool
  run : Junction → Nat → Request → Junction × Out

/-- A body of fixed length whose reserved bytes, as offset and length, are zero (R12, R461). -/
def body (n : Nat) (reserved : List (Nat × Nat)) (b : Bytes) : Bool := b.length == n && reserved.all (fun r => allZero (sub b r.1 r.2))

/-- Opcodes that are defined (R461, R482). -/
def knownOps : List Nat :=
  (List.range 10).map (· + 1) ++ (List.range 6).map (· + 0x101) ++ (List.range 12).map (· + 0x201) ++ (List.range 6).map (· + 0x301)
  ++ (List.range 4).map (· + 0x401) ++ [0x501, 0x502] ++ (List.range 8).map (· + 0x601) ++ (List.range 10).map (· + 0x701)
  ++ (List.range 3).map (· + 0x801)

/-- Every PRIVILEGE result is a security event (R481); the detail is the opcode. -/
def Junction.notePrivilege (j : Junction) (code op : Nat) : Junction := if code = 0x13 then j.secEvent 11 op else j

/-- Reply now to a request. -/
def Junction.answer (j : Junction) (m : Nat) (it : Taken) (r : Rc) (b : Bytes) (keep : Bool) : Junction :=
  let exec := j.execTick
  let j := j.notePrivilege r.code it.req.opcode
  j.giveReply m it (j.reply m it.req exec r b) keep

/-- One request fewer is left before a closing session ends (R455, R469). -/
def Mailbox.countDown (x : Mailbox) : Mailbox :=
  match x.session with
  | some s => { x with session := some { s with closing := s.closing.map (· - 1) } }
  | none => x

/-- What admission says of a request at the head of a mailbox. -/
inductive Admit where
  | open_ | refuse (r : Rc) (keep : Bool) | again | exec
deriving DecidableEq, Repr

/-- Admission up to SEQ, header and context (R447, R449, R455). -/
def Junction.admission (j : Junction) (m : Nat) (q : Request) : Admit :=
  if m = 16 then (if q.opcode = 1 then .refuse (rc 0x19) false else .exec)
  else match (j.mbox m).session with
  | none => if q.opcode = 1 then .open_ else .refuse (rc 0x13) false
  | some s =>
    if s.closing == some 0 then .refuse (rc 0x13) false
    else if q.seq = s.seq then .again
    else if q.opcode = 1 then .refuse (rc 0x19) false
    else if q.seq ≠ (s.seq + 1) % 2 ^ 64 then .refuse (rc 0x12) false
    else if q.junk || q.mailbox != m then .refuse (rc 0x10) true
    else if q.ctx ≠ s.ctx then .refuse (rc 0x13) true
    else .exec

/-- The SEQ of an executed request (R449). -/
def Mailbox.execute (x : Mailbox) (q : Request) : Mailbox :=
  match x.session with
  | some s => { x with session := some { s with seq := q.seq, stored := none } }
  | none => x

/-- A retransmission (R449): the stored reply again, or one more reply when the command ends. -/
def Junction.resend (j : Junction) (m : Nat) (it : Taken) : Junction :=
  let x := j.mbox m
  match x.session.bind (·.stored) with
  | some r => j.giveReply m it { r with attention := j.attention it.req.ctx } false
  | none => match x.owed.find? (fun o => o.item.req.seq == it.req.seq) with
    | some o => j.setMbox m { x with owed := x.owed ++ [{ o with item := it }] }
    | none => j.answer m it (rc 0xF0) [] false

/-- A request executes here as a command of the table, or is relayed (R445, R458, R460, R461, R492). -/
def Junction.perform (j : Junction) (c : Cmd) (m : Nat) (it : Taken) : Junction :=
  let q := it.req
  let relay := j.boot.service == 3
  let barred := q.ctx != 0 && (match c.who with | .m => true | .mRead => !j.sec.open_ | .any => false)
  if barred then j.answer m it (rc 0x13) [] true
  else if m ≠ 16 && j.remote q then
    if q.opcode ≤ 2 then j.answer m it (rc 0x10) [] true
    else match j.nextHop q.target with
    | some p => (j.owe m it (.relay p)).send p 3 1 0 (relayHead j.id (q.target % 2 ^ 17) 0 false ++ q.bytes)
    | none => j.answer m it (rc 0x18) [] true
  else if relay && !c.recovery && q.opcode != 7 then j.answer m it (rc 0x15) [] true
  else if !j.confirmed && !c.recovery && q.opcode != 7 then j.answer m it (rc 0x14) [] true
  else if !(c.shape q.body) then j.answer m it (rc 0x10) [] true
  else
    let exec := j.execTick
    let (j, o) := c.run j m q
    match o with
    | .done r b => let j := j.notePrivilege r.code q.opcode; j.giveReply m it (j.reply m q exec r b) true
    | .wait w => let x := j.mbox m; j.setMbox m { x with owed := x.owed ++ [⟨it, j.clk.up, exec, w⟩] }

/-- The oldest request of a mailbox leaves the queue. -/
def Junction.popTaken (j : Junction) (m : Nat) : Junction :=
  let x := j.mbox m
  j.setMbox m ({ x with taken := x.taken.drop 1 } : Mailbox).countDown

/-- One request through admission; `run` executes it. -/
def Junction.process (j : Junction) (m : Nat) (it : Taken) (opens : Junction → Junction) (run : Junction → Junction) : Junction :=
  let a := j.admission m it.req
  let j := j.popTaken m
  match a with
  | .open_ => opens j
  | .refuse r keep => (if keep then j.setMbox m ((j.mbox m).execute it.req) else j).answer m it r [] keep
  | .again => j.resend m it
  | .exec => run (if m = 16 then j else j.setMbox m ((j.mbox m).execute it.req))

/-- Requests of undefined opcodes at the head of a mailbox are answered (R452, R461). -/
def Junction.settle (j : Junction) (m : Nat) : Junction :=
  (List.range (j.mbox m).taken.length).foldl (fun j _ =>
    match (j.mbox m).taken with
    | it :: _ => if knownOps.contains it.req.opcode then j else j.process m it (fun j => j) (fun j => j.answer m it (rc 0x11) [] true)
    | [] => j) j

/-- A command of the table executes the oldest request of a mailbox, where that is one of its own (R451); while a power failure or a
reset is being prepared only status is served (R162). -/
def Junction.command (j : Junction) (c : Cmd) (m : Nat) : Junction :=
  match (j.mbox m).taken with
  | it :: _ =>
    if it.req.opcode ≠ c.op || (j.flush.stopped && !c.status) || 16 < m then j
    else
      let opens := fun (j : Junction) =>
        if it.req.junk || it.req.mailbox ≠ m || !(c.shape it.req.body) || j.remote it.req then j.answer m it (rc 0x10) [] false
        else
          let (j, o) := c.run j m it.req
          match o with
          | .done r b => j.answer m it r b (r.code == 0)
          | .wait _ => j
      (j.process m it opens (fun j => j.perform c m it)).settle m
  | [] => j

/-! ## Taking requests (R443, R444, R488) -/

/-- Requests may be taken at all (R464, R488). -/
def Junction.takes (j : Junction) : Bool := j.boot.phase == 4 && !j.boot.porst && !j.sec.fw.paused

/-- The session of a mailbox, if it has one, takes further requests (R456). -/
def Mailbox.live (x : Mailbox) : Bool := match x.session with | some s => !s.expired | none => true

/-- A request enters the queue of a mailbox. -/
def Junction.enqueue (j : Junction) (m : Nat) (it : Taken) : Junction :=
  let x := j.mbox m
  (j.setMbox m { x with taken := x.taken ++ [it] }).settle m

/-- A PCIe mailbox takes the request in a slot (R443): `slot` is what DMA reads there. -/
def Junction.requestTake (j : Junction) (m : Nat) (slot : Bytes) : Junction :=
  let x := j.mbox m
  if 8 ≤ m || !j.takes || !x.enable || x.err || !x.live || x.reqHead = x.reqTail || x.slots ≤ idxDiff x.reqHead x.rplHead then j
  else match Request.decode (fit (32 + min (rd slot 0x10 4) 65568) slot) with
  | some q => (j.setMbox m { x with reqHead := (x.reqHead + 1) % 65536 }).enqueue m ⟨q, j.id, 0⟩
  | none => j

/-- A mailbox datagram is discarded and counted (R444). -/
def Junction.dropDatagram (j : Junction) (m : Nat) : Junction := (j.bump 11 1).secEvent 2 m

/-- The receive association a frame names (R475). -/
def Sec.rxSa (s : Sec) (port an : Nat) : Option Sa := s.sas.find? (fun a => a.port == port && a.dir == 0 && a.an == an && !a.stopped)

/-- A segment of a request to an Ethernet mailbox, past MACsec (R444). -/
def Junction.segment (j : Junction) (port m source : Nat) (b : Bytes) : Junction :=
  let x := j.mbox m
  let i := rd b 6 1
  let n := rd b 7 1
  let seq := rd b 8 8
  let data := b.drop 16
  if x.session.isSome && x.peer ≠ source then j.dropDatagram m
  else if !x.live || rd b 0 4 ≠ 0x58424D44 || rd b 5 1 ≠ 0 || n = 0 || 9 < n || n ≤ i || 8192 < data.length then j
  else
    let have_ := x.segs.find? (fun s => s.2.1 == seq && s.2.2.length == n)
    let (first, pieces) : Nat × List (Option Bytes) := match have_ with | some s => (s.1, s.2.2) | none => (j.clk.up, List.replicate n none)
    let pieces := pieces.set i (some data)
    let rest := x.segs.filter (fun s => s.2.1 != seq)
    let x := { x with peer := source, via := port }
    if pieces.all Option.isSome then
      let j := j.setMbox m { x with segs := rest }
      match Request.decode ((pieces.map (fun p => p.getD [])).flatten) with
      | some q => j.enqueue m ⟨q, j.id, 0⟩
      | none => j
    else j.setMbox m { x with segs := rest ++ [(first, seq, pieces)] }

/-- A mailbox datagram arrives on an Ethernet port (R444, R464, R475): protected or not, association and packet number, source. -/
def Junction.datagram (j : Junction) (port : Nat) (prot : Bool) (an pn source : Nat) (b : Bytes) : Junction :=
  let m := rd b 4 1
  if 2 ≤ port || j.boot.phase ≠ 4 || j.boot.porst then j
  else if j.sec.fw.paused then j.bump 11 1
  else if m < 8 || 15 < m then j
  else if !prot || (j.sec.txSa port).isNone then j.dropDatagram m
  else match j.sec.rxSa port an with
  | none => j.dropDatagram m
  | some a =>
    if pn < max a.lowPn (a.nextPn - 64) || !(Config.macsecOk a.sak (BitVec.ofNat 64 a.ssci) a.salt pn b) then j.dropDatagram m
    else
      let next := max a.nextPn (pn + 1)
      let gone := decide (pnEnd ≤ next)
      let j := { j with sec := { j.sec with sas := j.sec.sas.map (fun (x : Sa) => if x = a then { x with nextPn := next, stopped := gone } else x) } }
      (if gone then j.secEvent 10 port else j).segment port m source b

/-- Requests whose segments have not all arrived within 10 ms are discarded (R444). -/
def Junction.segmentTimeout (j : Junction) (m : Nat) : Junction :=
  let x := j.mbox m
  j.setMbox m { x with segs := x.segs.filter (fun s => decide (j.clk.up < s.1 + 10000000 * uNs)) }

/-! ## Relays (R445) -/

/-- A subtree advertisement arrives (R446). -/
def Junction.subtreeAdvert (j : Junction) (p : Nat) : Junction :=
  match (j.port p).takeInbox 3 1 isAdvert with
  | (some m, x) => (j.setPort p x).advertReceived p m.bytes
  | (none, _) => j

/-- A relayed request arrives: executed here in mailbox 16, or sent on (R445). -/
def Junction.relayedRequest (j : Junction) (p : Nat) : Junction :=
  match (j.port p).takeInbox 3 1 (fun b => isRelayed false b && (j.takes || rd b 4 4 % 2 ^ 17 != j.id)) with
  | (none, _) => j
  | (some m, x) =>
    let j := j.setPort p x
    let b := m.bytes
    let origin := rd b 0 4
    let target := rd b 4 4
    match Request.decode (b.drop 16) with
    | none => j
    | some q =>
      if target % 2 ^ 17 = j.id then j.enqueue 16 ⟨q, origin, p⟩
      else match j.nextHop target with
      | some h =>
        let j : Junction := { j with hops := j.hops ++ [⟨origin, q.tag, q.seq, p, j.clk.up⟩] }
        j.send h 3 1 0 (relayHead origin target (rd b 8 1 + 1) false ++ q.bytes)
      | none =>
        j.send p 3 1 0 (relayHead origin j.id 0 true ++ ({ j.reply 16 q j.execTick (rc 0x18) [] with relayed := true } : Reply).bytes)

/-- A relayed reply returns: to the mailbox whose request it answers, or one hop back (R445). -/
def Junction.relayedReply (j : Junction) (p : Nat) : Junction :=
  match (j.port p).takeInbox 3 1 (isRelayed true) with
  | (none, _) => j
  | (some m, x) =>
    let j := j.setPort p x
    let b := m.bytes
    let r := Reply.decode (b.drop 16)
    if rd b 0 4 % 2 ^ 17 = j.id then
      let mine := fun (o : Owed) => (match o.waits with | .relay _ => true | _ => false) && o.item.req.tag == r.tag && o.item.req.seq == r.seq && o.item.req.opcode == r.opcode
      match (List.range 16).find? (fun m => (j.mbox m).owed.any mine) with
      | some m => j.payMailbox m mine (fun _ _ => { r with relayed := true })
      | none => j
    else match j.hops.find? (fun h => h.origin == rd b 0 4 && h.tag == r.tag && h.seq == r.seq) with
      | some h => ({ j with hops := j.hops.erase h } : Junction).send h.port 3 1 0 b
      | none => j

/-- No reply within 100 ms (R445). -/
def Junction.relayTimeout (j : Junction) : Junction :=
  let old := fun (t : Nat) => decide (t + 100000000 * uNs ≤ j.clk.up)
  ({ j with hops := j.hops.filter (fun h => !(old h.since)) }).pay (fun o => (match o.waits with | .relay _ => true | _ => false) && old o.since) (rc 0x18) []

/-! ## Sessions (R455, R456) -/

/-- A session that has executed no HEARTBEAT for 4 ms expires (R456, R464). -/
def Junction.sessionExpiry (j : Junction) (m : Nat) : Junction :=
  let x := j.mbox m
  match x.session with
  | none => j
  | some s =>
    if s.expired || j.sec.fw.paused || j.clk.up < s.lastBeat + 4000000 * uNs then j
    else
      let j := j.setMbox m ({ x with session := some { s with expired := true }, err := x.err || decide (m < 8) } : Mailbox).settleSession
      (j.logE 0x30 [m, s.ctx]).notice 5

end Sys2Proof.Machine
end

