-- ==== Sys2Proof/Machine/JnFw.lean ====
section
/-! DEFINITION. Firmware update, the watchdog, the privilege mode's change and the TAP's unlock (R463 to R465, R473, R476, R479, R484, R487). -/

namespace Sys2Proof.Machine

def Junction.setFw (j : Junction) (f : Fw) : Junction := { j with sec := { j.sec with fw := f } }

/-! ## Firmware (R463 to R465, R487) -/

/-- Verification of the staged image ends (R463, R472, R481): notice 4, or refused. -/
def Junction.fwVerifyDone (j : Junction) : Junction :=
  let f := j.sec.fw
  if f.st ≠ .verifying then j
  else
    let code := fwVerify j.sec.floor (f.slot f.staging)
    if code = 0 then (j.setFw { f with st := .verified, result := 0 }).notice 4
    else
      let j := j.setFw { f with st := .refused, result := code }
      if code = 0x40 then j else j.secEvent 4 code

/-- The activation edge (R464, R487): requests are no longer taken, the mark moves to the staging slot, the new image starts. -/
def Junction.fwActivation (j : Junction) : Junction :=
  let f := j.sec.fw
  match f.st, f.at_ with
  | .armed, some m =>
    if !(j.reached m) then j
    else j.setFw { f with marked := f.staging, running := f.staging, rom := false, st := .none_, at_ := none, got := 0, total := 0, paused := true,
                          pausedAt := j.clk.up, reverting := false, fallback := !f.rom }
  | _, _ => j

/-- The image takes requests again (R464): the sessions' 4 ms go on 1 ms later; an activation is recorded. -/
def Junction.fwResume (j : Junction) : Junction :=
  let f := j.sec.fw
  if !f.paused then j
  else
    let gap := j.clk.up + 1000000 * uNs - f.pausedAt
    let j := { j with mail := j.mail.map (fun (x : Mailbox) => { x with session := x.session.map (fun (s : Session) => { s with lastBeat := s.lastBeat + gap }) }) }
    let j := j.setFw { f with paused := false, reverting := false, resumedAt := j.clk.up, last := if f.reverting then 2 else 1 }
    if f.reverting then j else j.logE 0x31 [if f.fallback then fwVersion (f.slot f.staging) else 0, fwVersion (f.slot f.running), 0]

/-- A revert may follow: during an activation's start-up check, or for 100 ms after requests resumed (R465). -/
def Junction.mayRevert (j : Junction) : Bool :=
  let f := j.sec.fw
  f.fallback && !f.reverting && (f.paused || decide (j.clk.up ≤ f.resumedAt + 100000000 * uNs))

/-- The previous image comes back (R465, R487): the mark moves back, code 0x31 with W2 = 1, notice 3. -/
def Junction.fwRevert (j : Junction) : Junction :=
  let f := j.sec.fw
  if !(j.mayRevert) then j
  else
    let j := j.setFw { f with marked := f.staging, running := f.staging, paused := true, pausedAt := if f.paused then f.pausedAt else j.clk.up, reverting := true, fallback := false }
    (j.logE 0x31 [fwVersion (f.slot f.running), fwVersion (f.slot f.staging), 1]).notice 3

/-- The management-core watchdog expires (R163, R465, R484, R487, R536): before phase 4 of a warm reset it escalates to a cold reset. -/
def Junction.watchdog (j : Junction) (early : Bool) (b : BootIn) : Junction :=
  if j.boot.porst || j.boot.phase < 4 then j
  else if early && j.flush.reset ≠ 0 then (j.coldHold 4 false false false).coldBoot b
  else if j.mayRevert then j.fwRevert
  else (j.error 8 0 0).flushFor 2

/-! ## Mode (R476) -/

/-- The privilege mode changes at its tick (R476). -/
def Junction.modeEffect (j : Junction) : Junction :=
  match j.sec.modeAt with
  | some (m, o) => if j.reached m then { j with sec := { j.sec with open_ := o, modeAt := none } } else j
  | none => j

/-! ## TAP (R479) -/

/-- DBG_CHALLENGE: a fresh nonce; after three failures the TAP stays locked (R479). -/
def Junction.dbgChallenge (j : Junction) : Junction :=
  let t := j.sec.tap
  if j.boot.porst || 3 ≤ t.failures then j
  else { j with sec := { j.sec with tap := { t with challenge := some t.drawn, drawn := t.drawn + 1 } } }

/-- Entry to level 2 zeroises key slots, memory keys, associations, sessions and bundle plaintext, and withholds d; relay-only service
follows (R479). -/
def Junction.zeroise (j : Junction) : Junction :=
  let bs := j.bundles.map (fun (b : Bundle) => { b with plain := [], placing := none })
  let ms := j.mail.map (fun (x : Mailbox) => { x with session := none })
  let j : Junction := { j with sec := { j.sec with keys := [], sas := [], zeroised := true, memKeys := none }, mem := [], hist := [], bundles := bs, mail := ms }
  if j.boot.service = 3 then j else j.toRelay 0

/-- DBG_RESPONSE: LEVEL, KEY, PUB and a signature over "DDBG", the Junction ID, LEVEL and the nonce (R479, R481). -/
def Junction.dbgResponse (j : Junction) (level key : Nat) (pub sig : Bytes) : Junction :=
  let t := j.sec.tap
  match t.challenge with
  | none => j
  | some n =>
    if 3 ≤ t.failures then j
    else
      let hash := if key = 0 then j.sec.ownerHash else Config.vendorKeyHash
      let msg := ascii "DDBG" ++ le 4 j.id ++ le 1 level ++ Config.nonce n
      let ok := decide (key ≤ 1) && decide (1 ≤ level) && decide (level ≤ 2) && (key == 0 || level == 2) && Config.sha384 pub == hash && Config.ecdsaVerify pub msg sig
      if ok then
        let j := ({ j with sec := { j.sec with tap := { t with challenge := none, level := max t.level level } } }).secEvent 6 level
        if level = 2 then j.zeroise else j
      else ({ j with sec := { j.sec with tap := { t with challenge := none, failures := t.failures + 1 } } }).secEvent 5 level

end Sys2Proof.Machine
end

