-- ==== Sys2Proof/Machine/JnCmdA.lean ====
section
/-! DEFINITION. Commands 0x0001 to 0x0106: sessions, notices, alarms, counters, role, duty, reset, port map, Timetable and plan banks, links (R16, R18, R29, R56 to R60, R220, R228, R232, R448, R454 to R462, R474, R484). -/

namespace Sys2Proof.Machine

/-! ## What handlers share -/

/-- A context may write an object of an owner (R460). -/
def owns (ctx owner : Nat) : Bool := ctx == 0 || ctx == owner

/-- Bytes of a buffer in the near tier (R353, R452, R460): PRIVILEGE outside the context's area, INDETERMINATE over poison. -/
def Junction.buffer (j : Junction) (ctx addr len : Nat) : Rc ⊕ Bytes :=
  if !(bufferOk ctx addr len) then .inl (rc 0x13)
  else if (j.poisonAt addr len).isSome then .inl (rc 0xF0)
  else .inr (j.read addr len)

/-- A Junction and the result of a command without a reply body. -/
def plain (x : Junction × Rc) : Junction × Out := (x.1, .done x.2 [])

/-- The state after a port may have left service (R222, R452). -/
def Junction.movePort (j : Junction) (p : Nat) (x : Port) : Junction := (j.portMoved p x).settleLinks

/-! ## Sessions (R455, R456, R474) -/

/-- SESSION_OPEN (R449, R455, R474): binds mailbox m to a context. -/
def Junction.sessionOpen (j : Junction) (m : Nat) (q : Request) : Junction × Out :=
  let ctx := rd q.body 0 1
  let cred := q.body.drop 8
  let now := if j.clk.st = .locked || j.clk.st = .holdover then some j.clk.time else none
  if 15 < ctx then (j, .done (badArg 0) [])
  else if j.sec.credOk j.id m ctx q.seq now cred then
    let x := j.mbox m
    let s : Session := { ctx := ctx, key := rd cred 0 1, owner := if rd cred 0 1 = 0xFF then Config.sha384 (sub cred 112 97) else [], seq := q.seq, stored := none, lastBeat := j.clk.up, beatAt := none, gapMax := 0, closing := none, expired := false }
    let j := j.setMbox m { x with session := some s }
    ({ j with sec := { j.sec with lastOpen := Tbl.put 0 j.sec.lastOpen m (q.seq + 1) } }, .rc 0)
  else (j.secEvent 1 m, .rc 0x13)

/-- The form of a SESSION_OPEN body (R461, R474). -/
def sessionShape (b : Bytes) : Bool :=
  decide (9 ≤ b.length) && allZero (sub b 1 3) && b.length == 8 + rd b 4 4 && rd b 4 4 == credLen (b.drop 8) && allZero (sub b 9 3)

def Cmd.sessionOpen : Cmd := ⟨1, .any, true, false, sessionShape, Junction.sessionOpen⟩

/-- A session ends after the requests already taken have had their replies (R455, R469). -/
def Mailbox.close (x : Mailbox) : Mailbox :=
  match x.session with
  | some s => { x with session := some { s with closing := some (match s.closing with | some n => min n x.taken.length | none => x.taken.length) } }
  | none => x

def Cmd.sessionClose : Cmd := ⟨2, .any, true, false, body 0 [], fun j m _ => (j.setMbox m (j.mbox m).close, .rc 0)⟩

/-- The HEARTBEAT reply body (R456). -/
def Junction.heartbeatBody (j : Junction) (ctx gap : Nat) : Bytes :=
  le 8 j.execTick ++ le 12 (packTime (capture j.clk.time)) ++ le 1 j.boot.service ++ le 1 (j.role.level + put 2 (b2n j.role.twinB) + put 3 (b2n j.confirmed))
  ++ le 1 j.clk.st.code ++ le 1 (b2n j.twin.duty + put 1 (b2n (!j.sec.open_))) ++ le 2 j.index ++ le 1 (j.activeBank.getD 0xFF) ++ zeros 1 ++ le 4 j.sec.fw.version
  ++ le 4 (Tbl.get [] j.alarms ctx).length ++ le 4 j.notices.length ++ le 4 (sat 32 (gap / (1000 * uNs))) ++ zeros 20

/-- HEARTBEAT: the 4 ms start again, and the longest interval is kept (R456, R464). -/
def Junction.heartbeat (j : Junction) (m : Nat) (q : Request) : Junction × Out :=
  let x := j.mbox m
  match x.session with
  | some s =>
    let gap := match s.beatAt with | some t => max s.gapMax (j.clk.up - t) | none => s.gapMax
    let f := j.sec.fw
    let base := if f.resumedAt = 0 then j.clk.up else max j.clk.up (f.resumedAt + 1000000 * uNs)
    let j := j.setMbox m { x with session := some { s with beatAt := some j.clk.up, gapMax := gap, lastBeat := base } }
    (j, .done (rc 0) (j.heartbeatBody q.ctx gap))
  | none => (j, .done (rc 0) (j.heartbeatBody q.ctx 0))

def Cmd.heartbeat : Cmd := ⟨3, .any, true, true, body 0 [], Junction.heartbeat⟩

/-! ## Notices, alarms, counters (R454, R457, R462, R477) -/

def Cmd.noticeRead : Cmd := ⟨4, .any, true, true, body 8 [(2, 6)], fun j _ q =>
  let n := rd q.body 0 2
  if n = 0 || 64 < n then (j, .done (badArg 0) [])
  else
    let l := j.notices.take n
    ({ j with notices := j.notices.drop n }, .done (rc 0) (le 2 l.length ++ zeros 6 ++ (l.map (fun (x : Nat × Word) => le 2 x.1 ++ zeros 6 ++ le 8 x.2.toNat)).flatten))⟩

/-- ALARM_READ: alarm records of the session context, oldest first (R454). -/
def Cmd.alarmRead : Cmd := ⟨5, .any, true, true, body 8 [(2, 6)], fun j _ q =>
  let n := rd q.body 0 2
  if n = 0 || 255 < n then (j, .done (badArg 0) [])
  else
    let l := Tbl.get [] j.alarms q.ctx
    let left := l.drop n
    let j := { j with alarms := Tbl.put [] j.alarms q.ctx left, cnt := if q.ctx = 0 && left.length = 0 then Tbl.put 0 j.cnt 10 0 else j.cnt }
    (j, .done (rc 0) (le 2 (l.take n).length ++ zeros 2 ++ le 4 (sat 32 (Tbl.get 0 j.alarmDrop q.ctx)) ++ (l.take n).flatten))⟩

/-- The counters of an object with its owner; none where there is no such object (R462). -/
def Junction.counters (j : Junction) (object index : Nat) : Option (Nat × List Nat) :=
  let stat := fun (s : Nat) => j.ports.foldl (fun a (p : Port) => a + (Tbl.get 0 p.stats s).toNat) 0
  match object with
  | 1 => if index < 68 then some (0, (List.range 31).map (fun s => (Tbl.get 0 (j.port index).stats s).toNat)) else none
  | 2 =>
    if index < 1024 then
      let g := Tbl.get GrpCounts.zero j.grp index
      some (index / 64, [g.delivered, g.warm, g.excluded, g.restored, g.nonfinite, g.saturated, g.poisoned, g.reset, g.abandoned])
    else none
  | 3 => if index < 16 then let x := j.ctx index; some (index, [x.published, x.exported, x.expDropped, x.wbMiss, x.wbErr, x.histOver, x.histDropped]) else none
  | 4 => (j.plan.bind (fun p => p.fields[index]?)).map (fun f => (f.ctx, [Tbl.get 0 j.exclusions index]))
  | 5 => some (0, [Tbl.get 0 j.cnt 0, Tbl.get 0 j.cnt 1, Tbl.get 0 j.cnt 2, stat 15, stat 23, stat 17, j.errs.counts.foldl (fun a (x : Nat × Nat) => a + x.2) 0])
  | _ => none

def Cmd.counterRead : Cmd := ⟨6, .any, true, true, body 8 [(1, 1), (4, 4)], fun j _ q =>
  let o := rd q.body 0 1
  match j.counters o (rd q.body 2 2) with
  | some (owner, l) => if j.sees q.ctx owner then (j, .done (rc 0) (le 4 l.length ++ zeros 4 ++ (l.map (fun v => le 8 v)).flatten)) else (j, .rc 0x13)
  | none => (j, .done (badArg (if o = 0 || 5 < o then 0 else 2)) [])⟩

/-! ## Role, duty, reset, port map (R16 to R18, R29, R434, R484) -/

def Cmd.roleConfirm : Cmd := ⟨7, .m, false, false, body 4 [], fun j _ q => plain (j.roleConfirm (rd q.body 0 1) (rd q.body 1 1) (rd q.body 2 2))⟩

def Cmd.dutyTransfer : Cmd := ⟨8, .m, false, false, body 8 [], fun j _ q => plain (j.dutyTransfer (rd q.body 0 8))⟩

def Cmd.reset : Cmd := ⟨9, .m, true, false, body 8 [(1, 7)], fun j _ q => if rd q.body 0 1 = 1 then (j.flushFor 1, .rc 0) else (j, .done (badArg 0) [])⟩

/-- PORT_MAP: a slot gets its die ID or child pair (R18, R387). -/
def Cmd.portMap : Cmd := ⟨10, .m, false, false, body 8 [(1, 3)], fun j _ q =>
  let k := rd q.body 0 1
  let id := rd q.body 4 4
  let live := fun (p : Nat) => (j.port p).st == .active
  if 31 < k then (j, .done (badArg 0) [])
  else if (if j.tray then 2 ^ 17 else 2 ^ 14) ≤ id then (j, .done (badArg 4) [])
  else if live k || (!j.tray && live (32 + k)) then (j, .rc 0x19)
  else
    let j := { j with portMap := Tbl.put none j.portMap k (some id) }
    let d := j.die k
    (if j.tray && d.watch && d.st = .off then (j.setDie k { d with misses := 0 }).dieTo k .alive else j, .rc 0)⟩

/-! ## Timetable and plan banks (R56 to R59, R228, R232) -/

/-- The object a load command names: bank and bytes. -/
def Junction.loadArgs (j : Junction) (q : Request) : Rc ⊕ Bytes :=
  if 1 < rd q.body 0 1 then .inl (badArg 0) else j.buffer q.ctx (rd q.body 8 8) (rd q.body 4 4)

def Cmd.ttLoad : Cmd := ⟨0x101, .m, false, false, body 16 [(1, 3)], fun j _ q =>
  match j.loadArgs q with | .inl r => (j, .done r []) | .inr b => plain (j.ttLoad (rd q.body 0 1) b)⟩

def Cmd.ttArm : Cmd := ⟨0x102, .m, false, false, body 16 [(1, 7)], fun j _ q =>
  if 1 < rd q.body 0 1 then (j, .done (badArg 0) []) else plain (j.ttArm (rd q.body 0 1) (rd q.body 8 8))⟩

def Cmd.ttCancel : Cmd := ⟨0x103, .m, false, false, body 8 [(1, 7)], fun j _ q =>
  if 1 < rd q.body 0 1 then (j, .done (badArg 0) []) else plain (j.ttCancel (rd q.body 0 1))⟩

def Cmd.ttStatus : Cmd := ⟨0x104, .any, false, true, body 0 [], fun j _ _ => (j, .done (rc 0) (j.b0.status j.clk.tick ++ j.b1.status j.clk.tick))⟩

def Cmd.planLoad : Cmd := ⟨0x105, .m, false, false, body 16 [(1, 3)], fun j _ q =>
  match j.loadArgs q with | .inl r => (j, .done r []) | .inr b => plain (j.planLoad (rd q.body 0 1) b)⟩

/-! ## Links (R16, R220, R221) -/

/-- LINK_CONTROL: hold DOWN, enable, or retrain (R220). -/
def Cmd.linkControl : Cmd := ⟨0x106, .m, true, false, body 8 [(2, 6)], fun j _ q =>
  let p := rd q.body 0 1
  let a := rd q.body 1 1
  let x := j.port p
  if 67 < p || j.role.unused p then (j, .done (badArg 0) [])
  else if 2 < a then (j, .done (badArg 1) [])
  else
    let y := match a with
      | 0 => x.control 3
      | 1 => if j.mayTrain p then x.control 1 else { x with st := if x.st = .held then .down else x.st, hold := false }
      | _ => x.control 2
    (j.movePort p y, .rc 0)⟩

end Sys2Proof.Machine
end

