-- ==== Sys2Proof/Machine/JnCmdB.lean ====
section
/-! DEFINITION. Commands 0x0201 to 0x020C: contexts, bundles, Waybill, reference tables, history, logs, test packs (R152, R159, R160, R292, R293, R335 to R337, R344, R350, R351, R374, R382, R384, R462). -/

namespace Sys2Proof.Machine

/-! ## Contexts (R335 to R337, R459) -/

/-- The form of a context record: its length and reserved bits (R335). -/
def ctxShape (b : Bytes) : Bool := body 64 [(3, 1), (0x1E, 2), (0x2C, 20)] b && decide (rd b 0 1 < 16) && decide (rd b 1 1 < 2)

/-- The offset of the first field of a record that is out of range (R335). -/
def CtxRec.bad (r : CtxRec) : Option Nat :=
  if 32 < r.threads then some 2 else if 1408 < r.treeQuota || r.treeQuota % 16 ≠ 0 then some 4
  else if r.wbSize ≠ 0 && (r.wbSize < 8 || 16777216 < r.wbSize) then some 0xC else if 16777216 < r.wbBase + r.wbSize then some 8
  else if 2048 < r.histProj || r.histProj % 32 ≠ 0 then some 0x1C
  else none

/-- The records by which another context may hold resources: the one in force and those that wait to enable it (R336). -/
def Ctx.claims (x : Ctx) : List CtxRec :=
  (if x.st = .disabled then [] else [x.rec_]) ++ (match x.next with | some r => if r.enable then [r] else [] | none => [])
  ++ (match x.latched with | some r => [r] | none => [])

/-- What the other contexts take of a quantity, each with its largest claim. -/
def Junction.others (j : Junction) (c : Nat) (f : CtxRec → Nat) : Nat :=
  ((List.range 16).filter (fun d => d != c)).foldl (fun a d => a + (j.ctx d).claims.foldl (fun m r => max m (f r)) 0) 0

/-- A record breaks a limit across the enabled contexts (R336). -/
def Junction.overQuota (j : Junction) (c : Nat) (r : CtxRec) : Bool :=
  let excess := fun (f : CtxRec → Nat) (n : Nat) => decide (n < f r + j.others c f)
  excess (·.threads) 32 || excess (·.treeQuota) 1408 || excess (·.bundleQuota) 128 || excess (·.histNear) 1024 || excess (·.sidingPages) 262144
  || excess (·.histFar) j.boot.farGiB
  || ((List.range 16).filter (fun d => d != c)).any (fun d => (j.ctx d).claims.any (fun s => decide (r.wbBase < s.wbBase + s.wbSize) && decide (s.wbBase < r.wbBase + r.wbSize)))

/-- A record lowers a quota below what the context's bundles occupy, or THREADS below admission, or moves the Waybill partition (R336). -/
def Junction.holdsMore (j : Junction) (c : Nat) (r : CtxRec) : Bool :=
  let x := j.ctx c
  let bs := j.bundles.filter (fun b => b.ctx == c && b.type == 0 && (b.st == .active || b.st == .staged))
  x.st == .enabled
  && (decide (r.bundleQuota * 268435456 < j.bundleBytes c)
    || bs.any (fun b => match b.placing with | some p => p.used.any (fun u => decide (1024 * r.treeQuota < u)) | none => false)
    || decide (r.sidingPages < j.pagesOf c .active + j.pagesOf c .staged + j.pagesOf c .retiring)
    || (decide (r.threads < x.rec_.threads) && bs.any (fun b => match b.placing with
        | some p => let es := b.ensembles; es.length != 0 && (r.threads == 0 || !(j.admitBanks.all (fun k => j.ensFit k c r.threads b.table.job p es)))
        | none => false))
    || r.wbBase != x.rec_.wbBase || r.wbSize != x.rec_.wbSize)

/-- CONTEXT_CONFIG (R335 to R337, R459). -/
def Cmd.contextConfig : Cmd := ⟨0x201, .m, false, false, ctxShape, fun j _ q =>
  let c := rd q.body 0 1
  let r := CtxRec.decode q.body
  let x := j.ctx c
  match r.bad with
  | some o => (j, .done (badArg o) [])
  | none =>
    if r.enable && j.overQuota c r then (j, .rc 0x1A)
    else if !(j.ahead r.effective) || (r.enable && j.holdsMore c r) then (j, .rc 0x19)
    else if x.st = .draining || x.latched.isSome then
      if r.enable then (j.setCtx c { x with latched := some r }, .rc 1) else (j.setCtx c { x with latched := none }, .rc 0)
    else (j.setCtx c { x with next := some r }, .rc 0)⟩

def Cmd.contextStatus : Cmd := ⟨0x202, .any, false, true, body 8 [(1, 7)], fun j _ q =>
  let c := rd q.body 0 1
  let x := j.ctx c
  let id := fun (b : Option Bundle) => match b with | some b => b.id | none => 0
  if 15 < c then (j, .done (badArg 0) [])
  else if !(j.sees q.ctx c) then (j, .rc 0x13)
  else (j, .done (rc 0) (le 1 x.st.code ++ le 1 (b2n x.latched.isSome) ++ zeros 6 ++ le 8 (id (j.activeBundle c)) ++ le 8 (id (j.stagedBundle c))
    ++ le 8 (match x.latched with | some r => r.effective | none => 0)))⟩

/-! ## Bundles (R344, R345, R462) -/

def Cmd.bundleTransfer : Cmd := ⟨0x203, .any, false, false, fun b => (Chunk.decode b).isSome, fun j _ q =>
  match Chunk.decode q.body with
  | none => (j, .rc 0x10)
  | some c =>
    let who : Option (Nat × Nat) := if c.chunk = 0 then some (rd c.data 7 1 % 16, rd c.data 6 1) else (j.bundle? c.id).map (fun b => (b.ctx, b.type))
    match who with
    | some (ctx, type) => if !(owns q.ctx ctx) || (type = 1 && q.ctx ≠ 0) then (j, .rc 0x13) else plain (j.chunk c)
    | none => (j, .done (badArg 12) [])⟩

def Cmd.bundleStatus : Cmd := ⟨0x204, .any, false, true, body 8 [], fun j _ q =>
  match j.bundle? (rd q.body 0 8) with
  | none => (j, .done (rc 0) (zeros 24))
  | some b =>
    if !(j.sees q.ctx b.ctx) then (j, .rc 0x13)
    else (j, .done (rc 0) (le 1 b.st.code ++ le 1 b.result ++ le 2 b.check ++ le 4 b.offset ++ le 4 b.got ++ zeros 4 ++ le 8 b.effective))⟩

/-! ## Waybill and reference tables (R292, R293, R374) -/

/-- The form of a WAYBILL_WRITE body: MISSING [63:60] is reserved (R291). -/
def wayShape (b : Bytes) : Bool := body 264 [(5, 3)] b && decide (rd b 16 8 < 2 ^ 60)

/-- WAYBILL_WRITE (R293): judged on the table as the writes that take effect by its tick leave it. -/
def Cmd.waybillWrite : Cmd := ⟨0x205, .any, false, false, wayShape, fun j _ q =>
  let b := q.body
  let e := rd b 0 4
  let m := rd b 8 8
  let o : WayOp := { tick := m, ctx := q.ctx, entity := e, remove := rd b 4 1 == 1, entry := b.drop 16 }
  if !(entityOk e) || e = 0 then (j, .done (badArg 0) [])
  else if 1 < rd b 4 1 then (j, .done (badArg 4) [])
  else if (j.recAt q.ctx m).wbSize = 0 then (j, .rc 0x1A)
  else if !(j.ahead m) then (j, .rc 0x1B)
  else
    let then_ := (sortBy WayOp.tick (j.wayOps.filter (fun w => decide (w.tick ≤ m)))).foldl (fun (k : Junction) w => (k.wayApply w).1) j
    if (then_.wayApply o).2 then ({ j with wayOps := j.wayOps ++ [o] }, .rc 0) else (j, .rc 0x33)⟩

/-- REF_TABLE_LOAD (R374). -/
def Cmd.refTableLoad : Cmd := ⟨0x206, .any, false, false, body 16 [(4, 4)], fun j _ q =>
  if !j.tray then (j, .done (badArg 0) [])
  else match j.buffer q.ctx (rd q.body 8 8) (rd q.body 0 4) with
  | .inl r => (j, .done r [])
  | .inr b =>
    let ctx := rd b 6 1
    let s := rd b 7 1 % 4
    let x := j.refs.getD s ⟨none, none⟩
    let other := fun (t : Option Bytes) => match t with | some y => rd y 6 1 != ctx | none => false
    if !(owns q.ctx ctx) then (j, .rc 0x13)
    else match refTableBad b with
    | some o => (j, .done ⟨0x34, 0, o⟩ [])
    | none =>
      if other x.active || other x.staged then (j, .done ⟨0x34, 0, 7⟩ [])
      else if !(j.ahead (rd b 0x18 8)) then (j, .done ⟨0x34, 0, 0x18⟩ [])
      else ({ j with refs := j.refs.set s { x with staged := some b } }, .rc 0)⟩

/-! ## History (R350, R351) -/

/-- Blocks that a reply can hold: at most `n`, within `room` bytes. -/
def takeBlocks : Nat → Nat → List Bytes → List Bytes
  | n + 1, room, b :: t => if b.length ≤ room then b :: takeBlocks n (room - b.length) t else []
  | _, _, _ => []

/-- HISTORY_READ (R350, R351). -/
def Cmd.historyRead : Cmd := ⟨0x207, .any, false, false, body 16 [(4, 4)], fun j _ q =>
  let c := rd q.body 0 1
  let far := rd q.body 1 1 == 1
  let from_ := rd q.body 8 8
  if 15 < c then (j, .done (badArg 0) [])
  else if 1 < rd q.body 1 1 then (j, .done (badArg 1) [])
  else if !(j.sees q.ctx c) then (j, .rc 0x13)
  else
    let h := j.histOf c
    let all := (if far then h.far else h.near.map (·.1)).filter (fun b => decide (from_ ≤ rd b 0 8))
    let got := takeBlocks (rd q.body 2 2) (65568 - 16) all
    let next := match all.drop got.length with
      | b :: _ => rd b 0 8
      | [] => match got.getLast? with | some b => rd b 0 8 + 1 | none => from_
    let lost := if far then h.lostFar else h.lostNear
    let (got', h) : List Bytes × Hist := match got with
      | b :: t => (overlay b 9 (le 1 (b2n lost)) :: t, if far then { h with lostFar := false } else { h with lostNear := false })
      | [] => ([], h)
    (j.setHist c h, .done (rc 0) (le 2 got.length ++ zeros 6 ++ le 8 next ++ got'.flatten))⟩

/-! ## Logs (R152, R153, R159 to R161) -/

def Cmd.logConfig : Cmd := ⟨0x208, .m, false, false, fun b => body 8 [(1, 3)] b && decide (rd b 4 4 < 2 ^ 15), fun j _ q =>
  let c := rd q.body 0 1
  if c < 0x20 || 0x3F < c then (j, .done (badArg 0) []) else ({ j with logRateNew := j.logRateNew ++ [(c, rd q.body 4 4)] }, .rc 0)⟩

/-- The owner of a log: context 0 of the own log, the context of the die of a port's log; none where there is no such log (R159, R477). -/
def Junction.logOwner (j : Junction) (l : Nat) : Option Nat :=
  if l = 0 then some 0 else if l ≤ 32 && j.tray then some (j.die (l - 1)).owner else none

def Cmd.logRead : Cmd := ⟨0x209, .any, true, false, body 16 [(1, 3), (10, 6)], fun j _ q =>
  let l := rd q.body 0 1
  match j.logOwner l with
  | none => (j, .done (badArg 0) [])
  | some o =>
    if !(j.sees q.ctx o) then (j, .rc 0x13)
    else
      let r := (((j.log l).recs.filter (fun e => atOrAfter (rd e.data 0x14 4) (rd q.body 4 4))).take (min (rd q.body 8 2) 256)).map (·.data)
      (j, .done (rc 0) (le 2 r.length ++ zeros 6 ++ r.flatten))⟩

def Cmd.logRelease : Cmd := ⟨0x20A, .m, true, false, body 8 [(1, 3)], fun j _ q =>
  let l := rd q.body 0 1
  match j.logOwner l with
  | none => (j, .done (badArg 0) [])
  | some _ =>
    let g := j.log l
    let j := j.setLog l { g with recs := g.recs.filter (fun e => !(atOrAfter (rd q.body 4 4) (rd e.data 0x14 4))) }
    ({ j with nearFull := j.nearFullOf }, .rc 0)⟩

/-! ## Test packs (R382 to R384) -/

/-- TEST_PACK_READ (R382): of the staged pack, or of the active one while none is staged. -/
def Cmd.testPackRead : Cmd := ⟨0x20B, .mRead, false, false, body 8 [], fun j _ q =>
  let off := rd q.body 0 4
  let n := rd q.body 4 4
  match (match j.tests.staged with | some t => some t | none => j.tests.active) with
  | none => (j, .done (badArg 0) [])
  | some t =>
    if n = 0 || 65536 < n then (j, .done (badArg 4) [])
    else if rd t.section_ 0x18 4 < off + n then (j, .done (badArg 0) [])
    else (j, .done (rc 0) (sub t.section_ (rd t.section_ 0x14 4 + off) n))⟩

def Cmd.testResult : Cmd := ⟨0x20C, .any, false, false, body 8 [(1, 7)], fun j _ q =>
  let k := rd q.body 0 1
  if 31 < k || !j.tray then (j, .done (badArg 0) [])
  else if !(j.sees q.ctx (j.die k).owner) then (j, .rc 0x13)
  else
    let (id, img) : Nat × Bytes := (Tbl.get none j.tests.results k).getD (0, zeros 64)
    (j, .done (rc 0) (le 8 id ++ le 2 (testCount 256 1 img) ++ le 2 (testCount 256 2 img) ++ le 2 (testCount 256 3 img) ++ zeros 2 ++ fit 64 img))⟩

end Sys2Proof.Machine
end

