-- ==== Sys2Proof/Machine/JnCmdC.lean ====
section
/-! DEFINITION. Commands 0x0301 to 0x0502: dies, membership, trace, time, timing pins, fleet stop, Lineside registers (R142, R148, R166, R167, R176 to R179, R192 to R194, R207, R386, R392, R393, R395, R396, R404, R462). -/

namespace Sys2Proof.Machine

/-! ## Dies and membership (R386 to R404) -/

/-- DIE_CONFIG (R386, R388, R392, R462). -/
def Cmd.dieConfig : Cmd := ⟨0x301, .m, false, false, body 16 [], fun j _ q =>
  let b := q.body
  let k := rd b 0 1
  let c : DieCfg := { watch := rd b 1 1 == 1, deadN := rd b 2 1, owner := rd b 3 1, epoch := rd b 4 4, tick := rd b 8 8 }
  if !j.tray || 31 < k then (j, .done (badArg 0) [])
  else if 1 < rd b 1 1 then (j, .done (badArg 1) [])
  else if c.deadN < 2 || 16 < c.deadN then (j, .done (badArg 2) [])
  else if 15 < c.owner then (j, .done (badArg 3) [])
  else if c.watch && (j.die k).st = .dead then (j, .rc 0x38)
  else if !(j.ahead c.tick) then (j, .rc 0x1B)
  else (j.setDie k { j.die k with next := some c }, .rc 0)⟩

/-- A stale-epoch frame came in each of the 4 ticks evaluated last (R393). -/
def DieSlot.heard (d : DieSlot) : Bool :=
  match d.evaluated with
  | some n => (List.range 4).all (fun i => decide (i ≤ n) && d.stale.contains (n - i))
  | none => false

/-- DIE_READMIT (R386, R393). -/
def Cmd.dieReadmit : Cmd := ⟨0x302, .m, false, false, body 16 [(1, 7)], fun j _ q =>
  let k := rd q.body 0 1
  let m := rd q.body 8 8
  let d := j.die k
  if !j.tray || 31 < k then (j, .done (badArg 0) [])
  else if d.st ≠ .dead then (j, .rc 0x24)
  else if !d.heard then (j, .rc 0x39)
  else if !(j.ahead m) then (j, .rc 0x1B)
  else ((j.setDie k { d with readmit := some m }).writeLs k .own [(0x14, d.epoch)], .rc 0)⟩

/-- MEMBERSHIP_LOAD or GROUP_REARM (R392, R396, R399, R404, R459). -/
def Junction.loadEntry (j : Junction) (q : Request) (rearm : Bool) : Junction × Out :=
  let e := MemEntry.decode q.body
  let k := j.slot e.slot
  if !(owns q.ctx (fld e.group 24 4)) then (j, .rc 0x13)
  else match j.entryBad q.body with
  | some o => (j, .done ⟨0x3A, 0, o⟩ [])
  | none =>
    if j.maskDead e then (j, .rc 0x38)
    else if rearm && !(after e.epoch k.entry.epoch) then (j, .rc 0x3B)
    else if !(j.ahead e.effective) then (j, .rc 0x1B)
    else if k.st = .pending || k.latched.isSome then
      if e.valid && e.abort then (j.setSlot e.slot { k with latched := some (e, rearm) }, .rc 1)
      else (j.setSlot e.slot { k with latched := none }, .rc 0)
    else ((j.setSlot e.slot { k with next := some (e, rearm) }).writeMembers e, .rc 0)

def Cmd.membershipLoad : Cmd := ⟨0x303, .any, false, false, body 64 [], fun j _ q => j.loadEntry q false⟩

def Cmd.groupRearm : Cmd := ⟨0x304, .any, false, false, body 64 [], fun j _ q => j.loadEntry q true⟩

def Cmd.membershipStatus : Cmd := ⟨0x305, .any, false, true, body 8 [(1, 7)], fun j _ q =>
  let g := rd q.body 0 1
  let k := j.slot g
  if !(j.sees q.ctx (fld k.entry.group 24 4)) then (j, .rc 0x13)
  else (j, .done (rc 0) (k.entry.bytes ++ le 1 k.st.code ++ le 1 (b2n k.latched.isSome) ++ le 1 k.latchResult ++ zeros 1 ++ le 4 k.notWritten))⟩

/-- TRACE_SIGNAL (R127, R207): the TRACE field on a die's port. -/
def Cmd.traceSignal : Cmd := ⟨0x306, .any, false, false, body 8 [(1, 7)], fun j _ q =>
  let k := rd q.body 0 1
  if !j.tray || 31 < k then (j, .done (badArg 0) [])
  else if !(owns q.ctx (j.die k).owner) then (j, .rc 0x13)
  else if (j.port k).st ≠ .active then (j, .rc 0x18)
  else (j.signal k 6 0, .rc 0)⟩

/-! ## Time (R165 to R167, R176 to R183, R462) -/

/-- The servo parameters of TIME_CONFIG OP 2, in the row order of the servo table (R462). -/
def Servo.decode (b : Bytes) : Servo :=
  { kpShift := rd b 9 1, kiShift := rd b 10 1, lockNs := rd b 11 1, lockCount := rd b 12 1, unlockNs := rd b 13 2, unlockCount := rd b 15 1, stepNs := rd b 16 4,
    slewPpb := rd b 20 4, lossTicks := rd b 24 1, revertTicks := rd b 25 2, holdoverLimit := rd b 27 4, echoPeriod := rd b 31 1 }

/-- The offset of the first parameter out of range; LOSS_TICKS, HOLDOVER_LIMIT and ECHO_PERIOD do not apply to the external reference. -/
def Servo.bad (s : Servo) (ext : Bool) : Option Nat :=
  if 15 < s.kpShift then some 9 else if 31 < s.kiShift then some 10 else if s.lockNs = 0 then some 11 else if s.lockCount = 0 then some 12
  else if s.unlockNs < 4 then some 13 else if s.unlockCount = 0 then some 15 else if s.stepNs < 100 || 1000000 < s.stepNs then some 16
  else if s.slewPpb < 100 || 100000 < s.slewPpb then some 20
  else if ext then none
  else if s.lossTicks < 2 || 64 < s.lossTicks then some 24 else if s.holdoverLimit < 100 || 1000000 < s.holdoverLimit then some 27
  else if 10 < s.echoPeriod then some 31 else none

/-- OP 0: the fleet epoch, once, at root Twin A (R167). -/
def Junction.timeEpoch (j : Junction) (b : Bytes) : Junction × Out :=
  if j.role.level ≠ 3 || j.role.twinB then (j, .done (badArg 0) [])
  else match unpackTime (rd b 8 12) with
  | none => (j, .done ⟨0x17, 0, 8⟩ [])
  | some t =>
    if t % uNs ≠ 0 || j.clk.time < t then (j, .done (badArg 8) [])
    else match j.clk.epoch, j.fleetEpoch with
    | some e, _ => (j, .rc (if e = t then 0 else 0x19))
    | none, some e => if e = t then (j.setEpoch t, .rc 0) else (j, .rc 0x19)
    | none, none => (j.setEpoch t, .rc 0)

/-- OP 1: the external reference of a root (R176, R177, R179). A TIME that is no station time is refused with every REF (R164). The masters are
kept while the reference stays PTP in the same domain. -/
def Junction.timeRef (j : Junction) (b : Bytes) : Junction × Out :=
  let r := rd b 8 1
  if j.role.level ≠ 3 then (j, .done (badArg 0) [])
  else if 2 < r then (j, .done (badArg 8) [])
  else if 127 < rd b 9 1 then (j, .done (badArg 9) [])
  else
    let same := r == 0 && j.ref.ref == some 0 && rd b 9 1 == j.ref.domain
    let ref : JnRef := { j.ref with ref := some r, domain := rd b 9 1, ppsDelay := signed 32 (rd b 12 4), parked := false, ppsNext := none, ppsLast := none,
                                    stepping := false, newGm := same && j.ref.newGm, masters := if same then j.ref.masters else [],
                                    gm := if same then j.ref.gm else none, sync := none, ms := none, delays := [] }
    match r, unpackTime (rd b 16 12) with
    | _, none => (j, .done ⟨0x17, 0, 16⟩ [])
    | 0, some _ => ({ j with ref := ref }, .rc 0)
    | 1, some t => ({ j with ref := { ref with ppsNext := some (capture t) } }, .rc 0)
    | _, some t => (({ j with ref := ref }).setTime t, .rc 0)

/-- OP 2: servo parameters (R183). -/
def Junction.timeServo (j : Junction) (b : Bytes) : Junction × Out :=
  let s := Servo.decode b
  if 1 < rd b 8 1 then (j, .done (badArg 8) [])
  else match s.bad (rd b 8 1 == 1) with
  | some o => (j, .done (badArg o) [])
  | none => (if rd b 8 1 = 1 then { j with ext := s } else { j with clk := { j.clk with servo := s } }, .rc 0)

/-- OP 3: UTC offset and pending leap at the root (R166, R176); a grandmaster's valid offset prevails. -/
def Junction.timeUtc (j : Junction) (b : Bytes) : Junction × Out :=
  if j.role.level ≠ 3 then (j, .done (badArg 0) [])
  else if 3 < rd b 10 1 then (j, .done (badArg 10) [])
  else
    let off := BitVec.ofNat 16 (rd b 8 2)
    (({ j with ref := { j.ref with utcOffset := off, leap := BitVec.ofNat 2 (rd b 10 1), leapAt := rd b 12 8 } }).utcUpdate, .rc 0)

/-- OP 4: delays in 2^-6 ns (R183, R177, R192 to R194). -/
def Junction.timeDelay (j : Junction) (b : Bytes) : Junction × Out :=
  let i := rd b 9 1
  let v := signed 32 (rd b 12 4)
  let bad : Junction × Out := (j, .done (badArg 9) [])
  match rd b 8 1 with
  | 0 => if 67 < i then bad else (j.onPort i (fun x => { x with time := { x.time with asym := v } }), .rc 0)
  | 1 => match j.tsIn[i]? with | some x => ({ j with tsIn := j.tsIn.set i { x with delay := v } }, .rc 0) | none => bad
  | 2 => match j.trig[i]? with | some x => ({ j with trig := j.trig.set i { x with delay := v } }, .rc 0) | none => bad
  | 3 => if i ≠ 0 then bad else ({ j with ref := { j.ref with ppsDelay := v } }, .rc 0)
  | 4 => if i ≠ 0 then bad else ({ j with pps := { j.pps with delay := v } }, .rc 0)
  | _ => (j, .done (badArg 8) [])

/-- The form of a TIME_CONFIG body (R462). -/
def timeShape (b : Bytes) : Bool :=
  decide (8 ≤ b.length) && allZero (sub b 1 7)
  && (match rd b 0 1 with
    | 0 => b.length == 20
    | 1 => b.length == 28 && allZero (sub b 10 2)
    | 2 => b.length == 32
    | 3 => b.length == 20 && allZero (sub b 11 1)
    | 4 => b.length == 16 && allZero (sub b 10 2)
    | _ => true)

def Cmd.timeConfig : Cmd := ⟨0x401, .m, true, false, timeShape, fun j _ q =>
  match rd q.body 0 1 with
  | 0 => j.timeEpoch q.body
  | 1 => j.timeRef q.body
  | 2 => j.timeServo q.body
  | 3 => j.timeUtc q.body
  | 4 => j.timeDelay q.body
  | _ => (j, .done (badArg 0) [])⟩

/-! ## Timing pins (R192 to R194) -/

def Cmd.timestampRead : Cmd := ⟨0x402, .any, true, false, body 8 [(1, 1), (4, 4)], fun j _ q =>
  let i := rd q.body 0 1
  let n := rd q.body 2 2
  match j.tsIn[i]? with
  | none => (j, .done (badArg 0) [])
  | some x =>
    if n = 0 || 64 < n then (j, .done (badArg 2) [])
    else if !(j.sees q.ctx x.owner) then (j, .rc 0x13)
    else
      let l := x.queue.take n
      ({ j with tsIn := j.tsIn.set i { x with queue := x.queue.drop n } }, .done (rc 0) (le 2 l.length ++ zeros 6 ++ l.flatten))⟩

/-- TIMING_IO_CONFIG of a trigger output (R193, R459). -/
def Junction.trigConfig (j : Junction) (b : Bytes) : Junction × Out :=
  let f := rd b 2 2
  let mode := f % 4
  let per := rd b 24 4
  let w := rd b 28 4
  match j.trig[rd b 1 1]? with
  | none => (j, .done (badArg 1) [])
  | some x =>
    if mode = 3 then (j, .done (badArg 2) [])
    else if mode ≠ 0 && per < 100 then (j, .done (badArg 24) [])
    else if mode ≠ 0 && (w < 10 || per < w + 10) then (j, .done (badArg 28) [])
    else match unpackTime (rd b 8 12) with
    | none => (j, .done ⟨0x17, 0, 8⟩ [])
    | some t =>
      let (y, pend) := x.configure { mode := mode, inverted := bit f 2, squelch := bit f 3, start := capture t, period := per, width := w } j.clk.time
      ({ j with trig := j.trig.set (rd b 1 1) y }, .rc (if pend then 1 else 0))

/-- The form of a TIMING_IO_CONFIG body: FLAGS bits that its pin does not use are reserved (R461). -/
def ioShape (b : Bytes) : Bool :=
  body 32 [(4, 4), (20, 4)] b
  && (match rd b 0 1 with | 0 => Nat.land (rd b 2 2) 0xFF0C == 0 | 1 => decide (rd b 2 2 < 16) | _ => rd b 2 2 == 0)

def Cmd.timingIoConfig : Cmd := ⟨0x403, .m, false, false, ioShape, fun j _ q =>
  let b := q.body
  match rd b 0 1 with
  | 0 => match j.tsIn[rd b 1 1]? with
    | some x => ({ j with tsIn := j.tsIn.set (rd b 1 1) { x with edges := rd b 2 2 % 4, owner := fld (rd b 2 2) 4 4 } }, .rc 0)
    | none => (j, .done (badArg 1) [])
  | 1 => j.trigConfig b
  | 2 =>
    if rd b 1 1 ≠ 0 then (j, .done (badArg 1) [])
    else if rd b 28 4 < 1000 || 500000000 < rd b 28 4 then (j, .done (badArg 28) [])
    else ({ j with pps := { j.pps with width := rd b 28 4 } }, .rc 0)
  | _ => (j, .done (badArg 0) [])⟩

/-! ## FLEET_STOP (R142, R207, R462) -/

/-- The command goes on to every child pair on its primary downlink in service (R462). -/
def Junction.relayStop (j : Junction) (q : Request) : Junction :=
  if j.tray then j
  else (List.range 32).foldl (fun j k =>
    match Tbl.get none j.portMap k with
    | some idx =>
      if (j.port (32 + k)).st = .active then
        let t := put 15 (j.role.level - 1) + put 1 idx + b2n j.role.twinB
        j.send (32 + k) 3 1 0 (relayHead j.id t 0 false ++ ({ q with target := t } : Request).bytes)
      else j
    | none => j) j

def Cmd.fleetStop : Cmd := ⟨0x404, .m, true, false, body 16 [(1, 3)], fun j _ q =>
  let op := rd q.body 0 1
  let t := rd q.body 4 12
  let go : Unit → Junction × Out := fun _ => let (k, n) := (j.relayStop q).fleetStop op t; (k, .done (rc 0) (le 4 n))
  if 3 < op then (j, .done (badArg 0) [])
  else match unpackTime t with
  | none => (j, .done ⟨0x17, 0, 4⟩ [])
  | some u => if op < 2 && u < j.clk.time + 100000 * uNs then (j, .rc 0x1B) else go ()⟩

/-! ## Lineside registers (R148, R462, R480, R499, R519) -/

/-- A request to a Lineside whose reply is owed to a mailbox, under a token. -/
def Junction.linesideOps (j : Junction) (p : Nat) (ops : List CfgOp) : Junction × Out :=
  let k := j.jobSeq
  (({ j with jobSeq := k + 1 }).request p (.mailbox k) ops, .wait (.lineside p k))

def Cmd.lsRead : Cmd := ⟨0x501, .any, false, false, body 8 [(1, 1)], fun j _ q =>
  let p := rd q.body 0 1
  let n := rd q.body 2 2
  let a := rd q.body 4 4
  if !(j.linesidePort p) then (j, .done (badArg 0) [])
  else if n = 0 || 128 < n then (j, .done (badArg 2) [])
  else if 65536 < a + n then (j, .done (badArg 4) [])
  else if !(j.sees q.ctx (j.die p).owner) then (j, .rc 0x13)
  else if (j.port p).st ≠ .active then (j, .rc 0x18)
  else j.linesideOps p ((List.range n).map (fun i => (⟨1, a + i, 0, 0⟩ : CfgOp)))⟩

/-- Registers that the owning context may write (R148): trace, hang snapshot, breakpoints, and the drain bits of LS_HALT_CTRL. -/
def ownerMay (a v : Nat) : Bool :=
  inRange a 0x100 8 || inRange a 0x110 3 || inRange a 0x80 0x62 || (a == 0x40 && decide (v < 4))

def Cmd.lsWrite : Cmd := ⟨0x502, .any, false, false, body 24 [(1, 3)], fun j _ q =>
  let p := rd q.body 0 1
  let a := rd q.body 4 4
  let v := rd q.body 8 8
  let mask := rd q.body 16 8
  if !(j.linesidePort p) then (j, .done (badArg 0) [])
  else if 65536 ≤ a then (j, .done (badArg 4) [])
  else if !(owns q.ctx (j.die p).owner) || (q.ctx ≠ 0 && !(ownerMay a (Nat.land v mask))) then (j, .rc 0x13)
  else if (j.port p).st ≠ .active then (j, .rc 0x18)
  else
    let j := if a = 0x12 then j.secEvent 7 ((Tbl.get none j.portMap p).getD 0) else j
    let (j, o) := j.linesideOps p [(⟨3, a, v, mask⟩ : CfgOp)]
    (if a = 0x200 || a = 0x210 then j.request p .own bankReads else j, o)⟩

end Sys2Proof.Machine
end

