-- ==== Sys2Proof/Machine/JnCmdD.lean ====
section
/-! DEFINITION. Commands 0x0601 to 0x0803: export, buffers, Ballast, CRC engines, security, firmware (R405 to R407, R411, R414 to R422, R425 to R427, R437, R438, R460, R463 to R482). -/

namespace Sys2Proof.Machine

/-! ## Export (R425 to R427, R431, R437) -/

/-- The form of an EXPORT_CONFIG body (R462). -/
def exportShape (b : Bytes) : Bool :=
  decide (4 ≤ b.length) && allZero (sub b 1 3)
  && (match rd b 0 1 with
    | 0 => b.length == 36 && allZero (sub b 18 2) && decide (rd b 7 1 < 4)
    | 1 => b.length == 8 && allZero (sub b 7 1) && decide (rd b 6 1 < 4)
    | 2 => b.length == 12 && allZero (sub b 5 1) && allZero (sub b 9 3) && Nat.land (rd b 8 1) 0x70 == 0
    | 3 => b.length == 40 && allZero (sub b 6 2) && decide (rd b 32 1 < 4) && allZero (sub b 35 5)
    | _ => true)

/-- OP 0: a destination (R425). -/
def Junction.exportDest (j : Junction) (b : Bytes) : Junction × Out :=
  let d : Dest := { port := rd b 6 1, ipv6 := bit (rd b 7 1) 0, vlan := if bit (rd b 7 1) 1 then some (rd b 8 2) else none, udp := rd b 10 2, mac := sub b 12 6, ip := sub b 20 16 }
  if 1 < rd b 5 1 then (j, .done (badArg 5) [])
  else if 1 < d.port then (j, .done (badArg 6) [])
  else ({ j with exp := { j.exp with dests := Tbl.put none j.exp.dests (2 * rd b 4 1 + rd b 5 1) (some d) } }, .rc 0)

/-- OP 1: a stream's ENABLE and COMPRESS (R426, R431). -/
def Junction.exportStream (j : Junction) (b : Bytes) : Junction × Out :=
  let c := rd b 4 1
  let k := rd b 5 1
  if k = 0 || 7 < k then (j, .done (badArg 5) [])
  else ({ j with exp := j.exp.setStream c k { j.exp.stream c k with enable := bit (rd b 6 1) 0, compress := bit (rd b 6 1) 1 } }, .rc 0)

/-- OP 2: an entry of a context's export list (R427). -/
def Junction.exportField (j : Junction) (b : Bytes) : Junction × Out :=
  let key := 65536 * rd b 4 1 + rd b 6 2
  let v := if bit (rd b 8 1) 7 then 0 else rd b 8 1 % 16 + 1
  if 8192 ≤ rd b 6 2 then (j, .done (badArg 6) []) else ({ j with exp := { j.exp with fields := Tbl.put 0 j.exp.fields key v } }, .rc 0)

/-- OP 3: a policer; the committed rates of a port sum to at most 47e9 (R437, R438). -/
def Junction.exportPolicer (j : Junction) (b : Bytes) : Junction × Out :=
  let p := rd b 4 1
  let k := rd b 5 1
  let cb := b.drop 8
  if 1 < p then (j, .done (badArg 4) [])
  else if k = 0 || 7 < k then (j, .done (badArg 5) [])
  else match policerBad cb with
  | some o => (j, .done (badArg (8 + o)) [])
  | none =>
    let c := PolicerCfg.decode cb
    let e := j.exp.eth p
    let sum := (List.range 7).foldl (fun a i => a + (if i + 1 = k then c.cir else ((e.pol.getD i (Policer.init (i + 1))).cfg.cir))) 0
    if 47000000000 < sum then (j, .rc 0x1A)
    else ({ j with exp := j.exp.setEth p { e with pol := e.pol.set (k - 1) ((e.pol.getD (k - 1) (Policer.init k)).configure c) } }, .rc 0)

def Cmd.exportConfig : Cmd := ⟨0x601, .any, false, false, exportShape, fun j _ q =>
  let b := q.body
  let op := rd b 0 1
  if 3 < op then (j, .done (badArg 0) [])
  else if op = 3 then (if q.ctx ≠ 0 then (j, .rc 0x13) else j.exportPolicer b)
  else if 15 < rd b 4 1 then (j, .done (badArg 4) [])
  else if !(owns q.ctx (rd b 4 1)) then (j, .rc 0x13)
  else match op with
    | 0 => j.exportDest b
    | 1 => j.exportStream b
    | _ => j.exportField b⟩

/-! ## Buffers (R353, R460) -/

def Cmd.bufferWrite : Cmd := ⟨0x602, .any, false, false, fun b => decide (9 ≤ b.length) && decide (b.length ≤ 8 + 65536), fun j _ q =>
  let a := rd q.body 0 8
  let d := q.body.drop 8
  if bufferOk q.ctx a d.length then (j.write a d, .rc 0) else (j, .rc 0x13)⟩

def Cmd.bufferRead : Cmd := ⟨0x603, .any, false, false, body 16 [(12, 4)], fun j _ q =>
  let n := rd q.body 8 4
  if n = 0 || 65536 < n then (j, .done (badArg 8) [])
  else match j.buffer q.ctx (rd q.body 0 8) n with | .inl r => (j, .done r []) | .inr d => (j, .done (rc 0) d)⟩

/-! ## Ballast (R405 to R407, R411, R493) -/

/-- BALLAST: a job is refused by its completion record, or queued; its reply is written when it ends (R462). -/
def Cmd.ballast : Cmd := ⟨0x604, .any, false, false, body 32 [], fun j _ q =>
  let b := BallastJob.decode q.body
  let u := b2n b.decompress
  if bit j.boot.ballastFailed.toNat u then (j, .rc 0x19)
  else if b.refusal ≠ 0 then (j, .done (rc 0) (completion b.tag 2 b.refusal false false 0 0 0 0))
  else if !(owns q.ctx b.ctx) || !(bufferOk q.ctx b.inAddr b.inLen) || !(bufferOk q.ctx b.outAddr b.outCap) then (j, .rc 0x13)
  else
    let k := j.jobSeq
    ({ j with jobSeq := k + 1, ballast := { j.ballast with software := j.ballast.software ++ [{ b with id := k }] } }, .wait (.ballast u k))⟩

/-! ## CRC engines (R414 to R422) -/

/-- The first failing check of R416's list with the offset of its field, for an enable of engine i. -/
def Junction.crcBad (j : Junction) (i : Nat) (c : CrcCfg) : Option Rc :=
  let w := c.width
  if w < 8 || 64 < w then some ⟨0x16, 1, 4⟩
  else if c.poly % 2 = 0 then some ⟨0x16, 2, 8⟩
  else if 2 ^ w ≤ c.poly then some ⟨0x16, 3, 8⟩ else if 2 ^ w ≤ c.init then some ⟨0x16, 3, 16⟩ else if 2 ^ w ≤ c.xorOut then some ⟨0x16, 3, 24⟩
  else if c.vc = 0 then some ⟨0x16, 4, 4⟩
  else if crcConflict j.crc i c then some ⟨0x16, 5, 1⟩
  else none

/-- Another context holds an engine (R461). -/
def CrcEng.heldFrom (e : CrcEng) (ctx : Nat) : Bool := match e.owner with | some o => o != ctx | none => false

/-- CRC_ENGINE (R416, R420, R422, R459, R493). -/
def Cmd.crcEngine : Cmd := ⟨0x605, .any, false, false, fun b => body 40 [(2, 2)] b && decide (rd b 4 4 < 2 ^ 20), fun j _ q =>
  let b := q.body
  let i := rd b 0 1
  let e := j.engine i
  let c := { (((CrcCfg.reset.withReg 0 (rd b 4 4)).withReg 1 (rd b 8 8)).withReg 2 (rd b 16 8)).withReg 3 (rd b 24 8) with port := rd b 1 1 }
  let ported := c.bind == 1 || c.bind == 2
  if 7 < i then (j, .done (badArg 0) [])
  else if bit j.boot.crcFailed.toNat i || e.heldFrom q.ctx then (j, .rc 0x19)
  else if ported && q.ctx ≠ 0 then (j, .rc 0x13)
  else if ported && (67 < c.port || j.role.unused c.port) then (j, .done (badArg 1) [])
  else match (if c.enable then j.crcBad i c else none) with
  | some r => (j, .done r [])
  | none =>
    let busy := j.crcBusy i
    let e' := { e.configure c busy false false true with value := rd b 32 8 % 2 ^ c.width, owner := if c.enable then some q.ctx else none }
    (j.setEngine i e', .rc (if c.enable && e'.pending then 1 else 0))⟩

/-- CRC_DATA (R414, R422): a buffer through a software-fed engine. -/
def Cmd.crcData : Cmd := ⟨0x606, .any, false, false, body 16 [(1, 3)], fun j _ q =>
  let i := rd q.body 0 1
  let e := (j.engine i).settle (j.crcBusy i)
  if 7 < i then (j, .done (badArg 0) [])
  else if e.owner ≠ some q.ctx || !e.act.enable || e.act.bind ≠ 0 then (j, .rc 0x19)
  else match j.buffer q.ctx (rd q.body 8 8) (rd q.body 4 4) with
  | .inl r => (j, .done r [])
  | .inr d => let e := e.feed d; (j.setEngine i e, .done (rc 0) (le 8 e.result))⟩

def Cmd.crcValueRead : Cmd := ⟨0x607, .any, false, false, body 8 [(1, 7)], fun j _ q =>
  let i := rd q.body 0 1
  let e := j.engine i
  if 7 < i then (j, .done (badArg 0) []) else if e.heldFrom q.ctx then (j, .rc 0x19)
  else (j, .done (rc 0) (le 8 e.value ++ le 8 e.result))⟩

def Cmd.crcValueWrite : Cmd := ⟨0x608, .any, false, false, body 16 [(1, 7)], fun j _ q =>
  let i := rd q.body 0 1
  let e := j.engine i
  if 7 < i then (j, .done (badArg 0) []) else if e.heldFrom q.ctx then (j, .rc 0x19)
  else (j.setEngine i { e with value := rd q.body 8 8 % 2 ^ e.act.width }, .rc 0)⟩

/-! ## Security (R466 to R482) -/

def Cmd.deviceId : Cmd := ⟨0x701, .any, true, false, body 0 [], fun j _ _ =>
  (j, .done (rc 0) (le 8 Config.serial.toNat ++ fit 97 (Config.p384Public deviceKey) ++ zeros 3 ++ le 4 j.sec.fuseState ++ le 4 Config.vendorCert.length ++ Config.vendorCert))⟩

/-- The word that confirms a fuse command (R482). -/
def confirmWord : Nat := 0x4B434F4C

/-- OWNER_PROVISION (R466, R482): in a session opened with slot 0xFF. -/
def Cmd.ownerProvision : Cmd := ⟨0x702, .m, true, false, body 8 [(4, 4)], fun j m q =>
  match (j.mbox m).session with
  | some s =>
    if s.key ≠ 0xFF then (j, .rc 0x13)
    else if rd q.body 0 4 ≠ confirmWord then (j, .done (badArg 0) [])
    else if !(allZero j.sec.ownerHash) then (j, .rc 0x19)
    else (({ j with sec := { j.sec with ownerHash := s.owner } }).secEvent 9 0, .rc 0)
  | none => (j, .rc 0x13)⟩

/-- KEY_INSTALL (R469, R481). -/
def Cmd.keyInstall : Cmd := ⟨0x703, .m, true, false, fun b => decide (104 ≤ b.length) && b.length == (if bit (rd b 3 1) 0 then 2696 else 104) && allZero (sub b 101 3) && decide (rd b 3 1 < 4), fun j _ q =>
  let b := q.body
  let i := rd b 0 1
  if 63 < i then (j, .done (badArg 0) [])
  else if 1 < rd b 1 1 then (j, .done (badArg 1) [])
  else if 15 < rd b 2 1 then (j, .done (badArg 2) [])
  else if (Tbl.get none j.sec.keys i).isSome then (j, .rc 0x19)
  else
    let k : KeySlot := { usage := rd b 1 1, ctx := rd b 2 1, pq := bit (rd b 3 1) 0, requirePq := bit (rd b 3 1) 1, pub := sub b 4 97, pqPub := b.drop 104 }
    (({ j with sec := { j.sec with keys := Tbl.put none j.sec.keys i (some k) } }).secEvent 8 i, .rc 0)⟩

/-- KEY_REMOVE (R469): sessions opened with the key close once the requests already taken have had their replies. -/
def Cmd.keyRemove : Cmd := ⟨0x704, .m, true, false, body 8 [(1, 7)], fun j m q =>
  let i := rd q.body 0 1
  if 63 < i then (j, .done (badArg 0) [])
  else if (Tbl.get none j.sec.keys i).isNone then (j, .rc 0)
  else
    let ends := fun (x : Mailbox) => match x.session with | some s => s.key == i | none => false
    let close := fun (n : Nat) (x : Mailbox) => if ends x then (if n = m then x.close else x.close.settleSession) else x
    let j := { j with mail := (List.zip (List.range j.mail.length) j.mail).map (fun (x : Nat × Mailbox) => close x.1 x.2), sec := { j.sec with keys := Tbl.put none j.sec.keys i none } }
    (j.secEvent 8 i, .rc 0)⟩

def Cmd.keyList : Cmd := ⟨0x705, .m, true, false, body 0 [], fun j _ _ =>
  let l := (List.range 64).filterMap (fun i => (Tbl.get none j.sec.keys i).map (fun (k : KeySlot) =>
    le 1 i ++ le 1 k.usage ++ le 1 k.ctx ++ le 1 (b2n k.pq + put 1 (b2n k.requirePq)) ++ zeros 4 ++ fit 48 (Config.sha384 k.pub)))
  (j, .done (rc 0) (le 2 l.length ++ zeros 6 ++ l.flatten))⟩

/-- MACSEC_SA (R468, R475, R481). -/
def Cmd.macsecSa : Cmd := ⟨0x706, .m, true, false, fun b => body 168 [(125, 3)] b && decide (rd b 3 1 < 2), fun j _ q =>
  let b := q.body
  let port := rd b 0 1
  let an := rd b 1 1
  let dir := rd b 2 1
  let act := bit (rd b 3 1) 0
  let same := fun (a : Sa) => a.port == port && a.an == an && a.dir == dir
  let key := if j.sec.zeroised then none else unwrapKey "DMSK" (le 1 port ++ le 1 an ++ le 1 dir ++ zeros 5) j.id (sub b 28 97) (sub b 128 40)
  if 1 < port then (j, .done (badArg 0) [])
  else if 3 < an then (j, .done (badArg 1) [])
  else if 1 < dir then (j, .done (badArg 2) [])
  else if dir = 1 && j.sec.sas.any (fun a => same a && a.active) then (j, .rc 0x19)
  else match key with
  | none => (j, .done (badArg 128) [])
  | some k =>
    let old := j.sec.sas.any same
    let pn := rd b 20 8
    let kept := (j.sec.sas.filter (fun a => !(same a))).map (fun (a : Sa) => if dir = 1 && act && a.port = port && a.dir = 1 then { a with active := false } else a)
    let sa : Sa := { port := port, an := an, dir := dir, active := act, ssci := rd b 4 4, salt := sub b 8 12, nextPn := pn, sak := k, lowPn := pn, stopped := decide (pnEnd ≤ pn) }
    let j := { j with sec := { j.sec with sas := kept ++ [sa] } }
    (if old then j.secEvent 10 port else j, .rc 0)⟩

/-- MODE_SET (R476). -/
def Cmd.modeSet : Cmd := ⟨0x707, .m, true, false, body 16 [(1, 7)], fun j _ q =>
  let o := rd q.body 0 1
  let m := rd q.body 8 8
  if 1 < o then (j, .done (badArg 0) [])
  else if (o = 1 && j.sec.lockPart) || (o = 0 && j.sec.lockOpen && !j.sec.lockPart) then (j, .rc 0x19)
  else if !(j.ahead m) then (j, .rc 0x1B)
  else ({ j with sec := { j.sec with modeAt := some (m, o == 1) } }, .rc 0)⟩

/-- FUSE_LOCK (R476, R481): a change toward the other mode that waits is cancelled. -/
def Cmd.fuseLock : Cmd := ⟨0x708, .m, true, false, body 8 [(1, 3)], fun j _ q =>
  let w := rd q.body 0 1
  if 1 < w then (j, .done (badArg 0) [])
  else if rd q.body 4 4 ≠ confirmWord then (j, .done (badArg 4) [])
  else
    let s := if w = 0 then { j.sec with lockPart := true } else { j.sec with lockOpen := true }
    let keep := fun (x : Nat × Bool) => if s.lockPart then !x.2 else x.2
    (({ j with sec := { s with modeAt := s.modeAt.filter keep } }).secEvent 9 (w + 1), .rc 0)⟩

/-- ROLLBACK_ADVANCE (R473, R481). -/
def Cmd.rollbackAdvance : Cmd := ⟨0x709, .m, true, false, body 8 [(1, 3)], fun j _ q =>
  let n := rd q.body 0 1
  let f := j.sec.fw
  let active := if f.rom then 0 else fwSvn (f.slot f.running)
  if rd q.body 4 4 ≠ confirmWord then (j, .done (badArg 4) [])
  else if n ≤ j.sec.floor then (j, .rc 0)
  else if active < n then (j, .done (badArg 0) [])
  else if f.fallback && fwSvn (f.slot f.staging) < n then (j, .rc 0x19)
  else (({ j with sec := { j.sec with floor := n } }).secEvent 9 n, .rc 0)⟩

def Cmd.secEventRead : Cmd := ⟨0x70A, .m, true, false, body 8 [(2, 6)], fun j _ q =>
  let n := rd q.body 0 2
  if n = 0 || 64 < n then (j, .done (badArg 0) [])
  else
    let l := j.sec.events.take n
    ({ j with sec := { j.sec with events := j.sec.events.drop n } },
      .done (rc 0) (le 2 l.length ++ zeros 2 ++ le 4 (sat 32 j.sec.evDropped) ++ (l.map (fun e => le 2 e.code ++ zeros 2 ++ le 4 e.detail ++ le 8 e.tick)).flatten))⟩

/-! ## Firmware (R463, R464, R487) -/

/-- FW_LOAD: chunks in OFFSET order into the staging slot (R463). -/
def Cmd.fwLoad : Cmd := ⟨0x801, .m, true, false, fun b => decide (9 ≤ b.length) && decide (b.length ≤ 8 + 65536), fun j _ q =>
  let off := rd q.body 0 4
  let tot := rd q.body 4 4
  let d := q.body.drop 8
  let f := j.sec.fw
  if f.st = .armed then (j, .rc 0x19)
  else if off ≠ 0 && (off ≠ f.got || f.st ≠ .loading) then (j, .done (badArg 0) [])
  else if 33554432 < tot || tot < off + d.length || (off ≠ 0 && tot ≠ f.total) then (j, .done (badArg 4) [])
  else
    let img := (if off = 0 then [] else f.slot f.staging) ++ d
    let got := off + d.length
    (j.setFw { f.setSlot f.staging img with got := got, total := tot, st := if got = tot then .verifying else .loading, result := 0, fallback := false }, .rc 0)⟩

def Cmd.fwStatus : Cmd := ⟨0x802, .mRead, true, true, body 0 [], fun j _ _ =>
  let f := j.sec.fw
  let staged := if f.st = .none_ then 0 else fwVersion (f.slot f.staging)
  (j, .done (rc 0) (le 4 f.version ++ le 4 staged ++ le 1 f.st.code ++ le 1 f.result ++ zeros 2 ++ le 8 (f.at_.getD 0) ++ le 1 f.last ++ zeros 7))⟩

/-- FW_ACTIVATE (R464). -/
def Cmd.fwActivate : Cmd := ⟨0x803, .m, true, false, body 8 [], fun j _ q =>
  let m := rd q.body 0 8
  let f := j.sec.fw
  if f.st ≠ .verified && f.st ≠ .armed then (j, .rc 0x40)
  else if !(j.ahead m) then (j, .rc 0x1B)
  else (j.setFw { f with st := .armed, at_ := some m }, .rc 0)⟩

end Sys2Proof.Machine
end

