-- ==== Sys2Proof/Machine/JnCsr.lean ====
section
/-! DEFINITION. The Junction's control and status registers and mailbox windows (R442, R443, R527 to R536). -/

namespace Sys2Proof.Machine

/-! ## Registers (R531) -/

/-- JN_BOOT_STATUS. -/
def Junction.bootStatus (j : Junction) : Nat :=
  let b := j.boot
  b.service + put 2 b.phase + put 5 (b2n j.sec.fw.rom) + put 6 j.sec.fw.running + put 7 (b2n b.fallback) + put 8 b.cause + put 16 b.kat.toNat + put 32 b.readyMs

/-- JN_RESET_CAUSE. -/
def Junction.resetCause (j : Junction) : Nat := j.boot.last + put 4 (b2n j.boot.thermtrip) + put 16 j.boot.warmCount

/-- JN_STRAPS. -/
def Junction.strapsReg (j : Junction) : Nat :=
  j.straps.toNat + put 3 (b2n j.confirmed) + put 4 j.role.level + put 6 (b2n j.role.twinB) + put 8 j.index + put 22 (b2n j.twin.duty) + put 23 (b2n j.twin.lost)

/-- JN_FUSE_STATUS. -/
def Junction.fuseStatus (j : Junction) : Nat :=
  j.sec.fuseState + put 10 (b2n j.sec.open_) + put 32 (popcount 68 Config.enginesFused.toNat) + put 40 Config.rowsFused.toNat

/-- JN_ENGINE_MAP_i: eight entries of physical engine and VALID (R491). -/
def Junction.engineMap (j : Junction) (i : Nat) : Nat :=
  (List.range 8).foldl (fun a k => match j.boot.engines[8 * i + k]? with | some e => a + put (8 * k) (e + 0x80) | none => a) 0

/-- JN_TIME_STATUS. -/
def Junction.timeStatus (j : Junction) : Nat :=
  let c := j.clk
  c.st.code + put 2 (j.sourceCode c.source) + put 5 (b2n j.followsTwin) + put 6 (b2n (c.rootHoldover || (j.timeRoot && c.st == .holdover)))
  + put 7 (b2n (j.synceRate.isSome)) + put 8 (if j.timeRoot then 0 else c.steps) + put 16 c.utcOffset.toNat + put 32 c.errorNow

/-- JN_TIME_SERVO: the offset of the last valid measurement in 2^-6 ns, saturating, and the rate in parts in 10^12. -/
def Junction.servoReg (j : Junction) : Nat :=
  let off : Int := match j.clk.lastMeas with | some (_, o) => (o / 1024).floor | none => 0
  unsigned 32 (clampI (-(2 ^ 31 : Nat)) (2 ^ 31 - 1) off) + put 32 (unsigned 32 (j.clk.rate * 1000000000000).floor)

/-- JN_ERR_CAPTURE. -/
def Junction.errCapture (j : Junction) : Nat :=
  b2n j.errs.valid + put 1 (b2n j.errs.overflow) + put 4 j.errs.cls + put 8 (j.errs.unit_ % 256)

/-- JN_LINK_STATUS[p]. -/
def Junction.linkStatus (j : Junction) (p : Nat) : Nat :=
  let x := j.port p
  if x.unused then put 3 (b2n x.rate400) + put 4 1
  else
    x.st.code + put 3 (b2n x.rate400) + put 5 (b2n x.cablingErr) + put 6 (b2n x.quarantine)
    + put 7 (b2n (j.sourcePort (j.sourceCode j.clk.source) == some p)) + put 8 (sat 8 (x.retire1s j.clk.up))
    + (match x.far with | some f => put 16 (f.id % 2 ^ 17) + put 33 (b2n f.lineside) + put 34 (f.port % 128) | none => 0)

/-- JN_LANE_STATUS[p] (R531). SNR reads its reset value 0 without block lock; what a receiver in lock measures is open (log 75). -/
def Junction.laneStatus (j : Junction) (p : Nat) : Nat :=
  let x := j.port p
  if x.unused then 0
  else b2n x.blockLock + put 1 (b2n x.paritySeen) + put 8 (if x.blockLock then (Config.laneSnr p j.clk.time).toNat else 0) + put 16 (sat 16 x.correctedTick) + put 32 (x.recal % 2 ^ 32)

/-- The 8 bytes at an aligned offset of a mailbox window (R442): REQ_BASE, RPL_BASE, CTRL with REQ_TAIL, REQ_HEAD with RPL_TAIL, RPL_HEAD. -/
def Mailbox.window (x : Mailbox) (off : Nat) : Nat :=
  match off with
  | 0x00 => x.reqBase.toNat
  | 0x08 => x.rplBase.toNat
  | 0x10 => b2n x.enable + put 1 x.slotsLog2 + put 4 (b2n x.err) + put 32 x.reqTail
  | 0x18 => x.reqHead + put 32 x.rplTail
  | 0x20 => x.rplHead
  | _ => 0

/-- The register at an 8-byte-aligned offset of BAR0; unassigned offsets read 0 (R527, R531). -/
def Junction.csr (j : Junction) (off : Nat) : Word :=
  if off = 0x0000 then w64 0x12E0B0
  else if off = 0x0008 then Config.serial
  else if off = 0x0010 then w64 j.bootStatus
  else if off = 0x0018 then w64 j.resetCause
  else if off = 0x0020 then w64 j.strapsReg
  else if off = 0x0028 then w64 j.fuseStatus
  else if inRange off 0x30 0x40 then w64 (j.engineMap ((off - 0x30) / 8))
  else if off = 0x0070 then w64 (j.boot.engines.length + put 8 j.boot.spares.length + put 16 j.boot.failed)
  else if off = 0x0078 then w64 j.boot.retired.toNat
  else if off = 0x0080 then w64 (sat 16 j.boot.sramRepaired + put 16 (sat 16 j.boot.sramSpare) + put 32 (sat 16 j.boot.sramBad))
  else if off = 0x0100 then w64 (packTime (capture j.clk.time))
  else if off = 0x0108 then w64 (packTime (capture j.clk.time) >>> 64)
  else if off = 0x0110 then j.clk.tickWord
  else if off = 0x0118 then w64 j.timeStatus
  else if off = 0x0120 then w64 j.servoReg
  else if off = 0x0200 then w64 j.errCapture
  else if off = 0x0208 then w64 j.errs.addr
  else if off = 0x0210 then j.errs.tick
  else if off = 0x0218 then w64 j.errs.corrected
  else if inRange off 0x228 0x78 then w64 (Tbl.get 0 j.errs.counts ((off - 0x220) / 8))
  else if inRange off 0x1000 1088 then
    (if off % 16 < 8 then w64 (j.linkStatus ((off - 0x1000) / 16)) else w64 (j.laneStatus ((off - 0x1000) / 16)))
  else if inRange off 0x4000 17408 then
    (if (off - 0x4000) % 256 / 8 ≤ 30 && !(j.port ((off - 0x4000) / 256)).unused then (j.port ((off - 0x4000) / 256)).stat ((off - 0x4000) % 256 / 8) else 0)
  else if inRange off 0x1000000 0x200 then w64 ((j.mbox ((off - 0x1000000) / 0x40)).window (off % 0x40))
  else 0

/-! ## Access (R527 to R529, R532) -/

/-- Who reaches the registers (R529): PCIe, or the TAP at an unlock level that allows it. Held in cold reset nothing does. -/
def Junction.reaches (j : Junction) (tap write : Bool) : Bool :=
  !j.boot.porst && (!tap || decide ((if write then 2 else 1) ≤ j.sec.tap.level))

/-- A read of `size` bytes at an offset (R527, R528): a read of a low half latches the high half, the next read of that high half
returns it; sizes and alignments other than natural 4 and 8 complete as Unsupported Request. -/
def Junction.csrRead (j : Junction) (tap : Bool) (off size : Nat) : Junction :=
  if !(j.reaches tap false) then { j with readData := none }
  else if size = 8 && off % 8 = 0 then { j with readData := some (j.csr off) }
  else if size = 4 && off % 8 = 0 then
    let v := (j.csr off).toNat
    { j with readData := some (w64 (v % 2 ^ 32)), latch := if off < 0x1000000 || off % 0x40 < 0x10 then Tbl.put 0 j.latch off (v / 2 ^ 32 + 1) else j.latch }
  else if size = 4 && off % 8 = 4 then
    match Tbl.get 0 j.latch (off - 4) with
    | k + 1 => { j with readData := some (w64 k), latch := Tbl.put 0 j.latch (off - 4) 0 }
    | 0 => { j with readData := some (w64 ((j.csr (off - 4)).toNat / 2 ^ 32)) }
  else { j with readData := none }

/-- Errors that occur in one JCLK: the lowest CLASS, and in it the lowest UNIT, comes first (R536). -/
def firstError (l : List (Nat × Nat × Nat)) : Option (Nat × Nat × Nat) :=
  l.foldl (fun (b : Option (Nat × Nat × Nat)) x =>
    match b with | none => some x | some y => if x.1 < y.1 || (x.1 == y.1 && decide (x.2.1 < y.2.1)) then some x else some y) none

/-- A write of 1 to VALID, with the errors that occur in the same JCLK (R536). -/
def ErrCap.clear (e : ErrCap) (same : List (Nat × Nat × Nat)) (tick : Word) : ErrCap :=
  let e := { e with counts := same.foldl (fun (t : Tbl Nat) (x : Nat × Nat × Nat) => Tbl.put 0 t x.1 ((Tbl.get 0 t x.1 + 1) % 2 ^ 64)) e.counts }
  match firstError same with
  | some (c, u, a) => { e with valid := true, overflow := false, cls := c, unit_ := u, addr := a, tick := tick }
  | none => { e with valid := false, overflow := false }

/-- A write of 4 bytes at an offset of the control and status registers (R528, R531): the W1C bits alone. -/
def Junction.csrWrite4 (j : Junction) (off v : Nat) : Junction :=
  if off = 0x200 then (if bit v 0 then { j with errs := j.errs.clear [] j.clk.tickWord } else j)
  else if inRange off 0x1000 1088 && off % 16 == 0 then
    (if bit v 5 then j.onPort ((off - 0x1000) / 16) (fun x => { x with cablingErr := false }) else j)
  else if inRange off 0x1000 1088 && off % 16 == 8 then
    (if bit v 1 then j.onPort ((off - 0x1000) / 16) (fun x => { x with paritySeen := false }) else j)
  else j

/-- A write of 4 bytes of a mailbox window (R442, R443); of a base, the half that is written. -/
def Mailbox.windowWrite4 (x : Mailbox) (off v : Nat) : Mailbox :=
  match off with
  | 0x00 => x.writeBase false (setFld x.reqBase.toNat 0 32 v)
  | 0x04 => x.writeBase false (setFld x.reqBase.toNat 32 32 v)
  | 0x08 => x.writeBase true (setFld x.rplBase.toNat 0 32 v)
  | 0x0C => x.writeBase true (setFld x.rplBase.toNat 32 32 v)
  | 0x10 => x.writeCtrl v
  | 0x14 => x.writeReqTail v
  | 0x20 => x.writeRplHead v
  | _ => x

/-- Four bytes written anywhere in BAR0. -/
def Junction.barWrite4 (j : Junction) (off v : Nat) : Junction :=
  if inRange off 0x1000000 0x200 then
    let m := (off - 0x1000000) / 0x40
    j.setMbox m ((j.mbox m).windowWrite4 (off % 0x40) v)
  else j.csrWrite4 off v

/-- A write of `size` bytes at an offset (R527, R528); an access of another form changes nothing. -/
def Junction.barWrite (j : Junction) (tap : Bool) (off size v : Nat) : Junction :=
  if !(j.reaches tap true) then j
  else if size = 4 && off % 4 = 0 then j.barWrite4 off (v % 2 ^ 32)
  else if size = 8 && off % 8 = 0 then (j.barWrite4 off (v % 2 ^ 32)).barWrite4 (off + 4) (v / 2 ^ 32 % 2 ^ 32)
  else j

/-- JN_ERR_CAPTURE written with VALID = 1 while errors occur (R536). -/
def Junction.captureClear (j : Junction) (same : List (Nat × Nat × Nat)) : Junction :=
  { j with errs := j.errs.clear same j.clk.tickWord }

end Sys2Proof.Machine
end

