-- ==== Sys2Proof/Machine/State.lean ====
section
/-! DEFINITION. The state of the block: one Junction, one Lineside, the commands that wait, and the state after reset (R33, R88, R484, R523, R531). -/

namespace Sys2Proof.Machine

/-- Reasons to stop with a fault. -/
inductive Fault where
  /-- Raised by a write that takes the reserved SLOTS_LOG2 = 7 into JN_MBOX_CTRL (R442). Safe: the spec gives the value no meaning. -/
  | reservedSlots
deriving DecidableEq, Repr

/-- Reasons to refuse a command. -/
inductive Refusal where
  /-- Raised by the dispatch for a command that has no meaning; no arm does. Safe. -/
  | notModelled (mnemonic : String)
deriving DecidableEq, Repr

/-- The state. `free` counts the free values taken (log 2) and `jclk` the JCLK edges that passed while nothing waited (log 1);
both are the model's own. -/
structure State where
  jn : Junction
  ls : Ls
  pending : List Instr
  free : Nat
  jclk : Nat
deriving DecidableEq, Repr

/-- The state after reset: both parts with PORST_N low, no command waiting (R88, R484, R486). -/
def State.reset : State := { jn := Junction.init, ls := Ls.init, pending := [], free := 0, jclk := 0 }

end Sys2Proof.Machine
end

