-- ==== Sys2Proof/Machine/Ops.lean ====
section
/-! DEFINITION. The named operations that the commands are written in: which part a command reaches, free values, register access (R87, R201, R209, R220, R227, R484, R516 to R519, R527, R529). -/

namespace Sys2Proof.Machine

/-- What a command answers. -/
abbrev Res := Host.Outcome State Fault Refusal

/-! ## Reaching a part -/

/-- The Junction in any condition, cold reset included. -/
def atJn (f : Junction → Junction) (s : State) : Res := .next { s with jn := f s.jn }

/-- The Junction, which does nothing while it is held in cold reset (R484). -/
def onJn (f : Junction → Junction) (s : State) : Res := .next { s with jn := if s.jn.boot.porst then s.jn else f s.jn }

/-- The Junction's scoring: what may make walks ready or free a thread serves the walks after it (R282, R290). -/
def onScore (f : Junction → Junction) (s : State) : Res := onJn (fun j => (f j).serve) s

/-- The Lineside in any condition. -/
def onLs (f : Ls → Ls) (s : State) : Res := .next { s with ls := f s.ls }

/-- The Lineside's main island, which does nothing out of service (R89, R496). -/
def onMain (f : Ls → Ls) (s : State) : Res := .next { s with ls := if s.ls.inService then f s.ls else s.ls }

/-- A link end: the Lineside's link, or the Junction's port with what its leaving service settles (R222, R452). -/
def onEnd (e : End) (f : Bool → Ls → Ls) (g : Nat → Junction → Junction) (s : State) : Res :=
  match e with
  | .ls l => onMain (f l) s
  | .jn p => onJn (fun j => (g p j).settleLinks) s

/-- One part or the other. -/
def onPart (p : Part) (f : Ls → Ls) (g : Junction → Junction) (s : State) : Res :=
  match p with
  | .ls => onLs f s
  | .jn => onJn g s

/-- An event of the link layer alone, with the time run at which it falls. -/
def onPort (e : End) (f : Nat → Port → Port) (s : State) : Res :=
  onEnd e (fun l x => x.linkMoved l (f x.clk.up (x.port l))) (fun p j => j.portMoved p (f j.clk.up (j.port p))) s

/-- An event that brings an end into TRAIN, where the end may train (R16, R22, R220, R497). -/
def mayTrain (e : End) (f : Port → Port) (s : State) : Res :=
  onEnd e (fun l x => if x.linkMayTrain l then x.linkMoved l (f (x.port l)) else x)
    (fun p j => if j.mayTrain p then j.portMoved p (f (j.port p)) else j) s

/-! ## Free values (log 2) -/

/-- Take one free choice. -/
def takeBool (f : Bool → State → Res) (s : State) : Res := f (Config.freeBool s.free) { s with free := s.free + 1 }

/-- Take one free value. -/
def takeWord (f : Word → State → Res) (s : State) : Res := f (Config.freeValue s.free) { s with free := s.free + 1 }

/-- Take up to n free values. -/
def takeWords (n : Nat) (f : (Nat → Nat) → State → Res) (s : State) : Res :=
  f (fun i => (Config.freeValue (s.free + i)).toNat) { s with free := s.free + n }

/-! ## The end of a link -/

/-- A training frame at a link of the Lineside, the follower (R220, R226). -/
def Ls.trainFrame (s : Ls) (l : Bool) (samePhase : Bool) (h : Nat) : Ls := s.linkMoved l ((s.port l).trainFrame false samePhase h s.clk.up)

/-- A training frame at a port of the Junction (R226). -/
def Junction.trainFrame (j : Junction) (p : Nat) (samePhase : Bool) (h : Nat) : Junction :=
  j.portMoved p ((j.port p).trainFrame (j.leads p) samePhase h j.clk.up)

/-- A flit received in IDENT, with only its CRC checked (R227): the message of a data flit of VC3. -/
def identMessage (raw : Bytes) : Option Bytes :=
  let f := Flit.decode raw
  if flitCrcOk raw && f.kind == 0 && f.vc == 3 && f.start && f.fin then some (f.payload.take f.lastLen.toNat) else none

/-- The far end's IDENT at the Lineside (R227). -/
def Ls.identFlit (s : Ls) (l : Bool) (raw : Bytes) : Ls :=
  match identMessage raw with
  | some b => s.linkMoved l ((s.port l).identReceived true false true b)
  | none => s

/-- The far end's IDENT at the Junction (R26, R227, R498). -/
def Junction.identFlit (j : Junction) (p : Nat) (raw : Bytes) : Junction :=
  match identMessage raw with
  | some b => j.identReceived p b
  | none => j

/-- The oldest signal of a code that link l has received is acted on (R207, R209). -/
def Ls.takeSignal (s : Ls) (l : Bool) (code : Nat) (act : Ls → Nat → Ls) : Ls :=
  match (s.port l).takeSigIn code with
  | (some a, p) => act (s.setPort l p) a
  | (none, _) => s

/-- The oldest signal of a code that a port has received is acted on (R207, R209). -/
def Junction.takeSignal (j : Junction) (p code : Nat) (act : Junction → Nat → Junction) : Junction :=
  match (j.port p).takeSigIn code with
  | (some a, x) => act (j.setPort p x) a
  | (none, _) => j

/-! ## Instants -/

/-- The instant of a PENDING slot at the Lineside (R402). -/
def Ls.abortInstant (s : Ls) (g : Nat) : Ls :=
  if (s.slot g).st = 2 then (s.reach (s.slot g).instant).pulse g false else s

/-- The tick of an armed standalone frame-map switch (R118). -/
def Ls.frameMapSwitch (s : Ls) : Ls := if s.clk.tick.isSome then s.frameSwitchDue s.tickW false else s

/-- A pending configuration of a Junction engine comes into force once it is free (R420, R422). -/
def Junction.crcEnableApply (j : Junction) (i : Nat) : Junction :=
  let e := j.engine i
  if e.pending && !(j.crcBusy i) then j.setEngine i e.atStart else j

/-- The scrub of a Lineside SRAM array found a line: fate 1 corrected, 2 uncorrected, with Logbook code 0x15 (R156, R501). -/
def Ls.scrub (s : Ls) (array row fate : Nat) : Ls :=
  if s.inService && fate != 0 then s.logE 0x15 [w64 (b2n (decide (1 < fate)) + put 4 (array % 16) + put 8 (row % 2 ^ 24))] else s

/-! ## Ethernet (R424, R425) -/

/-- An Ethernet port goes down or comes up (R425). -/
def Junction.ethLink (j : Junction) (p : Nat) (up : Bool) : Junction :=
  if p < 2 then { j with exp := j.exp.setEth p { j.exp.eth p with up := up } } else j

/-- A received control frame is discarded and counted (R424). -/
def Junction.ethControl (j : Junction) (p : Nat) : Junction :=
  if p < 2 then { j with exp := j.exp.setEth p { j.exp.eth p with control := (j.exp.eth p).control + 1 } } else j

/-! ## Registers -/

/-- One operation on a Lineside register (R519, R521): 1 read, 2 write, 3 masked write. Over VC3 it needs its link in service and a
reply follows on that link. -/
def Ls.access (s : Ls) (via : LsVia) (op a v mask : Nat) : Ls :=
  match via with
  | .vc3 l txn => if (s.port l).up then s.cfgRun l (cfgRequest txn [⟨op, a, v, mask⟩]) [⟨op, a, v, mask⟩] else s
  | .debug => s.debugUpdate a op (w64 v)

/-- A Lineside register is read or written whole. -/
def onReg (via : LsVia) (op a : Nat) (v : Word) (s : State) : Res := onMain (·.access via op a v.toNat (2 ^ 64 - 1)) s

/-- The Junction's BAR0, where PCIe or the TAP may write (R529). -/
def onBar (tap : Bool) (f : Junction → Junction) (s : State) : Res := atJn (fun j => if j.reaches tap true then f j else j) s

/-- The window of PCIe mailbox m (R442). -/
def Junction.onMbox (j : Junction) (m : Nat) (f : Mailbox → Mailbox) : Junction := if m < 8 then j.setMbox m (f (j.mbox m)) else j

/-- A write of v to JN_MBOX_CTRL[m] takes the reserved SLOTS_LOG2 (R442). -/
def Junction.reservedSlots (j : Junction) (tap : Bool) (m v : Nat) : Bool :=
  let x := j.mbox m
  j.reaches tap true && decide (m < 8) && fld v 1 3 == 7 && (if x.err then bit v 4 else !x.enable)

/-- A write of a window register that restarts or breaks the ring (R443). -/
def writeMbox (tap : Bool) (m : Nat) (reg : MboxReg) (v : Nat) (s : State) : Res :=
  match reg with
  | .ctrl => if s.jn.reservedSlots tap m v then .fault .reservedSlots else onBar tap (fun j => j.onMbox m (·.writeCtrl v)) s
  | .reqBase => onBar tap (fun j => j.onMbox m (·.writeBase false v)) s
  | .rplBase => onBar tap (fun j => j.onMbox m (·.writeBase true v)) s

/-- A write of BAR0 that takes the reserved SLOTS_LOG2. -/
def Junction.barReserved (j : Junction) (tap : Bool) (off size v : Nat) : Bool :=
  inRange off 0x1000000 0x200 && off % 0x40 == 0x10 && (size == 4 || size == 8) && j.reservedSlots tap ((off - 0x1000000) / 0x40) v

/-- A write of any register by any path (R516 to R521, R527, R528): masked at the Lineside, 4 or 8 bytes at the Junction. -/
def writeRegister (via : RegVia) (addr size : Nat) (value mask : Word) (s : State) : Res :=
  match via with
  | .ls w => onMain (·.access w (if w = LsVia.debug then 2 else 3) addr value.toNat mask.toNat) s
  | .bar tap =>
    if s.jn.barReserved tap addr size value.toNat then .fault .reservedSlots
    else atJn (·.barWrite tap addr size value.toNat) s

/-! ## Time on an empty queue (log 1) -/

/-- One JCLK of 0.625 ns: both clocks advance, and the export policers refill (R435). -/
def State.idle (s : State) : State :=
  { s with
    jclk := s.jclk + 1
    ls := s.ls.idle
    jn := if s.jn.boot.porst then s.jn else { s.jn with clk := s.jn.clk.advance, exp := s.jn.exp.tick } }

end Sys2Proof.Machine
end

