-- ==== Sys2Proof/Machine/ExCmd.lean ====
section
/-! DEFINITION. Mailbox commands: the oldest request of a mailbox that has the opcode executes (R442 to R482). -/

namespace Sys2Proof.Machine

/-- SESSION_OPEN (R474). -/
def execSessionOpen (m : Nat) (s : State) : Res := onJn (·.command Cmd.sessionOpen m) s

/-- SESSION_CLOSE (R455). -/
def execSessionClose (m : Nat) (s : State) : Res := onJn (·.command Cmd.sessionClose m) s

/-- HEARTBEAT (R456). -/
def execHeartbeat (m : Nat) (s : State) : Res := onJn (·.command Cmd.heartbeat m) s

/-- NOTICE_READ (R457). -/
def execNoticeRead (m : Nat) (s : State) : Res := onJn (·.command Cmd.noticeRead m) s

/-- ALARM_READ (R454). -/
def execAlarmRead (m : Nat) (s : State) : Res := onJn (·.command Cmd.alarmRead m) s

/-- COUNTER_READ (R462). -/
def execCounterRead (m : Nat) (s : State) : Res := onJn (·.command Cmd.counterRead m) s

/-- RESET (R484). -/
def execReset (m : Nat) (s : State) : Res := onJn (·.command Cmd.reset m) s

/-- PORT_MAP (R18). -/
def execPortMap (m : Nat) (s : State) : Res := onJn (·.command Cmd.portMap m) s

/-- TT_LOAD (R56). -/
def execTtLoad (m : Nat) (s : State) : Res := onJn (·.command Cmd.ttLoad m) s

/-- TT_ARM (R59). -/
def execTtArm (m : Nat) (s : State) : Res := onJn (·.command Cmd.ttArm m) s

/-- TT_CANCEL (R59). -/
def execTtCancel (m : Nat) (s : State) : Res := onJn (·.command Cmd.ttCancel m) s

/-- TT_STATUS (R57). -/
def execTtStatus (m : Nat) (s : State) : Res := onJn (·.command Cmd.ttStatus m) s

/-- PLAN_LOAD (R232). -/
def execPlanLoad (m : Nat) (s : State) : Res := onJn (·.command Cmd.planLoad m) s

/-- LINK_CONTROL (R220). -/
def execLinkControl (m : Nat) (s : State) : Res := onJn (·.command Cmd.linkControl m) s

/-- CONTEXT_CONFIG (R336). -/
def execContextConfig (m : Nat) (s : State) : Res := onJn (·.command Cmd.contextConfig m) s

/-- CONTEXT_STATUS (R337). -/
def execContextStatus (m : Nat) (s : State) : Res := onJn (·.command Cmd.contextStatus m) s

/-- BUNDLE_TRANSFER (R344). -/
def execBundleTransfer (m : Nat) (s : State) : Res := onJn (·.command Cmd.bundleTransfer m) s

/-- BUNDLE_STATUS (R462). -/
def execBundleStatus (m : Nat) (s : State) : Res := onJn (·.command Cmd.bundleStatus m) s

/-- WAYBILL_WRITE (R293). -/
def execWaybillWrite (m : Nat) (s : State) : Res := onJn (·.command Cmd.waybillWrite m) s

/-- REF_TABLE_LOAD (R374). -/
def execRefTableLoad (m : Nat) (s : State) : Res := onJn (·.command Cmd.refTableLoad m) s

/-- HISTORY_READ (R351). -/
def execHistoryRead (m : Nat) (s : State) : Res := onJn (·.command Cmd.historyRead m) s

/-- LOG_CONFIG (R152). -/
def execLogConfig (m : Nat) (s : State) : Res := onJn (·.command Cmd.logConfig m) s

/-- LOG_READ (R159). -/
def execLogRead (m : Nat) (s : State) : Res := onJn (·.command Cmd.logRead m) s

/-- LOG_RELEASE (R159). -/
def execLogRelease (m : Nat) (s : State) : Res := onJn (·.command Cmd.logRelease m) s

/-- TEST_PACK_READ (R382). -/
def execTestPackRead (m : Nat) (s : State) : Res := onJn (·.command Cmd.testPackRead m) s

/-- TEST_RESULT (R384). -/
def execTestResult (m : Nat) (s : State) : Res := onJn (·.command Cmd.testResult m) s

/-- DIE_CONFIG (R386). -/
def execDieConfig (m : Nat) (s : State) : Res := onJn (·.command Cmd.dieConfig m) s

/-- DIE_READMIT (R393). -/
def execDieReadmit (m : Nat) (s : State) : Res := onJn (·.command Cmd.dieReadmit m) s

/-- MEMBERSHIP_LOAD (R396). -/
def execMembershipLoad (m : Nat) (s : State) : Res := onJn (·.command Cmd.membershipLoad m) s

/-- GROUP_REARM (R404). -/
def execGroupRearm (m : Nat) (s : State) : Res := onJn (·.command Cmd.groupRearm m) s

/-- MEMBERSHIP_STATUS (R462). -/
def execMembershipStatus (m : Nat) (s : State) : Res := onJn (·.command Cmd.membershipStatus m) s

/-- TRACE_SIGNAL (R207). -/
def execTraceSignal (m : Nat) (s : State) : Res := onJn (·.command Cmd.traceSignal m) s

/-- TIME_CONFIG (R167). -/
def execTimeConfig (m : Nat) (s : State) : Res := onJn (·.command Cmd.timeConfig m) s

/-- TIMESTAMP_READ (R192). -/
def execTimestampRead (m : Nat) (s : State) : Res := onJn (·.command Cmd.timestampRead m) s

/-- TIMING_IO_CONFIG (R193). -/
def execTimingIoConfig (m : Nat) (s : State) : Res := onJn (·.command Cmd.timingIoConfig m) s

/-- FLEET_STOP (R142). -/
def execFleetStop (m : Nat) (s : State) : Res := onJn (·.command Cmd.fleetStop m) s

/-- LS_READ (R462). -/
def execLsRead (m : Nat) (s : State) : Res := onJn (·.command Cmd.lsRead m) s

/-- LS_WRITE (R462). -/
def execLsWrite (m : Nat) (s : State) : Res := onJn (·.command Cmd.lsWrite m) s

/-- EXPORT_CONFIG (R437). -/
def execExportConfig (m : Nat) (s : State) : Res := onJn (·.command Cmd.exportConfig m) s

/-- BUFFER_WRITE (R460). -/
def execBufferWrite (m : Nat) (s : State) : Res := onJn (·.command Cmd.bufferWrite m) s

/-- BUFFER_READ (R460). -/
def execBufferRead (m : Nat) (s : State) : Res := onJn (·.command Cmd.bufferRead m) s

/-- BALLAST (R406). -/
def execBallast (m : Nat) (s : State) : Res := onJn (·.command Cmd.ballast m) s

/-- CRC_ENGINE (R422). -/
def execCrcEngine (m : Nat) (s : State) : Res := onJn (·.command Cmd.crcEngine m) s

/-- CRC_DATA (R422). -/
def execCrcData (m : Nat) (s : State) : Res := onJn (·.command Cmd.crcData m) s

/-- CRC_VALUE_READ (R421). -/
def execCrcValueRead (m : Nat) (s : State) : Res := onJn (·.command Cmd.crcValueRead m) s

/-- CRC_VALUE_WRITE (R421). -/
def execCrcValueWrite (m : Nat) (s : State) : Res := onJn (·.command Cmd.crcValueWrite m) s

/-- FW_LOAD (R463). -/
def execFwLoad (m : Nat) (s : State) : Res := onJn (·.command Cmd.fwLoad m) s

/-- FW_STATUS (R462). -/
def execFwStatus (m : Nat) (s : State) : Res := onJn (·.command Cmd.fwStatus m) s

/-- FW_ACTIVATE (R464). -/
def execFwActivate (m : Nat) (s : State) : Res := onJn (·.command Cmd.fwActivate m) s

/-- DEVICE_ID (R482). -/
def execDeviceId (m : Nat) (s : State) : Res := onJn (·.command Cmd.deviceId m) s

/-- OWNER_PROVISION (R482). -/
def execOwnerProvision (m : Nat) (s : State) : Res := onJn (·.command Cmd.ownerProvision m) s

/-- KEY_INSTALL (R469). -/
def execKeyInstall (m : Nat) (s : State) : Res := onJn (·.command Cmd.keyInstall m) s

/-- KEY_REMOVE (R469). -/
def execKeyRemove (m : Nat) (s : State) : Res := onJn (·.command Cmd.keyRemove m) s

/-- KEY_LIST (R482). -/
def execKeyList (m : Nat) (s : State) : Res := onJn (·.command Cmd.keyList m) s

/-- MACSEC_SA (R475). -/
def execMacsecSa (m : Nat) (s : State) : Res := onJn (·.command Cmd.macsecSa m) s

/-- MODE_SET (R476). -/
def execModeSet (m : Nat) (s : State) : Res := onJn (·.command Cmd.modeSet m) s

/-- FUSE_LOCK (R476). -/
def execFuseLock (m : Nat) (s : State) : Res := onJn (·.command Cmd.fuseLock m) s

/-- ROLLBACK_ADVANCE (R473). -/
def execRollbackAdvance (m : Nat) (s : State) : Res := onJn (·.command Cmd.rollbackAdvance m) s

/-- SEC_EVENT_READ (R481). -/
def execSecEventRead (m : Nat) (s : State) : Res := onJn (·.command Cmd.secEventRead m) s

end Sys2Proof.Machine
end

