-- ==== Sys2Proof/Machine/ExCsr.lean ====
section
/-! DEFINITION. Registers of the Junction over PCIe and the TAP, and plain register writes (R442, R443, R518, R527 to R536). -/

namespace Sys2Proof.Machine

/-- MAILBOX_REQ_TAIL_WRITE (R443). -/
def execMailboxReqTailWrite (tap : Bool) (m : Nat) (v : Nat) (s : State) : Res := onBar tap (fun j => j.onMbox m (·.writeReqTail v)) s

/-- MAILBOX_RPL_HEAD_WRITE (R443). -/
def execMailboxRplHeadWrite (tap : Bool) (m : Nat) (v : Nat) (s : State) : Res := onBar tap (fun j => j.onMbox m (·.writeRplHead v)) s

/-- MAILBOX_CTRL_WRITE (R443). -/
def execMailboxCtrlWrite (tap : Bool) (m : Nat) (reg : MboxReg) (v : Nat) (s : State) : Res := writeMbox tap m reg v s

/-- JN_REG_LOW_HALF_READ (R528). -/
def execJnRegLowHalfRead (tap : Bool) (off size : Nat) (s : State) : Res := atJn (·.csrRead tap off size) s

/-- JN_ERR_CAPTURE_CLEAR (R536). -/
def execJnErrCaptureClear (tap : Bool) (errors : List (Nat × Nat × Nat)) (s : State) : Res := onBar tap (·.captureClear errors) s

/-- REGISTER_WRITE (R518). -/
def execRegisterWrite (via : RegVia) (addr size : Nat) (value mask : Word) (s : State) : Res := writeRegister via addr size value mask s

end Sys2Proof.Machine
end

