-- ==== Sys2Proof/Machine/ExData.lean ====
section
/-! DEFINITION. Frames, partials, statistics, scoring, forecasting, checks and storage (R121, R122, R250 to R263, R275 to R312, R324 to R330, R351 to R356, R494, R502). -/

namespace Sys2Proof.Machine

/-- FRAME_RECEIVED (R121). -/
def execFrameReceived (port : Nat) (s : State) : Res := onJn (·.frameReceived port) s

/-- PRESENCE_WORD_RECEIVED (R122). -/
def execPresenceWordReceived (port : Nat) (s : State) : Res := onJn (·.presenceReceived port) s

/-- PARTIAL_RECEIVED (R250). -/
def execPartialReceived (port : Nat) (s : State) : Res := onJn (·.partialReceived port) s

/-- MERGE_BATCH_COMPLETE (R252). -/
def execMergeBatchComplete (s : State) : Res := onJn (·.mergeBatch) s

/-- TWIN_DIGEST_RECEIVED (R257). -/
def execTwinDigestReceived (port : Nat) (s : State) : Res := onJn (·.twinDigestReceived port) s

/-- STATS_FLIT_RECEIVED (R262). -/
def execStatsFlitReceived (port index : Nat) (s : State) : Res := onJn (·.statsFlit port index) s

/-- STATS_STREAM_RECEIVED (R263). -/
def execStatsStreamReceived (port : Nat) (s : State) : Res := onJn (·.statsStream port) s

/-- DETECTOR_BATCH_READY (R275). -/
def execDetectorBatchReady (tick ctx : Nat) (s : State) : Res := onScore (·.detBatch tick ctx) s

/-- FEATURE_DEADLINE (R290). -/
def execFeatureDeadline (tick ctx ens : Nat) (s : State) : Res := onScore (·.featureDeadline tick ctx ens) s

/-- WAYBILL_LOOKUP_COMPLETE (R294). -/
def execWaybillLookupComplete (tick ctx entity : Nat) (error : Bool) (s : State) : Res := onScore (·.lookupDone tick ctx entity error) s

/-- TREE_WALK_COMPLETE (R295). -/
def execTreeWalkComplete (tick ctx ens entity tree : Nat) (fault : Option (Nat × Nat)) (s : State) : Res := onScore (·.treeWalk tick ctx ens entity tree fault) s

/-- SIDING_PAGE_FETCH_COMPLETE (R303). -/
def execSidingPageFetchComplete (tick ctx : Nat) (ok : Bool) (s : State) : Res := onScore (·.pageFetched tick ctx ok) s

/-- RESIDUAL_PASS_COMPLETE (R312). -/
def execResidualPassComplete (s : State) : Res := onScore (·.residualPass) s

/-- FORECASTER_UPDATE_START (R329). -/
def execForecasterUpdateStart (s : State) : Res := onJn (·.updateStart) s

/-- SEQUENCE_INSTRUCTION (R324). -/
def execSequenceInstruction (fault : Bool) (s : State) : Res := takeWords 1048576 (fun fv => onJn (·.seqStep fv fault)) s

/-- GROUP_COMMIT (R330). -/
def execGroupCommit (s : State) : Res := onJn (·.groupCommit) s

/-- RUNTIME_SELF_CHECK (R502). -/
def execRuntimeSelfCheck (row unit : Nat) (ok : Bool) (s : State) : Res := onJn (·.selfCheck row unit ok) s

/-- RELAY_ONLY_ENTRY (R494). -/
def execRelayOnlyEntry (s : State) : Res := onJn (·.relayOnly) s

/-- SCRUB_ACCESS (R352). -/
def execScrubAccess (part : Part) (memory addr fate : Nat) (owner : LineOwner) (s : State) : Res := onPart part (·.scrub memory addr fate) (·.scrub memory addr fate owner) s

/-- STATIC_WEAR_MOVE (R356). -/
def execStaticWearMove (failed : Bool) (s : State) : Res := onJn (·.wearMove failed) s

/-- HISTORY_FAR_COPY (R351). -/
def execHistoryFarCopy (ctx : Nat) (s : State) : Res := onJn (·.farCopy ctx) s

/-- NEAR_TIER_STACK_ERROR (R494). -/
def execNearTierStackError (s : State) : Res := onJn (·.stackError) s

end Sys2Proof.Machine
end

