-- ==== Sys2Proof/Machine/ExLink.lean ====
section
/-! DEFINITION. Drelet links: slots, blocks, flits, training, quarantine (R47 to R67, R196 to R227, R446). -/

namespace Sys2Proof.Machine

/-- FLIT_SLOT_TRANSMIT (R48). -/
def execFlitSlotTransmit (e : End) (s : State) : Res := onEnd e (fun l x => x.txSlot l) (fun p j => j.txSlot p) s

/-- BLOCK_DECODED (R201). -/
def execBlockDecoded (e : End) (idx n : Nat) (rx : List Nat) (s : State) : Res := onPort e (fun now x => x.blockDecoded idx (decodeBlock n rx).1 now) s

/-- FLIT_RECEIVED (R216). -/
def execFlitReceived (e : End) (slot grid : Nat) (raw : Bytes) (s : State) : Res := onEnd e (fun l x => x.rxFlit l slot grid raw) (fun p j => j.rxFlit p slot grid raw) s

/-- TIMETABLE_QUARANTINE (R66). -/
def execTimetableQuarantine (port : Nat) (s : State) : Res := onJn (·.quarantine port) s

/-- QUARANTINE_END (R66). -/
def execQuarantineEnd (port : Nat) (s : State) : Res := onJn (·.quarantineEnd port) s

/-- REPLAY_TIMEOUT (R218). -/
def execReplayTimeout (e : End) (s : State) : Res := onPort e (fun _ x => x.replayTimeout) s

/-- RETIRE_TIMEOUT (R223). -/
def execRetireTimeout (e : End) (s : State) : Res := onPort e (fun _ x => x.retireTimeout) s

/-- LINK_TRAIN_START (R220). -/
def execLinkTrainStart (e : End) (s : State) : Res := mayTrain e (·.startTrain) s

/-- TRAINING_FRAME_RECEIVED (R226). -/
def execTrainingFrameReceived (e : End) (samePhase : Bool) (header : Word) (s : State) : Res := onEnd e (fun l x => x.trainFrame l samePhase header.toNat) (fun p j => j.trainFrame p samePhase header.toNat) s

/-- TRAIN_TIMEOUT (R220). -/
def execTrainTimeout (e : End) (s : State) : Res := onPort e (fun _ x => x.trainTimeout) s

/-- TRAIN_RETRY (R220). -/
def execTrainRetry (e : End) (s : State) : Res := mayTrain e (·.trainRetry) s

/-- IDENT_RECEIVED (R227). -/
def execIdentReceived (e : End) (raw : Bytes) (s : State) : Res := onEnd e (fun l x => x.identFlit l raw) (fun p j => j.identFlit p raw) s

/-- LINK_ACTIVE_ENTRY (R220). -/
def execLinkActiveEntry (e : End) (s : State) : Res := onEnd e (fun l x => x.linkActive l) (fun p j => j.linkActive p) s

/-- SUBTREE_ADVERTISEMENT (R446). -/
def execSubtreeAdvertisement (port : Nat) (s : State) : Res := onJn (·.subtreeAdvert port) s

/-- MARKER_MISSING (R221). -/
def execMarkerMissing (e : End) (s : State) : Res := onPort e (fun _ x => x.retrain false) s

end Sys2Proof.Machine
end

