-- ==== Sys2Proof/Machine/ExLog.lean ====
section
/-! DEFINITION. Logbook, alarms, read-outs and export (R131, R156 to R161, R424 to R435, R454). -/

namespace Sys2Proof.Machine

/-- LOGBOOK_MESSAGE_RECEIVED (R156). -/
def execLogbookMessageReceived (port : Nat) (s : State) : Res := onJn (·.logbookReceived port) s

/-- LOG_RECORD_COMMIT (R159). -/
def execLogRecordCommit (log : Nat) (s : State) : Res := onJn (·.logCommit log) s

/-- ALARM_RECORD_RECEIVED (R454). -/
def execAlarmRecordReceived (port : Nat) (s : State) : Res := onJn (·.alarmReceived port) s

/-- BULK_MESSAGE_RECEIVED (R430). -/
def execBulkMessageReceived (port subch : Nat) (s : State) : Res := onJn (·.bulkReceived port subch) s

/-- EXPORT_MESSAGE_CLOSE (R430). -/
def execExportMessageClose (ctx kind : Nat) (s : State) : Res := onJn (·.exportClose ctx kind) s

/-- EXPORT_QUEUE_SERVICE (R435). -/
def execExportQueueService (eth : Nat) (s : State) : Res := onJn (·.exportService eth) s

/-- EXPORT_FRAME_COMPLETE (R432). -/
def execExportFrameComplete (eth : Nat) (s : State) : Res := onJn (·.exportSent eth) s

/-- MIRROR_ACK_RECEIVED (R432). -/
def execMirrorAckReceived (port : Nat) (s : State) : Res := onJn (·.mirrorReceived port) s

/-- ETHERNET_LINK_STATE_CHANGE (R425). -/
def execEthernetLinkStateChange (eth : Nat) (up : Bool) (s : State) : Res := onJn (·.ethLink eth up) s

/-- ETHERNET_CONTROL_FRAME_RECEIVED (R424). -/
def execEthernetControlFrameReceived (eth : Nat) (s : State) : Res := onJn (·.ethControl eth) s

end Sys2Proof.Machine
end

