-- ==== Sys2Proof/Machine/ExLs.lean ====
section
/-! DEFINITION. Events at the Lineside (R68 to R158, R358 to R404, R420, R480, R496, R519, R521). -/

namespace Sys2Proof.Machine

/-- CONFIG_MESSAGE_RECEIVED (R519). -/
def execConfigMessageReceived (link : Bool) (s : State) : Res := onMain (·.cfgReceived link) s

/-- CRC_ENABLE_APPLY (R420). -/
def execCrcEnableApply (part : Part) (i : Nat) (s : State) : Res := onPart part (·.crcEnableApply i) (·.crcEnableApply i) s

/-- DEBUG_SEGMENT_UPDATE (R521). -/
def execDebugSegmentUpdate (addr op : Nat) (value : Word) (s : State) : Res := onMain (·.debugUpdate addr op value) s

/-- DEBUG_UNLOCK_EXPIRY (R480). -/
def execDebugUnlockExpiry (s : State) : Res := onLs (·.debugExpiry) s

/-- LS_COLD_RESET (R88). -/
def execLsColdReset (s : State) : Res := onLs (·.coldReset) s

/-- LS_WARM_RESET (R88). -/
def execLsWarmReset (s : State) : Res := onLs (·.warmReset) s

/-- LS_REFCLK_LOSS (R71). -/
def execLsRefclkLoss (s : State) : Res := onLs (·.refclkLoss) s

/-- MAIN_ISLAND_SERVICE_ENTRY (R496). -/
def execMainIslandServiceEntry (r : SelfResult) (s : State) : Res := onLs (·.serviceEntry r) s

/-- LS_SELFTEST_COMPLETE (R496). -/
def execLsSelftestComplete (r : SelfResult) (s : State) : Res := onMain (·.selfComplete r) s

/-- LS_SELFTEST_START (R497). -/
def execLsSelftestStart (via : LsVia) (s : State) : Res := onReg via 2 0x10 1 s

/-- PWR_OFF_REQ (R89). -/
def execPwrOffReq (s : State) : Res := onMain (·.pwrOffReq) s

/-- PWR_OFF_ACK (R89). -/
def execPwrOffAck (s : State) : Res := onMain (·.pwrOffAnswer) s

/-- MAIN_POWER_OFF (R89). -/
def execMainPowerOff (s : State) : Res := onLs (·.powerOff) s

/-- AON_CMP_CROSSING (R90). -/
def execAonCmpCrossing (s : State) : Res := onLs (·.aonCrossing) s

/-- LS_SAMPLE_EDGE (R94). -/
def execLsSampleEdge (s : State) : Res := onLs (·.edgeAll) s

/-- LAG_ANCHOR_EFFECT (R104). -/
def execLagAnchorEffect (s : State) : Res := onMain (·.lagEffect) s

/-- FRAME_MAP_SWITCH (R118). -/
def execFrameMapSwitch (s : State) : Res := onMain (·.frameMapSwitch) s

/-- COUNTER_INCREMENT (R96). -/
def execCounterIncrement (x : LclkIn) (s : State) : Res := onLs (·.lclkCycle x) s

/-- SELECT_SEND (R97). -/
def execSelectSend (s : State) : Res := onMain (·.selSend) s

/-- SENSOR_BEAT (R74). -/
def execSensorBeat (w : BitVec 32) (s : State) : Res := onLs (·.sensorBeat w) s

/-- REGION_STRETCH_PULSE (R102). -/
def execRegionStretchPulse (region : Nat) (s : State) : Res := onLs (·.stretchPulse region) s

/-- BUNDLE_ISSUE (R135). -/
def execBundleIssue (addr : BitVec 48) (s : State) : Res := onLs (·.bundleIssue addr) s

/-- TRACE_SAMPLE_POINT (R124). -/
def execTraceSamplePoint (s : State) : Res := onMain (·.traceSample) s

/-- TRACE_POST_COMPLETE (R128). -/
def execTracePostComplete (s : State) : Res := onMain (·.tracePostComplete) s

/-- TRACE_READOUT_COMPLETE (R130). -/
def execTraceReadoutComplete (s : State) : Res := onMain (·.traceReadoutDone) s

/-- QSNAP_ACK (R80). -/
def execQsnapAck (data : BitVec 128) (s : State) : Res := onMain (·.qsnapRead (some data)) s

/-- QSNAP_READ_TIMEOUT (R80). -/
def execQsnapReadTimeout (s : State) : Res := onMain (·.qsnapRead none) s

/-- QSNAP_COMPLETE (R132). -/
def execQsnapComplete (s : State) : Res := onMain (·.qsnapDone) s

/-- QSNAP_READOUT_COMPLETE (R134). -/
def execQsnapReadoutComplete (s : State) : Res := onMain (·.qsnapReadoutDone) s

/-- STOP_SNAPSHOT_DELAY (R133). -/
def execStopSnapshotDelay (s : State) : Res := onMain (·.stopSnapshot) s

/-- DRAIN_DONE_RISE (R137). -/
def execDrainDoneRise (s : State) : Res := onLs (·.drainDoneRise) s

/-- DRAIN_TIMEOUT (R138). -/
def execDrainTimeout (s : State) : Res := onMain (·.drainTimeout) s

/-- DRAIN_DONE_FALL (R139). -/
def execDrainDoneFall (s : State) : Res := onLs (·.drainDoneFall) s

/-- HOST_RESET_RISE (R86). -/
def execHostResetRise (s : State) : Res := onLs (·.hostReset) s

/-- ARMED_STOP_INSTANT (R141). -/
def execArmedStopInstant (s : State) : Res := onLs (·.armedStop) s

/-- ARMED_RELEASE_INSTANT (R144). -/
def execArmedReleaseInstant (s : State) : Res := onLs (·.armedRelease) s

/-- SCAN_SHIFT_COMPLETE (R145). -/
def execScanShiftComplete (chains : List Word) (s : State) : Res := onMain (fun x => (x.holdChains chains).scanComplete) s

/-- SCAN_RESUME (R146). -/
def execScanResume (s : State) : Res := onMain (·.scanResume) s

/-- TAP_PACKET_START (R367). -/
def execTapPacketStart (tap : Nat) (flags tag : BitVec 16) (value : BitVec 32) (s : State) : Res :=
  onMain (·.tapBeat tap (sideband flags tag value)) s

/-- EGRESS_PACKET_END (R364). -/
def execEgressPacketEnd (flags tag : BitVec 16) (value : BitVec 32) (data : Bytes) (s : State) : Res :=
  onMain (·.egressBeat (sideband flags tag value) data) s

/-- INGRESS_PACKET_END (R365). -/
def execIngressPacketEnd (flags tag : BitVec 16) (value : BitVec 32) (data : Bytes) (s : State) : Res :=
  onMain (·.ingressBeat (sideband flags tag value) data) s

/-- WITNESS_EXPIRY (R370). -/
def execWitnessExpiry (s : State) : Res := onMain (·.witnessExpire) s

/-- WITNESS_SUSPEND_END (R370). -/
def execWitnessSuspendEnd (s : State) : Res := onMain (·.suspendEnd) s

/-- TAB_ENABLE_APPLY (R360). -/
def execTabEnableApply (g : Nat) (s : State) : Res := onMain (·.tabEnableApply g) s

/-- TEST_WINDOW_END (R383). -/
def execTestWindowEnd (s : State) : Res := onMain (·.testWindowEnd) s

/-- POISON_ACCEPT (R377). -/
def execPoisonAccept (w : BitVec 96) (s : State) : Res := onMain (·.poisonAccept w) s

end Sys2Proof.Machine
end

