-- ==== Sys2Proof/Machine/ExLsReg.lean ====
section
/-! DEFINITION. Lineside registers with effects of their own, over VC3 or the debug segment (R516 to R526). -/

namespace Sys2Proof.Machine

/-- LS_LINK_ENABLE (R220). -/
def execLsLinkEnable (via : LsVia) (link : Bool) (s : State) : Res := onReg via 2 (0x252 + b2n link) 1 s

/-- LS_LINK_RETRAIN (R221). -/
def execLsLinkRetrain (via : LsVia) (link : Bool) (s : State) : Res := onReg via 2 (0x252 + b2n link) 2 s

/-- LS_LINK_HOLD_DOWN (R220). -/
def execLsLinkHoldDown (via : LsVia) (link : Bool) (s : State) : Res := onReg via 2 (0x252 + b2n link) 3 s

/-- LS_TT_VALIDATE (R524). -/
def execLsTtValidate (via : LsVia) (s : State) : Res := onReg via 2 0x210 1 s

/-- LS_TT_ARM (R524). -/
def execLsTtArm (via : LsVia) (s : State) : Res := onReg via 2 0x210 2 s

/-- LS_TT_CANCEL (R524). -/
def execLsTtCancel (via : LsVia) (s : State) : Res := onReg via 2 0x210 4 s

/-- LS_FRAME_VALIDATE (R116). -/
def execLsFrameValidate (via : LsVia) (s : State) : Res := onReg via 2 0x200 1 s

/-- LS_FRAME_ARM_SWITCH (R118). -/
def execLsFrameArmSwitch (via : LsVia) (s : State) : Res := onReg via 2 0x200 2 s

/-- LS_FRAME_CANCEL_SWITCH (R118). -/
def execLsFrameCancelSwitch (via : LsVia) (s : State) : Res := onReg via 2 0x200 4 s

/-- LS_TRACE_ARM (R126). -/
def execLsTraceArm (via : LsVia) (s : State) : Res := onReg via 2 0x101 1 s

/-- LS_TRACE_DISARM (R128). -/
def execLsTraceDisarm (via : LsVia) (s : State) : Res := onReg via 2 0x101 2 s

/-- LS_TRACE_TRIGGER (R127). -/
def execLsTraceTrigger (via : LsVia) (s : State) : Res := onReg via 2 0x101 4 s

/-- LS_TRACE_READOUT (R130). -/
def execLsTraceReadout (via : LsVia) (s : State) : Res := onReg via 2 0x101 8 s

/-- LS_TRACE_CAPTURED_READ (R129). -/
def execLsTraceCapturedRead (via : LsVia) (s : State) : Res := onReg via 1 0x104 0 s

/-- LS_QSNAP_TAKE (R133). -/
def execLsQsnapTake (via : LsVia) (s : State) : Res := onReg via 2 0x111 1 s

/-- LS_QSNAP_READOUT (R134). -/
def execLsQsnapReadout (via : LsVia) (s : State) : Res := onReg via 2 0x111 2 s

/-- LS_QSNAP_STATUS_READ (R523). -/
def execLsQsnapStatusRead (via : LsVia) (s : State) : Res := onReg via 1 0x112 0 s

/-- LS_SCAN_START (R145). -/
def execLsScanStart (via : LsVia) (s : State) : Res := onReg via 2 0x120 1 s

/-- LS_SCAN_RESTORE (R147). -/
def execLsScanRestore (via : LsVia) (s : State) : Res := onReg via 2 0x120 2 s

/-- LS_HALT_DRAIN (R137). -/
def execLsHaltDrain (via : LsVia) (s : State) : Res := onReg via 2 0x40 0x01 s

/-- LS_HALT_RELEASE_DRAIN (R139). -/
def execLsHaltReleaseDrain (via : LsVia) (s : State) : Res := onReg via 2 0x40 0x02 s

/-- LS_HALT_STOP_NOW (R140). -/
def execLsHaltStopNow (via : LsVia) (s : State) : Res := onReg via 2 0x40 0x04 s

/-- LS_HALT_ARM_STOP (R142). -/
def execLsHaltArmStop (via : LsVia) (s : State) : Res := onReg via 2 0x40 0x08 s

/-- LS_HALT_DISARM_STOP (R140). -/
def execLsHaltDisarmStop (via : LsVia) (s : State) : Res := onReg via 2 0x40 0x10 s

/-- LS_HALT_RELEASE_STOP (R144). -/
def execLsHaltReleaseStop (via : LsVia) (s : State) : Res := onReg via 2 0x40 0x20 s

/-- LS_HALT_ARM_RELEASE (R144). -/
def execLsHaltArmRelease (via : LsVia) (s : State) : Res := onReg via 2 0x40 0x40 s

/-- LS_HALT_DISARM_RELEASE (R523). -/
def execLsHaltDisarmRelease (via : LsVia) (s : State) : Res := onReg via 2 0x40 0x80 s

/-- LS_LOG_MARK (R151). -/
def execLsLogMark (via : LsVia) (s : State) : Res := onReg via 2 0x300 1 s

/-- LS_LAG_ARM (R104). -/
def execLsLagArm (via : LsVia) (s : State) : Res := onReg via 2 0x132 1 s

/-- LS_CTR_SEL_WRITE (R97). -/
def execLsCtrSelWrite (via : LsVia) (k : Nat) (v : Word) (s : State) : Res := onReg via 2 (0x1000 + k) v s

/-- LS_CTR_VALUE_WRITE (R99). -/
def execLsCtrValueWrite (via : LsVia) (k : Nat) (v : Word) (s : State) : Res := onReg via 2 (0x2000 + k) v s

/-- LS_LOG_COMMIT_SEQ_WRITE (R156). -/
def execLsLogCommitSeqWrite (via : LsVia) (v : Word) (s : State) : Res := onReg via 2 0x304 v s

/-- LS_FENCE_EPOCH_WRITE (R390). -/
def execLsFenceEpochWrite (via : LsVia) (v : Word) (s : State) : Res := onReg via 2 0x14 v s

/-- LS_FENCE_STATUS_READ (R390). -/
def execLsFenceStatusRead (via : LsVia) (s : State) : Res := onReg via 1 0x15 0 s

/-- LS_TAB_GROUP_WRITE (R360). -/
def execLsTabGroupWrite (via : LsVia) (g : Nat) (v : Word) (s : State) : Res := onReg via 2 (0x3000 + g) v s

/-- LS_DEBUG_CTRL_WRITE (R480). -/
def execLsDebugCtrlWrite (via : LsVia) (v : Word) (s : State) : Res := onReg via 2 0x12 v s

/-- LS_CRC_CFG_WRITE (R416). -/
def execLsCrcCfgWrite (via : LsVia) (i r : Nat) (v : Word) (s : State) : Res := onReg via 2 (0x280 + 8 * i + r) v s

/-- LS_CRC_FEED_WRITE (R414). -/
def execLsCrcFeedWrite (via : LsVia) (i : Nat) (v : Word) (s : State) : Res := onReg via 2 (0x286 + 8 * i) v s

/-- LS_CRC_VALUE_WRITE (R421). -/
def execLsCrcValueWrite (via : LsVia) (i : Nat) (v : Word) (s : State) : Res := onReg via 2 (0x284 + 8 * i) v s

/-- LS_CRC_STATUS_READ (R523). -/
def execLsCrcStatusRead (via : LsVia) (i : Nat) (s : State) : Res := onReg via 1 (0x287 + 8 * i) 0 s

/-- LS_TIME_LO_READ (R517). -/
def execLsTimeLoRead (via : LsVia) (s : State) : Res := onReg via 1 0x20 0 s

end Sys2Proof.Machine
end

