-- ==== Sys2Proof/Machine/ExMail.lean ====
section
/-! DEFINITION. Mailboxes, sessions, relays, firmware and mode at their events (R443 to R446, R456, R463 to R465, R476, R479). -/

namespace Sys2Proof.Machine

/-- MAILBOX_REQUEST_TAKE (R443). -/
def execMailboxRequestTake (m : Nat) (slot : Bytes) (s : State) : Res := onJn (·.requestTake m slot) s

/-- MAILBOX_DATAGRAM_RECEIVED (R444). -/
def execMailboxDatagramReceived (eth : Nat) (prot : Bool) (an pn source : Nat) (data : Bytes) (s : State) : Res := onJn (·.datagram eth prot an pn source data) s

/-- MAILBOX_SEGMENT_TIMEOUT (R444). -/
def execMailboxSegmentTimeout (m : Nat) (s : State) : Res := onJn (·.segmentTimeout m) s

/-- RELAYED_REQUEST_RECEIVED (R445). -/
def execRelayedRequestReceived (port : Nat) (s : State) : Res := onJn (·.relayedRequest port) s

/-- RELAYED_REPLY_RECEIVED (R445). -/
def execRelayedReplyReceived (port : Nat) (s : State) : Res := onJn (·.relayedReply port) s

/-- RELAY_TIMEOUT (R445). -/
def execRelayTimeout (s : State) : Res := onJn (·.relayTimeout) s

/-- SESSION_EXPIRY (R456). -/
def execSessionExpiry (m : Nat) (s : State) : Res := onJn (·.sessionExpiry m) s

/-- FW_VERIFY_COMPLETE (R463). -/
def execFwVerifyComplete (s : State) : Res := onJn (·.fwVerifyDone) s

/-- FW_ACTIVATION (R464). -/
def execFwActivation (s : State) : Res := onJn (·.fwActivation) s

/-- FW_RESUME (R464). -/
def execFwResume (s : State) : Res := onJn (·.fwResume) s

/-- FW_REVERT (R465). -/
def execFwRevert (s : State) : Res := onJn (·.fwRevert) s

/-- MODE_SET_EFFECT (R476). -/
def execModeSetEffect (s : State) : Res := onJn (·.modeEffect) s

/-- DBG_RESPONSE (R479). -/
def execDbgResponse (level key : Nat) (pub sig : Bytes) (s : State) : Res := onJn (·.dbgResponse level key pub sig) s

/-- DBG_CHALLENGE (R479). -/
def execDbgChallenge (s : State) : Res := onJn (·.dbgChallenge) s

/-- LINESIDE_CONFIG_REPLY_RECEIVED (R519). -/
def execLinesideConfigReplyReceived (port : Nat) (s : State) : Res := onJn (·.cfgReply port) s

end Sys2Proof.Machine
end

