-- ==== Sys2Proof/Machine/ExModel.lean ====
section
/-! DEFINITION. Bundles, contexts, tables, tests, dies and groups at their ticks (R293, R337 to R345, R374, R384 to R404, R405, R407). -/

namespace Sys2Proof.Machine

/-- BUNDLE_CHUNK_RECEIVED (R345). -/
def execBundleChunkReceived (port : Nat) (s : State) : Res := onJn (·.chunkReceived port) s

/-- BUNDLE_VERIFY_COMPLETE (R341). -/
def execBundleVerifyComplete (id : Nat) (s : State) : Res := onJn (·.bundleVerify id) s

/-- BUNDLE_INCOMPLETE_TIMEOUT (R345). -/
def execBundleIncompleteTimeout (id : Nat) (s : State) : Res := onJn (·.bundleTimeout id) s

/-- BUNDLE_ACTIVATION (R343). -/
def execBundleActivation (ctx type : Nat) (s : State) : Res := onScore (·.bundleActivate ctx type) s

/-- CONTEXT_CONFIG_EFFECT (R337). -/
def execContextConfigEffect (ctx : Nat) (s : State) : Res := onScore (·.contextEffect ctx) s

/-- CONTEXT_DRAIN_COMPLETE (R337). -/
def execContextDrainComplete (ctx : Nat) (s : State) : Res := onJn (·.drainDone ctx) s

/-- WAYBILL_WRITE_EFFECT (R293). -/
def execWaybillWriteEffect (s : State) : Res := onScore (·.wayEffect) s

/-- REF_TABLE_ACTIVATE (R374). -/
def execRefTableActivate (slot : Nat) (s : State) : Res := onJn (·.refActivate slot) s

/-- TEST_RESULT_COLLECT (R384). -/
def execTestResultCollect (s : State) : Res := onJn (·.testCollect) s

/-- DIE_CONFIG_EFFECT (R386). -/
def execDieConfigEffect (slot : Nat) (s : State) : Res := onJn (·.dieConfigEffect slot) s

/-- DIE_READMIT_EFFECT (R393). -/
def execDieReadmitEffect (slot : Nat) (s : State) : Res := onJn (·.readmitEffect slot) s

/-- TWIN_STATE_EXCHANGE (R394). -/
def execTwinStateExchange (port : Nat) (s : State) : Res := onJn (·.twinStatesReceived port) s

/-- MEMBERSHIP_EFFECT (R396). -/
def execMembershipEffect (slot : Nat) (s : State) : Res := onJn (·.membershipEffect slot) s

/-- JUNCTION_ABORT_INSTANT (R402). -/
def execJunctionAbortInstant (slot : Nat) (s : State) : Res := onJn (·.abortInstant slot) s

/-- LINESIDE_ABORT_INSTANT (R402). -/
def execLinesideAbortInstant (slot : Nat) (s : State) : Res := onMain (·.abortInstant slot) s

/-- BALLAST_JOB_START (R405). -/
def execBallastJobStart (unit : Nat) (s : State) : Res := onJn (·.jobStart unit) s

/-- BALLAST_JOB_COMPLETE (R407). -/
def execBallastJobComplete (unit : Nat) (s : State) : Res := onJn (·.jobComplete unit) s

/-- BANK_SWITCH (R60). -/
def execBankSwitch (s : State) : Res := onJn (·.bankSwitch) s

/-- BANK_PREVIOUS_RELEASE (R60). -/
def execBankPreviousRelease (s : State) : Res := onJn (·.bankRelease) s

end Sys2Proof.Machine
end

