-- ==== Sys2Proof/Machine/ExReset.lean ====
section
/-! DEFINITION. Resets, power, role and twin (R15 to R30, R162, R163, R433, R484 to R511). -/

namespace Sys2Proof.Machine

/-- COLD_RESET (R486). -/
def execColdReset (boot : BootIn) (s : State) : Res := atJn (·.porstRise boot) s

/-- PORST_N_ASSERT (R511). -/
def execPorstNAssert (ns : Nat) (s : State) : Res := takeBool (fun taken => atJn (·.porstFall ns taken)) s

/-- SUPPLY_LOSS (R504). -/
def execSupplyLoss (s : State) : Res := atJn (·.supplyLoss) s

/-- REFCLK_LOSS (R507). -/
def execRefclkLoss (ns : Nat) (s : State) : Res := atJn (·.refclkLoss ns) s

/-- REFCLK_RESTORED (R507). -/
def execRefclkRestored (boot : BootIn) (s : State) : Res := atJn (·.refclkBack boot) s

/-- PERST_ASSERT (R511). -/
def execPerstAssert (s : State) : Res := .next s

/-- WATCHDOG_EXPIRY (R484). -/
def execWatchdogExpiry (early : Bool) (boot : BootIn) (s : State) : Res := onJn (·.watchdog early boot) s

/-- FLUSH_WAIT_EXPIRY (R163). -/
def execFlushWaitExpiry (boot : BootIn) (s : State) : Res := onJn (·.flushExpiry boot) s

/-- POWER_FAIL (R162). -/
def execPowerFail (ns : Nat) (s : State) : Res := takeBool (fun taken => onJn (·.powerFail ns taken)) s

/-- POWER_FAIL_FLUSH_COMPLETE (R162). -/
def execPowerFailFlushComplete (s : State) : Res := onJn (·.powerFlushed) s

/-- POWER_FAIL_CLEAR (R510). -/
def execPowerFailClear (s : State) : Res := onJn (·.powerClear) s

/-- ROLE_CONFIRM (R16). -/
def execRoleConfirm (m : Nat) (s : State) : Res := onJn (·.command Cmd.roleConfirm m) s

/-- TWIN_JUDGING_START (R30). -/
def execTwinJudgingStart (s : State) : Res := onJn (·.judgingStart) s

/-- TWIN_LOST (R28). -/
def execTwinLost (s : State) : Res := onJn (·.twinLost) s

/-- DUTY_TAKEOVER (R433). -/
def execDutyTakeover (s : State) : Res := onJn (·.takeover) s

/-- DUTY_TRANSFER (R29). -/
def execDutyTransfer (m : Nat) (s : State) : Res := onJn (·.command Cmd.dutyTransfer m) s

/-- DUTY_TRANSFER_EFFECT (R434). -/
def execDutyTransferEffect (s : State) : Res := onJn (·.dutyEffect) s

end Sys2Proof.Machine
end

