-- ==== Sys2Proof/Machine/ExSignal.lean ====
section
/-! DEFINITION. Signals received (R127, R140, R162, R205 to R209, R390, R399). -/

namespace Sys2Proof.Machine

/-- SIGNAL_ABORT_RECEIVED (R399). -/
def execSignalAbortReceived (e : End) (s : State) : Res := onEnd e (fun l x => x.takeSignal l 1 (fun x a => x.abortReceived (a / 32) (a % 32))) (fun p j => j.takeSignal p 1 (fun j a => j.abortReceived p (a / 32) (a % 32))) s

/-- SIGNAL_FENCE_RECEIVED (R390). -/
def execSignalFenceReceived (link : Bool) (s : State) : Res := onMain (fun x => x.takeSignal link 2 (fun x a => x.fenceSignal a)) s

/-- SIGNAL_STOP_RECEIVED (R140). -/
def execSignalStopReceived (e : End) (s : State) : Res := onEnd e (fun l x => x.takeSignal l 3 (fun x _ => x.raiseStop 0 false false)) (fun p j => j.takeSignal p 3 (fun j _ => j.stopReceived p)) s

/-- SIGNAL_FLUSH_RECEIVED (R162). -/
def execSignalFlushReceived (link : Bool) (s : State) : Res := onMain (fun x => x.takeSignal link 4 (fun x _ => x.flush)) s

/-- SIGNAL_ALARM_RECEIVED (R207). -/
def execSignalAlarmReceived (e : End) (s : State) : Res := onEnd e (fun l x => x.takeSignal l 5 (fun x _ => x)) (fun p j => j.takeSignal p 5 (fun j _ => j.bump 10 1)) s

/-- SIGNAL_TRACE_RECEIVED (R127). -/
def execSignalTraceReceived (link : Bool) (s : State) : Res := onMain (fun x => x.takeSignal link 6 (fun x _ => x.traceTrigger)) s

end Sys2Proof.Machine
end

