-- ==== Sys2Proof/Machine/ExTick.lean ====
section
/-! DEFINITION. Sample edges and phase deadlines of a Junction (R37 to R46, R121, R250 to R263, R277, R387). -/

namespace Sys2Proof.Machine

/-- SAMPLE_EDGE (R37). -/
def execSampleEdge (temps : List (Nat × Int)) (s : State) : Res := onJn (fun j => ((j.sampleEdge).temperatures temps).serve) s

/-- D_FRAME_DEADLINE (R41). -/
def execDFrameDeadline (s : State) : Res := onScore (·.dFrame) s

/-- D_TRAY_DEADLINE (R387). -/
def execDTrayDeadline (s : State) : Res := onJn (·.dTray) s

/-- REDUCTION_DEADLINE (R255). -/
def execReductionDeadline (phase : Nat) (s : State) : Res := onScore (·.dReduce phase) s

/-- D_BCAST_DEADLINE (R263). -/
def execDBcastDeadline (s : State) : Res := onScore (·.dBcast) s

/-- D_SCORE_END_DEADLINE (R277). -/
def execDScoreEndDeadline (s : State) : Res := onScore (·.dScoreEnd) s

/-- D_PUBLISH_DEADLINE (R277). -/
def execDPublishDeadline (s : State) : Res := onJn (·.dPublish) s

/-- STREAM_ARRIVAL_DEADLINE (R250). -/
def execStreamArrivalDeadline (port stream tick : Nat) (s : State) : Res := onJn (·.streamDeadline port stream tick) s

end Sys2Proof.Machine
end

