-- ==== Sys2Proof/Machine/ExTime.lean ====
section
/-! DEFINITION. Station time and timing pins (R164 to R194, R507, R508). -/

namespace Sys2Proof.Machine

/-- TICK_MARK_RECEIVED (R182). -/
def execTickMarkReceived (e : End) (s : State) : Res := onEnd e (fun l x => x.tickMark l) (fun p j => j.tickMark p) s

/-- DELAY_ECHO_DUE (R181). -/
def execDelayEchoDue (e : End) (s : State) : Res := onEnd e (fun l x => x.echoDue l) (fun p j => j.echoDue p) s

/-- DELAY_ECHO_RECEIVED (R181). -/
def execDelayEchoReceived (port : Nat) (s : State) : Res := onJn (·.delayEcho port) s

/-- TWIN_TIME_MESSAGE_RECEIVED (R181). -/
def execTwinTimeMessageReceived (port : Nat) (s : State) : Res := onJn (·.twinTime port) s

/-- SOURCE_LOSS (R173). -/
def execSourceLoss (part : Part) (s : State) : Res := onPart part (·.sourceLoss) (·.reselect) s

/-- SOURCE_REVERT (R173). -/
def execSourceRevert (part : Part) (s : State) : Res := onPart part (·.sourceRevert) (·.sourceRevert) s

/-- HOLDOVER_LIMIT_EXCEEDED (R168). -/
def execHoldoverLimitExceeded (part : Part) (s : State) : Res := onPart part (·.holdoverLimit) (·.holdoverLimit) s

/-- PTP_MESSAGE_RECEIVED (R176). -/
def execPtpMessageReceived (msg : PtpMsg) (s : State) : Res := takeWord (fun err => onJn (·.ptp msg (err.toNat % 2 ^ 32))) s

/-- PPS_IN_EDGE (R177). -/
def execPpsInEdge (s : State) : Res := takeWord (fun err => onJn (·.ppsIn (err.toNat % 2 ^ 32))) s

/-- SYNCE_QUALIFIED (R508). -/
def execSynceQualified (ppt : Int) (s : State) : Res := onJn (·.synceOn ppt) s

/-- SYNCE_DISQUALIFIED (R508). -/
def execSynceDisqualified (s : State) : Res := onJn (·.synceOff) s

/-- TS_IN_EDGE (R192). -/
def execTsInEdge (k : Nat) (falling wide : Bool) (s : State) : Res := onJn (·.tsEdge k falling wide) s

/-- TRIG_OUT_EDGE (R193). -/
def execTrigOutEdge (k : Nat) (s : State) : Res := onJn (·.trigEdge k) s

/-- PPS_OUT_EDGE (R194). -/
def execPpsOutEdge (s : State) : Res := onJn (·.ppsOut) s

/-- PTP_DELAY_REQ_DUE (R176). -/
def execPtpDelayReqDue (s : State) : Res := onJn (·.delayReqDue) s

/-- LEAP_AT_REACHED (R166). -/
def execLeapAtReached (part : Part) (s : State) : Res := onPart part (fun x => x.setClock x.clk.leapReached) (·.leapReached) s

end Sys2Proof.Machine
end

