-- ==== Sys2Proof/Machine/Dispatch.lean ====
section
/-! DEFINITION. The dispatch: one arm per command of the table (R<n> of each command stands at its meaning). -/

namespace Sys2Proof.Machine

def exec (i : Instr) (s : State) : Host.Outcome State Fault Refusal :=
  match i with
  | .coldReset boot => Sys2Proof.Machine.execColdReset boot s
  | .porstNAssert ns => Sys2Proof.Machine.execPorstNAssert ns s
  | .supplyLoss => Sys2Proof.Machine.execSupplyLoss s
  | .refclkLoss ns => Sys2Proof.Machine.execRefclkLoss ns s
  | .refclkRestored boot => Sys2Proof.Machine.execRefclkRestored boot s
  | .perstAssert => Sys2Proof.Machine.execPerstAssert s
  | .watchdogExpiry early boot => Sys2Proof.Machine.execWatchdogExpiry early boot s
  | .flushWaitExpiry boot => Sys2Proof.Machine.execFlushWaitExpiry boot s
  | .powerFail ns => Sys2Proof.Machine.execPowerFail ns s
  | .powerFailFlushComplete => Sys2Proof.Machine.execPowerFailFlushComplete s
  | .powerFailClear => Sys2Proof.Machine.execPowerFailClear s
  | .roleConfirm m => Sys2Proof.Machine.execRoleConfirm m s
  | .twinJudgingStart => Sys2Proof.Machine.execTwinJudgingStart s
  | .twinLost => Sys2Proof.Machine.execTwinLost s
  | .dutyTakeover => Sys2Proof.Machine.execDutyTakeover s
  | .dutyTransfer m => Sys2Proof.Machine.execDutyTransfer m s
  | .dutyTransferEffect => Sys2Proof.Machine.execDutyTransferEffect s
  | .sampleEdge temps => Sys2Proof.Machine.execSampleEdge temps s
  | .dFrameDeadline => Sys2Proof.Machine.execDFrameDeadline s
  | .dTrayDeadline => Sys2Proof.Machine.execDTrayDeadline s
  | .reductionDeadline phase => Sys2Proof.Machine.execReductionDeadline phase s
  | .dBcastDeadline => Sys2Proof.Machine.execDBcastDeadline s
  | .dScoreEndDeadline => Sys2Proof.Machine.execDScoreEndDeadline s
  | .dPublishDeadline => Sys2Proof.Machine.execDPublishDeadline s
  | .streamArrivalDeadline port stream tick => Sys2Proof.Machine.execStreamArrivalDeadline port stream tick s
  | .flitSlotTransmit e => Sys2Proof.Machine.execFlitSlotTransmit e s
  | .blockDecoded e idx n rx => Sys2Proof.Machine.execBlockDecoded e idx n rx s
  | .flitReceived e slot grid raw => Sys2Proof.Machine.execFlitReceived e slot grid raw s
  | .timetableQuarantine port => Sys2Proof.Machine.execTimetableQuarantine port s
  | .quarantineEnd port => Sys2Proof.Machine.execQuarantineEnd port s
  | .replayTimeout e => Sys2Proof.Machine.execReplayTimeout e s
  | .retireTimeout e => Sys2Proof.Machine.execRetireTimeout e s
  | .linkTrainStart e => Sys2Proof.Machine.execLinkTrainStart e s
  | .trainingFrameReceived e samePhase header => Sys2Proof.Machine.execTrainingFrameReceived e samePhase header s
  | .trainTimeout e => Sys2Proof.Machine.execTrainTimeout e s
  | .trainRetry e => Sys2Proof.Machine.execTrainRetry e s
  | .identReceived e raw => Sys2Proof.Machine.execIdentReceived e raw s
  | .linkActiveEntry e => Sys2Proof.Machine.execLinkActiveEntry e s
  | .subtreeAdvertisement port => Sys2Proof.Machine.execSubtreeAdvertisement port s
  | .signalAbortReceived e => Sys2Proof.Machine.execSignalAbortReceived e s
  | .signalFenceReceived link => Sys2Proof.Machine.execSignalFenceReceived link s
  | .signalStopReceived e => Sys2Proof.Machine.execSignalStopReceived e s
  | .signalFlushReceived link => Sys2Proof.Machine.execSignalFlushReceived link s
  | .signalAlarmReceived e => Sys2Proof.Machine.execSignalAlarmReceived e s
  | .signalTraceReceived link => Sys2Proof.Machine.execSignalTraceReceived link s
  | .tickMarkReceived e => Sys2Proof.Machine.execTickMarkReceived e s
  | .delayEchoDue e => Sys2Proof.Machine.execDelayEchoDue e s
  | .delayEchoReceived port => Sys2Proof.Machine.execDelayEchoReceived port s
  | .twinTimeMessageReceived port => Sys2Proof.Machine.execTwinTimeMessageReceived port s
  | .sourceLoss part => Sys2Proof.Machine.execSourceLoss part s
  | .sourceRevert part => Sys2Proof.Machine.execSourceRevert part s
  | .holdoverLimitExceeded part => Sys2Proof.Machine.execHoldoverLimitExceeded part s
  | .ptpMessageReceived msg => Sys2Proof.Machine.execPtpMessageReceived msg s
  | .ppsInEdge => Sys2Proof.Machine.execPpsInEdge s
  | .synceQualified ppt => Sys2Proof.Machine.execSynceQualified ppt s
  | .synceDisqualified => Sys2Proof.Machine.execSynceDisqualified s
  | .tsInEdge k falling wide => Sys2Proof.Machine.execTsInEdge k falling wide s
  | .trigOutEdge k => Sys2Proof.Machine.execTrigOutEdge k s
  | .ppsOutEdge => Sys2Proof.Machine.execPpsOutEdge s
  | .frameReceived port => Sys2Proof.Machine.execFrameReceived port s
  | .presenceWordReceived port => Sys2Proof.Machine.execPresenceWordReceived port s
  | .partialReceived port => Sys2Proof.Machine.execPartialReceived port s
  | .mergeBatchComplete => Sys2Proof.Machine.execMergeBatchComplete s
  | .twinDigestReceived port => Sys2Proof.Machine.execTwinDigestReceived port s
  | .statsFlitReceived port index => Sys2Proof.Machine.execStatsFlitReceived port index s
  | .statsStreamReceived port => Sys2Proof.Machine.execStatsStreamReceived port s
  | .detectorBatchReady tick ctx => Sys2Proof.Machine.execDetectorBatchReady tick ctx s
  | .featureDeadline tick ctx ens => Sys2Proof.Machine.execFeatureDeadline tick ctx ens s
  | .waybillLookupComplete tick ctx entity error => Sys2Proof.Machine.execWaybillLookupComplete tick ctx entity error s
  | .treeWalkComplete tick ctx ens entity tree fault => Sys2Proof.Machine.execTreeWalkComplete tick ctx ens entity tree fault s
  | .sidingPageFetchComplete tick ctx ok => Sys2Proof.Machine.execSidingPageFetchComplete tick ctx ok s
  | .residualPassComplete => Sys2Proof.Machine.execResidualPassComplete s
  | .forecasterUpdateStart => Sys2Proof.Machine.execForecasterUpdateStart s
  | .sequenceInstruction fault => Sys2Proof.Machine.execSequenceInstruction fault s
  | .groupCommit => Sys2Proof.Machine.execGroupCommit s
  | .runtimeSelfCheck row unit ok => Sys2Proof.Machine.execRuntimeSelfCheck row unit ok s
  | .relayOnlyEntry => Sys2Proof.Machine.execRelayOnlyEntry s
  | .scrubAccess part memory addr fate owner => Sys2Proof.Machine.execScrubAccess part memory addr fate owner s
  | .staticWearMove failed => Sys2Proof.Machine.execStaticWearMove failed s
  | .historyFarCopy ctx => Sys2Proof.Machine.execHistoryFarCopy ctx s
  | .logbookMessageReceived port => Sys2Proof.Machine.execLogbookMessageReceived port s
  | .logRecordCommit log => Sys2Proof.Machine.execLogRecordCommit log s
  | .alarmRecordReceived port => Sys2Proof.Machine.execAlarmRecordReceived port s
  | .bulkMessageReceived port subch => Sys2Proof.Machine.execBulkMessageReceived port subch s
  | .exportMessageClose ctx kind => Sys2Proof.Machine.execExportMessageClose ctx kind s
  | .exportQueueService eth => Sys2Proof.Machine.execExportQueueService eth s
  | .exportFrameComplete eth => Sys2Proof.Machine.execExportFrameComplete eth s
  | .mirrorAckReceived port => Sys2Proof.Machine.execMirrorAckReceived port s
  | .bundleChunkReceived port => Sys2Proof.Machine.execBundleChunkReceived port s
  | .bundleVerifyComplete id => Sys2Proof.Machine.execBundleVerifyComplete id s
  | .bundleIncompleteTimeout id => Sys2Proof.Machine.execBundleIncompleteTimeout id s
  | .bundleActivation ctx type => Sys2Proof.Machine.execBundleActivation ctx type s
  | .contextConfigEffect ctx => Sys2Proof.Machine.execContextConfigEffect ctx s
  | .contextDrainComplete ctx => Sys2Proof.Machine.execContextDrainComplete ctx s
  | .waybillWriteEffect => Sys2Proof.Machine.execWaybillWriteEffect s
  | .refTableActivate slot => Sys2Proof.Machine.execRefTableActivate slot s
  | .testResultCollect => Sys2Proof.Machine.execTestResultCollect s
  | .dieConfigEffect slot => Sys2Proof.Machine.execDieConfigEffect slot s
  | .dieReadmitEffect slot => Sys2Proof.Machine.execDieReadmitEffect slot s
  | .twinStateExchange port => Sys2Proof.Machine.execTwinStateExchange port s
  | .membershipEffect slot => Sys2Proof.Machine.execMembershipEffect slot s
  | .junctionAbortInstant slot => Sys2Proof.Machine.execJunctionAbortInstant slot s
  | .linesideAbortInstant slot => Sys2Proof.Machine.execLinesideAbortInstant slot s
  | .ballastJobStart unit => Sys2Proof.Machine.execBallastJobStart unit s
  | .ballastJobComplete unit => Sys2Proof.Machine.execBallastJobComplete unit s
  | .mailboxRequestTake m slot => Sys2Proof.Machine.execMailboxRequestTake m slot s
  | .mailboxDatagramReceived eth prot an pn source data => Sys2Proof.Machine.execMailboxDatagramReceived eth prot an pn source data s
  | .mailboxSegmentTimeout m => Sys2Proof.Machine.execMailboxSegmentTimeout m s
  | .relayedRequestReceived port => Sys2Proof.Machine.execRelayedRequestReceived port s
  | .relayedReplyReceived port => Sys2Proof.Machine.execRelayedReplyReceived port s
  | .relayTimeout => Sys2Proof.Machine.execRelayTimeout s
  | .sessionExpiry m => Sys2Proof.Machine.execSessionExpiry m s
  | .fwVerifyComplete => Sys2Proof.Machine.execFwVerifyComplete s
  | .fwActivation => Sys2Proof.Machine.execFwActivation s
  | .fwResume => Sys2Proof.Machine.execFwResume s
  | .fwRevert => Sys2Proof.Machine.execFwRevert s
  | .modeSetEffect => Sys2Proof.Machine.execModeSetEffect s
  | .sessionOpen m => Sys2Proof.Machine.execSessionOpen m s
  | .sessionClose m => Sys2Proof.Machine.execSessionClose m s
  | .heartbeat m => Sys2Proof.Machine.execHeartbeat m s
  | .noticeRead m => Sys2Proof.Machine.execNoticeRead m s
  | .alarmRead m => Sys2Proof.Machine.execAlarmRead m s
  | .counterRead m => Sys2Proof.Machine.execCounterRead m s
  | .reset m => Sys2Proof.Machine.execReset m s
  | .portMap m => Sys2Proof.Machine.execPortMap m s
  | .ttLoad m => Sys2Proof.Machine.execTtLoad m s
  | .ttArm m => Sys2Proof.Machine.execTtArm m s
  | .ttCancel m => Sys2Proof.Machine.execTtCancel m s
  | .ttStatus m => Sys2Proof.Machine.execTtStatus m s
  | .planLoad m => Sys2Proof.Machine.execPlanLoad m s
  | .bankSwitch => Sys2Proof.Machine.execBankSwitch s
  | .bankPreviousRelease => Sys2Proof.Machine.execBankPreviousRelease s
  | .linkControl m => Sys2Proof.Machine.execLinkControl m s
  | .contextConfig m => Sys2Proof.Machine.execContextConfig m s
  | .contextStatus m => Sys2Proof.Machine.execContextStatus m s
  | .bundleTransfer m => Sys2Proof.Machine.execBundleTransfer m s
  | .bundleStatus m => Sys2Proof.Machine.execBundleStatus m s
  | .waybillWrite m => Sys2Proof.Machine.execWaybillWrite m s
  | .refTableLoad m => Sys2Proof.Machine.execRefTableLoad m s
  | .historyRead m => Sys2Proof.Machine.execHistoryRead m s
  | .logConfig m => Sys2Proof.Machine.execLogConfig m s
  | .logRead m => Sys2Proof.Machine.execLogRead m s
  | .logRelease m => Sys2Proof.Machine.execLogRelease m s
  | .testPackRead m => Sys2Proof.Machine.execTestPackRead m s
  | .testResult m => Sys2Proof.Machine.execTestResult m s
  | .dieConfig m => Sys2Proof.Machine.execDieConfig m s
  | .dieReadmit m => Sys2Proof.Machine.execDieReadmit m s
  | .membershipLoad m => Sys2Proof.Machine.execMembershipLoad m s
  | .groupRearm m => Sys2Proof.Machine.execGroupRearm m s
  | .membershipStatus m => Sys2Proof.Machine.execMembershipStatus m s
  | .traceSignal m => Sys2Proof.Machine.execTraceSignal m s
  | .timeConfig m => Sys2Proof.Machine.execTimeConfig m s
  | .timestampRead m => Sys2Proof.Machine.execTimestampRead m s
  | .timingIoConfig m => Sys2Proof.Machine.execTimingIoConfig m s
  | .fleetStop m => Sys2Proof.Machine.execFleetStop m s
  | .lsRead m => Sys2Proof.Machine.execLsRead m s
  | .lsWrite m => Sys2Proof.Machine.execLsWrite m s
  | .exportConfig m => Sys2Proof.Machine.execExportConfig m s
  | .bufferWrite m => Sys2Proof.Machine.execBufferWrite m s
  | .bufferRead m => Sys2Proof.Machine.execBufferRead m s
  | .ballast m => Sys2Proof.Machine.execBallast m s
  | .crcEngine m => Sys2Proof.Machine.execCrcEngine m s
  | .crcData m => Sys2Proof.Machine.execCrcData m s
  | .crcValueRead m => Sys2Proof.Machine.execCrcValueRead m s
  | .crcValueWrite m => Sys2Proof.Machine.execCrcValueWrite m s
  | .fwLoad m => Sys2Proof.Machine.execFwLoad m s
  | .fwStatus m => Sys2Proof.Machine.execFwStatus m s
  | .fwActivate m => Sys2Proof.Machine.execFwActivate m s
  | .deviceId m => Sys2Proof.Machine.execDeviceId m s
  | .ownerProvision m => Sys2Proof.Machine.execOwnerProvision m s
  | .keyInstall m => Sys2Proof.Machine.execKeyInstall m s
  | .keyRemove m => Sys2Proof.Machine.execKeyRemove m s
  | .keyList m => Sys2Proof.Machine.execKeyList m s
  | .macsecSa m => Sys2Proof.Machine.execMacsecSa m s
  | .modeSet m => Sys2Proof.Machine.execModeSet m s
  | .fuseLock m => Sys2Proof.Machine.execFuseLock m s
  | .rollbackAdvance m => Sys2Proof.Machine.execRollbackAdvance m s
  | .secEventRead m => Sys2Proof.Machine.execSecEventRead m s
  | .dbgResponse level key pub sig => Sys2Proof.Machine.execDbgResponse level key pub sig s
  | .dbgChallenge => Sys2Proof.Machine.execDbgChallenge s
  | .mailboxReqTailWrite tap m v => Sys2Proof.Machine.execMailboxReqTailWrite tap m v s
  | .mailboxRplHeadWrite tap m v => Sys2Proof.Machine.execMailboxRplHeadWrite tap m v s
  | .mailboxCtrlWrite tap m reg v => Sys2Proof.Machine.execMailboxCtrlWrite tap m reg v s
  | .jnRegLowHalfRead tap off size => Sys2Proof.Machine.execJnRegLowHalfRead tap off size s
  | .jnErrCaptureClear tap errors => Sys2Proof.Machine.execJnErrCaptureClear tap errors s
  | .registerWrite via addr size value mask => Sys2Proof.Machine.execRegisterWrite via addr size value mask s
  | .configMessageReceived link => Sys2Proof.Machine.execConfigMessageReceived link s
  | .crcEnableApply part n => Sys2Proof.Machine.execCrcEnableApply part n s
  | .debugSegmentUpdate addr op value => Sys2Proof.Machine.execDebugSegmentUpdate addr op value s
  | .debugUnlockExpiry => Sys2Proof.Machine.execDebugUnlockExpiry s
  | .lsColdReset => Sys2Proof.Machine.execLsColdReset s
  | .lsWarmReset => Sys2Proof.Machine.execLsWarmReset s
  | .lsRefclkLoss => Sys2Proof.Machine.execLsRefclkLoss s
  | .mainIslandServiceEntry r => Sys2Proof.Machine.execMainIslandServiceEntry r s
  | .lsSelftestComplete r => Sys2Proof.Machine.execLsSelftestComplete r s
  | .lsSelftestStart via => Sys2Proof.Machine.execLsSelftestStart via s
  | .pwrOffReq => Sys2Proof.Machine.execPwrOffReq s
  | .pwrOffAck => Sys2Proof.Machine.execPwrOffAck s
  | .mainPowerOff => Sys2Proof.Machine.execMainPowerOff s
  | .aonCmpCrossing => Sys2Proof.Machine.execAonCmpCrossing s
  | .lsSampleEdge => Sys2Proof.Machine.execLsSampleEdge s
  | .lagAnchorEffect => Sys2Proof.Machine.execLagAnchorEffect s
  | .frameMapSwitch => Sys2Proof.Machine.execFrameMapSwitch s
  | .counterIncrement x => Sys2Proof.Machine.execCounterIncrement x s
  | .selectSend => Sys2Proof.Machine.execSelectSend s
  | .sensorBeat w => Sys2Proof.Machine.execSensorBeat w s
  | .regionStretchPulse region => Sys2Proof.Machine.execRegionStretchPulse region s
  | .bundleIssue addr => Sys2Proof.Machine.execBundleIssue addr s
  | .traceSamplePoint => Sys2Proof.Machine.execTraceSamplePoint s
  | .tracePostComplete => Sys2Proof.Machine.execTracePostComplete s
  | .traceReadoutComplete => Sys2Proof.Machine.execTraceReadoutComplete s
  | .qsnapAck data => Sys2Proof.Machine.execQsnapAck data s
  | .qsnapReadTimeout => Sys2Proof.Machine.execQsnapReadTimeout s
  | .qsnapComplete => Sys2Proof.Machine.execQsnapComplete s
  | .qsnapReadoutComplete => Sys2Proof.Machine.execQsnapReadoutComplete s
  | .stopSnapshotDelay => Sys2Proof.Machine.execStopSnapshotDelay s
  | .drainDoneRise => Sys2Proof.Machine.execDrainDoneRise s
  | .drainTimeout => Sys2Proof.Machine.execDrainTimeout s
  | .drainDoneFall => Sys2Proof.Machine.execDrainDoneFall s
  | .hostResetRise => Sys2Proof.Machine.execHostResetRise s
  | .armedStopInstant => Sys2Proof.Machine.execArmedStopInstant s
  | .armedReleaseInstant => Sys2Proof.Machine.execArmedReleaseInstant s
  | .scanShiftComplete chains => Sys2Proof.Machine.execScanShiftComplete chains s
  | .scanResume => Sys2Proof.Machine.execScanResume s
  | .tapPacketStart tap flags tag value => Sys2Proof.Machine.execTapPacketStart tap flags tag value s
  | .egressPacketEnd flags tag value data => Sys2Proof.Machine.execEgressPacketEnd flags tag value data s
  | .ingressPacketEnd flags tag value data => Sys2Proof.Machine.execIngressPacketEnd flags tag value data s
  | .witnessExpiry => Sys2Proof.Machine.execWitnessExpiry s
  | .witnessSuspendEnd => Sys2Proof.Machine.execWitnessSuspendEnd s
  | .tabEnableApply g => Sys2Proof.Machine.execTabEnableApply g s
  | .testWindowEnd => Sys2Proof.Machine.execTestWindowEnd s
  | .poisonAccept w => Sys2Proof.Machine.execPoisonAccept w s
  | .lsLinkEnable via link => Sys2Proof.Machine.execLsLinkEnable via link s
  | .lsLinkRetrain via link => Sys2Proof.Machine.execLsLinkRetrain via link s
  | .lsLinkHoldDown via link => Sys2Proof.Machine.execLsLinkHoldDown via link s
  | .lsTtValidate via => Sys2Proof.Machine.execLsTtValidate via s
  | .lsTtArm via => Sys2Proof.Machine.execLsTtArm via s
  | .lsTtCancel via => Sys2Proof.Machine.execLsTtCancel via s
  | .lsFrameValidate via => Sys2Proof.Machine.execLsFrameValidate via s
  | .lsFrameArmSwitch via => Sys2Proof.Machine.execLsFrameArmSwitch via s
  | .lsFrameCancelSwitch via => Sys2Proof.Machine.execLsFrameCancelSwitch via s
  | .lsTraceArm via => Sys2Proof.Machine.execLsTraceArm via s
  | .lsTraceDisarm via => Sys2Proof.Machine.execLsTraceDisarm via s
  | .lsTraceTrigger via => Sys2Proof.Machine.execLsTraceTrigger via s
  | .lsTraceReadout via => Sys2Proof.Machine.execLsTraceReadout via s
  | .lsTraceCapturedRead via => Sys2Proof.Machine.execLsTraceCapturedRead via s
  | .lsQsnapTake via => Sys2Proof.Machine.execLsQsnapTake via s
  | .lsQsnapReadout via => Sys2Proof.Machine.execLsQsnapReadout via s
  | .lsQsnapStatusRead via => Sys2Proof.Machine.execLsQsnapStatusRead via s
  | .lsScanStart via => Sys2Proof.Machine.execLsScanStart via s
  | .lsScanRestore via => Sys2Proof.Machine.execLsScanRestore via s
  | .lsHaltDrain via => Sys2Proof.Machine.execLsHaltDrain via s
  | .lsHaltReleaseDrain via => Sys2Proof.Machine.execLsHaltReleaseDrain via s
  | .lsHaltStopNow via => Sys2Proof.Machine.execLsHaltStopNow via s
  | .lsHaltArmStop via => Sys2Proof.Machine.execLsHaltArmStop via s
  | .lsHaltDisarmStop via => Sys2Proof.Machine.execLsHaltDisarmStop via s
  | .lsHaltReleaseStop via => Sys2Proof.Machine.execLsHaltReleaseStop via s
  | .lsHaltArmRelease via => Sys2Proof.Machine.execLsHaltArmRelease via s
  | .lsHaltDisarmRelease via => Sys2Proof.Machine.execLsHaltDisarmRelease via s
  | .lsLogMark via => Sys2Proof.Machine.execLsLogMark via s
  | .lsLagArm via => Sys2Proof.Machine.execLsLagArm via s
  | .lsCtrSelWrite via k v => Sys2Proof.Machine.execLsCtrSelWrite via k v s
  | .lsCtrValueWrite via k v => Sys2Proof.Machine.execLsCtrValueWrite via k v s
  | .lsLogCommitSeqWrite via v => Sys2Proof.Machine.execLsLogCommitSeqWrite via v s
  | .lsFenceEpochWrite via v => Sys2Proof.Machine.execLsFenceEpochWrite via v s
  | .lsFenceStatusRead via => Sys2Proof.Machine.execLsFenceStatusRead via s
  | .lsTabGroupWrite via g v => Sys2Proof.Machine.execLsTabGroupWrite via g v s
  | .lsDebugCtrlWrite via v => Sys2Proof.Machine.execLsDebugCtrlWrite via v s
  | .lsCrcCfgWrite via n r v => Sys2Proof.Machine.execLsCrcCfgWrite via n r v s
  | .lsCrcFeedWrite via n v => Sys2Proof.Machine.execLsCrcFeedWrite via n v s
  | .lsCrcValueWrite via n v => Sys2Proof.Machine.execLsCrcValueWrite via n v s
  | .lsCrcStatusRead via n => Sys2Proof.Machine.execLsCrcStatusRead via n s
  | .lsTimeLoRead via => Sys2Proof.Machine.execLsTimeLoRead via s
  | .linesideConfigReplyReceived port => Sys2Proof.Machine.execLinesideConfigReplyReceived port s
  | .markerMissing e => Sys2Proof.Machine.execMarkerMissing e s
  | .ethernetLinkStateChange eth up => Sys2Proof.Machine.execEthernetLinkStateChange eth up s
  | .ethernetControlFrameReceived eth => Sys2Proof.Machine.execEthernetControlFrameReceived eth s
  | .ptpDelayReqDue => Sys2Proof.Machine.execPtpDelayReqDue s
  | .leapAtReached part => Sys2Proof.Machine.execLeapAtReached part s
  | .nearTierStackError => Sys2Proof.Machine.execNearTierStackError s

end Sys2Proof.Machine
end

