-- ==== Sys2Proof/Safety.lean ====
section
/-! DEFINITION. What a safe run of the block is, and the conditions and outcomes that the statements share: a mailbox request that is served, its reply, and what goes with records, alarms, messages and replies (R149 to R160, R207, R426, R442 to R462). -/

namespace Sys2Proof

open Sys2Proof.Machine

/-- A step is safe when it answers a next state. -/
def safeStep (s : Machine.State) : Bool :=
  match Machine.step s with
  | .next _ => true
  | _ => false

/-! ## What is compared where a rule also records, alarms or replies -/

/-- The Junction without what recording an event changes: the logs with their store blocks, tokens and drops, the export streams, and a
context's count of dropped records (R152 to R160, R426). -/
def Machine.Junction.unlogged (j : Junction) : Junction :=
  { j with logs := [], logTokens := [], ownSeq := 0, rateDrop := [], nearFull := false, exp := Exp.init,
           store := { j.store with map := [], erase := [], mapSeq := 0 }, ctxs := j.ctxs.map (fun x => { x with expDropped := 0 }) }

/-- The Junction without what records, notices, errors, counters, security events, alarms and messages change (R207, R454, R457, R481, R536). -/
def Machine.Junction.quiet (j : Junction) : Junction :=
  { j.unlogged with ports := [], alarms := [], alarmDrop := [], notices := [], errs := ErrCap.init, cnt := [],
                    sec := { j.sec with events := [], evDropped := 0 } }

/-- The Junction without what replying to a request changes as well: the mailboxes, and the associations that carry replies (R443, R475). -/
def Machine.Junction.still (j : Junction) : Junction := { j.quiet with mail := [], sec := { j.sec with events := [], evDropped := 0, sas := [] } }

/-- A reply in mailbox m apart, Junction `j` is `k`: all but the mailboxes for a PCIe mailbox; for an Ethernet mailbox, whose replies
leave in protected frames, all but what `still` leaves out. -/
def Leaves (m : Nat) (j k : Junction) : Prop :=
  (m < 8 → ({ j with mail := [] } : Junction) = { k with mail := [] }) ∧ j.still = k.still

/-- The Lineside without what recording an event and sending a signal or an alarm change: the Logbook's store, tokens and drops, and what the
two links have queued (R153 to R156, R207, R208). -/
def Machine.Ls.unlogged (s : Ls) : Ls :=
  { s with log := LsLog.init, portA := { s.portA with q := [], sigq := [], stats := [] }, portB := { s.portB with q := [], sigq := [], stats := [] } }

/-! ## Mailbox requests -/

/-- The request `it` is the oldest that mailbox m (PCIe 0 to 7, Ethernet 8 to 15) has taken, `rest` are the later ones, and the rules of
admission let it execute here as opcode `op`: a live session of its context, the next SEQ, a clean header, this Junction as the target
(R447, R449, R455 to R458); the management context where `mgmt` says the command is its alone (R460); role confirmed and not relay-only
service unless the command is in the recovery set (R16, R492); no reset or power failure being prepared unless it only reports status (R162). -/
def Served (j : Junction) (m : Nat) (it : Taken) (rest : List Taken) (op : Nat) (mgmt recovery status : Bool) : Prop :=
  j.boot.porst = false ∧ m < 16 ∧ m < j.mail.length ∧ (j.mbox m).taken = it :: rest ∧ rest.head?.all (fun n => knownOps.contains n.req.opcode) = true
  ∧ it.req.opcode = op ∧ it.req.junk = false ∧ it.req.mailbox = m ∧ j.remote it.req = false
  ∧ (j.mbox m).session.any (fun ss => !ss.expired && ss.closing.isNone && it.req.seq == (ss.seq + 1) % 2 ^ 64 && it.req.ctx == ss.ctx) = true
  ∧ (mgmt = true → it.req.ctx = 0) ∧ (recovery = false → j.boot.service ≠ 3 ∧ j.confirmed = true) ∧ (status = false → j.flush.stopped = false)

/-- Mailbox m has had the reply of `it` (R448, R449, R451): the result and body, the SEQ noted and the reply stored for a retransmission,
`rest` left to execute; a PCIe mailbox has it in the next slot of its reply ring (R443). `j` is the Junction before, `k` after. -/
def Replied (j k : Junction) (m : Nat) (it : Taken) (rest : List Taken) (result : Nat) (body : Bytes) : Prop :=
  ∃ ss r, (k.mbox m).session = some ss ∧ ss.seq = it.req.seq ∧ ss.stored = some r ∧ r.opcode = it.req.opcode ∧ r.tag = it.req.tag
    ∧ r.seq = it.req.seq ∧ r.responder = k.id ∧ r.execTick = j.clk.tickWord.toNat ∧ r.result = result ∧ r.body = body ∧ (k.mbox m).taken = rest
    ∧ (m < 8 → (k.mbox m).rplTail = ((j.mbox m).rplTail + 1) % 65536 ∧ (k.mbox m).replies = (j.mbox m).replies ++ [r])

/-- No mailbox waits for the reply of a Lineside, so a link that leaves service settles none (R452). -/
def Machine.Junction.settled (j : Junction) : Prop := ∀ x ∈ j.mail, ∀ o ∈ x.owed, ∀ p k, o.waits ≠ .lineside p k

/-- Command `x` from state s completes the request `it` of mailbox m: a next state in which the reply has the result and body, and all but what
replying changes is `k`. -/
def CompletesWith (x : Host.Outcome Machine.State Fault Refusal) (s : Machine.State) (m : Nat) (it : Taken) (rest : List Taken) (result : Nat) (body : Bytes)
    (k : Junction) : Prop :=
  ∃ j, x = .next { s with jn := j } ∧ Replied s.jn j m it rest result body ∧ Leaves m j k

/-- The reply of `it` is owed: the command goes on and its reply comes later (R450, R462). -/
def Owing (k : Junction) (m : Nat) (it : Taken) (rest : List Taken) (w : Waits) : Prop :=
  (k.mbox m).session.any (fun ss => ss.seq == it.req.seq && ss.stored.isNone) = true ∧ (k.mbox m).taken = rest
  ∧ (k.mbox m).owed.any (fun o => o.item == it && o.waits == w) = true

/-- Command `x` from state s takes the request `it` of mailbox m up and leaves its reply owed: all but the mailboxes is `k`. -/
def DefersTo (x : Host.Outcome Machine.State Fault Refusal) (s : Machine.State) (m : Nat) (it : Taken) (rest : List Taken) (w : Waits) (k : Junction) : Prop :=
  ∃ j, x = .next { s with jn := j } ∧ Owing j m it rest w ∧ ({ j with mail := [] } : Junction) = { k with mail := [] }

/-! ## Ends of links -/

/-- The link end e. -/
def Machine.State.portAt (s : Machine.State) : End → Port
  | .ls l => s.ls.port l
  | .jn p => s.jn.port p

/-- The state with that end replaced, and nothing else. -/
def Machine.State.withPort (s : Machine.State) (e : End) (x : Port) : Machine.State :=
  match e with
  | .ls l => { s with ls := s.ls.setPort l x }
  | .jn p => { s with jn := s.jn.setPort p x }

/-- The part an end belongs to runs: the Lineside's island in service, the Junction out of cold reset with such a port. -/
def Running (s : Machine.State) : End → Prop
  | .ls _ => s.ls.inService = true
  | .jn p => s.jn.boot.porst = false ∧ p < s.jn.ports.length ∧ s.jn.settled

/-- No read-out or scan of the Lineside uses the link. -/
def Free (s : Machine.State) : End → Prop
  | .ls l => s.ls.trace.reading ≠ some l ∧ s.ls.qsnap.reading ≠ some l ∧ (s.ls.scan.link ≠ l ∨ (s.ls.port l).q.any (fun m => m.tag == 3) = false)
  | .jn _ => True

/-- Command outcome `x` from state s gives end e a new state `p` and changes nothing else but what a change of link state records and ends
(R151, R222, R430, R446): at the Lineside the Logbook; at the Junction that port's transactions, the Bulk messages it carried, the subtree set
of its slot, what other ports queue of it, and the last commit written to its Lineside. -/
def Moves (x : Host.Outcome Machine.State Fault Refusal) (s : Machine.State) (e : End) (p : Port) : Prop :=
  match e with
  | .ls l => ∃ y, x = .next { s with ls := y } ∧ y.unlogged = (s.ls.setPort l p).unlogged
  | .jn q => ∃ j, x = .next { s with jn := j } ∧ j.port q = p ∧ (∀ t ∈ j.txns, t ∈ s.jn.txns) ∧ (∀ d, (j.port d).st = if d = q then p.st else (s.jn.port d).st)
      ∧ j.logs.map (fun g => { g with commitSent := none }) = s.jn.logs.map (fun g => { g with commitSent := none })
      ∧ ({ j with ports := [], txns := [], exp := s.jn.exp, ctxs := [], subtree := [], logs := [] } : Junction)
        = { s.jn with ports := [], txns := [], ctxs := [], subtree := [], logs := [] }

/-! ## Registers of the Lineside -/

/-- The reply to a configuration transaction of one operation, whose register then reads v, on link l while that link is in service (R519). -/
def Machine.Ls.answered (z : Ls) (l : Bool) (txn : Nat) (o : CfgOp) (v : Word) : Ls :=
  if (z.port l).up then z.setPort l ((z.port l).sendTag 5 3 0 (le 2 0x11 ++ le 2 1 ++ le 4 txn ++ ({ o with value := v.toNat } : CfgOp).bytes)) else z

/-- The command `c` of a path writes v whole to Lineside register a, in service, with the effect `f` one LCLK later (R13, R519, R521): over VC3
on a link in service, whose reply has the register after it; through the debug segment while it is unlocked for writes, with code 0x17
(R155: a mark's own code is higher, so the debug write's comes first). A link
out of service carries no request; a locked segment captures zeros, and one that may only read ignores the write. -/
def Takes (c : LsVia → Instr) (s : Machine.State) (a : Nat) (v : Word) (f : Option Bool → Ls → Ls) : Prop :=
  let y := s.ls.toLclk (s.ls.smp.lclk + 1)
  s.ls.inService = true →
  (∀ l txn, (s.ls.port l).up = true →
    let z := f (some l) y
    let w : Ls := { z with vc3Last := some (z.smp.lclk, a, v.toNat) }
    Machine.exec (c (.vc3 l txn)) s = .next { s with ls := w.answered l txn ⟨2, a, v.toNat, 2 ^ 64 - 1⟩ (z.readReg a) })
  ∧ (∀ l txn, (s.ls.port l).up = false → Machine.exec (c (.vc3 l txn)) s = .next s)
  ∧ (s.ls.dbgUnlock = true → s.ls.dbgWrite = true → Machine.exec (c .debug) s
      = .next { s with ls := if a = 0x300 then f none (y.logDebug s.ls.vc3Last s.ls.smp.lclk a v) else (f none y).logDebug s.ls.vc3Last s.ls.smp.lclk a v })
  ∧ (s.ls.dbgUnlock = true → s.ls.dbgWrite = false → Machine.exec (c .debug) s = .next { s with ls := y })
  ∧ (s.ls.dbgUnlock = false → Machine.exec (c .debug) s = .next { s with ls := { y with dbgCapture := 0 } })

/-- The command `c` of a path reads Lineside register a, in service, with the effect `f` on the state (R517, R519, R521): the value is that
after every update of the LCLK before; the debug segment captures it. -/
def Reads (c : LsVia → Instr) (s : Machine.State) (a : Nat) (f : Ls → Ls) : Prop :=
  let y := s.ls.toLclk (s.ls.smp.lclk + 1)
  s.ls.inService = true →
  (∀ l txn, (s.ls.port l).up = true → Machine.exec (c (.vc3 l txn)) s
      = .next { s with ls := (f y).answered l txn ⟨1, a, 0, 2 ^ 64 - 1⟩ (y.readReg a) })
  ∧ (∀ l txn, (s.ls.port l).up = false → Machine.exec (c (.vc3 l txn)) s = .next s)
  ∧ (s.ls.dbgUnlock = true → Machine.exec (c .debug) s = .next { s with ls := f { y with dbgCapture := y.readReg a } })
  ∧ (s.ls.dbgUnlock = false → Machine.exec (c .debug) s = .next { s with ls := { y with dbgCapture := 0 } })

/-! ## Resets -/

/-- The main island of Lineside `s` has lost what goes with its supply or at a warm reset, in `z` (R88, R89, R131, R147, R157, R371, R390). -/
def IslandLost (s z : Ls) : Prop :=
  z.inService = false ∧ z.configured = false ∧ z.trace = LsTrace.init ∧ z.qsnap = LsQsnap.init ∧ z.poison = [] ∧ z.tab = LsTab.init ∧ z.istat = []
  ∧ z.berrCount = 0 ∧ z.cfgWait = none ∧ z.linkDefer = none ∧ z.log.recs = [] ∧ z.log.flushing = false ∧ z.log.commitSeq = s.log.commitSeq
  ∧ (∀ l, z.port l = s.freshPort l) ∧ z.smp.ctr = [] ∧ z.smp.shadow = [] ∧ z.smp.staged = [] ∧ z.smp.sent = [] ∧ z.smp.lclk = s.smp.lclk
  ∧ z.clk = s.clk ∧ z.timeLatch = none ∧ z.vc3Last = none ∧ z.pins.qsnapReq = none ∧ (∀ c, c < 64 → Tbl.get 8 z.log.tokens c = fld (Tbl.get 8 z.log.rateAct c).toNat 0 8)
  ∧ z.scan.st = (if s.scan.st = 1 ∨ s.scan.st = 2 ∨ s.scan.st = 5 then 4 else s.scan.st)
  ∧ z.die = s.die ∧ z.dieValid = s.dieValid ∧ z.fenceHold = s.fenceHold ∧ z.fenceLow = s.fenceLow ∧ z.aon.beyond = s.aon.beyond ∧ z.aon.held = s.aon.held
  ∧ z.halt.stopGate = s.halt.stopGate ∧ z.halt.stopArmed = s.halt.stopArmed

/-- Junction `k` has been brought up with the outcome `b` of its checks (R486 to R493): phase 4, the first 64 engines that pass, a
known-answer bit for each row that passed, relay-only service with its cause where a check demands it, and otherwise full service once the
role is confirmed and ready for it before. -/
def BroughtUp (k : Junction) (b : BootIn) : Prop :=
  k.boot.porst = false ∧ k.boot.phase = 4 ∧ k.boot.engines = b.ran.passing.take 64 ∧ k.boot.spares = b.ran.passing.drop 64
  ∧ (∀ r, r < 7 → k.boot.kat.getLsbD r = !b.ran.failsRow r)
  ∧ (b.ran.cause k.sec.fw.rom = 0 → k.boot.service = (if k.confirmed then 2 else 1) ∧ k.boot.cause = 0)
  ∧ (b.ran.cause k.sec.fw.rom ≠ 0 → k.boot.service = 3 ∧ k.boot.cause = b.ran.cause k.sec.fw.rom)

/-- Junction `k` is in cold reset with JN_BOOT_LAST `last` (R484, R485, R531): only the fuses, the firmware slots with their mark and the Record
Store with its logs, epochs and crash state are what they were in `j`. -/
def ColdReset (j k : Junction) (last : Nat) : Prop :=
  k.boot.porst = true ∧ k.boot.last = last ∧ k.boot.service = 0 ∧ k.boot.phase = 0 ∧ k.confirmed = false ∧ k.clk = Clock.init ∧ k.mem = [] ∧ k.mail = Junction.init.mail
  ∧ k.ports = Junction.init.ports ∧ k.sec.keys = [] ∧ k.sec.sas = [] ∧ k.ctxs = Junction.init.ctxs ∧ k.bundles = [] ∧ k.b0 = JnBank.empty ∧ k.b1 = JnBank.empty ∧ k.shadow = []
  ∧ k.sec.open_ = j.sec.resetMode ∧ k.sec.ownerHash = j.sec.ownerHash ∧ k.sec.floor = j.sec.floor ∧ k.sec.lockPart = j.sec.lockPart ∧ k.sec.lockOpen = j.sec.lockOpen
  ∧ k.sec.fw.slot0 = j.sec.fw.slot0 ∧ k.sec.fw.slot1 = j.sec.fw.slot1 ∧ k.sec.fw.marked = j.sec.fw.marked
  ∧ k.logs.map (fun g => g.recs) = j.logs.map (fun g => g.recs) ∧ k.ownSeq = j.ownSeq ∧ k.dies = j.store.epochs.map DieSlot.init
  ∧ { k.store with writes := j.store.writes, lastMove := j.store.lastMove } = j.store

end Sys2Proof
end

