-- ==== Sys2Proof/Certificates/Slice0/Obligations.lean ====
section
/-! DEFINITION. The statements for the provers, one definition each (R1 to R540): what each group of commands does and leaves alone,
and what holds of every step. The rules a statement cites stand in its docstring. -/

section

open Sys2Proof Sys2Proof.Machine

/-- SESSION_OPEN, SESSION_CLOSE and HEARTBEAT (R449, R455, R456, R474). Where the spec is silent, the clauses follow the model's choice in log 9, 20, 21. -/
def Obligations.SessionCommands : Prop :=
  (∀ (s : Machine.State) m it rest, s.jn.boot.porst = false → m < 16 → m < s.jn.mail.length → (s.jn.mbox m).taken = it :: rest →
    rest.head?.all (fun n => knownOps.contains n.req.opcode) = true → it.req.opcode = 1 → it.req.junk = false → it.req.mailbox = m → s.jn.remote it.req = false →
    s.jn.flush.stopped = false → (s.jn.mbox m).session = none → sessionShape it.req.body = true → rd it.req.body 0 1 ≤ 15 →
    let ctx := rd it.req.body 0 1
    let cred := it.req.body.drop 8
    let now := if s.jn.clk.st = .locked ∨ s.jn.clk.st = .holdover then some s.jn.clk.time else none
    ∃ j r, exec (.sessionOpen m) s = .next { s with jn := j } ∧ r.opcode = 1 ∧ r.tag = it.req.tag ∧ r.seq = it.req.seq ∧ r.body = [] ∧ (j.mbox m).taken = rest
      ∧ (m < 8 → (j.mbox m).rplTail = ((s.jn.mbox m).rplTail + 1) % 65536 ∧ (j.mbox m).replies = (s.jn.mbox m).replies ++ [r])
      ∧ (if s.jn.sec.credOk s.jn.id m ctx it.req.seq now cred = true then
          r.result = 0 ∧ (j.mbox m).session.any (fun ss => ss.ctx == ctx && ss.key == rd cred 0 1 && ss.seq == it.req.seq && ss.stored == some r && !ss.expired && ss.closing.isNone && ss.lastBeat == s.jn.clk.up) = true
          ∧ j.still = ({ s.jn with sec := { s.jn.sec with lastOpen := Tbl.put 0 s.jn.sec.lastOpen m (it.req.seq + 1) } } : Junction).still
        else r.result = 0x13 ∧ (j.mbox m).session = none ∧ j.still = s.jn.still))
  ∧ (∀ (s : Machine.State) m it rest, Served s.jn m it rest 2 false true false → it.req.body = [] →
    ∃ j r, exec (.sessionClose m) s = .next { s with jn := j } ∧ r.opcode = 2 ∧ r.result = 0 ∧ r.tag = it.req.tag ∧ r.seq = it.req.seq ∧ (j.mbox m).taken = rest
      ∧ (m < 8 → (j.mbox m).rplTail = ((s.jn.mbox m).rplTail + 1) % 65536 ∧ (j.mbox m).replies = (s.jn.mbox m).replies ++ [r])
      ∧ (if rest = [] ∧ (s.jn.mbox m).owed = [] then (j.mbox m).session = none else (j.mbox m).session.map (·.closing) = some (some rest.length))
      ∧ j.still = s.jn.still)
  ∧ (∀ (s : Machine.State) m it rest ss, Served s.jn m it rest 3 false true true → it.req.body = [] → (s.jn.mbox m).session = some ss →
    let gap := match ss.beatAt with | some t => max ss.gapMax (s.jn.clk.up - t) | none => ss.gapMax
    let base := if s.jn.sec.fw.resumedAt = 0 then s.jn.clk.up else max s.jn.clk.up (s.jn.sec.fw.resumedAt + 1000000 * uNs)
    ∃ j, exec (.heartbeat m) s = .next { s with jn := j } ∧ Replied s.jn j m it rest 0 (s.jn.heartbeatBody it.req.ctx gap) ∧ Leaves m j s.jn
      ∧ (j.mbox m).session.any (fun x => x.beatAt == some s.jn.clk.up && x.lastBeat == base && x.gapMax == gap && x.ctx == ss.ctx) = true)

/-- NOTICE_READ, ALARM_READ and COUNTER_READ give the oldest entries or the counters and complete (R454, R457, R462). Where the spec is silent, the
clauses follow the model's choice in log 9, 25. -/
def Obligations.AttentionReads : Prop :=
  (∀ (s : Machine.State) m it rest, Served s.jn m it rest 4 false true true → body 8 [(2, 6)] it.req.body = true →
    let n := rd it.req.body 0 2
    (1 ≤ n → n ≤ 64 → CompletesWith (exec (.noticeRead m) s) s m it rest 0
      (le 2 (s.jn.notices.take n).length ++ zeros 6 ++ ((s.jn.notices.take n).map (fun x : Nat × Word => le 2 x.1 ++ zeros 6 ++ le 8 x.2.toNat)).flatten)
      { s.jn with notices := s.jn.notices.drop n })
    ∧ (n = 0 ∨ 64 < n → CompletesWith (exec (.noticeRead m) s) s m it rest 0x16 [] s.jn))
  ∧ (∀ (s : Machine.State) m it rest, Served s.jn m it rest 5 false true true → body 8 [(2, 6)] it.req.body = true →
    let n := rd it.req.body 0 2
    let l := Tbl.get [] s.jn.alarms it.req.ctx
    (1 ≤ n → n ≤ 255 → CompletesWith (exec (.alarmRead m) s) s m it rest 0
      (le 2 (l.take n).length ++ zeros 2 ++ le 4 (sat 32 (Tbl.get 0 s.jn.alarmDrop it.req.ctx)) ++ (l.take n).flatten)
      { s.jn with alarms := Tbl.put [] s.jn.alarms it.req.ctx (l.drop n)
                  cnt := if it.req.ctx = 0 ∧ l.drop n = [] then Tbl.put 0 s.jn.cnt 10 0 else s.jn.cnt })
    ∧ (n = 0 ∨ 255 < n → CompletesWith (exec (.alarmRead m) s) s m it rest 0x16 [] s.jn))
  ∧ (∀ (s : Machine.State) m it rest owner l, Served s.jn m it rest 6 false true true → body 8 [(1, 1), (4, 4)] it.req.body = true →
    s.jn.counters (rd it.req.body 0 1) (rd it.req.body 2 2) = some (owner, l) → s.jn.sees it.req.ctx owner = true →
    CompletesWith (exec (.counterRead m) s) s m it rest 0 (le 4 l.length ++ zeros 4 ++ (l.map (fun v => le 8 v)).flatten) s.jn)

/-- ROLE_CONFIRM, DUTY_TRANSFER, RESET and PORT_MAP complete with their effects (R16, R18, R27, R29, R434, R484). Where the spec is silent, the clauses
follow the model's choice in log 9, 14, 24, 81. -/
def Obligations.RoleCommands : Prop :=
  (∀ (s : Machine.State) m it rest, Served s.jn m it rest 7 true true false → it.req.body.length = 4 →
    rd it.req.body 0 1 = s.jn.role.level → rd it.req.body 1 1 = b2n s.jn.role.twinB →
    (s.jn.confirmed = false → rd it.req.body 2 2 < 2 ^ 14 →
      let k : Junction := { s.jn with confirmed := true, index := rd it.req.body 2 2, twin := { s.jn.twin with duty := !s.jn.role.twinB } }
      let k : Junction := { k with ports := (List.zip (List.range k.ports.length) k.ports).map (fun x : Nat × Port => if k.mayTrain x.1 then x.2.startTrain else x.2) }
      CompletesWith (exec (.roleConfirm m) s) s m it rest 0 [] (if s.jn.boot.service = 1 then k.enterService 2 0 else k))
    ∧ (s.jn.confirmed = true → CompletesWith (exec (.roleConfirm m) s) s m it rest (if rd it.req.body 2 2 = s.jn.index then 0 else 0x20) [] s.jn))
  ∧ (∀ (s : Machine.State) m it rest, Served s.jn m it rest 8 true false false → it.req.body.length = 8 → s.jn.twin.lost = false → s.jn.clk.tick.isSome = true →
    (s.jn.clk.time : Int) < s.jn.clk.tickAt (rd it.req.body 0 8) →
    CompletesWith (exec (.dutyTransfer m) s) s m it rest 0 [] { s.jn with twin := { s.jn.twin with transferAt := some (rd it.req.body 0 8) } })
  ∧ (∀ (s : Machine.State) m it rest, Served s.jn m it rest 9 true true false → body 8 [(1, 7)] it.req.body = true → rd it.req.body 0 1 = 1 →
    CompletesWith (exec (.reset m) s) s m it rest 0 []
      { (if s.jn.flush.running then s.jn else s.jn.sendFlush) with
        flush := { s.jn.flush with running := true, reset := if s.jn.flush.reset = 0 then 1 else s.jn.flush.reset, stopped := true } })
  ∧ (∀ (s : Machine.State) m it rest, Served s.jn m it rest 10 true false false → body 8 [(1, 3)] it.req.body = true →
    let k := rd it.req.body 0 1
    let id := rd it.req.body 4 4
    k ≤ 31 → id < (if s.jn.tray then 2 ^ 17 else 2 ^ 14) → (s.jn.port k).st ≠ .active → (s.jn.tray = false → (s.jn.port (32 + k)).st ≠ .active) →
    let j : Junction := { s.jn with portMap := Tbl.put none s.jn.portMap k (some id) }
    CompletesWith (exec (.portMap m) s) s m it rest 0 []
      (if s.jn.tray = true ∧ (s.jn.die k).watch = true ∧ (s.jn.die k).st = .off then (j.setDie k { s.jn.die k with misses := 0 }).dieTo k .alive else j))

/-- TT_LOAD, PLAN_LOAD, TT_ARM, TT_CANCEL, TT_STATUS and LINK_CONTROL complete with their effects (R56, R57, R58, R59, R228, R232, R220). Where the spec
is silent, the clauses follow the model's choice in log 9, 50, 59, 79, 80. -/
def Obligations.BankCommands : Prop :=
  (∀ (s : Machine.State) m it rest img, Served s.jn m it rest 0x101 true false false → body 16 [(1, 3)] it.req.body = true → rd it.req.body 0 1 ≤ 1 →
    s.jn.buffer 0 (rd it.req.body 8 8) (rd it.req.body 4 4) = .inr img →
    let b := rd it.req.body 0 1
    let k := s.jn.bank b
    k.tt ≠ .active → k.tt ≠ .armed → k.leaving = false →
    match imageCheck s.jn.role s.jn.id img with
    | .inr _ => CompletesWith (exec (.ttLoad m) s) s m it rest 0x21 [] (s.jn.setBank b { k with tt := .invalid, image := none, imageBytes := img })
    | .inl t => CompletesWith (exec (.ttLoad m) s) s m it rest 0 []
        ((List.range 32).foldl (fun j p => j.deriveMaps t p) (s.jn.setBank b { k with tt := .valid, image := some t, imageBytes := img })))
  ∧ (∀ (s : Machine.State) m it rest img, Served s.jn m it rest 0x105 true false false → body 16 [(1, 3)] it.req.body = true → rd it.req.body 0 1 ≤ 1 →
    s.jn.buffer 0 (rd it.req.body 8 8) (rd it.req.body 4 4) = .inr img →
    let b := rd it.req.body 0 1
    let k := s.jn.bank b
    k.plan ≠ .active → k.plan ≠ .armed → k.leaving = false →
    match planCheck s.jn.role.level s.jn.id s.jn.unusedSlots img with
    | .inr _ => CompletesWith (exec (.planLoad m) s) s m it rest 0x26 [] (s.jn.setBank b { k with plan := .invalid, planv := none })
    | .inl p => CompletesWith (exec (.planLoad m) s) s m it rest 0 [] (s.jn.setBank b { k with plan := .valid, planv := some p }))
  ∧ (∀ (s : Machine.State) m it rest t p, Served s.jn m it rest 0x102 true false false → body 16 [(1, 7)] it.req.body = true → rd it.req.body 0 1 ≤ 1 →
    let b := rd it.req.body 0 1
    let n := rd it.req.body 8 8
    let k := s.jn.bank b
    let o := s.jn.bank (1 - b)
    k.tt = .valid ∨ k.tt = .armed → k.leaving = false → k.image = some t → s.jn.ahead n = true → k.planv = some p → k.plan = .valid ∨ k.plan = .armed →
    armCheck s.jn.role (rd k.imageBytes 0x20 4) t p = none → s.jn.armWalks k = true → s.jn.armGroups t p = true →
    (List.range 32).all (fun q => !(s.jn.linesidePort q && (s.jn.port q).st == .active && !(s.jn.linesideReady t q))) = true →
    let j := (if o.tt = .armed then s.jn.setBank (1 - b) { o with tt := .valid, plan := .valid, arm := none } else s.jn).setBank b
      { k with tt := .armed, plan := .armed, arm := some n }
    CompletesWith (exec (.ttArm m) s) s m it rest 0 []
      (if j.tray then (List.range 32).foldl (fun j q => j.writeLs q .own [(0x212, n), (0x210, 2)]) j else j))
  ∧ (∀ (s : Machine.State) m it rest n, Served s.jn m it rest 0x103 true false false → body 8 [(1, 7)] it.req.body = true → rd it.req.body 0 1 ≤ 1 →
    let b := rd it.req.body 0 1
    let k := s.jn.bank b
    k.tt = .armed → k.arm = some n →
    (s.jn.reached n = true → CompletesWith (exec (.ttCancel m) s) s m it rest 2 [] s.jn)
    ∧ (s.jn.reached n = false →
      let j := s.jn.setBank b { k with tt := .valid, plan := .valid, arm := none }
      CompletesWith (exec (.ttCancel m) s) s m it rest 0 [] (if j.tray then (List.range 32).foldl (fun j q => j.writeLs q .own [(0x210, 4)]) j else j)))
  ∧ (∀ (s : Machine.State) m it rest, Served s.jn m it rest 0x104 false false true → it.req.body = [] →
    CompletesWith (exec (.ttStatus m) s) s m it rest 0 (s.jn.b0.status s.jn.clk.tick ++ s.jn.b1.status s.jn.clk.tick) s.jn)
  ∧ (∀ (s : Machine.State) m it rest, Served s.jn m it rest 0x106 true true false → s.jn.settled → body 8 [(2, 6)] it.req.body = true →
    let p := rd it.req.body 0 1
    let a := rd it.req.body 1 1
    let x := s.jn.port p
    p ≤ 67 → s.jn.role.unused p = false → a ≤ 2 →
    CompletesWith (exec (.linkControl m) s) s m it rest 0 [] (s.jn.portMoved p
      (if a = 0 then x.control 3
       else if a = 2 then x.control 2
       else if s.jn.mayTrain p then x.control 1 else { x with st := if x.st = .held then .down else x.st, hold := false })))

/-- CONTEXT_CONFIG, CONTEXT_STATUS, BUNDLE_TRANSFER, BUNDLE_STATUS, WAYBILL_WRITE and REF_TABLE_LOAD complete with their effects (R293, R335, R336, R337,
R344, R374, R459, R462). Where the spec is silent, the clauses follow the model's choice in log 9, 37, 38, 92. -/
def Obligations.ContextAndModelCommands : Prop :=
  (∀ (s : Machine.State) m it rest, Served s.jn m it rest 0x201 true false false → ctxShape it.req.body = true →
    let c := rd it.req.body 0 1
    let r := CtxRec.decode it.req.body
    let x := s.jn.ctx c
    r.bad = none → (r.enable = true → s.jn.overQuota c r = false ∧ s.jn.holdsMore c r = false) → s.jn.ahead r.effective = true →
    (x.st ≠ .draining → x.latched = none → CompletesWith (exec (.contextConfig m) s) s m it rest 0 [] (s.jn.setCtx c { x with next := some r }))
    ∧ (x.st = .draining → r.enable = true → CompletesWith (exec (.contextConfig m) s) s m it rest 1 [] (s.jn.setCtx c { x with latched := some r }))
    ∧ (x.st = .draining → r.enable = false → CompletesWith (exec (.contextConfig m) s) s m it rest 0 [] (s.jn.setCtx c { x with latched := none })))
  ∧ (∀ (s : Machine.State) m it rest, Served s.jn m it rest 0x202 false false true → body 8 [(1, 7)] it.req.body = true →
    let c := rd it.req.body 0 1
    let x := s.jn.ctx c
    c ≤ 15 → s.jn.sees it.req.ctx c = true →
    CompletesWith (exec (.contextStatus m) s) s m it rest 0
      (le 1 x.st.code ++ le 1 (b2n x.latched.isSome) ++ zeros 6 ++ le 8 (((s.jn.activeBundle c).map (·.id)).getD 0) ++ le 8 (((s.jn.stagedBundle c).map (·.id)).getD 0)
        ++ le 8 ((x.latched.map (·.effective)).getD 0)) s.jn)
  ∧ (∀ (s : Machine.State) m it rest c, Served s.jn m it rest 0x203 false false false → Chunk.decode it.req.body = some c →
    let who := if c.chunk = 0 then some (rd c.data 7 1 % 16, rd c.data 6 1) else (s.jn.bundle? c.id).map (fun b => (b.ctx, b.type))
    who.any (fun w => owns it.req.ctx w.1 && (w.2 != 1 || it.req.ctx == 0)) = true → (s.jn.chunk c).2.code ≠ 0x13 →
    CompletesWith (exec (.bundleTransfer m) s) s m it rest (s.jn.chunk c).2.code [] (s.jn.chunk c).1)
  ∧ (∀ (s : Machine.State) m it rest, Served s.jn m it rest 0x204 false false true → it.req.body.length = 8 →
    match s.jn.bundle? (rd it.req.body 0 8) with
    | none => CompletesWith (exec (.bundleStatus m) s) s m it rest 0 (zeros 24) s.jn
    | some b => s.jn.sees it.req.ctx b.ctx = true → CompletesWith (exec (.bundleStatus m) s) s m it rest 0
        (le 1 b.st.code ++ le 1 b.result ++ le 2 b.check ++ le 4 b.offset ++ le 4 b.got ++ zeros 4 ++ le 8 b.effective) s.jn)
  ∧ (∀ (s : Machine.State) m it rest, Served s.jn m it rest 0x205 false false false → wayShape it.req.body = true →
    let e := rd it.req.body 0 4
    let n := rd it.req.body 8 8
    let o : WayOp := { tick := n, ctx := it.req.ctx, entity := e, remove := rd it.req.body 4 1 == 1, entry := it.req.body.drop 16 }
    entityOk e = true → e ≠ 0 → rd it.req.body 4 1 ≤ 1 → (s.jn.recAt it.req.ctx n).wbSize ≠ 0 → s.jn.ahead n = true →
    let then_ := (sortBy WayOp.tick (s.jn.wayOps.filter (fun w => decide (w.tick ≤ n)))).foldl (fun (k : Junction) w => (k.wayApply w).1) s.jn
    CompletesWith (exec (.waybillWrite m) s) s m it rest (if (then_.wayApply o).2 then 0 else 0x33) []
      (if (then_.wayApply o).2 then { s.jn with wayOps := s.jn.wayOps ++ [o] } else s.jn))
  ∧ (∀ (s : Machine.State) m it rest b, Served s.jn m it rest 0x206 false false false → body 16 [(4, 4)] it.req.body = true → s.jn.tray = true →
    s.jn.buffer it.req.ctx (rd it.req.body 8 8) (rd it.req.body 0 4) = .inr b → owns it.req.ctx (rd b 6 1) = true → refTableBad b = none →
    let x := s.jn.refs.getD (rd b 7 1 % 4) ⟨none, none⟩
    x.active.all (fun y => rd y 6 1 == rd b 6 1) = true → x.staged.all (fun y => rd y 6 1 == rd b 6 1) = true → s.jn.ahead (rd b 0x18 8) = true →
    CompletesWith (exec (.refTableLoad m) s) s m it rest 0 [] { s.jn with refs := s.jn.refs.set (rd b 7 1 % 4) { x with staged := some b } })

/-- HISTORY_READ, LOG_CONFIG, LOG_READ, LOG_RELEASE, TEST_PACK_READ and TEST_RESULT complete with their effects (R152, R153, R159, R161, R351, R382, R384,
R477). Where the spec is silent, the clauses follow the model's choice in log 9, 36, 38. -/
def Obligations.HistoryAndLogCommands : Prop :=
  (∀ (s : Machine.State) m it rest, Served s.jn m it rest 0x207 false false false → body 16 [(4, 4)] it.req.body = true →
    let b := it.req.body
    let c := rd b 0 1
    let far := rd b 1 1 == 1
    let h := s.jn.histOf c
    c ≤ 15 → rd b 1 1 ≤ 1 → s.jn.sees it.req.ctx c = true →
    let all := (if far then h.far else h.near.map (·.1)).filter (fun x => decide (rd b 8 8 ≤ rd x 0 8))
    let got := takeBlocks (rd b 2 2) (65568 - 16) all
    got ≠ [] →
    let next := match all.drop got.length with | x :: _ => rd x 0 8 | [] => rd (got.getLastD []) 0 8 + 1
    CompletesWith (exec (.historyRead m) s) s m it rest 0
      (le 2 got.length ++ zeros 6 ++ le 8 next ++ (overlay (got.headD []) 9 (le 1 (b2n (if far then h.lostFar else h.lostNear))) :: got.drop 1).flatten)
      (s.jn.setHist c (if far then { h with lostFar := false } else { h with lostNear := false })))
  ∧ (∀ (s : Machine.State) m it rest, Served s.jn m it rest 0x208 true false false → body 8 [(1, 3)] it.req.body = true →
    let c := rd it.req.body 0 1
    0x20 ≤ c → c ≤ 0x3F → rd it.req.body 4 4 < 2 ^ 15 →
    CompletesWith (exec (.logConfig m) s) s m it rest 0 [] { s.jn with logRateNew := s.jn.logRateNew ++ [(c, rd it.req.body 4 4)] })
  ∧ (∀ (s : Machine.State) m it rest o, Served s.jn m it rest 0x209 false true false → body 16 [(1, 3), (10, 6)] it.req.body = true →
    let l := rd it.req.body 0 1
    s.jn.logOwner l = some o → s.jn.sees it.req.ctx o = true →
    let r := (((s.jn.log l).recs.filter (fun e => atOrAfter (rd e.data 0x14 4) (rd it.req.body 4 4))).take (min (rd it.req.body 8 2) 256)).map (·.data)
    CompletesWith (exec (.logRead m) s) s m it rest 0 (le 2 r.length ++ zeros 6 ++ r.flatten) s.jn)
  ∧ (∀ (s : Machine.State) m it rest o, Served s.jn m it rest 0x20A true true false → body 8 [(1, 3)] it.req.body = true →
    let l := rd it.req.body 0 1
    s.jn.logOwner l = some o →
    let g := s.jn.log l
    let j := s.jn.setLog l { g with recs := g.recs.filter (fun e => !(atOrAfter (rd it.req.body 4 4) (rd e.data 0x14 4))) }
    CompletesWith (exec (.logRelease m) s) s m it rest 0 [] { j with nearFull := j.nearFullOf })
  ∧ (∀ (s : Machine.State) m it rest t, Served s.jn m it rest 0x20B false false false → it.req.ctx = 0 ∨ s.jn.sec.open_ = true → it.req.body.length = 8 →
    (match s.jn.tests.staged with | some x => some x | none => s.jn.tests.active) = some t →
    let off := rd it.req.body 0 4
    let n := rd it.req.body 4 4
    1 ≤ n → n ≤ 65536 → off + n ≤ rd t.section_ 0x18 4 →
    CompletesWith (exec (.testPackRead m) s) s m it rest 0 (sub t.section_ (rd t.section_ 0x14 4 + off) n) s.jn)
  ∧ (∀ (s : Machine.State) m it rest, Served s.jn m it rest 0x20C false false false → body 8 [(1, 7)] it.req.body = true →
    let k := rd it.req.body 0 1
    k ≤ 31 → s.jn.tray = true → s.jn.sees it.req.ctx (s.jn.die k).owner = true →
    let x : Nat × Bytes := (Tbl.get none s.jn.tests.results k).getD (0, zeros 64)
    CompletesWith (exec (.testResult m) s) s m it rest 0
      (le 8 x.1 ++ le 2 (testCount 256 1 x.2) ++ le 2 (testCount 256 2 x.2) ++ le 2 (testCount 256 3 x.2) ++ zeros 2 ++ fit 64 x.2) s.jn)

/-- DIE_CONFIG, DIE_READMIT, MEMBERSHIP_LOAD, GROUP_REARM, MEMBERSHIP_STATUS and TRACE_SIGNAL complete with their effects (R386, R392, R393, R396, R399,
R404, R459, R207). Where the spec is silent, the clauses follow the model's choice in log 9, 39. -/
def Obligations.DieAndMembershipCommands : Prop :=
  (∀ (s : Machine.State) m it rest, Served s.jn m it rest 0x301 true false false → it.req.body.length = 16 → s.jn.tray = true →
    let b := it.req.body
    let k := rd b 0 1
    k ≤ 31 → rd b 1 1 ≤ 1 → 2 ≤ rd b 2 1 → rd b 2 1 ≤ 16 → rd b 3 1 ≤ 15 → (rd b 1 1 = 1 → (s.jn.die k).st ≠ .dead) → s.jn.ahead (rd b 8 8) = true →
    CompletesWith (exec (.dieConfig m) s) s m it rest 0 []
      (s.jn.setDie k { s.jn.die k with next := some { watch := rd b 1 1 == 1, deadN := rd b 2 1, owner := rd b 3 1, epoch := rd b 4 4, tick := rd b 8 8 } }))
  ∧ (∀ (s : Machine.State) m it rest, Served s.jn m it rest 0x302 true false false → body 16 [(1, 7)] it.req.body = true → s.jn.tray = true →
    let k := rd it.req.body 0 1
    let d := s.jn.die k
    k ≤ 31 → d.st = .dead → d.heard = true → s.jn.ahead (rd it.req.body 8 8) = true →
    CompletesWith (exec (.dieReadmit m) s) s m it rest 0 [] ((s.jn.setDie k { d with readmit := some (rd it.req.body 8 8) }).writeLs k .own [(0x14, d.epoch)]))
  ∧ (∀ (s : Machine.State) m it rest rearm, Served s.jn m it rest (if rearm then 0x304 else 0x303) false false false → it.req.body.length = 64 →
    let e := MemEntry.decode it.req.body
    let k := s.jn.slot e.slot
    let x := if rearm = true then exec (.groupRearm m) s else exec (.membershipLoad m) s
    owns it.req.ctx (fld e.group 24 4) = true → s.jn.entryBad it.req.body = none → s.jn.maskDead e = false → (rearm = true → after e.epoch k.entry.epoch = true) →
    s.jn.ahead e.effective = true →
    (k.st ≠ .pending → k.latched = none → CompletesWith x s m it rest 0 [] ((s.jn.setSlot e.slot { k with next := some (e, rearm) }).writeMembers e))
    ∧ (k.st = .pending → e.valid = true → e.abort = true → CompletesWith x s m it rest 1 [] (s.jn.setSlot e.slot { k with latched := some (e, rearm) }))
    ∧ (k.st = .pending → e.valid = false ∨ e.abort = false → CompletesWith x s m it rest 0 [] (s.jn.setSlot e.slot { k with latched := none })))
  ∧ (∀ (s : Machine.State) m it rest, Served s.jn m it rest 0x305 false false true → body 8 [(1, 7)] it.req.body = true →
    let k := s.jn.slot (rd it.req.body 0 1)
    s.jn.sees it.req.ctx (fld k.entry.group 24 4) = true →
    CompletesWith (exec (.membershipStatus m) s) s m it rest 0
      (k.entry.bytes ++ le 1 k.st.code ++ le 1 (b2n k.latched.isSome) ++ le 1 k.latchResult ++ zeros 1 ++ le 4 k.notWritten) s.jn)
  ∧ (∀ (s : Machine.State) m it rest, Served s.jn m it rest 0x306 false false false → body 8 [(1, 7)] it.req.body = true → s.jn.tray = true →
    let k := rd it.req.body 0 1
    k ≤ 31 → owns it.req.ctx (s.jn.die k).owner = true → (s.jn.port k).st = .active →
    CompletesWith (exec (.traceSignal m) s) s m it rest 0 [] (s.jn.setPort k ((s.jn.port k).signal 6 0)))

/-- TIME_CONFIG, TIMESTAMP_READ, TIMING_IO_CONFIG and FLEET_STOP complete with their effects (R142, R164, R166, R167, R176, R177, R183, R192, R193, R194,
R462). Where the spec is silent, the clauses follow the model's choice in log 9, 33, 46, 47, 89. -/
def Obligations.TimeCommands : Prop :=
  (∀ (s : Machine.State) m it rest t, Served s.jn m it rest 0x401 true true false → timeShape it.req.body = true → rd it.req.body 0 1 = 0 →
    s.jn.role.level = 3 → s.jn.role.twinB = false → unpackTime (rd it.req.body 8 12) = some t → t % uNs = 0 → t ≤ s.jn.clk.time →
    (s.jn.clk.epoch = none → s.jn.fleetEpoch = none ∨ s.jn.fleetEpoch = some t →
      let c : Clock := { s.jn.clk with epoch := some t, e := (t / uNs : Nat) }
      CompletesWith (exec (.timeConfig m) s) s m it rest 0 []
        { s.jn with clk := if c.tick = none ∧ c.steppedAt.isSome = true then { c with tick := some (c.tickOf c.time) } else c })
    ∧ (∀ e, s.jn.clk.epoch = none → s.jn.fleetEpoch = some e → e ≠ t → CompletesWith (exec (.timeConfig m) s) s m it rest 0x19 [] s.jn)
    ∧ (∀ e, s.jn.clk.epoch = some e → CompletesWith (exec (.timeConfig m) s) s m it rest (if e = t then 0 else 0x19) [] s.jn))
  ∧ (∀ (s : Machine.State) m it rest t, Served s.jn m it rest 0x401 true true false → timeShape it.req.body = true → rd it.req.body 0 1 = 1 →
    let b := it.req.body
    let r := rd b 8 1
    s.jn.role.level = 3 → r ≤ 2 → rd b 9 1 ≤ 127 → unpackTime (rd b 16 12) = some t →
    let same := r == 0 && s.jn.ref.ref == some 0 && rd b 9 1 == s.jn.ref.domain
    let ref : JnRef := { s.jn.ref with ref := some r, domain := rd b 9 1, ppsDelay := signed 32 (rd b 12 4), parked := false, stepping := false,
                                       ppsNext := if r = 1 then some (capture t) else none, ppsLast := none, newGm := same && s.jn.ref.newGm, sync := none, ms := none, delays := [],
                                       masters := if same then s.jn.ref.masters else [], gm := if same then s.jn.ref.gm else none }
    let j : Junction := { s.jn with ref := ref }
    CompletesWith (exec (.timeConfig m) s) s m it rest 0 [] (if r = 2 then j.setTime t else j))
  ∧ (∀ (s : Machine.State) m it rest, Served s.jn m it rest 0x401 true true false → timeShape it.req.body = true → rd it.req.body 0 1 = 2 →
    let b := it.req.body
    let v := Servo.decode b
    rd b 8 1 ≤ 1 → v.bad (rd b 8 1 == 1) = none →
    CompletesWith (exec (.timeConfig m) s) s m it rest 0 [] (if rd b 8 1 = 1 then { s.jn with ext := v } else { s.jn with clk := { s.jn.clk with servo := v } }))
  ∧ (∀ (s : Machine.State) m it rest, Served s.jn m it rest 0x401 true true false → timeShape it.req.body = true → rd it.req.body 0 1 = 3 →
    let b := it.req.body
    let r : JnRef := { s.jn.ref with utcOffset := BitVec.ofNat 16 (rd b 8 2), leap := BitVec.ofNat 2 (rd b 10 1), leapAt := rd b 12 8 }
    let gm := s.jn.ref.gm.bind (fun g => s.jn.ref.masters.find? (fun m => m.identity == g && m.utcValid))
    s.jn.role.level = 3 → rd b 10 1 ≤ 3 →
    (1 < s.jn.sourceCode s.jn.clk.source → CompletesWith (exec (.timeConfig m) s) s m it rest 0 [] { s.jn with ref := r })
    ∧ (s.jn.sourceCode s.jn.clk.source ≤ 1 → gm = none → CompletesWith (exec (.timeConfig m) s) s m it rest 0 []
        { s.jn with ref := r, clk := { s.jn.clk with utcOffset := r.utcOffset, leap := r.leap, leapAt := r.leapAt } })
    ∧ (∀ g, s.jn.sourceCode s.jn.clk.source ≤ 1 → gm = some g → CompletesWith (exec (.timeConfig m) s) s m it rest 0 []
        { s.jn with ref := r, clk := { s.jn.clk with utcOffset := g.utcOffset, leap := (g.leap s.jn.clk.time).1, leapAt := (g.leap s.jn.clk.time).2 } }))
  ∧ (∀ (s : Machine.State) m it rest, Served s.jn m it rest 0x401 true true false → timeShape it.req.body = true → rd it.req.body 0 1 = 4 →
    let i := rd it.req.body 9 1
    let v := signed 32 (rd it.req.body 12 4)
    (rd it.req.body 8 1 = 0 → i ≤ 67 → CompletesWith (exec (.timeConfig m) s) s m it rest 0 []
      (s.jn.setPort i { s.jn.port i with time := { (s.jn.port i).time with asym := v } }))
    ∧ (∀ x, rd it.req.body 8 1 = 1 → s.jn.tsIn[i]? = some x → CompletesWith (exec (.timeConfig m) s) s m it rest 0 [] { s.jn with tsIn := s.jn.tsIn.set i { x with delay := v } })
    ∧ (∀ x, rd it.req.body 8 1 = 2 → s.jn.trig[i]? = some x → CompletesWith (exec (.timeConfig m) s) s m it rest 0 [] { s.jn with trig := s.jn.trig.set i { x with delay := v } })
    ∧ (rd it.req.body 8 1 = 3 → i = 0 → CompletesWith (exec (.timeConfig m) s) s m it rest 0 [] { s.jn with ref := { s.jn.ref with ppsDelay := v } })
    ∧ (rd it.req.body 8 1 = 4 → i = 0 → CompletesWith (exec (.timeConfig m) s) s m it rest 0 [] { s.jn with pps := { s.jn.pps with delay := v } }))
  ∧ (∀ (s : Machine.State) m it rest x, Served s.jn m it rest 0x402 false true false → body 8 [(1, 1), (4, 4)] it.req.body = true →
    let i := rd it.req.body 0 1
    let n := rd it.req.body 2 2
    s.jn.tsIn[i]? = some x → 1 ≤ n → n ≤ 64 → s.jn.sees it.req.ctx x.owner = true →
    CompletesWith (exec (.timestampRead m) s) s m it rest 0 (le 2 (x.queue.take n).length ++ zeros 6 ++ (x.queue.take n).flatten)
      { s.jn with tsIn := s.jn.tsIn.set i { x with queue := x.queue.drop n } })
  ∧ (∀ (s : Machine.State) m it rest, Served s.jn m it rest 0x403 true false false → ioShape it.req.body = true →
    let b := it.req.body
    let i := rd b 1 1
    (∀ x, rd b 0 1 = 0 → s.jn.tsIn[i]? = some x → CompletesWith (exec (.timingIoConfig m) s) s m it rest 0 []
      { s.jn with tsIn := s.jn.tsIn.set i { x with edges := rd b 2 2 % 4, owner := fld (rd b 2 2) 4 4 } })
    ∧ (∀ x t, rd b 0 1 = 1 → s.jn.trig[i]? = some x → rd b 2 2 % 4 ≠ 3 → (rd b 2 2 % 4 ≠ 0 → 100 ≤ rd b 24 4 ∧ 10 ≤ rd b 28 4 ∧ rd b 28 4 + 10 ≤ rd b 24 4) →
      unpackTime (rd b 8 12) = some t →
      let c : TrigCfg := { mode := rd b 2 2 % 4, inverted := bit (rd b 2 2) 2, squelch := bit (rd b 2 2) 3, start := capture t, period := rd b 24 4, width := rd b 28 4 }
      CompletesWith (exec (.timingIoConfig m) s) s m it rest (if x.high.isSome = true ∧ c.mode ≠ 0 then 1 else 0) []
        { s.jn with trig := s.jn.trig.set i (x.configure c s.jn.clk.time).1 })
    ∧ (rd b 0 1 = 2 → i = 0 → 1000 ≤ rd b 28 4 → rd b 28 4 ≤ 500000000 →
      CompletesWith (exec (.timingIoConfig m) s) s m it rest 0 [] { s.jn with pps := { s.jn.pps with width := rd b 28 4 } }))
  ∧ (∀ (s : Machine.State) m it rest, Served s.jn m it rest 0x404 true true false → body 16 [(1, 3)] it.req.body = true →
    let op := rd it.req.body 0 1
    let t := rd it.req.body 4 12
    op ≤ 3 → (∃ u, unpackTime t = some u ∧ (op < 2 → s.jn.clk.time + 100000 * uNs ≤ u)) →
    CompletesWith (exec (.fleetStop m) s) s m it rest 0 (le 4 ((s.jn.relayStop it.req).fleetStop op t).2) ((s.jn.relayStop it.req).fleetStop op t).1)

/-- LS_READ, LS_WRITE, EXPORT_CONFIG, BUFFER_WRITE and BUFFER_READ complete with their effects (R148, R353, R425, R426, R427, R437, R460, R462, R519).
Where the spec is silent, the clauses follow the model's choice in log 7, 9, 26, 28. -/
def Obligations.RegisterAndBufferCommands : Prop :=
  (∀ (s : Machine.State) m it rest, Served s.jn m it rest 0x501 false false false → body 8 [(1, 1)] it.req.body = true → s.jn.tray = true →
    let p := rd it.req.body 0 1
    let n := rd it.req.body 2 2
    let a := rd it.req.body 4 4
    p ≤ 31 → 1 ≤ n → n ≤ 128 → a + n ≤ 65536 → s.jn.sees it.req.ctx (s.jn.die p).owner = true → (s.jn.port p).st = .active →
    DefersTo (exec (.lsRead m) s) s m it rest (.lineside p s.jn.jobSeq)
      (({ s.jn with jobSeq := s.jn.jobSeq + 1 } : Junction).request p (.mailbox s.jn.jobSeq) ((List.range n).map (fun i => (⟨1, a + i, 0, 0⟩ : CfgOp)))))
  ∧ (∀ (s : Machine.State) m it rest, Served s.jn m it rest 0x502 false false false → body 24 [(1, 3)] it.req.body = true → s.jn.tray = true →
    let p := rd it.req.body 0 1
    let a := rd it.req.body 4 4
    let v := rd it.req.body 8 8
    let mask := rd it.req.body 16 8
    p ≤ 31 → a < 65536 → it.req.ctx = 0 ∨ (it.req.ctx = (s.jn.die p).owner ∧ ownerMay a (Nat.land v mask) = true) → (s.jn.port p).st = .active →
    let j := if a = 0x12 then s.jn.secEvent 7 ((Tbl.get none s.jn.portMap p).getD 0) else s.jn
    let j := ({ j with jobSeq := s.jn.jobSeq + 1 } : Junction).request p (.mailbox s.jn.jobSeq) [(⟨3, a, v, mask⟩ : CfgOp)]
    DefersTo (exec (.lsWrite m) s) s m it rest (.lineside p s.jn.jobSeq) (if a = 0x200 ∨ a = 0x210 then j.request p .own bankReads else j))
  ∧ (∀ (s : Machine.State) m it rest, Served s.jn m it rest 0x601 false false false → exportShape it.req.body = true →
    let b := it.req.body
    let c := rd b 4 1
    (rd b 0 1 = 0 → c ≤ 15 → owns it.req.ctx c = true → rd b 5 1 ≤ 1 → rd b 6 1 ≤ 1 →
      CompletesWith (exec (.exportConfig m) s) s m it rest 0 [] { s.jn with exp := { s.jn.exp with dests := Tbl.put none s.jn.exp.dests (2 * c + rd b 5 1) (some { port := rd b 6 1, ipv6 := bit (rd b 7 1) 0, vlan := if bit (rd b 7 1) 1 then some (rd b 8 2) else none, udp := rd b 10 2, mac := sub b 12 6, ip := sub b 20 16 }) } })
    ∧ (rd b 0 1 = 1 → c ≤ 15 → owns it.req.ctx c = true → 1 ≤ rd b 5 1 → rd b 5 1 ≤ 7 →
      CompletesWith (exec (.exportConfig m) s) s m it rest 0 []
        { s.jn with exp := s.jn.exp.setStream c (rd b 5 1) { s.jn.exp.stream c (rd b 5 1) with enable := bit (rd b 6 1) 0, compress := bit (rd b 6 1) 1 } })
    ∧ (rd b 0 1 = 2 → c ≤ 15 → owns it.req.ctx c = true → rd b 6 2 < 8192 →
      CompletesWith (exec (.exportConfig m) s) s m it rest 0 []
        { s.jn with exp := { s.jn.exp with fields := Tbl.put 0 s.jn.exp.fields (65536 * c + rd b 6 2) (if bit (rd b 8 1) 7 then 0 else rd b 8 1 % 16 + 1) } })
    ∧ (rd b 0 1 = 3 → it.req.ctx = 0 → c ≤ 1 → 1 ≤ rd b 5 1 → rd b 5 1 ≤ 7 → policerBad (b.drop 8) = none →
      let k := rd b 5 1
      let cfg := PolicerCfg.decode (b.drop 8)
      let e := s.jn.exp.eth c
      (List.range 7).foldl (fun a i => a + (if i + 1 = k then cfg.cir else (e.pol.getD i (Policer.init (i + 1))).cfg.cir)) 0 ≤ 47000000000 →
      CompletesWith (exec (.exportConfig m) s) s m it rest 0 []
        { s.jn with exp := s.jn.exp.setEth c { e with pol := e.pol.set (k - 1) ((e.pol.getD (k - 1) (Policer.init k)).configure cfg) } }))
  ∧ (∀ (s : Machine.State) m it rest, Served s.jn m it rest 0x602 false false false → 9 ≤ it.req.body.length → it.req.body.length ≤ 65544 →
    let a := rd it.req.body 0 8
    let d := it.req.body.drop 8
    bufferOk it.req.ctx a d.length = true →
    CompletesWith (exec (.bufferWrite m) s) s m it rest 0 [] (s.jn.write a d)
    ∧ (Memory.wf s.jn.mem = true → ∀ x, (s.jn.write a d).byte x = if a ≤ x ∧ x < a + d.length then d.getD (x - a) 0 else s.jn.byte x))
  ∧ (∀ (s : Machine.State) m it rest, Served s.jn m it rest 0x603 false false false → body 16 [(12, 4)] it.req.body = true →
    let a := rd it.req.body 0 8
    let n := rd it.req.body 8 4
    1 ≤ n → n ≤ 65536 → bufferOk it.req.ctx a n = true →
    (s.jn.poisonAt a n = none → CompletesWith (exec (.bufferRead m) s) s m it rest 0 ((List.range n).map (fun i => s.jn.byte (a + i))) s.jn)
    ∧ (s.jn.poisonAt a n ≠ none → CompletesWith (exec (.bufferRead m) s) s m it rest 0xF0 [] s.jn))

/-- BALLAST, CRC_ENGINE, CRC_DATA, CRC_VALUE_READ and CRC_VALUE_WRITE complete with their effects (R405, R406, R407, R411, R414, R416, R420, R421, R422,
R461). Where the spec is silent, the clauses follow the model's choice in log 9, 28, 40, 48, 94. -/
def Obligations.BallastAndCrcCommands : Prop :=
  (∀ (s : Machine.State) m it rest, Served s.jn m it rest 0x604 false false false → it.req.body.length = 32 →
    let b := BallastJob.decode it.req.body
    bit s.jn.boot.ballastFailed.toNat (b2n b.decompress) = false →
    (b.refusal ≠ 0 → CompletesWith (exec (.ballast m) s) s m it rest 0 (le 4 b.tag ++ [2, BitVec.ofNat 8 b.refusal] ++ zeros 26) s.jn)
    ∧ (b.refusal = 0 → owns it.req.ctx b.ctx = true → bufferOk it.req.ctx b.inAddr b.inLen = true → bufferOk it.req.ctx b.outAddr b.outCap = true →
      DefersTo (exec (.ballast m) s) s m it rest (.ballast (b2n b.decompress) s.jn.jobSeq)
        { s.jn with jobSeq := s.jn.jobSeq + 1, ballast := { s.jn.ballast with software := s.jn.ballast.software ++ [{ b with id := s.jn.jobSeq }] } }))
  ∧ (∀ (s : Machine.State) m it rest, Served s.jn m it rest 0x605 false false false → body 40 [(2, 2)] it.req.body = true → rd it.req.body 4 4 < 2 ^ 20 →
    let b := it.req.body
    let i := rd b 0 1
    let e := s.jn.engine i
    let c := { (((CrcCfg.reset.withReg 0 (rd b 4 4)).withReg 1 (rd b 8 8)).withReg 2 (rd b 16 8)).withReg 3 (rd b 24 8) with port := rd b 1 1 }
    i ≤ 7 → bit s.jn.boot.crcFailed.toNat i = false → e.heldFrom it.req.ctx = false →
    (c.bind = 1 ∨ c.bind = 2 → it.req.ctx = 0 ∧ c.port ≤ 67 ∧ s.jn.role.unused c.port = false) →
    (c.enable = true → 8 ≤ c.width ∧ c.width ≤ 64 ∧ c.poly % 2 = 1 ∧ c.poly < 2 ^ c.width ∧ c.init < 2 ^ c.width ∧ c.xorOut < 2 ^ c.width ∧ c.vc ≠ 0
      ∧ crcConflict s.jn.crc i c = false) →
    e.busyAt e.act.port (s.jn.port e.act.port) = false → e.jobUnit = none →
    CompletesWith (exec (.crcEngine m) s) s m it rest 0 []
      (s.jn.setEngine i { e with cfg := c, act := c, pending := false, value := rd b 32 8 % 2 ^ c.width, owner := if c.enable then some it.req.ctx else none }))
  ∧ (∀ (s : Machine.State) m it rest d, Served s.jn m it rest 0x606 false false false → body 16 [(1, 3)] it.req.body = true →
    let i := rd it.req.body 0 1
    let e := (s.jn.engine i).settle (s.jn.crcBusy i)
    i ≤ 7 → e.owner = some it.req.ctx → e.act.enable = true → e.act.bind = 0 → s.jn.buffer it.req.ctx (rd it.req.body 8 8) (rd it.req.body 4 4) = .inr d →
    CompletesWith (exec (.crcData m) s) s m it rest 0 (le 8 (crcResult e.act.params (crcFeed e.act.params e.value d)))
      (s.jn.setEngine i { e with value := crcFeed e.act.params e.value d }))
  ∧ (∀ (s : Machine.State) m it rest, Served s.jn m it rest 0x607 false false false → body 8 [(1, 7)] it.req.body = true →
    let e := s.jn.engine (rd it.req.body 0 1)
    rd it.req.body 0 1 ≤ 7 → e.heldFrom it.req.ctx = false →
    CompletesWith (exec (.crcValueRead m) s) s m it rest 0 (le 8 e.value ++ le 8 (crcResult e.act.params e.value)) s.jn)
  ∧ (∀ (s : Machine.State) m it rest, Served s.jn m it rest 0x608 false false false → body 16 [(1, 7)] it.req.body = true →
    let i := rd it.req.body 0 1
    let e := s.jn.engine i
    i ≤ 7 → e.heldFrom it.req.ctx = false →
    CompletesWith (exec (.crcValueWrite m) s) s m it rest 0 [] (s.jn.setEngine i { e with value := rd it.req.body 8 8 % 2 ^ e.act.width }))

/-- The security commands complete with their effects (R466, R468, R469, R473, R475, R476, R481, R482). Where the spec is silent, the clauses follow the
model's choice in log 9, 10, 49, 91. -/
def Obligations.SecurityCommands : Prop :=
  (∀ (s : Machine.State) m it rest, Served s.jn m it rest 0x701 false true false → it.req.body = [] →
    CompletesWith (exec (.deviceId m) s) s m it rest 0
      (le 8 Config.serial.toNat ++ fit 97 (Config.p384Public deviceKey) ++ zeros 3 ++ le 4 s.jn.sec.fuseState ++ le 4 Config.vendorCert.length ++ Config.vendorCert) s.jn)
  ∧ (∀ (s : Machine.State) m it rest ss, Served s.jn m it rest 0x702 true true false → body 8 [(4, 4)] it.req.body = true → (s.jn.mbox m).session = some ss →
    ss.key = 0xFF → rd it.req.body 0 4 = 0x4B434F4C →
    (allZero s.jn.sec.ownerHash = true → CompletesWith (exec (.ownerProvision m) s) s m it rest 0 [] (({ s.jn with sec := { s.jn.sec with ownerHash := ss.owner } } : Junction).secEvent 9 0))
    ∧ (allZero s.jn.sec.ownerHash = false → CompletesWith (exec (.ownerProvision m) s) s m it rest 0x19 [] s.jn))
  ∧ (∀ (s : Machine.State) m it rest, Served s.jn m it rest 0x703 true true false → Cmd.keyInstall.shape it.req.body = true →
    let b := it.req.body
    let i := rd b 0 1
    i ≤ 63 → rd b 1 1 ≤ 1 → rd b 2 1 ≤ 15 → Tbl.get none s.jn.sec.keys i = none →
    let k : KeySlot := { usage := rd b 1 1, ctx := rd b 2 1, pq := bit (rd b 3 1) 0, requirePq := bit (rd b 3 1) 1, pub := sub b 4 97, pqPub := b.drop 104 }
    CompletesWith (exec (.keyInstall m) s) s m it rest 0 [] (({ s.jn with sec := { s.jn.sec with keys := Tbl.put none s.jn.sec.keys i (some k) } } : Junction).secEvent 8 i))
  ∧ (∀ (s : Machine.State) m it rest ss k, Served s.jn m it rest 0x704 true true false → body 8 [(1, 7)] it.req.body = true → (s.jn.mbox m).session = some ss →
    let i := rd it.req.body 0 1
    i ≤ 63 → Tbl.get none s.jn.sec.keys i = some k →
    let gone := ({ s.jn with sec := { s.jn.sec with keys := Tbl.put none s.jn.sec.keys i none } } : Junction).secEvent 8 i
    (ss.key ≠ i → CompletesWith (exec (.keyRemove m) s) s m it rest 0 [] gone)
    ∧ ∃ j, exec (.keyRemove m) s = .next { s with jn := j } ∧ Leaves m j gone ∧ (j.mbox m).taken = rest
      ∧ (ss.key = i → (j.mbox m).session.map (fun y => y.closing) = if rest = [] ∧ (s.jn.mbox m).owed = [] then none else some (some rest.length))
      ∧ ∀ n x, n ≠ m → s.jn.mail[n]? = some x →
        (x.session.all (fun y => decide (y.key ≠ i)) = true → j.mail[n]? = some x)
        ∧ (x.session.any (fun y => decide (y.key = i)) = true → j.mail[n]? = some x.close.settleSession))
  ∧ (∀ (s : Machine.State) m it rest, Served s.jn m it rest 0x705 true true false → it.req.body = [] →
    let l := (List.range 64).filterMap (fun i => (Tbl.get none s.jn.sec.keys i).map (fun (k : KeySlot) =>
      le 1 i ++ le 1 k.usage ++ le 1 k.ctx ++ le 1 (b2n k.pq + put 1 (b2n k.requirePq)) ++ zeros 4 ++ fit 48 (Config.sha384 k.pub)))
    CompletesWith (exec (.keyList m) s) s m it rest 0 (le 2 l.length ++ zeros 6 ++ l.flatten) s.jn)
  ∧ (∀ (s : Machine.State) m it rest, Served s.jn m it rest 0x706 true true false → body 168 [(125, 3)] it.req.body = true → rd it.req.body 3 1 < 2 →
    let b := it.req.body
    let p := rd b 0 1
    let an := rd b 1 1
    let dir := rd b 2 1
    let act := bit (rd b 3 1) 0
    let same := fun (a : Sa) => a.port == p && a.an == an && a.dir == dir
    p ≤ 1 → an ≤ 3 → dir ≤ 1 → (dir = 1 → s.jn.sec.sas.any (fun a => same a && a.active) = false) → s.jn.sec.zeroised = false →
    match unwrapKey "DMSK" (le 1 p ++ le 1 an ++ le 1 dir ++ zeros 5) s.jn.id (sub b 28 97) (sub b 128 40) with
    | none => CompletesWith (exec (.macsecSa m) s) s m it rest 0x16 [] s.jn
    | some k =>
    let sa : Sa := { port := p, an := an, dir := dir, active := act, ssci := rd b 4 4, salt := sub b 8 12, nextPn := rd b 20 8, sak := k, lowPn := rd b 20 8,
                     stopped := decide (pnEnd ≤ rd b 20 8) }
    let kept := (s.jn.sec.sas.filter (fun a => !(same a))).map (fun (a : Sa) => if dir = 1 && act && a.port = p && a.dir = 1 then { a with active := false } else a)
    let j : Junction := { s.jn with sec := { s.jn.sec with sas := kept ++ [sa] } }
    CompletesWith (exec (.macsecSa m) s) s m it rest 0 [] (if s.jn.sec.sas.any same then j.secEvent 10 p else j))
  ∧ (∀ (s : Machine.State) m it rest, Served s.jn m it rest 0x707 true true false → body 16 [(1, 7)] it.req.body = true →
    let o := rd it.req.body 0 1
    let n := rd it.req.body 8 8
    o ≤ 1 → (o = 1 → s.jn.sec.lockPart = false) → (o = 0 → s.jn.sec.lockOpen = true → s.jn.sec.lockPart = true) → s.jn.ahead n = true →
    CompletesWith (exec (.modeSet m) s) s m it rest 0 [] { s.jn with sec := { s.jn.sec with modeAt := some (n, o == 1) } })
  ∧ (∀ (s : Machine.State) m it rest, Served s.jn m it rest 0x708 true true false → body 8 [(1, 3)] it.req.body = true →
    let w := rd it.req.body 0 1
    w ≤ 1 → rd it.req.body 4 4 = 0x4B434F4C →
    let sec : Sec := { s.jn.sec with lockPart := s.jn.sec.lockPart || w == 0, lockOpen := s.jn.sec.lockOpen || w == 1 }
    let keep := fun (x : Nat × Bool) => if sec.lockPart then !x.2 else x.2
    CompletesWith (exec (.fuseLock m) s) s m it rest 0 [] (({ s.jn with sec := { sec with modeAt := sec.modeAt.filter keep } } : Junction).secEvent 9 (w + 1)))
  ∧ (∀ (s : Machine.State) m it rest, Served s.jn m it rest 0x709 true true false → body 8 [(1, 3)] it.req.body = true →
    let n := rd it.req.body 0 1
    let f := s.jn.sec.fw
    rd it.req.body 4 4 = 0x4B434F4C →
    (n ≤ s.jn.sec.floor → CompletesWith (exec (.rollbackAdvance m) s) s m it rest 0 [] s.jn)
    ∧ (s.jn.sec.floor < n → n ≤ (if f.rom then 0 else fwSvn (f.slot f.running)) → (f.fallback = true → n ≤ fwSvn (f.slot f.staging)) →
      CompletesWith (exec (.rollbackAdvance m) s) s m it rest 0 [] (({ s.jn with sec := { s.jn.sec with floor := n } } : Junction).secEvent 9 n)))
  ∧ (∀ (s : Machine.State) m it rest, Served s.jn m it rest 0x70A true true false → body 8 [(2, 6)] it.req.body = true →
    let n := rd it.req.body 0 2
    let l := s.jn.sec.events.take n
    1 ≤ n → n ≤ 64 →
    CompletesWith (exec (.secEventRead m) s) s m it rest 0
      (le 2 l.length ++ zeros 2 ++ le 4 (sat 32 s.jn.sec.evDropped) ++ (l.map (fun e => le 2 e.code ++ zeros 2 ++ le 4 e.detail ++ le 8 e.tick)).flatten)
      { s.jn with sec := { s.jn.sec with events := s.jn.sec.events.drop n } })

/-- FW_LOAD, FW_STATUS and FW_ACTIVATE complete with their effects (R462, R463, R464). Where the spec is silent, the clauses follow the model's choice in
log 9, 35. -/
def Obligations.FirmwareCommands : Prop :=
  (∀ (s : Machine.State) m it rest, Served s.jn m it rest 0x801 true true false → 9 ≤ it.req.body.length → it.req.body.length ≤ 65544 →
    let off := rd it.req.body 0 4
    let tot := rd it.req.body 4 4
    let d := it.req.body.drop 8
    let f := s.jn.sec.fw
    f.st ≠ .armed → tot ≤ 33554432 → off + d.length ≤ tot → (off ≠ 0 → off = f.got ∧ f.st = .loading ∧ tot = f.total) →
    CompletesWith (exec (.fwLoad m) s) s m it rest 0 []
      { s.jn with sec := { s.jn.sec with fw := { f.setSlot f.staging ((if off = 0 then [] else f.slot f.staging) ++ d) with
        got := off + d.length, total := tot, st := if off + d.length = tot then .verifying else .loading, result := 0, fallback := false } } })
  ∧ (∀ (s : Machine.State) m it rest, Served s.jn m it rest 0x802 false true true → it.req.ctx = 0 ∨ s.jn.sec.open_ = true → it.req.body = [] →
    let f := s.jn.sec.fw
    CompletesWith (exec (.fwStatus m) s) s m it rest 0
      (le 4 f.version ++ le 4 (if f.st = .none_ then 0 else fwVersion (f.slot f.staging)) ++ le 1 f.st.code ++ le 1 f.result ++ zeros 2 ++ le 8 (f.at_.getD 0) ++ le 1 f.last ++ zeros 7) s.jn)
  ∧ (∀ (s : Machine.State) m it rest, Served s.jn m it rest 0x803 true true false → it.req.body.length = 8 →
    let f := s.jn.sec.fw
    (f.st ≠ .verified → f.st ≠ .armed → CompletesWith (exec (.fwActivate m) s) s m it rest 0x40 [] s.jn)
    ∧ (f.st = .verified ∨ f.st = .armed → s.jn.ahead (rd it.req.body 0 8) = true →
      CompletesWith (exec (.fwActivate m) s) s m it rest 0 [] { s.jn with sec := { s.jn.sec with fw := { f with st := .armed, at_ := some (rd it.req.body 0 8) } } })
    ∧ (f.st = .verified ∨ f.st = .armed → s.jn.ahead (rd it.req.body 0 8) = false → CompletesWith (exec (.fwActivate m) s) s m it rest 0x1B [] s.jn))

/-- What a mailbox request is refused with, retransmissions and relayed requests (R16, R445, R448, R449, R450, R451, R455, R458, R460, R461, R481, R492).
Where the spec is silent, the clauses follow the model's choice in log 9, 19, 22. -/
def Obligations.RequestRefusals : Prop :=
  (∀ (s : Machine.State) m it rest (x : (Nat → Instr) × Nat),
    x ∈ ([(.roleConfirm, 7), (.dutyTransfer, 8), (.reset, 9), (.portMap, 10), (.ttLoad, 0x101), (.ttArm, 0x102), (.ttCancel, 0x103), (.planLoad, 0x105), (.linkControl, 0x106),
      (.contextConfig, 0x201), (.logConfig, 0x208), (.logRelease, 0x20A), (.dieConfig, 0x301), (.dieReadmit, 0x302), (.timeConfig, 0x401), (.timingIoConfig, 0x403), (.fleetStop, 0x404),
      (.fwLoad, 0x801), (.fwActivate, 0x803), (.ownerProvision, 0x702), (.keyInstall, 0x703), (.keyRemove, 0x704), (.keyList, 0x705), (.macsecSa, 0x706), (.modeSet, 0x707),
      (.fuseLock, 0x708), (.rollbackAdvance, 0x709), (.secEventRead, 0x70A)] : List ((Nat → Instr) × Nat)) →
    Served s.jn m it rest x.2 false true false → it.req.ctx ≠ 0 → CompletesWith (exec (x.1 m) s) s m it rest 0x13 [] (s.jn.secEvent 11 x.2))
  ∧ (∀ (s : Machine.State) m it rest (x : (Nat → Instr) × Nat),
    x ∈ ([(.dutyTransfer, 8), (.portMap, 10), (.ttLoad, 0x101), (.ttArm, 0x102), (.ttCancel, 0x103), (.planLoad, 0x105), (.contextConfig, 0x201), (.logConfig, 0x208),
      (.dieConfig, 0x301), (.dieReadmit, 0x302), (.timingIoConfig, 0x403)] : List ((Nat → Instr) × Nat)) →
    Served s.jn m it rest x.2 true true false →
    (s.jn.boot.service ≠ 3 → s.jn.confirmed = false → CompletesWith (exec (x.1 m) s) s m it rest 0x14 [] s.jn)
    ∧ (s.jn.boot.service = 3 → CompletesWith (exec (x.1 m) s) s m it rest 0x15 [] s.jn))
  ∧ (∀ (s : Machine.State) m it rest (x : (Nat → Instr) × Nat × Nat),
    x ∈ ([(.sessionClose, 2, 0), (.heartbeat, 3, 0), (.noticeRead, 4, 8), (.alarmRead, 5, 8), (.counterRead, 6, 8), (.timestampRead, 0x402, 8), (.deviceId, 0x701, 0)] : List ((Nat → Instr) × Nat × Nat)) →
    Served s.jn m it rest x.2.1 false true false → it.req.body.length ≠ x.2.2 → CompletesWith (exec (x.1 m) s) s m it rest 0x10 [] s.jn)
  ∧ (∀ (s : Machine.State) m it rest ss r, s.jn.boot.porst = false → m < 8 → m < s.jn.mail.length → (s.jn.mbox m).taken = it :: rest →
    rest.head?.all (fun n => knownOps.contains n.req.opcode) = true → it.req.opcode = 3 → (s.jn.mbox m).session = some ss → ss.expired = false → ss.closing = none →
    it.req.seq = ss.seq → ss.stored = some r →
    let x := s.jn.mbox m
    let again : Reply := { r with attention := s.jn.attention it.req.ctx }
    exec (.heartbeat m) s = .next { s with jn := s.jn.setMbox m { x with taken := rest, replies := x.replies ++ [again], rplTail := (x.rplTail + 1) % 65536 } })
  ∧ (∀ (s : Machine.State) it, s.jn.boot.porst = false → 16 < s.jn.mail.length → (s.jn.mbox 16).taken = [it] → it.req.opcode = 0x104 → it.req.body = [] →
    (s.jn.mbox 16).session = none → s.jn.boot.service ≠ 3 → s.jn.confirmed = true →
    ∃ j, ∃ r : Reply, exec (.ttStatus 16) s = .next { s with jn := j } ∧ r.result = 0 ∧ r.body = s.jn.b0.status s.jn.clk.tick ++ s.jn.b1.status s.jn.clk.tick ∧ r.relayed = true ∧ r.tag = it.req.tag
      ∧ (j.mbox 16).taken = []
      ∧ ({ j with mail := [] } : Junction) = { s.jn.send it.port 3 1 0 (relayHead it.origin s.jn.id 0 true ++ r.bytes) with mail := [] })
  ∧ (∀ (s : Machine.State) m, (s.jn.mbox m).taken.head?.all (fun it => it.req.opcode != 3) = true → exec (.heartbeat m) s = .next s)

/-- Cold resets and what they keep, and the bring-up after one (R15, R484, R485, R486, R487, R491, R492, R493, R504, R507, R511). Where the spec is
silent, the clauses follow the model's choice in log 2, 6, 9, 70, 91. -/
def Obligations.ColdResets : Prop :=
  (∀ (s : Machine.State) ns, 10000 ≤ ns → ∃ k, exec (.porstNAssert ns) s = .next { s with jn := k, free := s.free + 1 } ∧ ColdReset s.jn k 1
    ∧ k.boot.pin = true ∧ k.boot.waitPorst = false ∧ k.boot.waitRefclk = s.jn.boot.waitRefclk ∧ k.boot.tripped = false)
  ∧ (∀ (s : Machine.State) ns, ns < 1000 → exec (.porstNAssert ns) s = .next { s with free := s.free + 1 })
  ∧ (∀ (s : Machine.State) ns, 1000 ≤ ns → ns < 10000 → exec (.porstNAssert ns) s = .next { s with free := s.free + 1 }
    ∨ ∃ k, exec (.porstNAssert ns) s = .next { s with jn := k, free := s.free + 1 } ∧ ColdReset s.jn k 1 ∧ k.boot.pin = true)
  ∧ (∀ (s : Machine.State), ∃ k, exec .supplyLoss s = .next { s with jn := k } ∧ ColdReset s.jn k 2 ∧ k.boot.pin = s.jn.boot.pin ∧ k.boot.waitPorst = !s.jn.boot.pin
    ∧ k.boot.waitRefclk = s.jn.boot.waitRefclk)
  ∧ (∀ (s : Machine.State) ns, 1000 ≤ ns → ∃ k, exec (.refclkLoss ns) s = .next { s with jn := k }
    ∧ ColdReset s.jn k (if s.jn.boot.porst then s.jn.boot.last else 3) ∧ k.boot.waitRefclk = true ∧ k.boot.pin = s.jn.boot.pin ∧ k.boot.waitPorst = s.jn.boot.waitPorst)
  ∧ (∀ (s : Machine.State) ns, ns ≤ 64 → exec (.refclkLoss ns) s = .next s)
  ∧ (∀ (s : Machine.State) ns, 64 < ns → ns < 1000 → 
    let c : Clock := { s.jn.clk with st := .unlocked, source := 0, lockRun := 0, unlockRun := 0, rootHoldover := false, errorNs := 0xFFFFFFFF, steps := 0, stepParts := [], slew := false }
    let trig := s.jn.trig.map (fun (x : Trig) => if x.cfg.squelch = true ∧ x.high.isSome = true then x.pulseEnd c.time else x)
    exec (.refclkLoss ns) s = .next { s with jn := { s.jn with clk := c, trig := trig, pps := { s.jn.pps with high := none } } })
  ∧ (∀ (s : Machine.State) b, s.jn.boot.porst = true → s.jn.boot.waitRefclk = false → s.jn.boot.waitPorst = false →
    ∃ k, exec (.coldReset b) s = .next { s with jn := k } ∧ BroughtUp k b ∧ k.straps = b.straps ∧ k.boot.pin = false
      ∧ k.sec.memKeys = some s.jn.sec.memDrawn ∧ k.sec.memDrawn = s.jn.sec.memDrawn + 1
      ∧ k.boot.thermtrip = s.jn.store.thermtrip ∧ k.store.thermtrip = false
      ∧ k.clk = s.jn.clk.reach ((s.jn.clk.time + b.ms * 1000000 * uNs : Nat) : Int)
      ∧ ({ k with boot := s.jn.boot, straps := s.jn.straps, clk := s.jn.clk, sec := s.jn.sec, store := s.jn.store } : Junction).quiet = s.jn.quiet)
  ∧ (∀ (s : Machine.State) b, s.jn.boot.porst = true → s.jn.boot.waitRefclk = true ∨ s.jn.boot.waitPorst = true →
    exec (.coldReset b) s = .next { s with jn := { s.jn with boot := { s.jn.boot with pin := false } } })
  ∧ (∀ (s : Machine.State) b, s.jn.boot.porst = true → s.jn.boot.waitRefclk = true → s.jn.boot.pin = false → s.jn.boot.waitPorst = false →
    ∃ k, exec (.refclkRestored b) s = .next { s with jn := k } ∧ BroughtUp k b ∧ k.straps = b.straps ∧ k.boot.waitRefclk = false
      ∧ ({ k with boot := s.jn.boot, straps := s.jn.straps, clk := s.jn.clk, sec := s.jn.sec, store := s.jn.store } : Junction).quiet = s.jn.quiet)
  ∧ (∀ (s : Machine.State), exec .perstAssert s = .next s)

/-- The watchdog, warm resets, and the flush of a power failure (R162, R163, R484, R485, R488, R492, R509, R510). Where the spec is silent, the clauses
follow the model's choice in log 9, 14, 16, 29. -/
def Obligations.WarmResetsAndFlushes : Prop :=
  (∀ (s : Machine.State) b, s.jn.boot.porst = false → s.jn.boot.phase = 4 → s.jn.flush.running = true → s.jn.mayRevert = false →
    exec (.watchdogExpiry false b) s = .next { s with jn := { s.jn with
      errs := s.jn.errs.hit 8 0 0 s.jn.clk.tickWord, flush := { s.jn.flush with reset := if s.jn.flush.reset = 0 then 2 else s.jn.flush.reset, stopped := true } } })
  ∧ (∀ (s : Machine.State) b, s.jn.boot.porst = false → s.jn.boot.phase = 4 → s.jn.flush.running = false → s.jn.mayRevert = false →
    let f : Flush := { s.jn.flush with running := true, reset := if s.jn.flush.reset = 0 then 2 else s.jn.flush.reset, stopped := true }
    exec (.watchdogExpiry false b) s = .next { s with jn := { (s.jn.error 8 0 0).sendFlush with flush := f } })
  ∧ (∀ (s : Machine.State) b, s.jn.boot.porst = false → s.jn.boot.phase = 4 → s.jn.flush.reset ≠ 0 →
    ∃ k, exec (.watchdogExpiry true b) s = .next { s with jn := k } ∧ BroughtUp k b ∧ k.boot.last = 4 ∧ k.confirmed = false ∧ k.mem = [])
  ∧ (∀ (s : Machine.State) b, s.jn.boot.porst = false → s.jn.flush.running = true → s.jn.flush.reset ≠ 0 →
    ∃ k, exec (.flushWaitExpiry b) s = .next { s with jn := k } ∧ BroughtUp k b ∧ k.boot.last = (if s.jn.flush.reset = 2 then 9 else 8)
      ∧ k.boot.warmCount = sat 16 (s.jn.boot.warmCount + 1) ∧ k.confirmed = s.jn.confirmed ∧ k.index = s.jn.index ∧ k.straps = s.jn.straps ∧ k.mem = s.jn.mem ∧ k.b0 = s.jn.b0
      ∧ k.b1 = s.jn.b1 ∧ k.bundles = s.jn.bundles ∧ k.portMap = s.jn.portMap ∧ k.shadow = s.jn.shadow ∧ k.hist = s.jn.hist ∧ k.sec.keys = s.jn.sec.keys ∧ k.sec.sas = s.jn.sec.sas
      ∧ k.sec.open_ = s.jn.sec.open_ ∧ k.sec.memKeys = s.jn.sec.memKeys ∧ k.mail = Junction.init.mail ∧ k.slots = [] ∧ k.ticks = [] ∧ k.det = [] ∧ k.txns = [] ∧ k.crc = Junction.init.crc
      ∧ k.flush = Junction.init.flush ∧ k.clk = s.jn.clk.reach ((s.jn.clk.time + b.ms * 1000000 * uNs : Nat) : Int))
  ∧ (∀ (s : Machine.State) b, s.jn.boot.porst = false → s.jn.flush.running = false ∨ s.jn.flush.reset = 0 → exec (.flushWaitExpiry b) s = .next s)
  ∧ (∀ (s : Machine.State) ns, s.jn.boot.porst = false → s.jn.boot.phase = 4 → 100 ≤ ns →
    let f : Flush := { s.jn.flush with pwrfail := true, running := true, stopped := true }
    exec (.powerFail ns) s = .next { s with free := s.free + 1, jn := { (if s.jn.flush.running then s.jn else s.jn.sendFlush) with flush := f } })
  ∧ (∀ (s : Machine.State) ns, ns < 40 ∨ s.jn.boot.phase < 4 → exec (.powerFail ns) s = .next { s with free := s.free + 1 })
  ∧ (∀ (s : Machine.State), s.jn.boot.porst = false → s.jn.flush.pwrfail = true → s.jn.flush.running = true →
    exec .powerFailFlushComplete s = .next { s with jn := { s.jn.commitAll.logE 0x20 [] with flush := { s.jn.flush with running := s.jn.flush.reset != 0 } } })
  ∧ (∀ (s : Machine.State), s.jn.boot.porst = false → s.jn.flush.pwrfail = true → s.jn.flush.running = false →
    exec .powerFailClear s = .next { s with jn := { s.jn with flush := { s.jn.flush with pwrfail := false, stopped := false } } })
  ∧ (∀ (j : Junction), j.boot.phase = 4 → j.tray = true → ({ j.sendFlush with ports := j.ports } : Junction) = j
    ∧ ∀ k, k < 32 → k < j.ports.length → (j.port k).st = .active → j.sendFlush.port k = (j.port k).signal 4 0)

/-- Judging the twin, losing it, duty, and entry into relay-only service (R28, R29, R30, R34, R307, R433, R434, R492, R494, R502). Where the spec is
silent, the clauses follow the model's choice in log 9, 81, 93. -/
def Obligations.TwinAndService : Prop :=
  (∀ (s : Machine.State), s.jn.boot.porst = false → s.jn.confirmed = true →
    exec .twinJudgingStart s = .next { s with jn := { s.jn with twin := { s.jn.twin with judging := true } } })
  ∧ (∀ (s : Machine.State), s.jn.confirmed = false → exec .twinJudgingStart s = .next s)
  ∧ (∀ (s : Machine.State), s.jn.boot.porst = false → s.jn.twin.judging = true → 2 ≤ s.jn.twin.missing → s.jn.twin.lost = false →
    let take := if s.jn.role.twinB = true ∧ s.jn.twin.duty = false then some (s.jn.clk.markTick + 1) else s.jn.twin.takeoverTick
    exec .twinLost s = .next { s with jn := { s.jn with twin := { s.jn.twin with lost := true, takeoverTick := take, taking := s.jn.twin.taking.map (fun x => (x.1, [])) } } })
  ∧ (∀ (s : Machine.State), s.jn.twin.judging = false ∨ s.jn.twin.missing < 2 ∨ s.jn.twin.lost = true → exec .twinLost s = .next s)
  ∧ (∀ (s : Machine.State) t, s.jn.boot.porst = false → s.jn.twin.takeoverTick = some t → s.jn.role.twinB = true → s.jn.twin.lost = true → s.jn.twin.duty = false → t ≤ s.jn.clk.markTick →
    exec .dutyTakeover s = .next { s with jn := { s.jn with twin := { s.jn.twin with duty := true, takeoverTick := some s.jn.clk.markTick }, exp := s.jn.exp.takeDuty } })
  ∧ (∀ (s : Machine.State), s.jn.role.twinB = false → exec .dutyTakeover s = .next s)
  ∧ (∀ (s : Machine.State) m, s.jn.boot.porst = false → s.jn.twin.transferAt = some m → s.jn.reached m = true →
    let t : JnTwin := { s.jn.twin with transferAt := none, duty := !s.jn.role.twinB }
    (s.jn.twin.duty = t.duty → exec .dutyTransferEffect s = .next { s with jn := { s.jn with twin := t } })
    ∧ (s.jn.role.twinB = false → s.jn.twin.duty = false →
      let l := if s.jn.twin.lost then [] else s.jn.exp.enabled
      exec .dutyTransferEffect s = .next { s with jn := { s.jn with twin := { t with handing := none, taking := some (m, l) }, exp := s.jn.exp.takeDuty } })
    ∧ (s.jn.role.twinB = true → s.jn.twin.duty = true →
      ∃ k, exec .dutyTransferEffect s = .next { s with jn := k }
        ∧ k.twin = { t with handing := some (m, s.jn.exp.enabled.filter (fun x => !(s.jn.exp.drained m x))), taking := none }
        ∧ (s.jn.exp.enabled.filter (s.jn.exp.drained m) = [] → k.ports = s.jn.ports) ∧ ({ k with twin := s.jn.twin, ports := s.jn.ports } : Junction) = s.jn))
  ∧ (∀ (s : Machine.State) m, s.jn.twin.transferAt = some m → s.jn.reached m = false → exec .dutyTransferEffect s = .next s)
  ∧ (∀ (s : Machine.State) row i, exec (.runtimeSelfCheck row i true) s = .next s)
  ∧ (∀ (s : Machine.State) i, s.jn.boot.porst = false → i < s.jn.boot.engines.length → i < 64 → bit s.jn.boot.retired.toNat i = false → s.jn.boot.retiring.all (fun x => x.1 != i) = true →
    ∃ k, exec (.runtimeSelfCheck 0 i false) s = .next { s with jn := k } ∧ k.boot = { s.jn.boot with retiring := s.jn.boot.retiring ++ [(i, s.jn.clk.markTick + 3)] }
      ∧ ({ k with boot := s.jn.boot } : Junction).quiet = s.jn.quiet ∧ k.errs = s.jn.errs.hit 7 i 0 s.jn.clk.tickWord)
  ∧ (∀ (s : Machine.State) i, s.jn.boot.porst = false →
    exec (.runtimeSelfCheck 1 i false) s = .next { s with jn := { s.jn with errs := s.jn.errs.hit 7 i 1 s.jn.clk.tickWord, boot := { s.jn.boot with seqFailed := true } } })
  ∧ (∀ (s : Machine.State) r i, s.jn.boot.porst = false → r = 2 ∨ r = 3 →
    let b : JnBoot := { s.jn.boot with relayNext := if s.jn.boot.relayNext.isNone then some (r + 2) else s.jn.boot.relayNext }
    exec (.runtimeSelfCheck r i false) s = .next { s with jn := { s.jn with errs := s.jn.errs.hit 7 i r s.jn.clk.tickWord, boot := b } })
  ∧ (∀ (s : Machine.State), s.jn.boot.porst = false →
    exec .nearTierStackError s = .next { s with jn := { s.jn with boot := { s.jn.boot with relayNext := if s.jn.boot.relayNext.isNone then some 2 else s.jn.boot.relayNext } } })
  ∧ (∀ (s : Machine.State) c, s.jn.boot.porst = false → s.jn.boot.relayNext = some c → s.jn.boot.service = 1 ∨ s.jn.boot.service = 2 →
    ∃ k, exec .relayOnlyEntry s = .next { s with jn := k } ∧ k.boot = { s.jn.boot with relayNext := none, service := 3, cause := c } ∧ k.seqRun = none ∧ k.flights = [] ∧ k.ticks = s.jn.ticks.map TickWork.shut
      ∧ (s.jn.notices.length < 63 → k.notices.getLast? = some (1, s.jn.clk.tickWord))
      ∧ ({ k with boot := s.jn.boot, seqRun := s.jn.seqRun, flights := s.jn.flights, ticks := s.jn.ticks } : Junction).quiet = s.jn.quiet)
  ∧ (∀ (s : Machine.State), s.jn.boot.relayNext = none → exec .relayOnlyEntry s = .next s)

/-- Reads and writes of the Junction's registers and mailbox windows (R442, R443, R518, R527, R528, R529, R531, R536). Where the spec is silent, the
clauses follow the model's choice in log 9, 34. -/
def Obligations.JunctionRegisters : Prop :=
  (∀ (s : Machine.State) tap off, s.jn.reaches tap false = true → off % 8 = 0 →
    exec (.jnRegLowHalfRead tap off 8) s = .next { s with jn := { s.jn with readData := some (s.jn.csr off) } })
  ∧ (∀ (s : Machine.State) tap off, s.jn.reaches tap false = true → off % 8 = 0 → off < 0x1000000 →
    let held := Tbl.put 0 s.jn.latch off ((s.jn.csr off).toNat / 2 ^ 32 + 1)
    exec (.jnRegLowHalfRead tap off 4) s = .next { s with jn := { s.jn with readData := some (BitVec.ofNat 64 ((s.jn.csr off).toNat % 2 ^ 32)), latch := held } })
  ∧ (∀ (s : Machine.State) tap off k, s.jn.reaches tap false = true → off % 8 = 0 → Tbl.get 0 s.jn.latch off = k + 1 →
    exec (.jnRegLowHalfRead tap (off + 4) 4) s = .next { s with jn := { s.jn with readData := some (BitVec.ofNat 64 k), latch := Tbl.put 0 s.jn.latch off 0 } })
  ∧ (∀ (s : Machine.State) tap m v, s.jn.reaches tap true = true → m < 8 → v < 65536 →
    let x := s.jn.mbox m
    exec (.mailboxReqTailWrite tap m v) s
      = .next { s with jn := s.jn.setMbox m { x with reqTail := v, err := x.err || (x.enable && decide (x.slots < (v + 65536 - x.reqHead % 65536) % 65536)) } })
  ∧ (∀ (s : Machine.State) tap m v, s.jn.reaches tap true = true → m < 8 → v < 65536 →
    let x := s.jn.mbox m
    let n := (v + 65536 - x.rplHead % 65536) % 65536
    (n ≤ (x.rplTail + 65536 - x.rplHead % 65536) % 65536 → exec (.mailboxRplHeadWrite tap m v) s = .next { s with jn := s.jn.setMbox m { x with rplHead := v, replies := x.replies.drop n } })
    ∧ ((x.rplTail + 65536 - x.rplHead % 65536) % 65536 < n → exec (.mailboxRplHeadWrite tap m v) s = .next { s with jn := s.jn.setMbox m { x with rplHead := v, err := true } }))
  ∧ (∀ (s : Machine.State) tap m v, s.jn.reaches tap true = true → m < 8 → fld v 1 3 ≠ 7 →
    let x := s.jn.mbox m
    let y : Mailbox := { x with err := false, enable := bit v 0, slotsLog2 := fld v 1 3 }
    let z : Mailbox := { y with reqTail := 0, reqHead := 0, rplTail := 0, rplHead := 0, session := none, taken := [], replies := [], owed := [], segs := [] }
    (x.err = false → x.enable = true → exec (.mailboxCtrlWrite tap m .ctrl v) s = .next { s with jn := s.jn.setMbox m { x with err := true } })
    ∧ (x.err = true → bit v 4 = false → exec (.mailboxCtrlWrite tap m .ctrl v) s = .next { s with jn := s.jn.setMbox m x })
    ∧ ((x.err = false ∧ x.enable = false) ∨ (x.err = true ∧ bit v 4 = true) →
      exec (.mailboxCtrlWrite tap m .ctrl v) s = .next { s with jn := s.jn.setMbox m (if bit v 0 then z else y) }))
  ∧ (∀ (s : Machine.State) tap m v, s.jn.reaches tap true = true → m < 8 → v < 2 ^ 64 →
    let x := s.jn.mbox m
    (x.enable = true → exec (.mailboxCtrlWrite tap m .reqBase v) s = .next { s with jn := s.jn.setMbox m { x with err := true } }
      ∧ exec (.mailboxCtrlWrite tap m .rplBase v) s = .next { s with jn := s.jn.setMbox m { x with err := true } })
    ∧ (x.enable = false → exec (.mailboxCtrlWrite tap m .reqBase v) s = .next { s with jn := s.jn.setMbox m { x with reqBase := BitVec.ofNat 64 (v - v % 4096) } }
      ∧ exec (.mailboxCtrlWrite tap m .rplBase v) s = .next { s with jn := s.jn.setMbox m { x with rplBase := BitVec.ofNat 64 (v - v % 4096) } }))
  ∧ (∀ (s : Machine.State) tap, s.jn.reaches tap true = true →
    exec (.jnErrCaptureClear tap []) s = .next { s with jn := { s.jn with errs := { s.jn.errs with valid := false, overflow := false } } })
  ∧ (∀ (s : Machine.State) tap c u a, s.jn.reaches tap true = true →
    let e := { s.jn.errs with counts := Tbl.put 0 s.jn.errs.counts c ((Tbl.get 0 s.jn.errs.counts c + 1) % 2 ^ 64) }
    exec (.jnErrCaptureClear tap [(c, u, a)]) s
      = .next { s with jn := { s.jn with errs := { e with valid := true, overflow := false, cls := c, unit_ := u, addr := a, tick := s.jn.clk.tickWord } } })
  ∧ (∀ (s : Machine.State) tap p v mask, s.jn.reaches tap true = true → p ≤ 67 →
    let v1 := v.toNat % 2 ^ 32
    exec (.registerWrite (.bar tap) (0x1000 + 16 * p) 4 v mask) s
      = .next { s with jn := if bit v1 5 then s.jn.setPort p { s.jn.port p with cablingErr := false } else s.jn })
  ∧ (∀ (s : Machine.State) tap off v mask, s.jn.reaches tap true = true → off < 0x1000000 → off ≠ 0x200 → (off < 0x1000 ∨ 0x1440 ≤ off) →
    exec (.registerWrite (.bar tap) off 4 v mask) s = .next s)
  ∧ (∀ (s : Machine.State) tap m v off size w mask, s.jn.reaches tap true = false →
    exec (.mailboxReqTailWrite tap m v) s = .next s ∧ exec (.mailboxRplHeadWrite tap m v) s = .next s ∧ exec (.mailboxCtrlWrite tap m .ctrl v) s = .next s
    ∧ exec (.jnErrCaptureClear tap []) s = .next s ∧ exec (.registerWrite (.bar tap) off size w mask) s = .next s)
  ∧ (∀ (j : Junction) tap, j.reaches tap true = true ↔ j.boot.porst = false ∧ (tap = true → 2 ≤ j.sec.tap.level))
  ∧ (∀ (j : Junction) tap, j.reaches tap false = true ↔ j.boot.porst = false ∧ (tap = true → 1 ≤ j.sec.tap.level))

/-- Requests, datagrams, relays and session expiry at the mailboxes (R443, R444, R445, R446, R452, R456, R475). Where the spec is silent, the clauses
follow the model's choice in log 9, 18, 23, 28, 32. -/
def Obligations.MailboxTransports : Prop :=
  (∀ (s : Machine.State) m slot q, s.jn.boot.porst = false → s.jn.takes = true → m < 8 → m < s.jn.mail.length →
    let x := s.jn.mbox m
    x.enable = true → x.err = false → x.live = true → x.reqHead ≠ x.reqTail → (x.reqHead + 65536 - x.rplHead % 65536) % 65536 < x.slots →
    Request.decode (fit (32 + min (rd slot 0x10 4) 65568) slot) = some q →
    ((x.taken ++ [(⟨q, s.jn.id, 0⟩ : Taken)]).head?.all (fun i => knownOps.contains i.req.opcode)) = true →
    exec (.mailboxRequestTake m slot) s = .next { s with jn := s.jn.setMbox m { x with reqHead := (x.reqHead + 1) % 65536, taken := x.taken ++ [⟨q, s.jn.id, 0⟩] } })
  ∧ (∀ (s : Machine.State) m slot, let x := s.jn.mbox m
    s.jn.takes = false ∨ x.enable = false ∨ x.err = true ∨ x.reqHead = x.reqTail ∨ x.slots ≤ (x.reqHead + 65536 - x.rplHead % 65536) % 65536 →
    exec (.mailboxRequestTake m slot) s = .next s)
  ∧ (∀ (s : Machine.State) p an pn src b a tx q, s.jn.boot.porst = false → s.jn.boot.phase = 4 → p < 2 → s.jn.sec.fw.paused = false →
    let m := rd b 4 1
    let x := s.jn.mbox m
    8 ≤ m → m ≤ 15 → s.jn.sec.txSa p = some tx → s.jn.sec.rxSa p an = some a → max a.lowPn (a.nextPn - 64) ≤ pn → max a.nextPn (pn + 1) < pnEnd →
    (x.session = none ∨ x.peer = src) → x.live = true → rd b 0 4 = 0x58424D44 → rd b 5 1 = 0 → rd b 7 1 = 1 → rd b 6 1 = 0 → (b.drop 16).length ≤ 8192 →
    x.segs.all (fun g => g.2.1 != rd b 8 8) = true → Request.decode (b.drop 16) = some q → ((x.taken ++ [(⟨q, s.jn.id, 0⟩ : Taken)]).head?.all (fun i => knownOps.contains i.req.opcode)) = true →
    let sas := s.jn.sec.sas.map (fun (y : Sa) => if y = a then { y with nextPn := max a.nextPn (pn + 1), stopped := false } else y)
    let j : Junction := { s.jn with sec := { s.jn.sec with sas := sas } }
    let ok := Config.macsecOk a.sak (BitVec.ofNat 64 a.ssci) a.salt pn b
    let k := if ok then j.setMbox m { x with peer := src, via := p, taken := x.taken ++ [⟨q, s.jn.id, 0⟩] } else (s.jn.bump 11 1).secEvent 2 m
    exec (.mailboxDatagramReceived p true an pn src b) s = .next { s with jn := k })
  ∧ (∀ (s : Machine.State) p an pn src b prot, s.jn.boot.porst = false → s.jn.boot.phase = 4 → p < 2 → s.jn.sec.fw.paused = false → 8 ≤ rd b 4 1 → rd b 4 1 ≤ 15 →
    prot = false ∨ s.jn.sec.txSa p = none ∨ s.jn.sec.rxSa p an = none →
    exec (.mailboxDatagramReceived p prot an pn src b) s = .next { s with jn := (s.jn.bump 11 1).secEvent 2 (rd b 4 1) })
  ∧ (∀ (s : Machine.State) m, s.jn.boot.porst = false →
    exec (.mailboxSegmentTimeout m) s
      = .next { s with jn := s.jn.setMbox m { s.jn.mbox m with segs := (s.jn.mbox m).segs.filter (fun g => decide (s.jn.clk.up < g.1 + 10000000 * uNs)) } })
  ∧ (∀ (s : Machine.State) p g x q, s.jn.boot.porst = false → (s.jn.port p).takeInbox 3 1 (fun b => isRelayed false b && (s.jn.takes || rd b 4 4 % 2 ^ 17 != s.jn.id)) = (some g, x) →
    Request.decode (g.bytes.drop 16) = some q →
    let o := rd g.bytes 0 4
    let t := rd g.bytes 4 4
    let j := s.jn.setPort p x
    (t % 2 ^ 17 = s.jn.id → (((s.jn.mbox 16).taken ++ [(⟨q, o, p⟩ : Taken)]).head?.all (fun i => knownOps.contains i.req.opcode)) = true →
      exec (.relayedRequestReceived p) s = .next { s with jn := j.setMbox 16 { s.jn.mbox 16 with taken := (s.jn.mbox 16).taken ++ [⟨q, o, p⟩] } })
    ∧ (∀ h, t % 2 ^ 17 ≠ s.jn.id → j.nextHop t = some h →
      let k : Junction := { j with hops := s.jn.hops ++ [⟨o, q.tag, q.seq, p, s.jn.clk.up⟩] }
      exec (.relayedRequestReceived p) s = .next { s with jn := k.send h 3 1 0 (relayHead o t (rd g.bytes 8 1 + 1) false ++ q.bytes) })
    ∧ (t % 2 ^ 17 ≠ s.jn.id → j.nextHop t = none → ∃ r : Reply, r.result = 0x18 ∧ r.tag = q.tag ∧ r.relayed = true ∧
      exec (.relayedRequestReceived p) s = .next { s with jn := j.send p 3 1 0 (relayHead o s.jn.id 0 true ++ r.bytes) }))
  ∧ (∀ (s : Machine.State) p g x h, s.jn.boot.porst = false → (s.jn.port p).takeInbox 3 1 (isRelayed true) = (some g, x) → rd g.bytes 0 4 % 2 ^ 17 ≠ s.jn.id →
    s.jn.hops = [h] → h.origin = rd g.bytes 0 4 → h.tag = rd g.bytes 20 4 → h.seq = rd g.bytes 24 8 →
    exec (.relayedReplyReceived p) s = .next { s with jn := ({ s.jn.setPort p x with hops := [] } : Junction).send h.port 3 1 0 g.bytes })
  ∧ (∀ (s : Machine.State), s.jn.boot.porst = false →
    (∀ x ∈ s.jn.mail, ∀ o ∈ x.owed, s.jn.clk.up < o.since + 100000000 * uNs) →
    exec .relayTimeout s = .next { s with jn := { s.jn with hops := s.jn.hops.filter (fun h => decide (s.jn.clk.up < h.since + 100000000 * uNs)) } })
  ∧ (∀ (s : Machine.State) m ss o p, s.jn.boot.porst = false → m < 8 → m < s.jn.mail.length → (s.jn.mbox m).session = some ss → ss.expired = false → ss.closing = none →
    (s.jn.mbox m).owed = [o] → o.waits = .relay p → o.since + 100000000 * uNs ≤ s.jn.clk.up →
    ∃ k r, exec .relayTimeout s = .next { s with jn := k } ∧ (k.mbox m).owed = [] ∧ (k.mbox m).replies = (s.jn.mbox m).replies ++ [r] ∧ r.result = 0x18 ∧ r.tag = o.item.req.tag
      ∧ r.seq = o.item.req.seq ∧ r.execTick = o.exec)
  ∧ (∀ (s : Machine.State) m ss, s.jn.boot.porst = false → m < s.jn.mail.length → (s.jn.mbox m).session = some ss → ss.expired = false → s.jn.sec.fw.paused = false →
    ss.lastBeat + 4000000 * uNs ≤ s.jn.clk.up → ss.closing = none →
    let x := s.jn.mbox m
    let y : Mailbox := { x with session := if x.taken = [] ∧ x.owed = [] then none else some { ss with expired := true }, err := x.err || decide (m < 8) }
    exec (.sessionExpiry m) s = .next { s with jn := ((s.jn.setMbox m y).logE 0x30 [m, ss.ctx]).notice 5 })
  ∧ (∀ (s : Machine.State) m ss, (s.jn.mbox m).session = some ss → s.jn.clk.up < ss.lastBeat + 4000000 * uNs → exec (.sessionExpiry m) s = .next s)

/-- Firmware events, the mode's change, the TAP's unlock, and a Lineside's reply (R463, R464, R465, R472, R476, R479, R481, R487, R499, R519). Where the
spec is silent, the clauses follow the model's choice in log 9, 10, 26, 35, 49. -/
def Obligations.FirmwareModeAndTap : Prop :=
  (∀ (s : Machine.State), s.jn.boot.porst = false → s.jn.sec.fw.st = .verifying →
    let f := s.jn.sec.fw
    let c := fwVerify s.jn.sec.floor (f.slot f.staging)
    let bad : Junction := { s.jn with sec := { s.jn.sec with fw := { f with st := .refused, result := c } } }
    let good : Junction := { s.jn with sec := { s.jn.sec with fw := { f with st := .verified, result := 0 } } }
    exec .fwVerifyComplete s = .next { s with jn := if c = 0 then good.notice 4 else if c = 0x40 then bad else bad.secEvent 4 c })
  ∧ (∀ (s : Machine.State), s.jn.sec.fw.st ≠ .verifying → exec .fwVerifyComplete s = .next s)
  ∧ (∀ (s : Machine.State) m, s.jn.boot.porst = false → s.jn.sec.fw.st = .armed → s.jn.sec.fw.at_ = some m →
    let f := s.jn.sec.fw
    let g : Fw := { f with marked := 1 - f.marked, running := 1 - f.marked, rom := false, st := .none_, at_ := none, got := 0, total := 0, paused := true, pausedAt := s.jn.clk.up, reverting := false, fallback := !f.rom }
    exec .fwActivation s = .next { s with jn := if s.jn.reached m then { s.jn with sec := { s.jn.sec with fw := g } } else s.jn })
  ∧ (∀ (s : Machine.State), s.jn.boot.porst = false → s.jn.sec.fw.paused = true →
    let f := s.jn.sec.fw
    let gap := s.jn.clk.up + 1000000 * uNs - f.pausedAt
    let ms := s.jn.mail.map (fun (x : Mailbox) => { x with session := x.session.map (fun (y : Session) => { y with lastBeat := y.lastBeat + gap }) })
    let g : Fw := { f with paused := false, reverting := false, resumedAt := s.jn.clk.up, last := if f.reverting then 2 else 1 }
    let j : Junction := { s.jn with mail := ms, sec := { s.jn.sec with fw := g } }
    exec .fwResume s = .next { s with jn := if f.reverting then j else j.logE 0x31 [if f.fallback then fwVersion (f.slot f.staging) else 0, fwVersion (f.slot f.running), 0] })
  ∧ (∀ (s : Machine.State), s.jn.sec.fw.paused = false → exec .fwResume s = .next s)
  ∧ (∀ (s : Machine.State), s.jn.boot.porst = false → s.jn.sec.fw.fallback = true → s.jn.sec.fw.reverting = false →
    (s.jn.sec.fw.paused = true ∨ s.jn.clk.up ≤ s.jn.sec.fw.resumedAt + 100000000 * uNs) →
    let f := s.jn.sec.fw
    let g : Fw := { f with marked := 1 - f.marked, running := 1 - f.marked, paused := true, pausedAt := if f.paused then f.pausedAt else s.jn.clk.up, reverting := true, fallback := false }
    let j : Junction := { s.jn with sec := { s.jn.sec with fw := g } }
    exec .fwRevert s = .next { s with jn := (j.logE 0x31 [fwVersion (f.slot f.running), fwVersion (f.slot f.staging), 1]).notice 3 })
  ∧ (∀ (s : Machine.State), s.jn.sec.fw.fallback = false → exec .fwRevert s = .next s)
  ∧ (∀ (s : Machine.State) m o, s.jn.boot.porst = false → s.jn.sec.modeAt = some (m, o) →
    exec .modeSetEffect s = .next { s with jn := if s.jn.reached m then { s.jn with sec := { s.jn.sec with open_ := o, modeAt := none } } else s.jn })
  ∧ (∀ (s : Machine.State), s.jn.boot.porst = false → s.jn.sec.tap.failures < 3 →
    exec .dbgChallenge s = .next { s with jn := { s.jn with sec := { s.jn.sec with tap := { s.jn.sec.tap with challenge := some s.jn.sec.tap.drawn, drawn := s.jn.sec.tap.drawn + 1 } } } })
  ∧ (∀ (s : Machine.State), 3 ≤ s.jn.sec.tap.failures → exec .dbgChallenge s = .next s)
  ∧ (∀ (s : Machine.State) level key pub sig n, s.jn.boot.porst = false → s.jn.sec.tap.challenge = some n → s.jn.sec.tap.failures < 3 → 1 ≤ level → level ≤ 2 →
    let t := s.jn.sec.tap
    let hash := if key = 0 then s.jn.sec.ownerHash else Config.vendorKeyHash
    let ok := decide (key ≤ 1) && (key == 0 || level == 2) && Config.sha384 pub == hash && Config.ecdsaVerify pub (ascii "DDBG" ++ le 4 s.jn.id ++ le 1 level ++ Config.nonce n) sig
    ∃ k, exec (.dbgResponse level key pub sig) s = .next { s with jn := k }
      ∧ (ok = true → k.sec.tap = { t with challenge := none, level := max t.level level }
        ∧ (level = 1 → ({ k with sec := s.jn.sec } : Junction).quiet = s.jn.quiet)
        ∧ (level = 2 → k.sec.keys = [] ∧ k.sec.sas = [] ∧ k.sec.zeroised = true ∧ k.sec.memKeys = none ∧ k.mem = [] ∧ k.hist = [] ∧ k.mail = s.jn.mail.map (fun x => { x with session := none }) ∧ k.boot.service = 3
          ∧ k.bundles = s.jn.bundles.map (fun b => { b with plain := [], placing := none })))
      ∧ (ok = false → k.sec.tap = { t with challenge := none, failures := t.failures + 1 } ∧ ({ k with sec := s.jn.sec } : Junction).quiet = s.jn.quiet))
  ∧ (∀ (s : Machine.State) level key pub sig, s.jn.sec.tap.challenge = none → exec (.dbgResponse level key pub sig) s = .next s)
  ∧ (∀ (s : Machine.State) p g x k m ss o w, s.jn.boot.porst = false → s.jn.tray = true → p < 32 → (s.jn.port p).takeInbox 3 0 (fun b => rd b 0 2 == 0x11) = (some g, x) →
    rd g.bytes 2 2 = 1 → s.jn.txns = [⟨p, rd g.bytes 4 4, .mailbox k, w⟩] → Tbl.get [] s.jn.lineParts k = [] → inRange (rd g.bytes 10 2) 0x3200 256 = false →
    m < 8 → m < s.jn.mail.length → (s.jn.mbox m).session = some ss → ss.expired = false → ss.closing = none → (s.jn.mbox m).owed = [o] → o.waits = .lineside p k →
    ∃ j r, exec (.linesideConfigReplyReceived p) s = .next { s with jn := j } ∧ (j.mbox m).owed = [] ∧ (j.mbox m).replies = (s.jn.mbox m).replies ++ [r] ∧ r.result = 0
      ∧ r.tag = o.item.req.tag ∧ r.seq = o.item.req.seq ∧ r.body = (if w = [] then le 8 (rd g.bytes 16 8) else []) ∧ j.mem = s.jn.mem ∧ j.sec.keys = s.jn.sec.keys
      ∧ j.lineCfg = Tbl.put [] s.jn.lineCfg p (Tbl.put 0 (Tbl.get [] s.jn.lineCfg p) (rd g.bytes 10 2) (BitVec.ofNat 64 (rd g.bytes 16 8)))
      ∧ (rd g.bytes 10 2 ≠ 0x211 → j.txns = []
        ∧ j.shadow = if w = [] then s.jn.shadow else (s.jn.noteShadow p (rd g.bytes 10 2) (BitVec.ofNat 64 (rd g.bytes 16 8))).shadow))
  ∧ (∀ (s : Machine.State) p, s.jn.tray = false ∨ 32 ≤ p → exec (.linesideConfigReplyReceived p) s = .next s)

/-- Bundle chunks, checks, timeouts and activation; reference tables and test results (R338, R341, R343, R345, R374, R381, R382, R384). Where the spec is
silent, the clauses follow the model's choice in log 9, 36, 57, 92. -/
def Obligations.BundleEvents : Prop :=
  (∀ (s : Machine.State) p g x c b, s.jn.boot.porst = false → s.jn.tray = true → (s.jn.port p).takeInbox 2 3 (fun b => rd b 0 2 == 5) = (some g, x) → Chunk.decode g.bytes = some c →
    s.jn.bundles = [b] → b.id = c.id → b.st = .receiving → c.chunk = b.got → c.chunk ≠ 0 → c.chunks = b.chunks → c.chunk < b.chunks →
    let b' : Bundle := { b with got := b.got + 1, lastAt := s.jn.clk.up, data := b.data ++ c.data, st := if b.got + 1 = b.chunks then .checking else .receiving }
    exec (.bundleChunkReceived p) s = .next { s with jn := { s.jn.setPort p x with bundles := [b'] } })
  ∧ (∀ (s : Machine.State) p x, (s.jn.port p).takeInbox 2 3 (fun b => rd b 0 2 == 5) = (none, x) → exec (.bundleChunkReceived p) s = .next s)
  ∧ (∀ (s : Machine.State) b, s.jn.boot.porst = false → s.jn.bundles = [b] → b.st = .checking →
    (bit (rd b.data 0x18 4) s.jn.role.level = false ∨ bundleEntry b.data s.jn.id = none → exec (.bundleVerifyComplete b.id) s = .next { s with jn := { s.jn with bundles := [] } })
    ∧ (bit (rd b.data 0x18 4) s.jn.role.level = true → (bundleEntry b.data s.jn.id).isSome = true → b.type = 0 →
      let out := fun (b' : Bundle) => ({ s.jn with bundles := [b'] } : Junction)
      let refused := fun (code check offset : Nat) => { b with st := .refused, result := code, check := check, offset := offset, plain := [], data := b.data.take 256 }
      let staged := fun (plain : Bytes) => match s.jn.modelCheck { b with plain := plain } with
        | .inl r => out (refused r.code r.check r.offset)
        | .inr pl => out { b with plain := plain, st := .staged, placing := some pl }
      let opened := fun (plain : Bytes) => match bundleDirBad 0 (rd b.data 0x28 4) plain with
        | some o => out (refused 0x31 6 o)
        | none => if s.jn.ahead b.effective then staged plain else out (refused 0x1B 7 0x10)
      let j := if bundleSigOk s.jn.sec b.data then (match bundleOpen s.jn.sec s.jn.id b.data with
        | none => (out (refused 0x32 5 0xFFFFFFFF)).secEvent 3 b.id
        | some plain => opened plain) else (out (refused 0x32 4 0xFFFFFFFF)).secEvent 3 b.id
      exec (.bundleVerifyComplete b.id) s = .next { s with jn := j }))
  ∧ (∀ (s : Machine.State) b, s.jn.bundles = [b] → b.st ≠ .checking → exec (.bundleVerifyComplete b.id) s = .next s)
  ∧ (∀ (s : Machine.State) b, s.jn.boot.porst = false → s.jn.bundles = [b] → b.st = .receiving →
    exec (.bundleIncompleteTimeout b.id) s
      = .next { s with jn := { s.jn with bundles := [{ b with st := if b.lastAt + 100000000 * uNs ≤ s.jn.clk.up then .incomplete else .receiving }] } })
  ∧ (∀ (s : Machine.State) b o, s.jn.boot.porst = false → s.jn.bundles = [o, b] → o.id ≠ b.id → o.st = .active → b.st = .staged → o.ctx = b.ctx → o.type = 0 → b.type = 0 →
    s.jn.reached b.effective = true → s.jn.stillFits b = true →
    ∃ k, exec (.bundleActivation b.ctx 0) s = .next { s with jn := k } ∧ k.bundles = [{ o with st := .retiring }, { b with st := .active }]
      ∧ { k with bundles := s.jn.bundles, det := s.jn.det, areas := s.jn.areas, fc := s.jn.fc, ticks := s.jn.ticks, flights := s.jn.flights } = s.jn)
  ∧ (∀ (s : Machine.State) b, s.jn.boot.porst = false → s.jn.bundles = [b] → b.st = .staged → b.type = 0 → s.jn.reached b.effective = true → s.jn.stillFits b = false →
    exec (.bundleActivation b.ctx 0) s
      = .next { s with jn := ({ s.jn with bundles := [{ b with st := .refused, result := 0x1A, check := (rc 0x1A).check, offset := (rc 0x1A).offset, plain := [], data := b.data.take 256 }] } : Junction).serve })
  ∧ (∀ (s : Machine.State) t c, s.jn.boot.porst = false → s.jn.tests.staged = some t → s.jn.reached t.effective = true → s.jn.tray = false → s.jn.tests.active = none → s.jn.bundles = [] →
    exec (.bundleActivation c 1) s = .next { s with jn := ({ s.jn with tests := { s.jn.tests with active := some t, staged := none } } : Junction).serve })
  ∧ (∀ (s : Machine.State) c t, s.jn.boot.porst = false → s.jn.tests.staged = none ∨ (s.jn.tests.staged = some t ∧ s.jn.reached t.effective = false) → exec (.bundleActivation c 1) s = .next { s with jn := s.jn.serve })
  ∧ (∀ (s : Machine.State) k b, s.jn.boot.porst = false → k < s.jn.refs.length → (s.jn.refs.getD k ⟨none, none⟩).staged = some b →
    exec (.refTableActivate k) s = .next { s with jn := if s.jn.reached (rd b 0x18 8) then { s.jn with refs := s.jn.refs.set k ⟨some b, none⟩ } else s.jn })
  ∧ (∀ (s : Machine.State) k, (s.jn.refs.getD k ⟨none, none⟩).staged = none → exec (.refTableActivate k) s = .next s)
  ∧ (∀ (s : Machine.State) t k, s.jn.boot.porst = false → s.jn.tray = true → s.jn.tests.active = some t → s.jn.reached (rd t.section_ 8 8 + rd t.section_ 0x10 4) = true →
    k < 32 → s.jn.tests.written = BitVec.ofNat 32 (put k 1) → (s.jn.port k).st = .active →
    exec .testResultCollect s = .next { s with jn := s.jn.request k .test ((List.range 8).map (fun i => (⟨1, 0x240 + i, 0, 0⟩ : CfgOp))) })
  ∧ (∀ (s : Machine.State), s.jn.tests.active = none ∨ s.jn.tray = false → exec .testResultCollect s = .next s)

/-- Context records, drains, Waybill writes, bank switches and Ballast jobs at their ticks (R37, R57, R60, R228, R292, R293, R335, R336, R337, R405, R407,
R422). Where the spec is silent, the clauses follow the model's choice in log 9, 27, 40, 59. -/
def Obligations.ContextAndTickEvents : Prop :=
  (∀ (s : Machine.State) c r, s.jn.boot.porst = false → (s.jn.ctx c).next = some r → s.jn.reached r.effective = true →
    let x := s.jn.ctx c
    (x.st = .enabled → r.enable = true → exec (.contextConfigEffect c) s = .next { s with jn := ((s.jn.setCtx c { x with rec_ := r, next := none }).relook r.effective).serve })
    ∧ (x.st = .enabled → r.enable = false → exec (.contextConfigEffect c) s = .next { s with jn := ((s.jn.setCtx c { x with st := .draining, drainFrom := r.effective, next := none }).relook r.effective).serve })
    ∧ (x.st = .disabled →
      let j := s.jn.setCtx c { x with rec_ := r, next := none, st := if r.enable then .enabled else .disabled }
      let j := if r.histNear = x.rec_.histNear ∧ r.histFar = x.rec_.histFar ∧ r.histProj = x.rec_.histProj then j else j.setHist c Hist.init
      exec (.contextConfigEffect c) s = .next { s with jn := (({ j with exp := if r.enable then j.exp.enableCtx c else j.exp } : Junction).relook r.effective).serve }))
  ∧ (∀ (s : Machine.State) c r, s.jn.boot.porst = false → (s.jn.ctx c).next = some r → s.jn.reached r.effective = false →
    exec (.contextConfigEffect c) s = .next { s with jn := s.jn.serve })
  ∧ (∀ (s : Machine.State) c, s.jn.boot.porst = false → (s.jn.ctx c).st = .draining → (s.jn.ctx c).latched = none → s.jn.exp.queued c = 0 → c < s.jn.ctxs.length →
    (s.jn.work ((s.jn.ctx c).drainFrom - 1)).all (fun w => w.scoreClosed) = true →
    let x := s.jn.ctx c
    ∃ k, exec (.contextDrainComplete c) s = .next { s with jn := k }
      ∧ k.ctx c = { x with st := .disabled, rec_ := { x.rec_ with enable := false, threads := 0, treeQuota := 0, bundleQuota := 0, sidingPages := 0 } }
      ∧ k.bundles = s.jn.bundles.filter (fun b => !(b.ctx == c && b.type == 0))
      ∧ (∀ y ∈ k.det, y.1 / 2 ^ 38 ≠ c) ∧ (∀ y ∈ k.areas, y.1 / 64 ≠ c) ∧ (∀ y ∈ k.fc, y.1 / 65536 ≠ c) ∧ (∀ d, d ≠ c → k.ctx d = s.jn.ctx d)
      ∧ { k with ctxs := s.jn.ctxs, bundles := s.jn.bundles, det := s.jn.det, areas := s.jn.areas, fc := s.jn.fc, exp := s.jn.exp } = s.jn)
  ∧ (∀ (s : Machine.State) c, (s.jn.ctx c).st ≠ .draining → exec (.contextDrainComplete c) s = .next s)
  ∧ (∀ (s : Machine.State) o i, s.jn.boot.porst = false → s.jn.wayOps = [o] → s.jn.reached o.tick = true → o.remove = false → waybillPlace o.entity (s.jn.probes o.ctx o.entity) = some i →
    let v := rd (s.jn.read (0x80000000 + 256 * i) 256) 6 2 + 1
    let j := ({ s.jn with wayOps := [] } : Junction).write (0x80000000 + 256 * i) (le 4 o.entity ++ le 1 1 ++ le 1 o.ctx ++ le 2 v ++ o.entry)
    exec .waybillWriteEffect s = .next { s with jn := (j.relook o.tick).serve })
  ∧ (∀ (s : Machine.State) o, s.jn.boot.porst = false → s.jn.wayOps = [o] → s.jn.reached o.tick = true → o.remove = true → waybillFind o.entity (s.jn.probes o.ctx o.entity) = none →
    exec .waybillWriteEffect s = .next { s with jn := (({ s.jn with wayOps := [] } : Junction).relook o.tick).serve })
  ∧ (∀ (s : Machine.State) o, s.jn.boot.porst = false → s.jn.wayOps = [o] → s.jn.reached o.tick = false → exec .waybillWriteEffect s = .next { s with jn := s.jn.serve })
  ∧ (∀ (j : Junction) n, (∀ w ∈ j.ticks, w.tick < n) → j.relook n = j)
  ∧ (∀ (j : Junction), ∃ ws fs, j.serve = { j with ticks := ws, flights := fs })
  ∧ (∀ (j : Junction), j.ticks = [] → j.flights = [] → j.serve = j)
  ∧ (∀ (s : Machine.State) m t, s.jn.boot.porst = false → s.jn.b1.tt = .armed → s.jn.b1.arm = some m → s.jn.reached m = true → s.jn.b1.image = some t → s.jn.b0.tt = .active → s.jn.b0.plan = .active →
    let grid : OldGrid := { upTo := m, image := s.jn.image, plan := s.jn.plan, e := s.jn.clk.e, headway := s.jn.clk.headway }
    let j : Junction := { s.jn with
      b0 := { s.jn.b0 with tt := .valid, plan := .valid, leaving := true }, b1 := { s.jn.b1 with tt := .active, plan := .active, arm := none, since := m },
      clk := s.jn.clk.rebase m t.step, old := some grid, banksRead := 0, ports := s.jn.ports.map (fun (x : Port) => { x with vc0 := x.vc0.filter (fun d => decide (m ≤ d.tick)) }) }
    exec .bankSwitch s = .next { s with jn := if j.tray then (List.range 32).foldl (fun j q => if (j.port q).st = .active then j.request q .own bankReads else j) j else j })
  ∧ (∀ (s : Machine.State), s.jn.b0.tt ≠ .armed → s.jn.b1.tt ≠ .armed → exec .bankSwitch s = .next s)
  ∧ (∀ (s : Machine.State), s.jn.boot.porst = false → s.jn.b1.tt = .active → s.jn.b0.tt ≠ .active → s.jn.b0.leaving = true →
    exec .bankPreviousRelease s = .next { s with jn := if s.jn.reached (s.jn.b1.since + 1) then { s.jn with b0 := { s.jn.b0 with leaving := false } } else s.jn })
  ∧ (∀ (s : Machine.State), s.jn.b0.leaving = false → s.jn.b1.leaving = false → exec .bankPreviousRelease s = .next s)
  ∧ (∀ (s : Machine.State) b l, s.jn.boot.porst = false → s.jn.ballast.run0 = none → bit s.jn.boot.ballastFailed.toNat 0 = false → s.jn.ballast.export_ = [] → s.jn.ballast.software = b :: l →
    b.decompress = false → b.crcSel = 0 →
    exec (.ballastJobStart 0) s = .next { s with jn := { s.jn with ballast := { s.jn.ballast with software := l, exportTurn0 := true, run0 := some (b, false) } } })
  ∧ (∀ (s : Machine.State) b, s.jn.ballast.run0 = some b → exec (.ballastJobStart 0) s = .next s)
  ∧ (∀ (s : Machine.State) b m o ss, s.jn.boot.porst = false → s.jn.ballast.run0 = some (b, false) → b.crcSel = 0 → b.decompress = false → s.jn.poisonAt b.inAddr b.inLen = none →
    m < 8 → m < s.jn.mail.length → (s.jn.mbox m).session = some ss → ss.expired = false → ss.closing = none → (s.jn.mbox m).owed = [o] → o.waits = .ballast 0 b.id →
    let out := deflate (s.jn.read b.inAddr b.inLen)
    ∃ k r, exec (.ballastJobComplete 0) s = .next { s with jn := k } ∧ k.ballast = { s.jn.ballast with run0 := none } ∧ (k.mbox m).owed = []
      ∧ (k.mbox m).replies = (s.jn.mbox m).replies ++ [r] ∧ r.result = 0 ∧ r.tag = o.item.req.tag
      ∧ r.body = le 4 b.tag ++ zeros 4 ++ le 4 b.inLen ++ le 4 out.length ++ zeros 16 ∧ k.mem = (s.jn.write b.outAddr out).mem)
  ∧ (∀ (s : Machine.State), s.jn.ballast.run0 = none → exec (.ballastJobComplete 0) s = .next s)

/-- Die configurations, readmissions, the twin's die states, membership entries and aborts at their instants (R386, R388, R389, R393, R394, R396, R399,
R402, R404). Where the spec is silent, the clauses follow the model's choice in log 9, 39, 41. -/
def Obligations.DieAndSlotEvents : Prop :=
  (∀ (s : Machine.State) k c, s.jn.boot.porst = false → k < s.jn.dies.length → (s.jn.die k).next = some c → c.tick ≤ s.jn.tickNow → after c.epoch (s.jn.die k).epoch = false →
    let d := s.jn.die k
    let e := { d with watch := c.watch, deadN := c.deadN, owner := c.owner, next := none }
    let saved : List Nat := (s.jn.setDie k e).dies.map (fun x => x.epoch)
    (d.st = .dead ∨ (d.st = .off ∧ c.watch = false) ∨ ((d.st = .alive ∨ d.st = .suspect) ∧ c.watch = true ∧ (Tbl.get none s.jn.portMap k).isSome = true) →
      exec (.dieConfigEffect k) s = .next { s with jn := { s.jn.setDie k e with store := { s.jn.store with epochs := saved } } })
    ∧ (d.st = .off → c.watch = true → (Tbl.get none s.jn.portMap k).isSome = true →
      ∃ j, exec (.dieConfigEffect k) s = .next { s with jn := j } ∧ j.die k = { e with st := .alive, misses := 0 }
        ∧ j.unlogged = ({ s.jn.setDie k { e with st := .alive, misses := 0 } with store := { s.jn.store with epochs := saved } } : Junction).unlogged))
  ∧ (∀ (s : Machine.State) k c, (s.jn.die k).next = some c → s.jn.tickNow < c.tick → exec (.dieConfigEffect k) s = .next s)
  ∧ (∀ (s : Machine.State) k m, s.jn.boot.porst = false → k < s.jn.dies.length → (s.jn.die k).readmit = some m → m ≤ s.jn.tickNow → (s.jn.die k).st = .dead →
    let d := s.jn.die k
    let e := { d with readmit := none, misses := 0, st := if d.watch then .alive else .off }
    ∃ j, exec (.dieReadmitEffect k) s = .next { s with jn := j } ∧ j.die k = e ∧ j.unlogged = (s.jn.setDie k e).unlogged)
  ∧ (∀ (s : Machine.State) k, (s.jn.die k).readmit = none ∨ (s.jn.die k).st ≠ .dead → exec (.dieReadmitEffect k) s = .next s)
  ∧ (∀ (s : Machine.State) p b q, s.jn.boot.porst = false → s.jn.dies.length = 32 → (p = 66 ∨ p = 67) → p < s.jn.ports.length →
    (s.jn.port p).takeInbox 3 2 (fun x => rd x 0 2 == 0x34) = (some b, q) →
    ∃ j, exec (.twinStateExchange p) s = .next { s with jn := j } ∧ j.port p = q
      ∧ (∀ k, k < 32 → let d := s.jn.die k; let e := rd b.bytes (8 + 8 * k) 4
          (j.die k).epoch = (if after e d.epoch then e else d.epoch) ∧ (j.die k).st = (if rd b.bytes (12 + 8 * k) 4 % 4 = 3 then .dead else d.st)
          ∧ (j.die k).misses = d.misses ∧ (j.die k).owner = d.owner ∧ (j.die k).watch = d.watch ∧ (j.die k).next = d.next)
      ∧ j.store.epochs = j.dies.map (fun x => x.epoch)
      ∧ ({ j.quiet with dies := [], store := s.jn.quiet.store } : Junction) = { s.jn.quiet with dies := [] })
  ∧ (∀ (s : Machine.State) g e rearm, s.jn.boot.porst = false → (s.jn.slot g).next = some (e, rearm) → e.slot = g → e.effective ≤ s.jn.tickNow → (s.jn.tray = false ∨ e.valid = false) →
    let k := s.jn.slot g
    let on : SlotSt := if e.valid && e.abort then .armed else .disarmed
    let fresh := { k with entry := e, next := none, st := on, distinct := [], received := 0, originated := false }
    let kept := { k with entry := e, next := none, st := if e.valid && e.abort then SlotSt.aborted else SlotSt.disarmed }
    (k.st = .armed ∨ k.st = .disarmed → exec (.membershipEffect g) s = .next { s with jn := s.jn.setSlot g fresh })
    ∧ (k.st = .aborted → rearm = false → exec (.membershipEffect g) s = .next { s with jn := s.jn.setSlot g kept })
    ∧ (k.st = .aborted → rearm = true → after e.epoch k.entry.epoch = true → exec (.membershipEffect g) s = .next { s with jn := s.jn.setSlot g fresh })
    ∧ (k.st = .aborted → rearm = true → after e.epoch k.entry.epoch = false → exec (.membershipEffect g) s = .next { s with jn := s.jn.setSlot g { k with next := none, latchResult := 0x3B } })
    ∧ (k.st = .pending → exec (.membershipEffect g) s = .next { s with jn := s.jn.setSlot g { k with latched := some (e, rearm), next := none } }))
  ∧ (∀ (s : Machine.State) g e rearm, s.jn.boot.porst = false → (s.jn.slot g).next = some (e, rearm) → e.slot = g → e.effective ≤ s.jn.tickNow → s.jn.tray = true → e.valid = true →
    (s.jn.slot g).st = .armed ∨ (s.jn.slot g).st = .disarmed →
    ∃ j, exec (.membershipEffect g) s = .next { s with jn := j } ∧ (j.slot g).entry = e ∧ (j.slot g).st = (if e.abort then .armed else .disarmed)
      ∧ (∀ i, i < 32 → (bit (j.slot g).notWritten i = true ↔ bit e.mask i = true ∧ ((s.jn.port i).st ≠ .active ∨ (s.jn.die i).st = .dead
          ∨ s.jn.txns.any (fun t => t.port == i && t.use == TxnUse.member g) = true)))
      ∧ ({ j with slots := [], ports := [], txns := [], nextTxn := 0, shadow := [] } : Junction) = { s.jn with slots := [], ports := [], txns := [], nextTxn := 0, shadow := [] })
  ∧ (∀ (s : Machine.State) g e r, (s.jn.slot g).next = some (e, r) → s.jn.tickNow < e.effective → exec (.membershipEffect g) s = .next s)
  ∧ (∀ (s : Machine.State) g e, s.jn.boot.porst = false → (s.jn.slot g).next = none → (s.jn.slot g).latched = some (e, true) → e.slot = g → s.jn.tray = false →
    (s.jn.slot g).st = .aborted → e.effective ≤ s.jn.tickNow →
    let k := s.jn.slot g
    let on : SlotSt := if e.valid && e.abort then .armed else .disarmed
    exec (.membershipEffect g) s = .next { s with jn := s.jn.setSlot g (if after e.epoch k.entry.epoch
      then { k with latched := none, latchResult := 0, entry := e, next := none, st := on, distinct := [], received := 0, originated := false } else { k with latched := none, latchResult := 0x3B }) })
  ∧ (∀ (s : Machine.State) g, s.jn.boot.porst = false → (s.jn.slot g).st = .pending → (s.jn.slot g).latched = none →
    let k := s.jn.slot g
    let e := { k.entry with epoch := (k.entry.epoch + 1) % 2 ^ 32 }
    ∃ j, exec (.junctionAbortInstant g) s = .next { s with jn := j } ∧ j.slot g = { k with st := .aborted, entry := e, owesEpoch := s.jn.tray }
      ∧ j.unlogged = ({ s.jn.setSlot g { k with st := .aborted, entry := e, owesEpoch := s.jn.tray } with clk := s.jn.clk.reach k.instant } : Junction).unlogged)
  ∧ (∀ (s : Machine.State) g, (s.jn.slot g).st ≠ .pending → exec (.junctionAbortInstant g) s = .next s)
  ∧ (∀ (s : Machine.State) g, s.ls.inService = true → (s.ls.slot g).st = 2 →
    let y := s.ls.reach (s.ls.slot g).instant
    let z : Ls := y.setSlot g { y.slot g with st := 3 }
    ∃ x, exec (.linesideAbortInstant g) s = .next { s with ls := x }
      ∧ x.pins.abort = some (y.smp.lclk, BitVec.ofNat 28 (fld (s.ls.reg (0x3000 + g)) 0 28))
      ∧ x.unlogged = ({ z with pins := { s.ls.pins with abort := some (y.smp.lclk, BitVec.ofNat 28 (fld (s.ls.reg (0x3000 + g)) 0 28)) } } : Ls).unlogged)
  ∧ (∀ (s : Machine.State) g, (s.ls.slot g).st ≠ 2 → exec (.linesideAbortInstant g) s = .next s)

/-- Signals received at the Lineside and at a Junction (R127, R128, R140, R162, R205, R206, R207, R209, R390, R399, R401). Where the spec is silent, the
clauses follow the model's choice in log 9, 33, 60. -/
def Obligations.SignalEvents : Prop :=
  (∀ (s : Machine.State) l a q, s.ls.inService = true → (s.ls.port l).takeSigIn 1 = (some a, q) →
    let k := s.ls.slot (a / 32)
    let i := gridOf s.ls.clk.gridEpoch s.ls.clk.time (a % 32)
    (k.st = 1 → s.ls.clk.time ≤ i → exec (.signalAbortReceived (.ls l)) s
      = .next { s with ls := (s.ls.setPort l q).setSlot (a / 32) { k with st := 2, low := a % 32, instant := i, originated := false } })
    ∧ (k.st = 2 → k.instant ≤ i → exec (.signalAbortReceived (.ls l)) s = .next { s with ls := s.ls.setPort l q })
    ∧ (k.st = 0 ∨ k.st = 3 → exec (.signalAbortReceived (.ls l)) s = .next { s with ls := { s.ls.setPort l q with slotIgnored := s.ls.slotIgnored + 1 } }))
  ∧ (∀ (s : Machine.State) p a q, s.jn.boot.porst = false → p < s.jn.ports.length → s.jn.settled → (s.jn.port p).takeSigIn 1 = (some a, q) →
    let k := s.jn.slot (a / 32)
    let i := gridOf s.jn.clk.gridEpoch s.jn.clk.time (a % 32)
    (k.st = .disarmed ∨ k.st = .aborted → exec (.signalAbortReceived (.jn p)) s = .next { s with jn := (s.jn.setPort p q).setSlot (a / 32) { k with ignored := k.ignored + 1 } })
    ∧ (k.st = .armed → s.jn.clk.time ≤ i → ∃ j, exec (.signalAbortReceived (.jn p)) s = .next { s with jn := j }
        ∧ ({ j with ports := s.jn.ports } : Junction) = s.jn.setSlot (a / 32) { k with st := .pending, instant := i, distinct := [i], received := 1, originated := false }
        ∧ j.port p = q
        ∧ ∀ d, d < 64 → d < s.jn.ports.length → d ≠ p → (s.jn.port d).st = .active → bit k.entry.mask (d % 32) = true → (s.jn.tray = true → d < 32) →
            j.port d = (s.jn.port d).signal 1 (put 5 (a / 32) + a % 32)))
  ∧ (∀ (s : Machine.State) l a q, s.ls.inService = true → (s.ls.port l).takeSigIn 2 = (some a, q) →
    let y := s.ls.setPort l q
    (s.ls.fenceHold = true → s.ls.fenceLow.toNat = a → exec (.signalFenceReceived l) s = .next { s with ls := y })
    ∧ (¬(s.ls.fenceHold = true ∧ s.ls.fenceLow.toNat = a) → s.ls.reg 0x14 % 8192 = a →
      exec (.signalFenceReceived l) s = .next { s with ls := { y with fenceIgnored := sat 8 (s.ls.fenceIgnored + 1) } })
    ∧ (¬(s.ls.fenceHold = true ∧ s.ls.fenceLow.toNat = a) → s.ls.reg 0x14 % 8192 ≠ a → ∃ x, exec (.signalFenceReceived l) s = .next { s with ls := x }
        ∧ x.fenceHold = true ∧ x.fenceLow = BitVec.ofNat 13 a ∧ x.unlogged = ({ y with fenceHold := true, fenceLow := BitVec.ofNat 13 a } : Ls).unlogged))
  ∧ (∀ (s : Machine.State) l a q, s.ls.inService = true → s.ls.halt.stopGate = false → (s.ls.port l).takeSigIn 3 = (some a, q) →
    let d := s.ls.halt.drain
    let h : LsHalt := { s.ls.halt with drain := if d = 1 then 4 else d, drainReq := d != 1 && s.ls.halt.drainReq, stopGate := true, stopAt := s.ls.smp.lclk, snapDue := bit (s.ls.reg 0x110) 17 }
    ∃ x, exec (.signalStopReceived (.ls l)) s = .next { s with ls := x } ∧ x.halt = h
      ∧ (bit s.ls.trace.cfg 6 = false → x.trace = s.ls.trace) ∧ ({ x with trace := s.ls.trace } : Ls).unlogged = ({ s.ls.setPort l q with halt := h } : Ls).unlogged)
  ∧ (∀ (s : Machine.State) l a q, s.ls.inService = true → s.ls.halt.stopGate = true → (s.ls.port l).takeSigIn 3 = (some a, q) →
    exec (.signalStopReceived (.ls l)) s = .next { s with ls := s.ls.setPort l q })
  ∧ (∀ (s : Machine.State) p a q, s.jn.boot.porst = false → p < s.jn.ports.length → s.jn.settled → (s.jn.port p).takeSigIn 3 = (some a, q) →
    (p < 64 → exec (.signalStopReceived (.jn p)) s = .next { s with jn := s.jn.setPort p q })
    ∧ (∀ t, 64 ≤ p → s.jn.stopAt = some t → s.jn.clk.up < t + 10000 * uNs → exec (.signalStopReceived (.jn p)) s = .next { s with jn := s.jn.setPort p q })
    ∧ (64 ≤ p → s.jn.stopAt.all (fun t => decide (t + 10000 * uNs ≤ s.jn.clk.up)) = true →
      ∃ j, exec (.signalStopReceived (.jn p)) s = .next { s with jn := j } ∧ ({ j with ports := s.jn.ports } : Junction) = { s.jn with stopAt := some s.jn.clk.up } ∧ j.port p = q
        ∧ ∀ d, d < 64 → d < s.jn.ports.length →
            j.port d = if s.jn.role.unused d = false ∧ (s.jn.port d).st = .active then (s.jn.port d).signal 3 0 else s.jn.port d))
  ∧ (∀ (s : Machine.State) l a q, s.ls.inService = true → (s.ls.port l).takeSigIn 4 = (some a, q) →
    ∃ x, exec (.signalFlushReceived l) s = .next { s with ls := x } ∧ x.log.flushing = (s.ls.log.flushing || decide (s.ls.log.unflushed ≠ 0))
      ∧ x.unlogged = (s.ls.setPort l q).unlogged)
  ∧ (∀ (s : Machine.State) l a q, s.ls.inService = true → (s.ls.port l).takeSigIn 5 = (some a, q) → exec (.signalAlarmReceived (.ls l)) s = .next { s with ls := s.ls.setPort l q })
  ∧ (∀ (s : Machine.State) p a q, s.jn.boot.porst = false → s.jn.settled → (s.jn.port p).takeSigIn 5 = (some a, q) →
    exec (.signalAlarmReceived (.jn p)) s = .next { s with jn := { s.jn.setPort p q with cnt := Tbl.put 0 s.jn.cnt 10 (Tbl.get 0 s.jn.cnt 10 + 1) } })
  ∧ (∀ (s : Machine.State) l a q, s.ls.inService = true → (s.ls.port l).takeSigIn 6 = (some a, q) →
    let t := s.ls.trace
    let y := s.ls.setPort l q
    let at_ := some s.ls.smp.lclk
    (t.trigAt ≠ at_ → t.st = .running → exec (.signalTraceReceived l) s = .next { s with ls := { y with trace := { t with st := .post, trigNext := true, postLeft := fld t.cfg 8 15, trigAt := at_ } } })
    ∧ (t.trigAt ≠ at_ → t.st ≠ .running → exec (.signalTraceReceived l) s = .next { s with ls := { y with trace := { t with extra := sat 8 (t.extra + 1), trigAt := at_ } } })
    ∧ (t.trigAt = at_ → exec (.signalTraceReceived l) s = .next { s with ls := y }))
  ∧ (∀ (s : Machine.State) (x : Instr) l n, (x, n) ∈ ([(.signalAbortReceived (.ls l), 1), (.signalFenceReceived l, 2), (.signalStopReceived (.ls l), 3), (.signalFlushReceived l, 4), (.signalAlarmReceived (.ls l), 5), (.signalTraceReceived l, 6)] : List (Instr × Nat)) →
    (s.ls.port l).takeSigIn n = (none, s.ls.port l) → exec x s = .next s)
  ∧ (∀ (s : Machine.State) (x : Instr) p n, (x, n) ∈ ([(.signalAbortReceived (.jn p), 1), (.signalStopReceived (.jn p), 3), (.signalAlarmReceived (.jn p), 5)] : List (Instr × Nat)) →
    s.jn.settled → (s.jn.port p).takeSigIn n = (none, s.jn.port p) → exec x s = .next s)

/-- What a sample edge of a Junction does (R34, R37, R49, R170, R514). Where the spec is silent, the clauses follow the model's choice in log 1, 9, 17,
72. -/
def Obligations.SampleEdges : Prop :=
  (∀ (s : Machine.State) n, s.jn.boot.porst = false → s.jn.clk.tick = some n → (∀ c, (s.jn.ctx c).rec_.wbSize = 0) →
    ∃ (j : Junction), ∃ d, exec (.sampleEdge []) s = .next { s with jn := j.serve } ∧ j.clk.tick = some (n + 1) ∧ (s.jn.ref.stepping = false → s.jn.ref.masters = [] → j.clk = s.jn.clk.edge)
      ∧ j.ticks = (s.jn.ticks ++ [{ (if s.jn.boot.service = 2 then TickWork.empty (n + 1) else TickWork.idle (n + 1)) with statDelta := d }]).drop (s.jn.ticks.length - 3)
      ∧ (∀ p, p < s.jn.ports.length → (j.port p).slot = 0 ∧ (j.port p).rotation = 0 ∧ (j.port p).st = (s.jn.port p).st ∧ (p < 64 → (j.port p).stats = (s.jn.port p).stats))
      ∧ j.mem = s.jn.mem ∧ j.mail = s.jn.mail ∧ j.b0 = s.jn.b0 ∧ j.b1 = s.jn.b1 ∧ j.sec = s.jn.sec ∧ j.ctxs = s.jn.ctxs ∧ j.det = s.jn.det ∧ j.logs = s.jn.logs
      ∧ j.dies.map (fun x => x.epoch) = s.jn.dies.map (fun x => x.epoch) ∧ j.dies.map (fun x => x.st) = s.jn.dies.map (fun x => x.st))
  ∧ (∀ (s : Machine.State), s.jn.boot.porst = false → s.jn.clk.tick = none →
    ∃ (j : Junction), exec (.sampleEdge []) s = .next { s with jn := j.serve } ∧ j.clk.tick = none ∧ j.clk.prov = s.jn.clk.prov + 1 ∧ j.ticks = s.jn.ticks
      ∧ (s.jn.ref.stepping = false → s.jn.ref.masters = [] → j.clk = s.jn.clk.edge)
      ∧ (∀ p, p < s.jn.ports.length → (j.port p).slot = 0 ∧ (j.port p).rotation = 0 ∧ (j.port p).st = (s.jn.port p).st)
      ∧ j.mem = s.jn.mem ∧ j.mail = s.jn.mail ∧ j.b0 = s.jn.b0 ∧ j.b1 = s.jn.b1 ∧ j.sec = s.jn.sec ∧ j.dies = s.jn.dies ∧ j.slots = s.jn.slots ∧ j.bundles = s.jn.bundles)
  ∧ (∀ (s : Machine.State) temps, s.jn.boot.porst = false → temps.any (fun (x : Nat × Int) => decide (tripAt x.1 ≤ x.2)) = true →
    ∃ j, exec (.sampleEdge temps) s = .next { s with jn := j } ∧ j.boot.porst = true ∧ j.boot.tripped = true ∧ j.store.thermtrip = true ∧ j.mem = [] ∧ j.boot.last = s.jn.boot.last)
  ∧ (∀ (s : Machine.State) temps, s.jn.boot.porst = true → exec (.sampleEdge temps) s = .next s)

/-- The deadlines of a tick (R41, R43, R122, R255, R257, R262, R263, R277, R379, R387). Where the spec is silent, the clauses follow the model's choice in
log 1, 9, 52, 53, 78, 82. -/
def Obligations.TickDeadlines : Prop :=
  (∀ (s : Machine.State) w, s.jn.boot.porst = false → s.jn.openTick (·.frameClosed) = some w → s.jn.tray = false →
    exec .dFrameDeadline s = .next { s with jn := ((s.jn.reachDue w.tick 0).setWork { w with frameClosed := true }).serve })
  ∧ (∀ (s : Machine.State) w, s.jn.boot.porst = false → s.jn.openTick (·.frameClosed) = some w → s.jn.tray = true →
    ∃ (j : Junction), exec .dFrameDeadline s = .next { s with jn := j.serve } ∧ j.clk = s.jn.clk.reach (s.jn.dueAt w.tick 0) ∧ j.work w.tick = some { w with frameClosed := true }
      ∧ (∀ k, k < 32 → k < s.jn.ports.length → (∀ g, (s.jn.slot g).st ≠ .armed ∧ (s.jn.slot g).st ≠ .pending) → w.frames = [] →
          j.port k = if (s.jn.rxStreams w.tick k (fun x => x.kind == 0)).length ≠ 0 ∧ bit w.seen.toNat k = false then (s.jn.port k).count 24 1 else s.jn.port k)
      ∧ (∀ t p x, s.jn.imageOf w.tick = some t → t.streams.filter (fun y => y.tx && (y.presence && decide (66 ≤ y.port))) = [x] → x.port = p → p < s.jn.ports.length → w.frames = [] →
          let ready := ((s.jn.clk.reach (s.jn.dueAt w.tick 0)).time : Int) ≤ s.jn.edgeOf w.tick + ((x.time * uNs : Nat) : Int)
          (s.jn.switched w.tick = false → ready →
            (j.port p).vc0 = (s.jn.port p).vc0.filter (fun y => !(y.id == x.id && y.tick == w.tick)) ++ [⟨x.id, w.tick, le 8 w.tick ++ le 4 s.jn.id ++ le 4 w.presence.toNat⟩])
          ∧ (s.jn.switched w.tick = true ∨ ¬ready → (j.port p).vc0 = (s.jn.port p).vc0)))
  ∧ (∀ (s : Machine.State) w, s.jn.boot.porst = false → s.jn.openTick (·.trayClosed) = some w → s.jn.tray = false →
    exec .dTrayDeadline s = .next { s with jn := (s.jn.reachDue w.tick 1).setWork { w with trayClosed := true } })
  ∧ (∀ (s : Machine.State) w, s.jn.boot.porst = false → s.jn.openTick (·.trayClosed) = some w → s.jn.tray = true → s.jn.dies.length = 32 →
    ∃ j, exec .dTrayDeadline s = .next { s with jn := j } ∧ j.clk = s.jn.clk.reach (s.jn.dueAt w.tick 1)
      ∧ (s.jn.planOf w.tick = none → j.work w.tick = some { w with trayClosed := true, reduceClosed := true })
      ∧ (∀ p, s.jn.planOf w.tick = some p → w.merged = true → w.recs ≠ [] → ∃ w', j.work w.tick = some w' ∧ w'.trayClosed = true ∧ w'.reduceClosed = true ∧ w'.void = false
          ∧ w'.recs = w.recs ∧ w'.digest = some (p.outputDigest false w.tick w.present.toNat w.recs))
      ∧ (∀ k, k < 32 → (Tbl.get none s.jn.portMap k).isSome = true →
          let d := s.jn.die k
          let e := j.die k
          let theirs := if (s.jn.presentOf w).2 then 0 else (w.partnerWord.getD 0).toNat
          let seen := bit w.presence.toNat k || bit theirs k || bit w.stale.toNat k
          (d.st = .off ∨ d.st = .dead → e.st = d.st ∧ e.misses = d.misses ∧ e.epoch = d.epoch)
          ∧ (d.st = .alive ∨ d.st = .suspect → seen = true → e.st = .alive ∧ e.misses = 0 ∧ e.epoch = d.epoch)
          ∧ (d.st = .alive ∨ d.st = .suspect → seen = false → d.misses + 1 < d.deadN → e.misses = d.misses + 1 ∧ e.epoch = d.epoch ∧ e.st = if d.misses = 1 then .suspect else d.st)
          ∧ (d.st = .alive ∨ d.st = .suspect → seen = false → d.deadN ≤ d.misses + 1 → e.misses = d.misses + 1 ∧ e.st = .dead ∧ e.epoch = (d.epoch + 1) % 2 ^ 32)))
  ∧ (∀ (s : Machine.State) w, s.jn.boot.porst = false → s.jn.openTick (·.reduceClosed) = some w → s.jn.planOf w.tick = none →
    exec (.reductionDeadline (1 + s.jn.role.level)) s = .next { s with jn := ((s.jn.reachDue w.tick (1 + s.jn.role.level)).setWork { w with reduceClosed := true }).serve })
  ∧ (∀ (s : Machine.State) w p, s.jn.boot.porst = false → s.jn.openTick (·.reduceClosed) = some w → s.jn.planOf w.tick = some p → s.jn.tray = false → w.merging = [] → w.recs ≠ [] →
    let root := s.jn.role.level == 3
    ∃ (j : Junction), ∃ w', exec (.reductionDeadline (1 + s.jn.role.level)) s = .next { s with jn := j.serve } ∧ j.clk = s.jn.clk.reach (s.jn.dueAt w.tick (1 + s.jn.role.level)) ∧ j.work w.tick = some w'
      ∧ w'.reduceClosed = true ∧ w'.void = false ∧ w'.recs = w.recs ∧ w'.digest = some (p.outputDigest root w.tick w.present.toNat w.recs)
      ∧ (root = true → w'.stats = some (p.statsBytes w.tick s.jn.id w.recs)))
  ∧ (∀ (s : Machine.State) w d, s.jn.boot.porst = false → s.jn.openTick (fun w => w.compared || !w.reduceClosed) = some w → w.digest = some d →
    let j := (s.jn.reachDue w.tick (2 + s.jn.role.level)).setWork { w with compared := true }
    (w.twinDigest = none → exec (.reductionDeadline (2 + s.jn.role.level)) s = .next { s with jn := (j.bump 2 1).serve })
    ∧ (∀ b, w.twinDigest = some b → w.alone = false → w.void = false → rd b 0x14 4 % 4 = 0 → rd b 0x10 4 = w.present.toNat → rd b 0 8 = w.tick → rd b 8 8 = d →
        exec (.reductionDeadline (2 + s.jn.role.level)) s = .next { s with jn := (j.bump 0 1).serve })
    ∧ (∀ b, w.twinDigest = some b → w.alone = true ∨ w.void = true ∨ rd b 0x14 4 % 4 ≠ 0 ∨ rd b 0x10 4 ≠ w.present.toNat ∨ rd b 0 8 ≠ w.tick →
        exec (.reductionDeadline (2 + s.jn.role.level)) s = .next { s with jn := (j.bump 2 1).serve })
    ∧ (∀ b, w.twinDigest = some b → w.alone = false → w.void = false → rd b 0x14 4 % 4 = 0 → rd b 0x10 4 = w.present.toNat → rd b 0 8 = w.tick → rd b 8 8 ≠ d →
        ∃ (k : Junction), exec (.reductionDeadline (2 + s.jn.role.level)) s = .next { s with jn := k.serve } ∧ k.cnt = Tbl.put 0 s.jn.cnt 1 (Tbl.get 0 s.jn.cnt 1 + 1) ∧ k.quiet = j.quiet))
  ∧ (∀ (s : Machine.State) w b p, s.jn.boot.porst = false → s.jn.role.level ≠ 3 → s.jn.openTick (·.bcastClosed) = some w → s.jn.planOf w.tick = some p →
    let j := s.jn.reachDue w.tick 5
    (w.statsPrim = some b → (∀ c, w.statsCross = some c → statsCore b = statsCore c) → statsOk p.digest w.tick b = true →
      exec .dBcastDeadline s = .next { s with jn := ({ j.setWork { w with bcastClosed := true, stats := some b } with stats := some (w.tick, b) } : Junction).serve })
    ∧ (w.statsPrim = none → w.statsCross = some b → statsOk p.digest w.tick b = true →
      exec .dBcastDeadline s = .next { s with jn := ({ j.setWork { w with bcastClosed := true, stats := some b } with stats := some (w.tick, b) } : Junction).serve })
    ∧ (w.statsPrim = some b → (∀ c, w.statsCross = some c → statsCore b = statsCore c) → statsOk p.digest w.tick b = false →
      exec .dBcastDeadline s = .next { s with jn := (j.setWork { w with bcastClosed := true, stats := none }).serve })
    ∧ (∀ c, w.statsPrim = some b → w.statsCross = some c → statsCore b ≠ statsCore c → ∃ (k : Junction), exec .dBcastDeadline s = .next { s with jn := k.serve } ∧ k.stats = s.jn.stats
        ∧ k.work w.tick = some { w with bcastClosed := true, stats := none } ∧ k.quiet = (j.setWork { w with bcastClosed := true, stats := none }).quiet))
  ∧ (∀ (s : Machine.State) w, s.jn.boot.porst = false → s.jn.role.level = 3 → s.jn.openTick (·.bcastClosed) = some w → s.jn.planOf w.tick = none → w.digest = none →
    exec .dBcastDeadline s = .next { s with jn := ({ (s.jn.reachDue w.tick 5).setWork { w with compared := true, bcastClosed := true } with
      stats := match w.stats with | some b => some (w.tick, b) | none => s.jn.stats } : Junction).serve })
  ∧ (∀ (s : Machine.State) w, s.jn.boot.porst = false → s.jn.openTick (·.scoreClosed) = some w → s.jn.bundles = [] →
    let vs := sortBy (fun b => rd b 8 4 + 2 ^ 32 * (rd b 0xC 1 % 16)) w.verdicts
    exec .dScoreEndDeadline s = .next { s with jn := ((s.jn.reachDue w.tick 6).setWork { w with scoreClosed := true, verdicts := vs }).serve })
  ∧ (∀ (s : Machine.State) w, s.jn.boot.porst = false → s.jn.openTick (·.published) = some w → w.verdicts = [] →
    exec .dPublishDeadline s = .next { s with jn := (s.jn.reachDue w.tick 7).setWork { w with published := true } })
  ∧ (∀ (s : Machine.State) w v c, s.jn.boot.porst = false → s.jn.openTick (·.published) = some w → w.verdicts = [v] → rd v 0xC 1 % 16 = c → rd v 0xD 1 = 0 → (s.jn.ctx c).rec_.histNear = 0 →
    c < s.jn.ctxs.length →
    exec .dPublishDeadline s = .next { s with jn := ((s.jn.reachDue w.tick 7).setWork { w with published := true }).setCtx c { s.jn.ctx c with published := (s.jn.ctx c).published + 1 } })
  ∧ (∀ (s : Machine.State) p id n w x l, s.jn.boot.porst = false → p < s.jn.ports.length → s.jn.rxStreams n p (fun y => y.id == id) = x :: l → s.jn.work n = some w →
    let j := { s.jn with clk := s.jn.clk.reach (s.jn.dueNs n x.time) }
    let q := (s.jn.port p).count 23 1
    let gone : RxStream := ⟨id, n, [], true, true, true, 0, false⟩
    let k := j.setPort p { q with streams := q.streams.filter (fun r => !(r.id == id && r.tick == n)) ++ [gone] }
    let done := (s.jn.port p).streams.any (fun r => r.id == id && r.tick == n && (r.taken || (r.whole x.flits && s.jn.inTime x n r.arrived)))
    (done = true → exec (.streamArrivalDeadline p id n) s = .next { s with jn := j })
    ∧ (done = false → x.kind ≠ 1 → ¬(x.kind = 2 ∧ p = s.jn.role.primaryUp) → exec (.streamArrivalDeadline p id n) s = .next { s with jn := k })
    ∧ (done = false → x.kind = 2 → p = s.jn.role.primaryUp →
      exec (.streamArrivalDeadline p id n) s = .next { s with jn := (List.range 16).foldl (fun (j : Junction) i => j.statsFlit s.jn.role.crossUp i) k }))
  ∧ (∀ (s : Machine.State), s.jn.ticks = [] → s.jn.flights = [] →
    exec .dFrameDeadline s = .next s ∧ exec .dTrayDeadline s = .next s ∧ (∀ k, exec (.reductionDeadline k) s = .next s) ∧ exec .dBcastDeadline s = .next s
    ∧ exec .dScoreEndDeadline s = .next s ∧ exec .dPublishDeadline s = .next s ∧ ∀ p id n, exec (.streamArrivalDeadline p id n) s = .next s)

/-- Blocks, training, identification, replay and retirement at either end of a link (R201, R218, R220, R221, R222, R223, R224, R226, R227). Where the spec
is silent, the clauses follow the model's choice in log 9, 61, 90. -/
def Obligations.LinkStates : Prop :=
  (∀ (s : Machine.State) e idx n rx, Running s e →
    let p := s.portAt e
    let now := match e with | .ls _ => s.ls.clk.up | .jn _ => s.jn.clk.up
    (p.st ≠ .active → exec (.blockDecoded e idx n rx) s = .next (s.withPort e { p with badBlock := none }))
    ∧ (p.st = .active → (decodeBlock n rx).1 = .clean → exec (.blockDecoded e idx n rx) s = .next (s.withPort e { p with badBlock := none }))
    ∧ (∀ k, p.st = .active → (decodeBlock n rx).1 = .corrected k →
      exec (.blockDecoded e idx n rx) s = .next (s.withPort e { (p.count 4 1).count 6 k with badBlock := none, corrected := p.corrected + k }))
    ∧ (p.st = .active → (decodeBlock n rx).1 = .uncorrectable → p.uncorr < 16 →
      exec (.blockDecoded e idx n rx) s = .next (s.withPort e { p.count 5 1 with badBlock := some idx, uncorr := p.uncorr + 1 }))
    ∧ (p.st = .active → (decodeBlock n rx).1 = .uncorrectable → 16 ≤ p.uncorr → Free s e →
      Moves (exec (.blockDecoded e idx n rx) s) s e { Port.retrain { p.count 5 1 with badBlock := some idx, uncorr := p.uncorr + 1 } false with badBlock := some idx })
    ∧ (∀ k, p.st = .active → (decodeBlock n rx).1 = .laneParity k → Free s e → ∃ x, Moves (exec (.blockDecoded e idx n rx) s) s e x ∧ x.st = .retired
      ∧ x.retired = (now :: p.retired).filter (fun t => decide (now < t + uSec)) ∧ x.stats = ((p.count 7 1).count 12 1).stats ∧ x.paritySeen = true ∧ x.badBlock = some idx))
  ∧ (∀ (s : Machine.State) e k t, Running s e →
    let p := s.portAt e
    (p.replay = k :: t → p.st = .active → 256 ≤ k.slots → k.pending = false → k.replays < 8 → exec (.replayTimeout e) s = .next (s.withPort e { p with replay := { k with pending := true } :: t }))
    ∧ (p.replay = k :: t → p.st = .active → 256 ≤ k.slots → k.pending = false → 8 ≤ k.replays → Free s e → Moves (exec (.replayTimeout e) s) s e ((p.count 13 1).retrain false))
    ∧ (p.replay = k :: t → p.st ≠ .active ∨ k.slots < 256 ∨ k.pending = true → exec (.replayTimeout e) s = .next s)
    ∧ (p.replay = [] → exec (.replayTimeout e) s = .next s))
  ∧ (∀ (s : Machine.State) e, Running s e →
    let p := s.portAt e
    (p.st = .retired → Moves (exec (.retireTimeout e) s) s e { p with st := if 3 ≤ p.retired.length then .held else .train, tr := Training.fresh })
    ∧ (p.st ≠ .retired → exec (.retireTimeout e) s = .next s)
    ∧ (p.st = .train → Moves (exec (.trainTimeout e) s) s e { p with st := .down, tr := { p.tr with retry := true } })
    ∧ (p.st ≠ .train → exec (.trainTimeout e) s = .next s)
    ∧ (p.st = .active → Free s e → Moves (exec (.markerMissing e) s) s e (p.retrain false))
    ∧ (p.st ≠ .active → exec (.markerMissing e) s = .next s))
  ∧ (∀ (s : Machine.State) e, Running s e →
    let p := s.portAt e
    let may := match e with | .ls l => s.ls.linkMayTrain l | .jn q => s.jn.mayTrain q
    let x := { p with st := .train, tr := Training.fresh, identSent := false }
    (may = true → p.st = .down → p.hold = false → p.unused = false → Moves (exec (.linkTrainStart e) s) s e x ∧ (p.tr.retry = true → Moves (exec (.trainRetry e) s) s e x))
    ∧ (may = false ∨ p.st ≠ .down ∨ p.hold = true ∨ p.unused = true → exec (.linkTrainStart e) s = .next s ∧ exec (.trainRetry e) s = .next s)
    ∧ (p.tr.retry = false → exec (.trainRetry e) s = .next s))
  ∧ (∀ (s : Machine.State) e same (h : Word), Running s e →
    let p := s.portAt e
    let t := p.tr
    let ok := trainCheckOk h.toNat
    let now := match e with | .ls _ => s.ls.clk.up | .jn _ => s.jn.clk.up
    let leader := match e with | .ls _ => false | .jn q => s.jn.leads q
    let first := bit h.toNat 12 && !leader && !t.sawLeader
    let restart := first && !(bit h.toNat 14) && !t.responder && (match t.since with | some u => decide (now ≤ u + 50000 * uNs) | none => true)
    let good := if same then t.good + 1 else 1
    let lock := t.lock || decide (8 ≤ good)
    let run := if lock && bit h.toNat 13 then t.lockedRun + 1 else 0
    let lost := decide (4 ≤ t.bad + 1)
    (p.st = .active → ok = true → Free s e → Moves (exec (.trainingFrameReceived e same h) s) s e (p.retrain true))
    ∧ (p.st ≠ .train → p.st ≠ .active ∨ ok = false → exec (.trainingFrameReceived e same h) s = .next s)
    ∧ (p.st = .train → ok = true → restart = false → exec (.trainingFrameReceived e same h) s
      = .next (s.withPort e { p with tr := { t with good := good, bad := 0, lock := lock, lockedRun := run, sawLeader := t.sawLeader || first,
                                                    extra := if t.extra.isNone && decide (1000 ≤ run) then some 16 else t.extra }, blockLock := lock }))
    ∧ (p.st = .train → ok = true → restart = true → exec (.trainingFrameReceived e same h) s
      = .next (s.withPort e { p with tr := { t with good := 1, bad := 0, lock := false, lockedRun := 0, sawLeader := true, extra := none }, blockLock := false }))
    ∧ (p.st = .train → ok = false → exec (.trainingFrameReceived e same h) s
      = .next (s.withPort e { p with tr := { t with good := 0, bad := t.bad + 1, lock := t.lock && !lost, lockedRun := 0 }, blockLock := t.lock && !lost })))
  ∧ (∀ (p : Port) (v : TxEnv), p.slot < v.slots → p.slot % 5 = 0 →
    p.transmitTrain v = { p with slot := p.slot + 1, wire := trainWire (trainHeader v.who v.leader (p.tr.lock || p.tr.extra.isSome) p.tr.responder)
                                 tr := { p.tr with since := some (p.tr.since.getD v.run), extra := p.tr.extra.map (· - 1) }
                                 st := if p.tr.extra = some 1 then .ident else p.st, identSent := if p.tr.extra = some 1 then false else p.identSent })
  ∧ (∀ (s : Machine.State) e raw b, Running s e → identMessage raw = some b →
    let p := s.portAt e
    let far := match e with | .ls _ => false | .jn q => s.jn.farLineside q
    let known := match e with | .ls _ => true | .jn q => s.jn.neighbourOk q b
    let good := rd b 0 2 = 0x30 ∧ rd b 2 2 = 1 ∧ rd b 9 1 = b2n p.rate400 ∧ known = true
    let side := match e with | .ls _ => true | .jn _ => false
    (p.st = .ident → good → p.identSent = true → Moves (exec (.identReceived e raw) s) s e { Port.resetBooks side far { p with far := some (identOf b) } with st := .align })
    ∧ (p.st = .ident → good → p.identSent = false → exec (.identReceived e raw) s = .next (s.withPort e { p with far := some (identOf b), tr := { p.tr with identOk := true } }))
    ∧ (p.st = .ident → ¬good → Moves (exec (.identReceived e raw) s) s e { p.count 26 1 with st := .held, cablingErr := true, far := some (identOf b) })
    ∧ (p.st ≠ .ident → exec (.identReceived e raw) s = .next s))
  ∧ (∀ (s : Machine.State) e raw, Running s e → identMessage raw = none → exec (.identReceived e raw) s = .next s)
  ∧ (∀ (p : Port) r, p.st = .active → (p.retrain r).st = .train ∧ (p.retrain r).stats = (p.count 11 1).stats ∧ (p.retrain r).replay = [] ∧ (p.retrain r).q = p.q.filter (fun m => !m.started)
    ∧ (p.retrain r).sigq = [] ∧ (p.retrain r).partials = [] ∧ (p.retrain r).tr = { Training.fresh with responder := r } ∧ (p.retrain r).time = { p.time with source := none, echoes := [] })

/-- Slots, received flits, entry into service, quarantine and advertisements (R47, R48, R65, R66, R156, R204, R216, R217, R220, R227, R446, R498). Where
the spec is silent, the clauses follow the model's choice in log 9, 61. -/
def Obligations.LinkTraffic : Prop :=
  (∀ (s : Machine.State) p, s.jn.boot.porst = false → s.jn.settled → p < s.jn.ports.length →
    let x := s.jn.port p
    let base : Int := match s.jn.clk.tick with | some t => s.jn.clk.tickAt t | none => ((s.jn.clk.prov * hNs 12 * uNs : Nat) : Int)
    let at_ := s.jn.clk.reach (base + ((x.slot * slotPs (s.jn.role.rate400 p) * uNs / 1000 : Nat) : Int))
    (s.jn.slotCount p ≤ x.slot → exec (.flitSlotTransmit (.jn p)) s = .next s)
    ∧ (x.slot < s.jn.slotCount p → x.st ≠ .active → x.st ≠ .ident → x.st ≠ .train → exec (.flitSlotTransmit (.jn p)) s
        = .next { s with jn := ({ s.jn with clk := at_ } : Junction).setPort p { x with slot := x.slot + 1, wire := [] } })
    ∧ (x.slot < s.jn.slotCount p → x.st = .train → ∃ v : TxEnv, v.slots = s.jn.slotCount p ∧ v.leader = s.jn.leads p ∧ v.who = trainWho s.jn.id false p ∧ v.run = at_.up
        ∧ exec (.flitSlotTransmit (.jn p)) s = .next { s with jn := ({ s.jn with clk := at_ } : Junction).setPort p (x.transmitTrain v) })
    ∧ (x.slot < s.jn.slotCount p → x.st = .active → x.unacked < 1024 → ∃ j, exec (.flitSlotTransmit (.jn p)) s = .next { s with jn := j } ∧ j.clk = at_
        ∧ (j.port p).st = .active ∧ (j.port p).slot = x.slot + 1 ∧ (j.port p).lastTx.isSome = true
        ∧ (∀ d, d ≠ p → j.port d = s.jn.port d) ∧ ({ j with ports := [], crc := [], clk := s.jn.clk } : Junction) = { s.jn with ports := [], crc := [] })
    ∧ (x.slot < s.jn.slotCount p → x.st = .ident → x.blk ≠ [] ∨ x.slot % 5 = 0 → ∃ j, exec (.flitSlotTransmit (.jn p)) s = .next { s with jn := j } ∧ j.clk = at_ ∧ (j.port p).slot = x.slot + 1
        ∧ (j.port p).st = (if (x.identSent = true ∨ x.slot % 32 = 0) ∧ x.tr.identOk = true then .align else .ident)
        ∧ (∀ d, d ≠ p → j.port d = s.jn.port d) ∧ ({ j with ports := [], clk := s.jn.clk } : Junction) = { s.jn with ports := [] }))
  ∧ (∀ (s : Machine.State) l, s.ls.inService = true →
    let x := s.ls.port l
    let base : Int := match s.ls.clk.tick with | some n => s.ls.clk.tickAt n | none => ((s.ls.clk.prov * hNs 12 * uNs : Nat) : Int)
    let y := (s.ls.reach (base + ((x.slot * slotPs false * uNs / 1000 : Nat) : Int))).scanAdvance
    (s.ls.slotCount ≤ x.slot → exec (.flitSlotTransmit (.ls l)) s = .next s)
    ∧ (x.slot < s.ls.slotCount → x.st ≠ .active → x.st ≠ .ident → x.st ≠ .train → exec (.flitSlotTransmit (.ls l)) s
        = .next { s with ls := y.setPort l { y.port l with slot := x.slot + 1, wire := [] } })
    ∧ (x.slot < s.ls.slotCount → x.st = .active → x.unacked < 1024 → s.ls.linkDefer = none → ∃ z, exec (.flitSlotTransmit (.ls l)) s = .next { s with ls := z }
        ∧ (z.port l).st = .active ∧ (z.port l).slot = x.slot + 1 ∧ (z.port l).lastTx.isSome = true ∧ z.port (!l) = s.ls.port (!l)
        ∧ ({ z with portA := y.portA, portB := y.portB, crc := y.crc } : Ls) = y))
  ∧ (∀ (s : Machine.State) e slot grid raw, Running s e →
    let p := s.portAt e
    let engs := match e with | .ls _ => s.ls.crc | .jn _ => s.jn.crc
    let at_ := match e with | .ls _ => 0 | .jn q => q
    (∀ m ∈ p.partials, ingressOf engs at_ m = none) →
    (p.badBlock = some (slot / 5) → exec (.flitReceived e slot grid raw) s = .next (s.withPort e (p.count 2 1)))
    ∧ (p.badBlock ≠ some (slot / 5) → p.st ≠ .active → exec (.flitReceived e slot grid raw) s = .next s)
    ∧ (p.badBlock ≠ some (slot / 5) → p.st = .active → flitCrcOk raw = false →
      exec (.flitReceived e slot grid raw) s = .next (s.withPort e (if flitHparOk raw then p.count 2 1 else (p.count 2 1).count 3 1)))
    ∧ (p.badBlock ≠ some (slot / 5) → p.st = .active → flitCrcOk raw = true → flitHparOk raw = false → exec (.flitReceived e slot grid raw) s = .next (s.withPort e (p.count 3 1))))
  ∧ (∀ (s : Machine.State) e slot grid raw f, Running s e → Flit.decode raw = f → flitCrcOk raw = true → flitHparOk raw = true →
    let p := s.portAt e
    let check : Bool := match e with | .ls _ => (s.ls.rxEntry slot grid).isSome | .jn q => (s.jn.rxCheck q slot grid).isSome
    let now := match e with | .ls _ => s.ls.clk.time | .jn _ => s.jn.clk.time
    let keys := match e with | .ls _ => crcKeysOf s.ls.crc 0 s.ls.crcHeld | .jn q => crcKeysOf s.jn.crc q s.jn.crcHeld
    let engs := match e with | .ls _ => s.ls.crc | .jn _ => s.jn.crc
    let at_ := match e with | .ls _ => 0 | .jn q => q
    let c := p.credit f.vc.toNat
    let q := (p.count 1 1).setCredit f.vc.toNat { c with freed := (c.freed + 1) % 65536 }
    let got : RxMsg := ⟨f.vc.toNat, f.subch.toNat, f.payload.take f.lastLen.toNat, false, now, false, none⟩
    (∀ m ∈ got :: p.partials, ingressOf engs at_ m = none) → p.st = .active → p.badBlock ≠ some (slot / 5) → check = false → f.signal = 0 → f.nak = false → f.crVc = 0 → (f.ackSeq.toNat + 1) % 4096 = p.ackSeq → p.heldFlits = [] → p.expect < 4096 →
    f.kind = 0 → f.vc ≠ 0 → f.start = true → f.fin = true → f.seq.toNat = p.expect → p.partials.any (fun x => x.vc == f.vc.toNat && x.subch == f.subch.toNat) = false →
    keys.contains (4 * f.vc.toNat + f.subch.toNat) = false →
    exec (.flitReceived e slot grid raw) s = .next (s.withPort e { q with expect := (p.expect + 1) % 4096, inbox := p.inbox ++ [got] }))
  ∧ (∀ (s : Machine.State) l, s.ls.inService = true → (s.ls.port l).st = .align →
    ∃ y, exec (.linkActiveEntry (.ls l)) s = .next { s with ls := y } ∧ (y.port l).st = .active ∧ y.unlogged = (s.ls.setPort l ((s.ls.port l).enterActive true false)).unlogged)
  ∧ (∀ (s : Machine.State) p, s.jn.boot.porst = false → p < s.jn.ports.length → s.jn.settled → (s.jn.port p).st = .align → s.jn.linesidePort p = false →
    let x := (s.jn.port p).enterActive false false
    let ad : TxMsg := ⟨3, 1, false, s.jn.advertisement, false, 0, false⟩
    let same := p < 32 ∨ s.jn.tray = true ∨ Tbl.get [] s.jn.subtree p = Tbl.get [] s.jn.subtree (32 + p)
    (p < 64 → same → exec (.linkActiveEntry (.jn p)) s = .next { s with jn := s.jn.setPort p x })
    ∧ (p < 64 → ¬same → exec (.linkActiveEntry (.jn p)) s = .next { s with jn := (s.jn.setPort p x).advertise })
    ∧ (p = 64 ∨ p = 65 → exec (.linkActiveEntry (.jn p)) s = .next { s with jn := s.jn.setPort p { x with q := x.q ++ [ad] } })
    ∧ (p = 66 ∨ p = 67 → exec (.linkActiveEntry (.jn p)) s = .next { s with jn := { s.jn.setPort p x with twin := { s.jn.twin with judging := s.jn.twin.judging || s.jn.confirmed } } }))
  ∧ (∀ (s : Machine.State) p, s.jn.boot.porst = false → p < s.jn.ports.length → s.jn.settled → (s.jn.port p).st = .align → s.jn.linesidePort p = true →
    ∃ j, exec (.linkActiveEntry (.jn p)) s = .next { s with jn := j } ∧ (j.port p).st = .active ∧ (∀ d, d ≠ p → j.port d = s.jn.port d)
      ∧ ((s.jn.port p).far = none → j.port p = (s.jn.port p).enterActive false true)
      ∧ (∀ f, (s.jn.port p).far = some f → f.valid = true → f.configured = true → j.port p = (let x := (s.jn.port p).enterActive false true; { x with q := x.q ++ [⟨3, 0, false, cfgRequest s.jn.nextTxn bankReads, false, 0, false⟩] })
          ∧ j.txns = s.jn.txns ++ [⟨p, s.jn.nextTxn, .own, []⟩] ∧ j.shadow = s.jn.shadow)
      ∧ ({ j with ports := [], txns := [], nextTxn := 0, shadow := [], lineCfg := [], banksRead := 0 } : Junction)
        = { s.jn with ports := [], txns := [], nextTxn := 0, shadow := [], lineCfg := [], banksRead := 0 })
  ∧ (∀ (s : Machine.State) e, Running s e → (s.portAt e).st ≠ .align → exec (.linkActiveEntry e) s = .next s)
  ∧ (∀ (p : Port) a b, p.st = .align → (p.enterActive a b).st = .active ∧ (p.enterActive a b).nextSeq = 0 ∧ (p.enterActive a b).expect = 0 ∧ (p.enterActive a b).ackSeq = 0
    ∧ (p.enterActive a b).replay = [] ∧ (p.enterActive a b).slot = 0 ∧ (p.enterActive a b).cr1.limit = bufSize b 1 ∧ (p.enterActive a b).cr2.limit = bufSize b 2
    ∧ (p.enterActive a b).cr3.freed = bufSize a 3 ∧ (p.enterActive a b).q = p.q ∧ (p.enterActive a b).stats = p.stats)
  ∧ (∀ (s : Machine.State) p, s.jn.boot.porst = false →
    let x := s.jn.port p
    let now := s.jn.clk.markTick
    let whole := (∃ t ∈ x.rxTicks, t.1 < now ∧ t.2 = s.jn.ownedSlots p t.1) ∨ s.jn.ownedSlots p now = 0
    (2 ≤ x.mmRun → x.quarantine = false → p < s.jn.ports.length → ∃ j, exec (.timetableQuarantine p) s = .next { s with jn := j } ∧ (j.port p).quarantine = true
        ∧ (p < 64 → j.port p = { x.count 27 1 with quarantine := true, rxTicks := [] }) ∧ j.quiet = s.jn.quiet)
    ∧ (x.mmRun < 2 ∨ x.quarantine = true → exec (.timetableQuarantine p) s = .next s)
    ∧ (x.quarantine = true → whole → exec (.quarantineEnd p) s = .next { s with jn := s.jn.setPort p { x with quarantine := false } })
    ∧ (x.quarantine = false ∨ ¬whole → exec (.quarantineEnd p) s = .next s))
  ∧ (∀ (s : Machine.State) p m x, s.jn.boot.porst = false → p < 64 → p < s.jn.ports.length → (s.jn.port p).takeInbox 3 1 isAdvert = (some m, x) →
    let j := s.jn.setPort p x
    let set : List Nat := (List.range (rd m.bytes 2 2)).map (fun i => rd m.bytes (8 + 2 * i) 2 / 2 ^ 14 * 16384 + rd m.bytes (8 + 2 * i) 2 % 2 ^ 14)
    let k : Junction := { j with subtree := Tbl.put [] (Tbl.put [] j.subtree (p % 32) set) (32 + p) set }
    (s.jn.tray = true → exec (.subtreeAdvertisement p) s = .next { s with jn := j })
    ∧ (s.jn.tray = false → k.advertisement = j.advertisement → exec (.subtreeAdvertisement p) s = .next { s with jn := k })
    ∧ (s.jn.tray = false → k.advertisement ≠ j.advertisement → exec (.subtreeAdvertisement p) s = .next { s with jn := k.advertise }))
  ∧ (∀ (s : Machine.State) p, (s.jn.port p).takeInbox 3 1 isAdvert = (none, s.jn.port p) → exec (.subtreeAdvertisement p) s = .next s)

/-- Tick marks, delay echoes, source selection, holdover and leaps at both parts (R30, R165, R166, R168, R172, R173, R178, R180, R181, R182, R185, R194).
Where the spec is silent, the clauses follow the model's choice in log 4, 9, 12, 64, 89. -/
def Obligations.ClockEvents : Prop :=
  (∀ (s : Machine.State) p x, s.jn.boot.porst = false → s.jn.settled → p < s.jn.ports.length → s.jn.image = none →
    (s.jn.port p).streams.find? (fun y => !y.taken && y.id == 0xFFFF) = some x →
    let y := s.jn.port p
    let z := { y with streams := y.streams.map (fun (w : RxStream) => if w.id == x.id && w.tick == x.tick then { w with taken := true } else w) }
    let bad := x.bad || x.void || x.got.length == 0
    (bad = true → exec (.tickMarkReceived (.jn p)) s = .next { s with jn := s.jn.setPort p ((z.count 16 1).count 22 1) })
    ∧ (∀ d g, x.got = d :: g → bad = false →
      let m := TimeMark.decode d.2
      let r := y.time.take s.jn.clk m (capture x.arrived) x.replayed
      ∃ j, exec (.tickMarkReceived (.jn p)) s = .next { s with jn := j } ∧ (j.port p).streams = z.streams ∧ (j.port p).time = r.1
        ∧ (j.port p).stats = (if r.2.isSome then y.stats else (y.count 22 1).stats)
        ∧ ({ j.quiet with clk := s.jn.clk, trig := s.jn.trig, pps := s.jn.pps } : Junction) = s.jn.quiet))
  ∧ (∀ (s : Machine.State) p, s.jn.settled → (s.jn.port p).streams = [] → exec (.tickMarkReceived (.jn p)) s = .next s)
  ∧ (∀ (s : Machine.State) l, (s.ls.port l).streams = [] → exec (.tickMarkReceived (.ls l)) s = .next s)
  ∧ (∀ (s : Machine.State) l x, s.ls.inService = true →
    let id := match s.ls.banks.tActive with | some b => fld (s.ls.reg (0x214 + b2n b)) 16 16 | none => 0xFFFF
    let y := s.ls.port l
    let z := { y with streams := y.streams.map (fun (w : RxStream) => if w.id == x.id && w.tick == x.tick then { w with taken := true } else w) }
    let bad := x.bad || x.void || x.got.length == 0
    y.streams.find? (fun y => y.id == id && !y.taken) = some x →
    (bad = true → exec (.tickMarkReceived (.ls l)) s = .next { s with ls := s.ls.setPort l ((z.count 16 1).count 22 1) })
    ∧ (∀ d g, x.got = d :: g → bad = false →
      let m := TimeMark.decode d.2
      let r := y.time.take s.ls.clk m (capture x.arrived) x.replayed
      ∃ w, exec (.tickMarkReceived (.ls l)) s = .next { s with ls := w } ∧ (w.port l).time = r.1 ∧ (w.port l).streams = z.streams
        ∧ ({ w.unlogged with clk := s.ls.clk, portA := s.ls.portA, portB := s.ls.portB } : Ls) = { s.ls.unlogged with portA := s.ls.portA, portB := s.ls.portB }))
  ∧ (∀ (t : PortTime) (c : Clock) m t2 b, (t.take c m t2 b).1.source.map (·.mark) = some m ∧ ((b = true ∨ m.state = 0) → (t.take c m t2 b).2 = none)
    ∧ (b = true → (t.take c m t2 b).1.delays = t.delays ∧ (t.take c m t2 b).1.echoes = t.echoes))
  ∧ (∀ (s : Machine.State) p m x, s.jn.boot.porst = false → p < s.jn.ports.length → (s.jn.port p).takeInbox 3 2 (fun b => rd b 0 2 == 0x32) = (some m, x) →
    let r := x.time.take s.jn.clk (TimeMark.decode (m.bytes.drop 4)) (capture m.arrived) m.replayed
    let w := s.jn.twin
    ∃ j, exec (.twinTimeMessageReceived p) s = .next { s with jn := j } ∧ (j.port p).inbox = x.inbox ∧ (j.port p).time = r.1
      ∧ (s.jn.plan = none → j.twin = { w with exchanged := true, lost := false, owesStates := w.owesStates || w.lost })
      ∧ (s.jn.plan ≠ none → s.jn.old = none → j.twin = w)
      ∧ ({ j.quiet with clk := s.jn.clk, trig := s.jn.trig, pps := s.jn.pps, twin := w } : Junction) = s.jn.quiet)
  ∧ (∀ (s : Machine.State) p, (s.jn.port p).inbox = [] → exec (.twinTimeMessageReceived p) s = .next s ∧ exec (.delayEchoReceived p) s = .next s)
  ∧ (∀ (s : Machine.State) p m x, s.jn.boot.porst = false → (s.jn.port p).takeInbox 3 2 (fun b => rd b 0 2 == 0x31) = (some m, x) →
    exec (.delayEchoReceived p) s = .next { s with jn := s.jn.setPort p (if m.replayed then x else { x with time := { x.time with returned := (rd m.bytes 2 2, capture m.arrived) } }) })
  ∧ (∀ (s : Machine.State) e k t1 t2, Running s e → (match e with | .ls _ => True | .jn p => 64 ≤ p) →
    let x := s.portAt e
    let q := x.time.echoSeq
    let me := match e with | .ls _ => s.ls.die.toNat + put 17 1 | .jn _ => s.jn.id
    let period := match e with | .ls _ => s.ls.clk.servo.echoPeriod | .jn _ => s.jn.clk.servo.echoPeriod
    let t := { x.time with echoIn := 2 ^ period, echoSeq := (q + 1) % 65536, echoes := (x.time.echoes ++ [(q, (t2 : Int) - t1, 0)]).drop (x.time.echoes.length + 1 - 16) }
    let m : TxMsg := ⟨3, 2, false, le 2 0x31 ++ le 2 q ++ le 4 me ++ le 8 k ++ le 12 0 ++ le 4 0, false, 0, false⟩
    (x.time.mark = some (k, t1, t2) → x.time.echoIn = 0 → x.st = .active → exec (.delayEchoDue e) s = .next (s.withPort e { x with time := t, q := x.q ++ [m] }))
    ∧ (x.time.mark = none ∨ x.time.echoIn ≠ 0 ∨ x.st ≠ .active → exec (.delayEchoDue e) s = .next s))
  ∧ (∀ (s : Machine.State), s.jn.boot.porst = false → s.jn.clk.st = .locked → s.jn.clk.refLost = false → s.jn.cands.all (fun c => !c.ok) = true →
    let c := s.jn.clk
    let root := s.jn.role.level == 3 && (!s.jn.role.twinB || s.jn.twin.lost || (match (s.jn.port s.jn.twinPort).time.source with | some x => x.mark.followsTwin | none => false))
    exec (.sourceLoss .jn) s = .next { s with jn := { s.jn with clk := { c with st := .holdover, source := 0, holdFrom := (c.up, c.errorNow), lockRun := 0, unlockRun := 0, rate := s.jn.synceRate.getD c.lastRate, rootHoldover := c.rootHoldover || root } } })
  ∧ (∀ (s : Machine.State), s.ls.clk.st = .locked → s.ls.clk.refLost = false → s.ls.cands.all (fun c => !c.ok) = true →
    let c := s.ls.clk
    exec (.sourceLoss .ls) s = .next { s with ls := { s.ls with clk := { c with st := .holdover, source := 0, holdFrom := (c.up, c.errorNow), lockRun := 0, unlockRun := 0, rate := c.lastRate } } })
  ∧ (∀ (s : Machine.State) p, s.jn.boot.porst = false → s.jn.clk.st = .locked → s.jn.clk.refLost = false → s.jn.cands.find? (fun c => c.prio == s.jn.clk.source && c.ok) = none →
    bestSource s.jn.cands = some p → p ≠ s.jn.clk.source →
    exec (.sourceLoss .jn) s = .next { s with jn := { s.jn with clk := { s.jn.clk with source := p, lockRun := 0, unlockRun := 0, slew := true } } })
  ∧ (∀ (s : Machine.State) p, s.ls.clk.st = .locked → s.ls.clk.refLost = false → s.ls.cands.find? (fun c => c.prio == s.ls.clk.source && c.ok) = none →
    bestSource s.ls.cands = some p → p ≠ s.ls.clk.source →
    exec (.sourceLoss .ls) s = .next { s with ls := { s.ls with clk := { s.ls.clk with source := p, lockRun := 0, unlockRun := 0, slew := true } } })
  ∧ (∀ (s : Machine.State), (s.ls.cands.find? (fun c => c.prio == s.ls.clk.source && c.ok)).any (fun c => c.st == .locked) = true → exec (.sourceLoss .ls) s = .next s)
  ∧ (∀ (s : Machine.State), s.jn.clk.st = .locked → (s.jn.cands.find? (fun c => c.prio == s.jn.clk.source && c.ok)).any (fun c => c.st == .locked) = true → exec (.sourceLoss .jn) s = .next s)
  ∧ (∀ (s : Machine.State) x, s.jn.boot.porst = false → s.jn.clk.st = .locked →
    s.jn.cands.find? (fun x => x.ok && x.st == .locked && decide (x.prio < s.jn.clk.source) && decide (s.jn.clk.servo.revertTicks ≤ x.run)) = some x →
    exec (.sourceRevert .jn) s = .next { s with jn := { s.jn with clk := { s.jn.clk with source := x.prio, lockRun := 0, unlockRun := 0, slew := true } } })
  ∧ (∀ (s : Machine.State) x, s.ls.clk.st = .locked → s.ls.cands.find? (fun x => x.ok && x.st == .locked && decide (x.prio < s.ls.clk.source) && decide (s.ls.clk.servo.revertTicks ≤ x.run)) = some x →
    exec (.sourceRevert .ls) s = .next { s with ls := { s.ls with clk := { s.ls.clk with source := x.prio, lockRun := 0, unlockRun := 0, slew := true } } })
  ∧ (∀ (s : Machine.State), s.ls.cands.find? (fun x => x.ok && x.st == .locked && decide (x.prio < s.ls.clk.source) && decide (s.ls.clk.servo.revertTicks ≤ x.run)) = none → exec (.sourceRevert .ls) s = .next s)
  ∧ (∀ (s : Machine.State), s.jn.clk.untimed = false → s.jn.cands.find? (fun x => x.ok && x.st == .locked && decide (x.prio < s.jn.clk.source) && decide (s.jn.clk.servo.revertTicks ≤ x.run)) = none →
    exec (.sourceRevert .jn) s = .next s)
  ∧ (∀ (s : Machine.State),
    let c := s.jn.clk
    let past := c.servo.holdoverLimit * uSec ≤ c.holdFrom.2 * uSec + 50 * (c.up - c.holdFrom.1)
    let off := { c with st := .unlocked, source := 0, lockRun := 0, unlockRun := 0, rootHoldover := false, errorNs := 0xFFFFFFFF, steps := 0, stepParts := [], slew := false }
    (s.jn.boot.porst = false → c.st = .holdover → s.jn.timeRoot = false → past → exec (.holdoverLimitExceeded .jn) s = .next { s with jn := s.jn.setClk off })
    ∧ (c.st ≠ .holdover ∨ s.jn.timeRoot = true ∨ ¬past → exec (.holdoverLimitExceeded .jn) s = .next s))
  ∧ (∀ (j : Junction) c, c.untimed = true → (j.setClk c).clk = c ∧ (j.setClk c).pps.high = none ∧ (∀ (k : Nat) (x : Trig), j.trig[k]? = some x → x.cfg.squelch = true → x.pending = none → (j.setClk c).trig[k]? = some { x with high := none }) ∧ ({ j.setClk c with clk := j.clk, trig := j.trig, pps := j.pps } : Junction) = j)
  ∧ (∀ (s : Machine.State),
    let c := s.ls.clk
    let past := c.servo.holdoverLimit * uSec ≤ c.holdFrom.2 * uSec + 50 * (c.up - c.holdFrom.1)
    let off := { c with st := .unlocked, source := 0, lockRun := 0, unlockRun := 0, rootHoldover := false, errorNs := 0xFFFFFFFF, steps := 0, stepParts := [], slew := false }
    (c.st = .holdover → past → ∃ x, exec (.holdoverLimitExceeded .ls) s = .next { s with ls := x } ∧ x.clk = off ∧ x.unlogged = ({ s.ls with clk := off } : Ls).unlogged)
    ∧ (c.st ≠ .holdover ∨ ¬past → exec (.holdoverLimitExceeded .ls) s = .next s))
  ∧ (∀ (s : Machine.State),
    let c := s.jn.clk
    let r := s.jn.ref
    let t := c.reach ((c.leapAt * uSec : Nat) : Int)
    let moved (v : BitVec 16) (l : BitVec 2) : BitVec 16 := if bit l.toNat 1 then v - 1 else v + 1
    let same := bit r.leap.toNat 0 = true ∧ r.leapAt = c.leapAt
    (s.jn.boot.porst = false → bit c.leap.toNat 0 = true → ∃ r', exec (.leapAtReached .jn) s = .next { s with jn := { s.jn with ref := r', clk := { t with utcOffset := moved c.utcOffset c.leap, leap := 0, leapAt := 0 } } }
      ∧ (same → r'.utcOffset = moved r.utcOffset r.leap ∧ r'.leap = 0 ∧ r'.leapAt = 0) ∧ (¬same → r'.utcOffset = r.utcOffset ∧ r'.leap = r.leap ∧ r'.leapAt = r.leapAt)
      ∧ r'.masters.length = r.masters.length ∧ (∀ m ∈ r'.masters, m.leap59 = false)
      ∧ ({ r' with utcOffset := 0, leap := 0, leapAt := 0, masters := [] } : JnRef) = { r with utcOffset := 0, leap := 0, leapAt := 0, masters := [] })
    ∧ (bit c.leap.toNat 0 = false → exec (.leapAtReached .jn) s = .next s))
  ∧ (∀ (s : Machine.State),
    let c := s.ls.clk
    let t := c.reach ((c.leapAt * uSec : Nat) : Int)
    (bit c.leap.toNat 0 = true → exec (.leapAtReached .ls) s = .next { s with ls := { s.ls with clk := { t with utcOffset := if bit c.leap.toNat 1 then c.utcOffset - 1 else c.utcOffset + 1, leap := 0, leapAt := 0 } } })
    ∧ (bit c.leap.toNat 0 = false → exec (.leapAtReached .ls) s = .next s))

/-- The root's references, timestamp inputs, trigger outputs and PPS_OUT (R176, R177, R178, R179, R192, R193, R194, R508). Where the spec is silent, the
clauses follow the model's choice in log 9, 44, 45, 46, 64, 69, 89. -/
def Obligations.ReferencesAndPins : Prop :=
  (∀ (s : Machine.State) (m : PtpMsg), s.jn.boot.porst = false →
    let r := s.jn.ref
    let c := s.jn.clk
    let f := { s with free := s.free + 1 }
    (s.jn.role.level ≠ 3 ∨ r.ref ≠ some 0 ∨ m.domain ≠ r.domain → exec (.ptpMessageReceived m) s = .next f)
    ∧ (s.jn.role.level = 3 → r.ref = some 0 → m.domain = r.domain → s.jn.dropMasters = s.jn →
      (m.kind = 0 → r.gm = some m.master.identity → m.twoStep = true →
        exec (.ptpMessageReceived m) s = .next { f with jn := { s.jn with ref := { r with sync := some (m.seq, capture c.time, m.correction) } } })
      ∧ (m.kind = 0 → r.gm = some m.master.identity → m.twoStep = false → r.delays = [] →
        exec (.ptpMessageReceived m) s = .next { f with jn := { s.jn with ref := { r with sync := none, ms := some ((capture c.time : Int) - (m.origin + m.correction)) } } })
      ∧ (∀ t2 cf, m.kind = 8 → r.gm = some m.master.identity → r.sync = some (m.seq, t2, cf) → r.delays = [] →
        exec (.ptpMessageReceived m) s = .next { f with jn := { s.jn with ref := { r with sync := none, ms := some ((t2 : Int) - (m.origin + cf + m.correction)) } } })
      ∧ (m.kind = 0 → r.gm ≠ some m.master.identity → exec (.ptpMessageReceived m) s = .next f)
      ∧ (∀ t3 ms, m.kind = 9 → r.gm = some m.master.identity → m.toUs = true → r.delayReq = (m.seq, some t3) → r.ms = some ms →
        exec (.ptpMessageReceived m) s = .next { f with jn := { s.jn with ref := { r with delayReq := (m.seq, none), delays := (((ms + ((m.origin : Int) - t3 - m.correction) : Int) : Rat) / 2 :: r.delays).take 8 } } })
      ∧ (m.kind = 0xB → r.masters = [] → r.gm = none → m.master.utcValid = false → s.jn.sourceCode c.source ≤ 1 →
        exec (.ptpMessageReceived m) s = .next { f with jn := { s.jn with clk := { c with utcOffset := r.utcOffset, leap := r.leap, leapAt := r.leapAt }, ref := { r with masters := [{ m.master with seenAt := c.up }], gm := some m.master.identity, sync := none, ms := none, delays := [], delayReq := (r.delayReq.1, none) } } })))
  ∧ (∀ (s : Machine.State), s.jn.ref.ref ≠ some 1 ∨ s.jn.ref.ppsNext = none → exec .ppsInEdge s = .next { s with free := s.free + 1 })
  ∧ (∀ (s : Machine.State) t, s.jn.boot.porst = false → s.jn.ref.ref = some 1 → s.jn.ref.ppsNext = some t →
    let c := s.jn.clk
    let at_ := capture ((c.time : Int) - s.jn.ref.ppsDelay * 1024).toNat
    let off : Int := (at_ : Int) - t
    let close := ∃ u, s.jn.ref.ppsLast = some u ∧ at_ < u + 20 * uNs
    let big := 1000000 * 65536 < off ∨ off < -65536000000
    let r := { s.jn.ref with ppsNext := some (t + uSec), ppsLast := some at_, lastValid := some c.up, newGm := false }
    (close → exec .ppsInEdge s = .next { s with free := s.free + 1 })
    ∧ (¬close → s.jn.ref.newGm = true → c.tick.isSome = true → big → c.st = .locked → ∃ j, exec .ppsInEdge s = .next { s with jn := j, free := s.free + 1 } ∧ j.ref = { r with parked := true }
      ∧ j.clk.st = .holdover ∧ j.clk.source = 0 ∧ j.clk.time = c.time ∧ ({ j.quiet with ref := s.jn.ref, clk := c } : Junction) = s.jn.quiet)
    ∧ (¬close → s.jn.ref.newGm = false ∨ c.tick = none ∨ ¬big → ∃ j, exec .ppsInEdge s = .next { s with jn := j, free := s.free + 1 } ∧ j.ref = r
      ∧ ({ j with ref := s.jn.ref, clk := c, trig := s.jn.trig, pps := s.jn.pps } : Junction) = s.jn))
  ∧ (∀ (s : Machine.State) (ppt : Int), s.jn.boot.porst = false →
    let c : Clock := if s.jn.role.level = 3 ∧ s.jn.clk.st = .holdover then { s.jn.clk with rate := (ppt : Rat) / 1000000000000 } else s.jn.clk
    exec (.synceQualified ppt) s = .next { s with jn := { s.jn with ref := { s.jn.ref with synce := some ppt }, clk := c } })
  ∧ (∀ (s : Machine.State), s.jn.boot.porst = false →
    let back := s.jn.ref.synce.isSome = true ∧ s.jn.role.level = 3 ∧ s.jn.clk.st = .holdover
    let c : Clock := if back then { s.jn.clk with rate := s.jn.clk.lastRate } else s.jn.clk
    exec .synceDisqualified s = .next { s with jn := { s.jn with ref := { s.jn.ref with synce := none }, clk := c } })
  ∧ (∀ (s : Machine.State), s.jn.boot.porst = false →
    let q := (s.jn.ref.delayReq.1 + 1) % 65536
    let m : Bytes := le 1 1 ++ le 1 2 ++ le 2 44 ++ le 1 s.jn.ref.domain ++ zeros 25 ++ le 2 q ++ zeros 12
    let due := s.jn.role.level = 3 ∧ s.jn.ref.ref = some 0 ∧ s.jn.ref.gm.isSome = true ∧ s.jn.exp.e0.up = true
    (due → exec .ptpDelayReqDue s = .next { s with jn := { s.jn with ref := { s.jn.ref with delayReq := (q, some (capture s.jn.clk.time)) }, exp := { s.jn.exp with e0 := { s.jn.exp.e0 with q0 := s.jn.exp.e0.q0 ++ [m] } } } })
    ∧ (¬due → exec .ptpDelayReqDue s = .next s))
  ∧ (∀ (s : Machine.State) k falling wide x, s.jn.boot.porst = false → s.jn.tsIn[k]? = some x →
    let t := ((s.jn.clk.time : Int) - x.delay * 1024).toNat
    let close := ∃ u, x.last = some u ∧ t < u + 20 * uNs
    let stepped := match s.jn.clk.steppedAt with | some u => decide (u ≤ t) && decide (t ≤ u + 1000 * uNs) | none => false
    let r := le 12 (packTime (capture t)) ++ le 1 (k + put 3 (b2n falling) + put 4 (b2n s.jn.clk.untimed) + put 5 (b2n stepped)) ++ le 1 0 ++ le 2 x.dropped
    (wide = false ∨ bit x.edges (b2n falling) = false → exec (.tsInEdge k falling wide) s = .next s)
    ∧ (wide = true → bit x.edges (b2n falling) = true → close → exec (.tsInEdge k falling wide) s = .next { s with jn := { s.jn with tsIn := s.jn.tsIn.set k { x with dropped := sat 16 (x.dropped + 1) } } })
    ∧ (wide = true → bit x.edges (b2n falling) = true → ¬close → 64 ≤ x.queue.length →
      exec (.tsInEdge k falling wide) s = .next { s with jn := { s.jn with tsIn := s.jn.tsIn.set k { x with dropped := sat 16 (x.dropped + 1), last := some t } } })
    ∧ (wide = true → bit x.edges (b2n falling) = true → ¬close → x.queue.length < 64 → ∃ j, exec (.tsInEdge k falling wide) s = .next { s with jn := j }
        ∧ j.tsIn = s.jn.tsIn.set k { x with queue := x.queue ++ [r], dropped := 0, last := some t } ∧ ({ j.unlogged with tsIn := s.jn.tsIn } : Junction) = s.jn.unlogged))
  ∧ (∀ (s : Machine.State) k x, s.jn.boot.porst = false → s.jn.trig[k]? = some x →
    (∀ t, x.high = some t →
      let c := s.jn.clk.reach ((t + x.cfg.width * uNs : Nat) : Int)
      exec (.trigOutEdge k) s = .next { s with jn := { s.jn with clk := c, trig := s.jn.trig.set k (x.pulseEnd c.time) } } ∧ (x.pending = none → x.pulseEnd c.time = { x with high := none }))
    ∧ (∀ (t : Nat), x.high = none → x.next = some t →
      let c := s.jn.clk.reach (t : Int)
      let next := if x.cfg.mode = 2 then some (t + x.cfg.period * uNs) else none
      exec (.trigOutEdge k) s = .next { s with jn := { s.jn with clk := c, trig := s.jn.trig.set k { x with next := next, high := if x.cfg.squelch && c.untimed then none else some (max t c.time), late := x.late + b2n (decide (t < s.jn.clk.time)) } } })
    ∧ (x.high = none → x.next = none → exec (.trigOutEdge k) s = .next s))
  ∧ (∀ (s : Machine.State), s.jn.boot.porst = false →
    (∀ t, s.jn.pps.high = some t → exec .ppsOutEdge s = .next { s with jn := { s.jn with clk := s.jn.clk.reach ((t + s.jn.pps.width * uNs : Nat) : Int), pps := { s.jn.pps with high := none } } })
    ∧ (s.jn.pps.high = none → s.jn.clk.untimed = true → exec .ppsOutEdge s = .next s)
    ∧ (s.jn.pps.high = none → s.jn.clk.untimed = false →
      let t := cdiv s.jn.clk.time uSec * uSec
      exec .ppsOutEdge s = .next { s with jn := { s.jn with clk := s.jn.clk.reach (t : Int), pps := { s.jn.pps with high := some t } } }))

/-- Frames, presence words, partials, merges, digests and statistics as they arrive (R25, R30, R43, R121, R122, R250, R252, R257, R262, R263). Where the
spec is silent, the clauses follow the model's choice in log 9, 51, 54, 78, 82. -/
def Obligations.StreamsReceived : Prop :=
  (∀ (s : Machine.State) k x n d j w, s.jn.boot.porst = false → s.jn.takeStream k (fun y => y.kind == 0) = (some (x, n, d), j) → j.work n = some w →
    let size := 256 * 2 ^ (rd d 0x12 1 % 4)
    let f := d.take size
    let cfg := j.frameCfg k (rd f 0x13 1)
    let v := { w with seen := w.seen ||| BitVec.ofNat 32 (put k 1) }
    let whole := f.length = size ∧ crcOf crc32 (f.take (size - 4)) = rd f (size - 4) 4 ∧ rd f 0 8 = n ∧ rd f 0x10 2 = cfg.1 ∧ rd f 0x12 1 % 4 = cfg.2
    let die := Tbl.get none j.portMap k = some (rd f 8 4 % 2 ^ 17)
    (w.frameClosed = true → exec (.frameReceived k) s = .next { s with jn := j })
    ∧ (w.frameClosed = false → ¬die → exec (.frameReceived k) s = .next { s with jn := (j.setWork v).countPort k 26 })
    ∧ (w.frameClosed = false → die → ¬whole → exec (.frameReceived k) s = .next { s with jn := (j.setWork v).countPort k 24 })
    ∧ (w.frameClosed = false → die → whole → rd f 0xC 4 ≠ (j.die k).epoch →
      exec (.frameReceived k) s = .next { s with jn := (j.setWork { v with stale := w.stale ||| BitVec.ofNat 32 (put k 1) }).countPort k 25 })
    ∧ (w.frameClosed = false → die → whole → rd f 0xC 4 = (j.die k).epoch →
      exec (.frameReceived k) s = .next { s with jn := j.setWork { v with frames := Tbl.put [] w.frames k f } }))
  ∧ (∀ (s : Machine.State) p x n d j w, s.jn.boot.porst = false → s.jn.takeStream p (fun y => y.presence) = (some (x, n, d), j) → j.work n = some w →
    let ok := rd d 0 8 = n ∧ rd d 8 4 % 2 ^ 17 = Nat.xor j.id 1 ∧ w.trayClosed = false ∧ (p = 66 ∨ w.partnerWord = none)
    (ok → exec (.presenceWordReceived p) s = .next { s with jn := j.setWork { w with partnerWord := some (BitVec.ofNat 32 (rd d 12 4)) } })
    ∧ (¬ok → exec (.presenceWordReceived p) s = .next { s with jn := j }))
  ∧ (∀ (s : Machine.State) q x n d j w p, s.jn.boot.porst = false → s.jn.takeStream q (fun y => y.kind == 1) = (some (x, n, d), j) → j.work n = some w → j.planOf n = some p →
    let b := d.take p.partialLen
    let k := q % 32
    let other := if q < 32 then 32 + k else k
    let good := rd b 0xC 4 = p.digest ∧ fld (rd b 0x14 4) 0 18 = p.expectedOf k
    let v := { w with copies := w.copies ++ [(⟨q, some b⟩ : Copy)] }
    let r := { v with resolved := w.resolved ||| BitVec.ofNat 32 (put k 1) }
    let fresh := w.reduceClosed = false ∧ w.copies.any (fun c => c.port == q) = false
    (¬fresh → exec (.partialReceived q) s = .next { s with jn := j })
    ∧ (fresh → good → q < 64 → w.copies.any (fun c => c.port == other) = false → (j.rxStreams w.tick other (fun y => y.kind == 1)).length ≠ 0 → exec (.partialReceived q) s = .next { s with jn := j.setWork v })
    ∧ (fresh → good → q < 64 → w.copies.any (fun c => c.port == other) = false → (j.rxStreams w.tick other (fun y => y.kind == 1)).length = 0 → bit w.resolved.toNat k = false →
      exec (.partialReceived q) s = .next { s with jn := j.setWork { r with merging := w.merging ++ [(k, b)] } })
    ∧ (∀ o, fresh → good → q < 64 → w.copies.find? (fun c => c.port == other) = some (⟨other, o⟩ : Copy) → bit w.resolved.toNat k = false →
      (o = none → exec (.partialReceived q) s = .next { s with jn := j.setWork { r with merging := w.merging ++ [(k, b)] } })
      ∧ (∀ b', o = some b' → partialCore b = partialCore b' →
        exec (.partialReceived q) s = .next { s with jn := j.setWork { r with merging := w.merging ++ [(k, if q < 32 then b' else b)] } })
      ∧ (∀ b', o = some b' → partialCore b ≠ partialCore b' → ∃ i, exec (.partialReceived q) s = .next { s with jn := i } ∧ i.quiet = (j.setWork r).quiet))
    ∧ (fresh → ¬good → q < 64 → ∃ i, exec (.partialReceived q) s = .next { s with jn := i } ∧ ({ i.quiet with ticks := [] } : Junction) = { j.quiet with ticks := [] }
        ∧ (∃ v', i.work w.tick = some v' ∧ v'.copies = w.copies ++ [(⟨q, none⟩ : Copy)])))
  ∧ (∀ (s : Machine.State) w p, s.jn.boot.porst = false → s.jn.tray = true → s.jn.openTick (fun w => w.trayClosed || !w.frameClosed || w.merged) = some w → s.jn.planOf w.tick = some p →
    let fits := popcount 32 p.anyMask * p.fields.length ≤ s.jn.laneCap w.tick
    (s.jn.presencePending w.tick = false → fits → ∃ j v, exec .mergeBatchComplete s = .next { s with jn := j } ∧ j.work w.tick = some v ∧ v.merged = true ∧ v.present = (s.jn.presentOf w).1 ∧ v.alone = (s.jn.presentOf w).2
      ∧ v.recs = p.fields.map (fun f => (s.jn.reduceField p w (s.jn.presentOf w).1 f).1) ∧ ({ j with ticks := [], exclusions := [] } : Junction) = { s.jn with ticks := [], exclusions := [] })
    ∧ (s.jn.presencePending w.tick = true ∨ ¬fits → exec .mergeBatchComplete s = .next s))
  ∧ (∀ (s : Machine.State) w p, s.jn.boot.porst = false → s.jn.tray = false → s.jn.openTick (fun w => w.reduceClosed || w.merging.length == 0) = some w → s.jn.planOf w.tick = some p →
    let room := s.jn.laneCap w.tick / max 1 p.childLanes - popcount 32 w.present.toNat
    let start := if w.recs = [] then p.fields.map Field.empty else w.recs
    exec .mergeBatchComplete s = .next { s with jn := s.jn.setWork { w with
      recs := (w.merging.take room).foldl (fun r x => mergeRecs p.fields r (decodeRecs p.fields (x.2.drop 32))) start,
      present := (w.merging.take room).foldl (fun a x => a ||| BitVec.ofNat 32 (put x.1 1)) w.present, merging := w.merging.drop room } })
  ∧ (∀ (s : Machine.State) p x n d j, s.jn.boot.porst = false → s.jn.takeStream p (fun y => y.digest s.jn.role.level && decide (66 ≤ y.port)) = (some (x, n, d), j) →
    let k : Junction := { j with twin := { j.twin with exchanged := true, lost := false, owesStates := j.twin.owesStates || j.twin.lost } }
    (j.work n = none → exec (.twinDigestReceived p) s = .next { s with jn := k })
    ∧ (∀ w, j.work n = some w → w.twinDigest = none → w.compared = false → exec (.twinDigestReceived p) s = .next { s with jn := k.setWork { w with twinDigest := some (d.take 28) } })
    ∧ (∀ w, j.work n = some w → w.twinDigest ≠ none ∨ w.compared = true → exec (.twinDigestReceived p) s = .next { s with jn := k }))
  ∧ (∀ (s : Machine.State) p x n d j w, s.jn.boot.porst = false → s.jn.takeStream p (fun y => y.kind == 2) = (some (x, n, d), j) → j.work n = some w →
    let v := if p = j.role.primaryUp then { w with statsPrim := some d } else { w with statsCross := some d }
    let clean := j.tray = true ∨ p ≠ j.statsFrom n ∨ crcOf crc64Ecma (sub d 32 (32 * rd d 0x10 2)) = rd d 0x14 8
    (w.bcastClosed = true → exec (.statsStreamReceived p) s = .next { s with jn := j })
    ∧ (w.bcastClosed = false → clean → exec (.statsStreamReceived p) s = .next { s with jn := j.setWork v })
    ∧ (w.bcastClosed = false → ¬clean → ∃ i, exec (.statsStreamReceived p) s = .next { s with jn := i } ∧ i.unlogged = (j.setWork v).unlogged))
  ∧ (∀ (s : Machine.State) p i r d t x e at_, s.jn.boot.porst = false → s.jn.tray = false → s.jn.full = true →
    (s.jn.port p).streams.find? (fun r => (s.jn.rxStreams r.tick p (fun y => y.kind == 2 && y.id == r.id)).length != 0 && !r.bad && r.got.any (fun g => g.1 == i)) = some r →
    p = s.jn.statsFrom r.tick → s.jn.switched r.tick = false →
    r.got.find? (fun g => g.1 == i) = some (i, d) → s.jn.imageOf r.tick = some t → t.streams.filter (fun y => y.tx && y.kind == 2) = [x] → (t.slotsOf x).find? (fun y => y.2.index == i) = some (e, at_) →
    let go := (s.jn.clk.time : Int) + (40 * uNs : Nat) ≤ s.jn.edgeOf (r.tick + x.tickOffset) + ((e * slotPs (s.jn.role.rate400 x.port) * uNs / 1000 : Nat) : Int)
    let id := x.id + 65536 * (i + 1)
    (go → exec (.statsFlitReceived p i) s = .next { s with jn := s.jn.onPort x.port (fun y => { y with vc0 := y.vc0.filter (fun z => !(z.id == id && z.tick == r.tick)) ++ [(⟨id, r.tick, d⟩ : TxStream)] }) })
    ∧ (¬go → exec (.statsFlitReceived p i) s = .next s))
  ∧ (∀ (s : Machine.State) p i, s.jn.tray = true ∨ s.jn.full = false → exec (.statsFlitReceived p i) s = .next s)
  ∧ (∀ (s : Machine.State) p, (s.jn.port p).streams = [] → exec (.frameReceived p) s = .next s ∧ exec (.presenceWordReceived p) s = .next s ∧ exec (.partialReceived p) s = .next s
    ∧ exec (.twinDigestReceived p) s = .next s ∧ exec (.statsStreamReceived p) s = .next s)
  ∧ (∀ (s : Machine.State), s.jn.ticks = [] → exec .mergeBatchComplete s = .next s)
  ∧ (∀ (j : Junction) p ok x n d k, j.takeStream p ok = (some (x, n, d), k) → ({ k with ports := [] } : Junction) = { j with ports := [] }
    ∧ ∃ r ∈ (j.port p).streams, r.tick = n ∧ r.whole x.flits = true ∧ j.inTime x n r.arrived = true ∧ d = r.data ∧ x ∈ j.rxStreams n p ok)

/-- Detector batches, features, Waybill lookups, walks and siding pages (R266, R275, R282, R290, R292, R294, R295, R296, R303, R305, R306). Where the spec
is silent, the clauses follow the model's choice in log 9, 55, 92. -/
def Obligations.ScoringEvents : Prop :=
  (∀ (s : Machine.State) n c t e ent k w, s.jn.boot.porst = false → s.jn.tableOf n c = some t → t.dets = [e] → s.jn.entities n c e.scope t.job = [(ent, k)] → s.jn.work n = some w →
    let j := s.jn
    let key := detKey c e.id ent
    let st := Tbl.get DetState.fresh j.det key
    let y := ((j.ensOf n c).find? (fun x => x.index == e.input)).bind (fun x => w.ensOut c x ent)
    let r := e.eval st (j.suppressed w e k) (j.inputOf w e.scope e.input k) (j.statsFor w t.maxAge) (w.residual? c e.input k) y
    let open_ := w.scoreClosed = false ∧ w.evals.any (fun x => x.ctx == c && x.det == e.id && x.entity == ent) = false ∧ j.pairReady w c e ent k = true
    (¬open_ → exec (.detectorBatchReady n c) s = .next { s with jn := j.serve })
    ∧ (∀ fl, open_ → 3 ≤ e.scope → r = .skip fl → exec (.detectorBatchReady n c) s
        = .next { s with jn := (({ j with det := Tbl.put DetState.fresh j.det key st } : Junction).setWork { w with undo := w.undo ++ [(key, st)], evals := w.evals ++ [(⟨c, e.id, ent, fl, none, st.level⟩ : EvalRec)] }).serve })
    ∧ (∀ q sp sn, open_ → 3 ≤ e.scope → r = .done q sp sn → e.action = 0 →
        let st' := e.update (if e.form = 2 then { st with sp := sp, sn := sn } else st) q
        exec (.detectorBatchReady n c) s = .next { s with jn := (({ j with det := Tbl.put DetState.fresh j.det key st' } : Junction).setWork { w with undo := w.undo ++ [(key, st)], evals := w.evals ++ [(⟨c, e.id, ent, 0, some q, st'.level⟩ : EvalRec)] }).serve }))
  ∧ (∀ (s : Machine.State) n c, s.jn.boot.porst = false → s.jn.tableOf n c = none → exec (.detectorBatchReady n c) s = .next { s with jn := s.jn.serve })
  ∧ (∀ (s : Machine.State) n c t e ent k w i, s.jn.boot.porst = false → (s.jn.ensOf n c).find? (fun e => e.index == i) = some e → s.jn.tableOf n c = some t → s.jn.entities n c e.scope t.job = [(ent, k)] →
    s.jn.work n = some w → w.walk? c e.index ent = none →
    ∃ j v fv, exec (.featureDeadline n c i) s = .next { s with jn := j } ∧ j.clk = s.jn.clk.reach (s.jn.dueNs n (((s.jn.imageOf n).map (fun (t : TtImage) => t.deadline 5)).getD 0 + e.deadline)) ∧ j.work n = some v
      ∧ (v.walk? c e.index ent).bind (·.feats) = some fv ∧ fv.length = e.features.length ∧ ({ j with ticks := [], flights := [], clk := s.jn.clk } : Junction) = { s.jn with ticks := [], flights := [] })
  ∧ (∀ (s : Machine.State) n c i, s.jn.boot.porst = false → s.jn.ensOf n c = [] → exec (.featureDeadline n c i) s = .next { s with jn := s.jn.serve })
  ∧ (∀ (s : Machine.State) n c ent err w l, s.jn.boot.porst = false → s.jn.work n = some w → w.lookups = [l] → l.ctx = c → l.entity = ent → l.done = false →
    let x := s.jn.ctx c
    let over_ := { w with lookups := [{ l with done := true, found := none, failed := true }] }
    (err = false → l.failed = false → l.found ≠ none →
      exec (.waybillLookupComplete n c ent err) s = .next { s with jn := ((s.jn.setCtx c x).setWork { w with lookups := [{ l with done := true }] }).serve })
    ∧ (err = false → l.failed = false → l.found = none →
      exec (.waybillLookupComplete n c ent err) s = .next { s with jn := ((s.jn.setCtx c { x with wbMiss := x.wbMiss + 1 }).setWork { w with lookups := [{ l with done := true }] }).serve })
    ∧ (l.failed = true → exec (.waybillLookupComplete n c ent err) s = .next { s with jn := ((s.jn.setCtx c { x with wbErr := x.wbErr + 1 }).setWork over_).serve })
    ∧ (err = true → l.failed = false → ∃ slot, (s.jn.probes c ent ≠ [] → slot ∈ (s.jn.probes c ent).map (·.1)) ∧ (∀ i, waybillFind ent (s.jn.probes c ent) = some i → slot = i) ∧
      (let j := s.jn.poison 2 (wayAddr slot)
       exec (.waybillLookupComplete n c ent err) s = .next { s with jn := ((j.setCtx c { j.ctx c with wbErr := (j.ctx c).wbErr + 1 }).setWork over_).serve })))
  ∧ (∀ (s : Machine.State) n c ent err w, s.jn.boot.porst = false → s.jn.work n = some w → w.lookups = [] → exec (.waybillLookupComplete n c ent err) s = .next { s with jn := s.jn.serve })
  ∧ (∀ (s : Machine.State) n c e ent tree w x fv f, s.jn.boot.porst = false → (s.jn.ensOf n c).find? (fun y => y.index == e.index) = some e → s.jn.work n = some w → w.walk? c e.index ent = some x → x.feats = some fv →
    s.jn.flights.find? (fun f => f.tick == n && f.ctx == c && f.ens == e.index && f.entity == ent && f.tree == tree) = some f →
    let tr := e.trees.getD tree (0, 0, 0)
    (∀ v, e.walk tr.1 fv (tr.2.1 + 1) 0 = some v → ∃ j u, exec (.treeWalkComplete n c e.index ent tree none) s = .next { s with jn := j } ∧ j.work n = some u
        ∧ u.walk? c e.index ent = some { x with walked := x.walked ++ [tree], sum := x.sum.merge (Acc.of (Fp.decode fp32 v)) }
        ∧ ({ j with ticks := [], flights := [] } : Junction) = { s.jn with ticks := [], flights := [] })
    ∧ (∀ eng row, ∃ j u, exec (.treeWalkComplete n c e.index ent tree (some (eng, row))) s = .next { s with jn := j } ∧ j.work n = some u
        ∧ u.walk? c e.index ent = some { x with walked := x.walked ++ [tree], lost := true } ∧ j.errs = (s.jn.error 1 eng row).errs
        ∧ ({ j.quiet with ticks := [], flights := [] } : Junction) = { s.jn.quiet with ticks := [], flights := [] }))
  ∧ (∀ (s : Machine.State) n c i ent tree f, s.jn.boot.porst = false → s.jn.ensOf n c = [] ∨ s.jn.flights = [] → exec (.treeWalkComplete n c i ent tree f) s = .next { s with jn := s.jn.serve })
  ∧ (∀ (s : Machine.State) n c ok b p w i eng, s.jn.boot.porst = false → s.jn.bundleOf n c = some b → b.placing = some p → s.jn.work n = some w →
    (List.range p.pages.length).find? (fun i => decide (Tbl.get 0 w.pages (pageKey c i) ≤ 1)) = some i → p.pages[i]?.map (·.1) = some eng →
    let free_ := s.jn.framesUsed eng < 2 ∧ w.scoreClosed = false ∧ s.jn.scores n c = true
    let at_ (v : Nat) : TickWork := { w with pages := Tbl.put 0 w.pages (pageKey c i) v }
    let j : Junction := { s.jn.poison 2 (sidingAddr i) with poisoned := s.jn.poisoned }
    let ens := ((p.placed.find? (fun x => x.page == some i)).map (·.ens)).getD 0
    (¬free_ → exec (.sidingPageFetchComplete n c ok) s = .next { s with jn := s.jn.serve })
    ∧ (free_ → ok = true → exec (.sidingPageFetchComplete n c ok) s = .next { s with jn := ((s.jn.setWork (at_ 2)).freePages n c).serve })
    ∧ (free_ → Tbl.get 0 w.pages (pageKey c i) = 0 → ok = false → exec (.sidingPageFetchComplete n c ok) s = .next { s with jn := (j.setWork (at_ 1)).serve })
    ∧ (free_ → Tbl.get 0 w.pages (pageKey c i) = 1 → ok = false → exec (.sidingPageFetchComplete n c ok) s = .next { s with jn := ((j.setWork (at_ 4)).logE 0x25 [ens, i]).serve }))

/-- Residual pass, forecaster updates, scrubs, wear moves and copies to the far tier (R310, R312, R324, R329, R330, R331, R351, R352, R353, R356, R500).
Where the spec is silent, the clauses follow the model's choice in log 2, 9, 56, 58, 92. -/
def Obligations.ForecastAndStorageEvents : Prop :=
  (∀ (s : Machine.State) w, s.jn.boot.porst = false → s.jn.openTick (fun w => w.residDone || !w.frameClosed) = some w →
    ∃ j v, exec .residualPassComplete s = .next { s with jn := j } ∧ j.work w.tick = some v ∧ v.residDone = true ∧ (s.jn.tray = false → j = (s.jn.setWork { w with residDone := true }).serve)
      ∧ ({ v with residuals := [], residDone := false, walks := [] } : TickWork) = { w with residuals := [], residDone := false, walks := [] }
      ∧ ({ j with ticks := [], grp := [], flights := [] } : Junction) = { s.jn with ticks := [], grp := [], flights := [] })
  ∧ (∀ (s : Machine.State) w g, s.jn.boot.porst = false → s.jn.seqRun = none → s.jn.openTick (fun w => !w.frameClosed || decide ((s.jn.groupsOf w.tick).length ≤ w.groups.length)) = some w →
    (s.jn.groupsOf w.tick).find? (fun g => !(w.groups.contains (g.ctx, g.group))) = some g → (List.range g.rows).all (fun r => !(s.jn.rowReset w g r).2) = true →
    let c := s.jn.clk.reach (s.jn.dueNs w.tick (((s.jn.imageOf w.tick).map (fun (t : TtImage) => t.tReady 0)).getD 0))
    ∃ j, exec .forecasterUpdateStart s = .next { s with jn := j } ∧ j.work w.tick = some { w with groups := w.groups ++ [(g.ctx, g.group)] } ∧ j.clk = c
      ∧ j.seqRun = some ⟨g.ctx, g.group, w.tick, 0, (List.range g.rows).foldl (s.jn.stageRow w g) (Tbl.get g.freshArea s.jn.areas (grpKey g.ctx g.group)), (List.range g.rows).filter (fun r => (s.jn.rowReset w g r).1)⟩
      ∧ ({ j with ticks := [], grp := [], seqRun := none, clk := c } : Junction) = { s.jn with ticks := [], grp := [], seqRun := none, clk := c })
  ∧ (∀ (s : Machine.State) r, s.jn.seqRun = some r → exec .forecasterUpdateStart s = .next s)
  ∧ (∀ (s : Machine.State) fault r g, s.jn.boot.porst = false → s.jn.seqRun = some r → s.jn.runGroup r = some g →
    let i := SeqInstr.decode (g.prog.getD r.pc 0x3F)
    let out := i.exec (fun k => (Config.freeValue (s.free + k)).toNat) r.area
    let f := { s with free := s.free + 1048576 }
    (fault = false → i.op ≠ 0x3F → exec (.sequenceInstruction fault) s
      = .next { f with jn := { s.jn.count g (fun c => { c with saturated := c.saturated + out.2 }) with seqRun := some { r with area := out.1, pc := r.pc + 1 } } })
    ∧ (fault = false → i.op = 0x3F → exec (.sequenceInstruction fault) s = .next f)
    ∧ (fault = true → ∃ j, exec (.sequenceInstruction fault) s = .next { f with jn := j } ∧ j.seqRun = none ∧ j.unlogged
        = ({ s.jn.count g (fun c => { c with abandoned := c.abandoned + 1 }) with seqRun := none, areas := Tbl.put [] s.jn.areas (grpKey g.ctx g.group) (r.area.wr g.constOff g.constImg) } : Junction).unlogged))
  ∧ (∀ (s : Machine.State) fault, s.jn.seqRun = none → exec (.sequenceInstruction fault) s = .next { s with free := s.free + 1048576 } ∧ exec .groupCommit s = .next s)
  ∧ (∀ (s : Machine.State) r g w row, s.jn.boot.porst = false → s.jn.seqRun = some r → s.jn.runGroup r = some g → (SeqInstr.decode (g.prog.getD r.pc 0x3F)).op = 0x3F → s.jn.work r.tick = some w →
    let key := grpKey g.ctx g.group
    let done (j : Junction) : Junction := { j with seqRun := none, areas := Tbl.put [] s.jn.areas key r.area }
    let out := (List.range g.d).map (fun i => Area.rd r.area (g.offs.getD 5 0 + 4 * (row * g.d + i)) 4)
    let y0 := Area.rd r.area (g.offs.getD 6 0 + 8 * row) 4
    let y1 := Area.rd r.area (g.offs.getD 6 0 + 8 * row + 4) 4
    let st : RowState := { forTick := r.tick + 1, forecast := y0, scale := y1, warm := sat 16 ((if r.resetRows.contains row then 0 else (s.jn.row g row).warm) + 1), epoch := (s.jn.die (g.rowOf row).2).epoch, key := g.key, state := out }
    let a := rowAddr g.ctx (g.rowOf row).1 (g.rowOf row).2
    let fc := Tbl.put (2 ^ 64 - 1, 0, 0) s.jn.fc (rowKey g.ctx (g.rowOf row).1 (g.rowOf row).2) (r.tick + 1, y0 + put 32 y1, st.warm)
    (w.residDone = false → exec .groupCommit s = .next s)
    ∧ (w.residDone = true → (List.range g.rows).filter (s.jn.rowIn r.tick g) = [] → exec .groupCommit s = .next { s with jn := done s.jn })
    ∧ (w.residDone = true → (List.range g.rows).filter (s.jn.rowIn r.tick g) = [row] → (y0 :: y1 :: out).all finBits = true →
      exec .groupCommit s = .next { s with jn := done { s.jn.write a st.encode with fc := fc } }))
  ∧ (∀ (s : Machine.State) m a o, exec (.scrubAccess .jn m a 0 o) s = .next s
    ∧ exec (.scrubAccess .jn m a 1 o) s = .next { s with jn := { s.jn with errs := { s.jn.errs with corrected := s.jn.errs.corrected + 1 } } })
  ∧ (∀ (s : Machine.State) m a,
    let line := a / 64 * 64
    let e := (s.jn.error m 0 a).errs
    (∃ j, exec (.scrubAccess .jn m a 2 .byAddress) s = .next { s with jn := j } ∧ j.errs = e ∧ j.poisoned.contains (m, line) = true ∧ (∀ x ∈ s.jn.poisoned, x ∈ j.poisoned)
      ∧ ({ j.unlogged with errs := s.jn.errs, poisoned := [] } : Junction) = { s.jn.unlogged with poisoned := [] })
    ∧ (∃ j, exec (.scrubAccess .jn m a 2 .firmware) s = .next { s with jn := j } ∧ j.errs = e ∧ j.flush = { s.jn.flush with running := true, reset := if s.jn.flush.reset = 0 then 3 else s.jn.flush.reset, stopped := true }
      ∧ (s.jn.flush.running = false → s.jn.tray = true → s.jn.boot.phase = 4 → ∀ k, k < 32 → k < s.jn.ports.length → (s.jn.port k).st = .active → j.port k = (s.jn.port k).signal 4 0)
      ∧ ({ j.quiet with poisoned := [], flush := s.jn.flush } : Junction) = { s.jn.quiet with poisoned := [] })
    ∧ (∀ c tick, ∃ j, exec (.scrubAccess .jn m a 2 (.history c false tick)) s = .next { s with jn := j }
      ∧ j.histOf c = { s.jn.histOf c with near := (s.jn.histOf c).near.filter (fun b => rd b.1 0 8 != tick), lostNear := true }
      ∧ ({ j.unlogged with errs := s.jn.errs, hist := [] } : Junction) = { s.jn.unlogged with hist := [] })
    ∧ (∀ id i, s.jn.boot.farGiB = 0 → ∃ j, exec (.scrubAccess .jn m a 2 (.section_ id i)) s = .next { s with jn := j }
      ∧ j.bundles = s.jn.bundles.map (fun (b : Bundle) => if b.id = id && !(b.lost.contains i) then { b with lost := b.lost ++ [i] } else b)
      ∧ ({ j.unlogged with errs := s.jn.errs, bundles := [] } : Junction) = { s.jn.unlogged with bundles := [] }))
  ∧ (∀ (s : Machine.State) m a f o, (f = 0 ∨ s.ls.inService = false → exec (.scrubAccess .ls m a f o) s = .next s)
    ∧ (f ≠ 0 → ∃ x, exec (.scrubAccess .ls m a f o) s = .next { s with ls := x } ∧ x.unlogged = s.ls.unlogged))
  ∧ (∀ (s : Machine.State), s.jn.boot.porst = false →
    let st := s.jn.store
    let count := fun (l : Nat) => Tbl.get 0 st.erase (st.phys l)
    let ls := storeBlocks s.jn.tray
    let lo := ls.foldl (fun b l => if count l < count b then l else b) (ls.headD 0)
    let hi := ls.foldl (fun m l => max m (count l)) 0
    let soon := ∃ t, st.lastMove = some t ∧ s.jn.clk.up < t + uSec
    (hi ≤ count lo + 2048 ∨ soon → ∀ f, exec (.staticWearMove f) s = .next s)
    ∧ (count lo + 2048 < hi → ¬soon → st.writes = [] → exec (.staticWearMove false) s
      = .next { s with jn := { s.jn with store := { Store.openBlock { st with writes := [(s.jn.clk.up, 65536)] } s.jn.tray lo with lastMove := some s.jn.clk.up } } })
    ∧ (∀ b, count lo + 2048 < hi → ¬soon → st.writes = [] → st.freeBlock s.jn.tray = some b → ∃ j, exec (.staticWearMove true) s = .next { s with jn := j }
      ∧ j.store.retired = st.retired ++ [b] ∧ j.store.lastMove = some s.jn.clk.up ∧ j.errs = (s.jn.error 4 0 (16 * b)).errs ∧ ({ j.quiet with store := s.jn.quiet.store } : Junction) = s.jn.quiet))
  ∧ (∀ (s : Machine.State) c b, s.jn.boot.porst = false → s.jn.histOf c = { Hist.init with near := [(b, false)] } → b.length ≤ 2097152 →
    ((s.jn.ctx c).rec_.histFar = 0 → exec (.historyFarCopy c) s = .next s)
    ∧ (0 < (s.jn.ctx c).rec_.histFar → exec (.historyFarCopy c) s = .next { s with jn := s.jn.setHist c { Hist.init with near := [(b, true)], far := [b] } }))

/-- Logbook messages, log commits, alarm details and relayed read-outs (R131, R156, R159, R160, R426, R430, R454, R481, R540). Where the spec is silent,
the clauses follow the model's choice in log 9, 30, 31, 67, 88. -/
def Obligations.LogAndAlarmEvents : Prop :=
  (∀ (s : Machine.State) p m x, s.jn.boot.porst = false → s.jn.tray = true → p < 32 → s.jn.logs.length = 33 → (s.jn.port p).takeInbox 2 0 (fun b => rd b 0 2 == 4) = (some m, x) →
    let g := s.jn.log (p + 1)
    let recs := (List.range (rd m.bytes 2 2)).map (fun i => sub m.bytes (16 + 256 * i) 256)
    exec (.logbookMessageReceived p) s = .next { s with jn := (s.jn.setPort p x).setLog (p + 1) { g with waiting := g.waiting ++ recs } })
  ∧ (∀ (s : Machine.State) p x, (s.jn.tray = false ∨ 32 ≤ p ∨ (s.jn.port p).takeInbox 2 0 (fun b => rd b 0 2 == 4) = (none, x)) → exec (.logbookMessageReceived p) s = .next s)
  ∧ (∀ (s : Machine.State) l b t, s.jn.boot.porst = false → s.jn.logs.length = 33 → 0 < l → l < 33 → (s.jn.log l).waiting = b :: t →
    let g := s.jn.log l
    let seq := rd b 0x14 4
    let code := fld (rd b 0xE 1) 0 6
    let dup : Prop := ∃ e, g.expected = some e ∧ atOrAfter seq e = false
    let told (v : Nat) : Option Nat := if (s.jn.port (l - 1)).st = .active then some v else g.commitSent
    ∃ k, exec (.logRecordCommit l) s = .next { s with jn := k }
      ∧ (k.log l).waiting = t ∧ (k.log l).received = g.received + 1
      ∧ (∀ i, i ≠ l → i ≠ 0 ∨ code ≠ 0x17 → k.log i = s.jn.log i)
      ∧ (∀ e, g.expected = some e → atOrAfter seq e = false → k.log l = { g with waiting := t, received := g.received + 1, duplicate := g.duplicate + 1, commitSent := told ((e + 2 ^ 32 - 1) % 2 ^ 32) } ∧ k.exp = s.jn.exp)
      ∧ (¬dup → (k.log l).expected = some ((seq + 1) % 2 ^ 32) ∧ (k.log l).duplicate = g.duplicate ∧ (k.log l).commitSent = told (((seq + 1) % 2 ^ 32 + 2 ^ 32 - 1) % 2 ^ 32)
        ∧ (k.log l).gap = g.gap + (match g.expected with | some e => (seq + 2 ^ 32 - e) % 2 ^ 32 | none => 0)
        ∧ ((g.recs.getLast?.any (fun r => foldable r b) = false) → g.recs.length < 4096 →
            (k.log l).recs = g.recs ++ [⟨b, false⟩] ∧ (k.log l).committed = g.committed + 1 ∧ (k.log l).folded = g.folded ∧ (k.log l).full = g.full)
        ∧ ((g.recs.getLast?.any (fun r => foldable r b) = false) → 4096 ≤ g.recs.length →
            (k.log l).recs = g.recs ∧ (k.log l).committed = g.committed ∧ (k.log l).folded = g.folded ∧ (k.log l).full = g.full + 1)
        ∧ (∀ last, g.recs.getLast? = some last → foldable last b = true →
            (k.log l).recs = g.recs.dropLast ++ [⟨overlay last.data 0x1E (le 2 (rd last.data 0x1E 2 + 1)), false⟩] ∧ (k.log l).committed = g.committed ∧ (k.log l).folded = g.folded + 1 ∧ (k.log l).full = g.full))
      ∧ k.sec = (if code = 0x17 ∧ ¬dup then s.jn.sec.event 7 (rd b 0x10 4 % 2 ^ 17) s.jn.clk.tickWord.toNat else s.jn.sec)
      ∧ (∀ p, p ≠ l - 1 → k.port p = s.jn.port p) ∧ ({ k.quiet with txns := [], nextTxn := 0, shadow := [] } : Junction) = { s.jn.quiet with txns := [], nextTxn := 0, shadow := [] })
  ∧ (∀ (s : Machine.State) l, (s.jn.log l).waiting = [] → exec (.logRecordCommit l) s = .next s)
  ∧ (∀ (s : Machine.State) p m x, s.jn.boot.porst = false → (s.jn.port p).takeInbox 1 0 (fun _ => true) = (some m, x) →
    let owner := s.jn.ownerOf (rd m.bytes 0x10 4)
    ∃ k, exec (.alarmRecordReceived p) s = .next { s with jn := k } ∧ k.ports = (s.jn.setPort p x).ports
      ∧ (∀ c, c < 16 → let q := Tbl.get [] s.jn.alarms c; Tbl.get [] k.alarms c = (if s.jn.sees c owner && decide (q.length < 256) then q ++ [m.bytes] else q)
          ∧ Tbl.get 0 k.alarmDrop c = Tbl.get 0 s.jn.alarmDrop c + (if s.jn.sees c owner && decide (256 ≤ q.length) then 1 else 0))
      ∧ k.logs = s.jn.logs ∧ k.quiet = s.jn.quiet)
  ∧ (∀ (s : Machine.State) p x, (s.jn.port p).takeInbox 1 0 (fun _ => true) = (none, x) → exec (.alarmRecordReceived p) s = .next s)
  ∧ (∀ (s : Machine.State) p n m x, s.jn.boot.porst = false → s.jn.tray = true → p < 32 → (n = 1 ∨ n = 2) → (s.jn.port p).takeInbox 2 n (fun _ => true) = (some m, x) → s.jn.exp.bulk = [] → s.jn.exp.packing = [] →
    let whole : Prop := rd m.bytes 0 2 ≠ 1 ∨ 48 * (rd m.bytes 8 4 + 1) ≤ m.bytes.length
    let readers := if n = 2 then [0] else s.jn.viewers (s.jn.die p).owner
    let r : ExpRec := ⟨s.jn.tickNow, s.jn.exp.nextMsg, m.bytes⟩
    (whole → ∃ k, exec (.bulkMessageReceived p n) s = .next { s with jn := k } ∧ k.port p = (s.jn.setPort p x).port p
      ∧ (∀ c, c < 16 → let e := s.jn.exp.stream c 7
          k.exp.stream c 7 = (if !(readers.contains c) || decide ((s.jn.ctx c).st = .draining) || !e.enable then e
            else if s.jn.share c < s.jn.exp.used c + m.bytes.length then { e with dropped := e.dropped + 1 }
            else { e with held := e.held.take e.closed ++ insertRec r (e.held.drop e.closed) }))
      ∧ k.quiet = s.jn.quiet ∧ ∀ q, q ≠ p → k.port q = s.jn.port q)
    ∧ (¬whole → exec (.bulkMessageReceived p n) s = .next { s with jn := s.jn.setPort p x }))
  ∧ (∀ (s : Machine.State) p n c m x off, s.jn.boot.porst = false → s.jn.tray = true → p < 32 → (n = 1 ∨ n = 2) → (s.jn.port p).takeInbox 2 n (fun _ => true) = (some m, x) → s.jn.exp.packing = [] →
    (if n = 2 then [0] else s.jn.viewers (s.jn.die p).owner) = [c] → (s.jn.ctx c).st ≠ .draining → (s.jn.exp.stream c 7).enable = true → (s.jn.exp.stream c 7).compress = false → s.jn.twin.duty = true →
    s.jn.exp.bulk = [(16 * (4 * p + n) + c, off)] → 0 < off → off < m.bytes.length → m.bytes.length ≤ off + 9098 →
    let e := s.jn.exp.stream c 7
    let cut := rd m.bytes 0 2 == 1 && decide (m.bytes.length < 48 * (rd m.bytes 8 4 + 1))
    let takes := s.jn.twin.takeoverTick == some s.jn.clk.markTick
    let msg : ExpMsg := ⟨s.jn.exp.nextMsg, c, 7, 1, e.nextSeq, (s.jn.tickNow, s.jn.exp.nextMsg), m.bytes.drop off, none, takes, true, cut, true, off, m.bytes.length, 0, true⟩
    exec (.bulkMessageReceived p n) s = .next { s with jn := { s.jn.setPort p x with
      exp := { s.jn.exp.setStream c 7 { e with nextSeq := e.nextSeq + 1, dropped := 0 } with queue := s.jn.exp.queue ++ [msg], nextMsg := s.jn.exp.nextMsg + 1, bulk := [] } } })
  ∧ (∀ (s : Machine.State) p n y x, s.jn.boot.porst = false → s.jn.tray = true → p < 32 → (n = 1 ∨ n = 2) → (s.jn.port p).takeInbox 2 n (fun _ => true) = (none, x) → s.jn.exp.bulk = [] → s.jn.exp.packing = [] →
    (s.jn.port p).partials.find? (fun m => m.vc == 2 && m.subch == n) = some y → s.jn.twin.duty = true →
    let readers := if n = 2 then [0] else s.jn.viewers (s.jn.die p).owner
    let takes := s.jn.twin.takeoverTick == some s.jn.clk.markTick
    (y.seen.length ≤ 9098 → exec (.bulkMessageReceived p n) s = .next s)
    ∧ (∀ c, 9098 < y.seen.length → y.seen.length ≤ 18196 → readers = [c] → s.jn.exp.used c + 9098 ≤ s.jn.share c → (s.jn.ctx c).st ≠ .draining → (s.jn.exp.stream c 7).enable = true → (s.jn.exp.stream c 7).compress = false →
      let e := s.jn.exp.stream c 7
      let msg : ExpMsg := ⟨s.jn.exp.nextMsg, c, 7, 1, e.nextSeq, (s.jn.tickNow, s.jn.exp.nextMsg), sub y.seen 0 9098, none, takes, true, false, false, 0, 0, e.dropped, true⟩
      exec (.bulkMessageReceived p n) s = .next { s with jn := { s.jn with
        exp := { s.jn.exp with queue := s.jn.exp.queue ++ [msg], nextMsg := s.jn.exp.nextMsg + 1, bulk := [(16 * (4 * p + n) + c, 9098)] } } }))
  ∧ (∀ (s : Machine.State) p n, s.jn.tray = false ∨ 32 ≤ p ∨ n = 0 ∨ 2 < n → exec (.bulkMessageReceived p n) s = .next s)

/-- Messages, queues, frames, mirror acknowledgements and Ethernet events (R160, R424, R425, R429, R430, R431, R432, R433, R434, R435, R438). Where the
spec is silent, the clauses follow the model's choice in log 9, 41, 42, 68, 93. -/
def Obligations.ExportEvents : Prop :=
  (∀ (s : Machine.State) c k r t, s.jn.boot.porst = false → (s.jn.exp.stream c k).held.drop (s.jn.exp.stream c k).closed = r :: t →
    let e := s.jn.exp
    let st := e.stream c k
    let run := t.takeWhile (fun x => x.tick == r.tick)
    let size := run.foldl (fun a x => a + x.data.length) r.data.length
    let ready : Prop := s.jn.full = true ∧ s.jn.twin.exports (8 * c + k) r.tick = true ∧ (s.jn.ctx c).st ≠ .draining ∧ (s.jn.clk.tick ≠ some r.tick ∨ run.length ≠ t.length ∨ 8192 < size ∨ 512 ≤ run.length)
    let takes := s.jn.twin.takeoverTick == some s.jn.clk.markTick
    let rs := if 8192 < r.data.length then [r] else r :: packRecs r.tick 511 r.data.length t
    let z := rs.getLastD r
    let m : ExpMsg := ⟨e.nextMsg, c, k, rs.length, st.nextSeq, (z.tick, z.key), (rs.map (·.data)).flatten, none, takes, false, false, true, 0, 0, st.dropped, false⟩
    let e1 := { e.setStream c k { st with closed := st.closed + rs.length, nextSeq := st.nextSeq + rs.length, dropped := 0 } with nextMsg := e.nextMsg + 1 }
    (¬ready → exec (.exportMessageClose c k) s = .next s)
    ∧ (ready → r.data.length ≤ 9098 → s.jn.compresses c k = false → e.packing = [] → exec (.exportMessageClose c k) s = .next { s with jn := ({ s.jn with exp := { e1 with queue := e.queue ++ [m] } } : Junction).markExported k (rs.map (·.data)) })
    ∧ (ready → r.data.length ≤ 9098 → s.jn.compresses c k = true → e.packing = [] → s.jn.ballast.export_ = [] → s.jn.ballast.run0 = none →
      exec (.exportMessageClose c k) s = .next { s with jn := ({ s.jn with exp := { e1 with packing := [m] }, ballast := { s.jn.ballast with export_ := [⟨false, c, 0, m.raw.length, 0, 0, deflateBound m.raw.length, 0, false, e.nextMsg⟩] } } : Junction).markExported k (rs.map (·.data)) })
    ∧ (ready → 9098 < r.data.length → s.jn.compresses c k = false → e.packing = [] → ∃ ms : List ExpMsg,
      exec (.exportMessageClose c k) s = .next { s with jn := ({ s.jn with exp := { e.setStream c k { st with closed := st.closed + 1, nextSeq := st.nextSeq + 1, dropped := 0 } with queue := e.queue ++ ms, nextMsg := e.nextMsg + ms.length } } : Junction).markExported k [r.data] }
      ∧ (ms.map (·.raw)).flatten = r.data ∧ ms.length = (r.data.length + 9097) / 9098 ∧ (∀ i (h : i < ms.length), (ms[i]).offset = 9098 * i ∧ (ms[i]).frag = true ∧ (ms[i]).count = 1 ∧ (ms[i]).seq = st.nextSeq
          ∧ (ms[i]).raw.length ≤ 9098 ∧ (ms[i]).key = (r.tick, r.key) ∧ (ms[i]).last = decide (i + 1 = ms.length) ∧ (ms[i]).recordLen = (if i + 1 = ms.length then r.data.length else 0) ∧ (ms[i]).takeover = takes)))
  ∧ (∀ (j : Junction) k out, (k ≠ 4 → j.markExported k out = j) ∧ ({ j.markExported k out with logs := [] } : Junction) = { j with logs := [] }
    ∧ (∀ l, ((j.markExported 4 out).log l).recs = (j.log l).recs.map (fun r => if out.contains r.data then { r with exported := true } else r)))
  ∧ (∀ (t : JnTwin) k tick, t.handing = none → t.taking = none → t.exports k tick = t.duty)
  ∧ (∀ (t : JnTwin) k tick m l, (t.duty = true → t.taking = some (m, l) → t.handing = none → t.exports k tick = !(l.contains k)) ∧ (t.duty = false → t.handing = some (m, l) → t.exports k tick = (l.contains k && decide (tick < m))))
  ∧ (∀ (j : Junction), j.twin.handing = none → j.finalAcks = j)
  ∧ (∀ (s : Machine.State) c k, (s.jn.exp.stream c k).held.drop (s.jn.exp.stream c k).closed = [] → exec (.exportMessageClose c k) s = .next s)
  ∧ (∀ (s : Machine.State) p, s.jn.boot.porst = false → p < 2 →
    let e := s.jn.exp
    let x := e.eth p
    ((x.up = false ∨ x.sending ≠ none) → exec (.exportQueueService p) s = .next { s with jn := s.jn.finalAcks })
    ∧ (s.jn.full = false → x.q0 = [] → exec (.exportQueueService p) s = .next { s with jn := s.jn.finalAcks })
    ∧ (∀ f t, x.up = true → x.sending = none → x.q0 = f :: t → exec (.exportQueueService p) s = .next { s with jn := ({ s.jn with exp := e.setEth p { x with q0 := t, sending := some none } } : Junction).finalAcks })
    ∧ (x.up = true → x.sending = none → x.q0 = [] → (∀ i, 1 ≤ i → i < 8 → e.head p i = none) → exec (.exportQueueService p) s = .next { s with jn := s.jn.finalAcks })
    ∧ (∀ k m d, s.jn.full = true → x.up = true → x.sending = none → x.q0 = [] → x.pol.length = 7 → 1 ≤ k → k < 8 → (∀ i, 1 ≤ i → i < k → e.head p i = none) → e.head p k = some (m, d) →
      let o := (x.pol.getD (k - 1) (Policer.init k)).meter (frameSize d (m.bytes s.jn.id false).length)
      let y := { x with pol := x.pol.set (k - 1) o.2 }
      (o.1 ≠ .red → exec (.exportQueueService p) s = .next { s with jn := ({ s.jn with exp := (e.setEth p { y with sending := some (some ⟨m, d, if o.1 = .yellow then o.2.cfg.yellow else o.2.cfg.green, m.bytes s.jn.id (decide (o.1 = .yellow))⟩) }).unqueue m.id } : Junction).finalAcks })
      ∧ (o.1 = .red → o.2.cfg.defer = false → exec (.exportQueueService p) s = .next { s with jn := ({ s.jn with exp := ((e.setEth p y).unqueue m.id).lose m } : Junction).finalAcks })
      ∧ (o.1 = .red → o.2.cfg.defer = true → (∀ i, k < i → i < 8 → e.head p i = none) → exec (.exportQueueService p) s = .next { s with jn := ({ s.jn with exp := e.setEth p y } : Junction).finalAcks })))
  ∧ (∀ (p : Policer) n,
    (p.cfg.enable = false → p.meter n = (.green, { p with nGreen := p.nGreen + 1 }))
    ∧ (p.cfg.enable = true → p.tp < n * 65536 → p.meter n = (.red, if p.cfg.defer then { p with deferred := true } else { p with nRed := p.nRed + 1 }))
    ∧ (p.cfg.enable = true → n * 65536 ≤ p.tp → p.tc < n * 65536 → p.meter n = (.yellow, { p with tp := p.tp - n * 65536, nYellow := p.nYellow + 1, deferred := false }))
    ∧ (p.cfg.enable = true → n * 65536 ≤ p.tp → n * 65536 ≤ p.tc → p.meter n = (.green, { p with tc := p.tc - n * 65536, tp := p.tp - n * 65536, nGreen := p.nGreen + 1, deferred := false })))
  ∧ (∀ (s : Machine.State) p, s.jn.boot.porst = false → p < 2 →
    let e := s.jn.exp
    let x := e.eth p
    let e1 := e.setEth p { x with sending := none }
    ((x.sending = none ∨ x.sending = some none) → exec (.exportFrameComplete p) s = .next { s with jn := { s.jn with exp := e1 } })
    ∧ (∀ f, x.sending = some (some f) → f.msg.frag = true → f.msg.last = false → exec (.exportFrameComplete p) s = .next { s with jn := { s.jn with exp := e1 } })
    ∧ (∀ f, x.sending = some (some f) → f.msg.frag = false ∨ f.msg.last = true →
      let st := e.stream f.msg.ctx f.msg.kind
      let n := if f.msg.direct then 0 else min f.msg.count st.closed
      let j : Junction := { s.jn with exp := e1.setStream f.msg.ctx f.msg.kind { st with held := st.held.drop n, closed := st.closed - n } }
      exec (.exportFrameComplete p) s = .next { s with jn := ((j.send 66 3 3 0 (mirrorAck f.msg)).send 67 3 3 0 (mirrorAck f.msg)).finalAcks }))
  ∧ (∀ (s : Machine.State) p b x, s.jn.boot.porst = false → (p = 66 ∨ p = 67) → (s.jn.port p).takeInbox 3 3 (fun b => rd b 0 2 == 0x33) = (some b, x) →
    let c := rd b.bytes 2 1 % 16
    let k := rd b.bytes 3 1 % 8
    let st := s.jn.exp.stream c k
    let after_ : ExpRec := ⟨rd b.bytes 0x10 8, rd b.bytes 0x18 8 + (if k = 4 then 2 ^ 64 else 0), []⟩
    let j := s.jn.setPort p x
    let gone := (st.held.filter (fun r => !((st.held.filter (fun r => after_.before r)).contains r))).map (·.data)
    let st' := { st with held := st.held.filter (fun r => after_.before r), closed := 0, acked := some (rd b.bytes 8 8), nextSeq := (rd b.bytes 8 8 + 1) % 2 ^ 64 }
    let over_ (w : JnTwin) : Prop := ∃ e out, exec (.mirrorAckReceived p) s = .next { s with jn := { j.markExported k out with exp := e, twin := w } }
      ∧ e.queue = [] ∧ e.packing = [] ∧ (e.stream c k).held = st'.held ∧ (e.stream c k).acked = st'.acked ∧ (e.stream c k).nextSeq = st'.nextSeq ∧ e.e0 = s.jn.exp.e0 ∧ e.e1 = s.jn.exp.e1
    (s.jn.twin.duty = true → s.jn.role.twinB = true → exec (.mirrorAckReceived p) s = .next { s with jn := j })
    ∧ (s.jn.twin.duty = false → exec (.mirrorAckReceived p) s = .next { s with jn := { j.markExported k gone with exp := s.jn.exp.setStream c k st' } })
    ∧ (s.jn.twin.duty = true → s.jn.role.twinB = false → s.jn.twin.taking = none → over_ { s.jn.twin with duty := false })
    ∧ (∀ m l, s.jn.twin.duty = true → s.jn.role.twinB = false → s.jn.twin.taking = some (m, l) →
      (m ≤ rd b.bytes 0x10 8 → over_ { s.jn.twin with duty := false, taking := none })
      ∧ (rd b.bytes 0x10 8 < m → l.contains (8 * c + k) = false → exec (.mirrorAckReceived p) s = .next { s with jn := j })
      ∧ (rd b.bytes 0x10 8 < m → l.contains (8 * c + k) = true → exec (.mirrorAckReceived p) s = .next { s with jn := { j.markExported k gone with
          exp := s.jn.exp.setStream c k st', twin := { s.jn.twin with taking := some (m, if bit (rd b.bytes 4 1) 0 then l.filter (fun q => q != 8 * c + k) else l) } } })))
  ∧ (∀ (s : Machine.State) p x, (s.jn.port p).takeInbox 3 3 (fun b => rd b 0 2 == 0x33) = (none, x) → exec (.mirrorAckReceived p) s = .next s)
  ∧ (∀ (s : Machine.State) p up, s.jn.boot.porst = false → p < 2 →
    let x := s.jn.exp.eth p
    exec (.ethernetLinkStateChange p up) s = .next { s with jn := { s.jn with exp := s.jn.exp.setEth p { x with up := up } } }
    ∧ exec (.ethernetControlFrameReceived p) s = .next { s with jn := { s.jn with exp := s.jn.exp.setEth p { x with control := x.control + 1 } } })

/-- What recording an event at the Lineside does (R149, R151, R153, R154, R156, R158, R207, R538). Where the spec is silent, the clauses follow the
model's choice in log 9, 60. -/
def Obligations.LogbookRecording : Prop :=
  (∀ (s : Ls) code ws, (s.logE code ws).unlogged = s.unlogged)
  ∧ (∀ (s : Ls) code ws cls, (s.logAlarm code ws cls).unlogged = s.unlogged)
  ∧ (∀ (s : Ls) code ws, logReserved code = true ∨ fld (Tbl.get 8 s.log.rateAct code).toNat 0 8 = 0 ∨ s.inService = false → s.logE code ws = s)
  ∧ (∀ (s : Ls) code ws, logReserved code = false → fld (Tbl.get 8 s.log.rateAct code).toNat 0 8 ≠ 0 → s.inService = true →
    let tok := Tbl.get 8 s.log.tokens code
    let spent := { s.log with tokens := Tbl.put 8 s.log.tokens code (tok - 1) }
    let full := 256 ≤ s.log.unflushed ∨ bit s.self.bist.toNat 1 = true
    (tok = 0 → s.logE code ws = { s with log := { s.log with rateDrop := Tbl.put 0 s.log.rateDrop code (sat 16 (Tbl.get 0 s.log.rateDrop code + 1)) } })
    ∧ (tok ≠ 0 → full → s.logE code ws = { s with log := { spent with fullDrop := sat 32 (s.log.fullDrop + 1) } })
    ∧ (tok ≠ 0 → ¬full → s.log.recs.length < 2048 →
      let b := recordBytes s.clk.time s.clk.utcOffset code s.clk.untimed false false s.entity s.log.nextSeq s.tickW ((s.recordWords code ws))
      let m := le 2 4 ++ le 2 1 ++ le 4 s.die.toNat ++ le 4 s.log.nextSeq ++ le 4 0 ++ b
      s.logE code ws = { s with log := { spent with nextSeq := (s.log.nextSeq + 1) % 2 ^ 32, recs := s.log.recs ++ [(s.log.nextSeq, b)] },
                                portA := if s.portA.up then s.portA.sendTag 4 2 0 m else s.portA, portB := if s.portB.up then s.portB.sendTag 4 2 0 m else s.portB }))
  ∧ (∀ (s : Machine.State), Takes .lsLogMark s 0x300 1 (fun _ y => y.logE 0x1F [w64 (y.reg 0x301), w64 (y.reg 0x302)]))
  ∧ (∀ (s : Machine.State) v, Takes (fun p => .lsLogCommitSeqWrite p v) s 0x304 v (fun _ y => y.commitWrite v.toNat))
  ∧ (∀ (y : Ls) v, v < 2 ^ 32 →
    let inside := atOrAfter v y.log.commitSeq = true ∧ atOrAfter ((y.log.nextSeq + 2 ^ 32 - 1) % 2 ^ 32) v = true
    (inside → y.commitWrite v = { y with log := { y.log with commitSeq := v, flushing := y.log.flushing && decide ((y.log.nextSeq + 2 ^ 32 - v - 1) % 2 ^ 32 ≠ 0) } })
    ∧ (¬inside → y.commitWrite v = y))
  ∧ (∀ (y : Ls) v, y.commitWrite v = y.commitWrite (v % 2 ^ 32))

/-- Resets, power, self-test and service of the Lineside (R71, R88, R89, R90, R151, R157, R163, R168, R480, R496, R498, R499). Where the spec is silent,
the clauses follow the model's choice in log 5, 9, 66, 83, 86. -/
def Obligations.LinesidePower : Prop :=
  (∀ (s : Machine.State), exec .lsColdReset s = .next { s with ls := { Ls.init with host := s.ls.host } })
  ∧ (∀ (s : Machine.State), ∃ z, exec .lsWarmReset s = .next { s with ls := z } ∧ IslandLost s.ls z ∧ z.mainOn = s.ls.mainOn ∧ z.regs = keepRws s.ls.regs ∧ z.slots = [] ∧ z.bp = ⟨0, 0, 0⟩
    ∧ z.crc = [CrcEng.init, CrcEng.init, CrcEng.init, CrcEng.init] ∧ z.dbgUnlock = false ∧ z.dbgWrite = false ∧ z.self = ⟨0, false, 0, 0, 0, 0⟩ ∧ z.log.rateAct = [] ∧ z.smp.unsourced = []
    ∧ z.halt = { LsHalt.init with lateDrain := s.ls.halt.lateDrain, stopGate := s.ls.halt.stopGate, stopAt := s.ls.halt.stopAt, stopArmed := s.ls.halt.stopArmed }
    ∧ z.banks = { s.ls.banks with fCheck := 0, fEntry := 0, fSwitchErr := false, activeWrites := 0, tCheck := 0, tSlot := 0, tArmErr := false, frame := none } ∧ ({ z.host with chains := [] } : LsHost) = { s.ls.host with chains := [] } ∧ z.lag = { s.ls.lag with err := false })
  ∧ (∀ (s : Machine.State), (s.ls.clk.untimed = true → exec .lsRefclkLoss s = .next { s with ls := { s.ls with clk := s.ls.clk.unlock } })
    ∧ (s.ls.clk.untimed = false → exec .lsRefclkLoss s = .next { s with ls := ({ s.ls with clk := s.ls.clk.unlock } : Ls).logE 0xE [0] })
    ∧ s.ls.clk.unlock.st = .unlocked ∧ s.ls.clk.unlock.time = s.ls.clk.time)
  ∧ (∀ (s : Machine.State) r, (s.ls.inService = true → exec (.mainIslandServiceEntry r) s = .next s)
    ∧ (s.ls.inService = false →
      let up := { s.ls with mainOn := true, inService := true, configured := false, self := r.status false, lag := { s.ls.lag with armed := none, anchor := none, last := none }, smp := { LsSample.init with lclk := s.ls.smp.lclk, lclkAcc := s.ls.smp.lclkAcc, edgeLclk := s.ls.smp.lclk, unsourced := s.ls.smp.unsourced }, pins := { s.ls.pins with mainPwrReq := false, pwrOffAck := false, pwrOffNak := false }, host := { s.ls.host with mainGood := true }, aon := { s.ls.aon with held := [] } }
      let empty := { s.ls.log with commitSeq := (s.ls.log.nextSeq + 2 ^ 32 - 1) % 2 ^ 32, recs := [], flushing := false }
      (∃ z, exec (.mainIslandServiceEntry r) s = .next { s with ls := z } ∧ z.unlogged = up.unlogged ∧ z.log.commitSeq = empty.commitSeq)
      ∧ (s.ls.aon.held = [] → bit r.bist.toNat 1 = true → exec (.mainIslandServiceEntry r) s = .next { s with ls := { up with log := { empty with fullDrop := sat 32 (s.ls.log.fullDrop + 1) } } })
      ∧ (s.ls.aon.held = [] → bit r.bist.toNat 1 = false → ∃ z, exec (.mainIslandServiceEntry r) s = .next { s with ls := z } ∧ z.log.nextSeq = (s.ls.log.nextSeq + 1) % 2 ^ 32
          ∧ z.log.recs = [(s.ls.log.nextSeq, ({ up with log := { empty with tokens := Tbl.put 8 empty.tokens 2 (Tbl.get 8 empty.tokens 2 - 1) } } : Ls).makeRecord 2 s.ls.log.nextSeq false [w64 s.ls.log.unflushed])])))
  ∧ (∀ (s : Machine.State) r, s.ls.inService = true →
    (s.ls.self.st = 1 → exec (.lsSelftestComplete r) s = .next { s with ls := { s.ls with log := { s.ls.log with recs := [] }, self := ⟨if r.bist = 0 ∧ r.tablet = 0 ∧ r.crc = 0 then 2 else 3, s.ls.self.refused, r.bist, r.tablet, r.crc, sat 8 r.repaired⟩ } })
    ∧ (s.ls.self.st ≠ 1 → exec (.lsSelftestComplete r) s = .next s))
  ∧ (∀ (s : Machine.State),
    let idle := s.ls.trace.st = .idle ∧ s.ls.log.unflushed = 0 ∧ s.ls.qsnap.st = 0 ∧ ∀ g, g < 256 → bit (s.ls.reg (0x3000 + g)) 28 = false
    (idle → Takes .lsSelftestStart s 0x10 1 (fun _ y => { y with self := { y.self with st := 1 } }))
    ∧ (¬idle → Takes .lsSelftestStart s 0x10 1 (fun _ y => { y with self := { y.self with refused := true } })))
  ∧ (∀ (s : Machine.State), s.ls.inService = true →
    let near := ∃ x ∈ s.ls.slots, x.2.st = 2 ∧ x.2.instant ≤ s.ls.clk.time + 100000 * uNs
    let refuse := s.ls.aon.beyond ≠ 0 ∨ s.ls.halt.stopArmed ≠ none ∨ near
    (refuse → exec .pwrOffReq s = .next { s with ls := ({ s.ls with pins := { s.ls.pins with pwrOffNak := true, pwrOffAck := false }, aon := { s.ls.aon with pwrReqAt := none } } : Ls).logE 0x18 [1] })
    ∧ (¬refuse → exec .pwrOffReq s = .next { s with ls := { s.ls with aon := { s.ls.aon with pwrReqAt := some s.ls.clk.time }, log := { s.ls.log with flushing := decide (s.ls.log.unflushed ≠ 0) } } }))
  ∧ (∀ (s : Machine.State) t, s.ls.inService = true →
    let y := if s.ls.log.unflushed = 0 then s.ls else s.ls.reach ((t + 50000 * uNs : Nat) : Int)
    let refuse := y.aon.beyond ≠ 0 ∨ y.halt.stopArmed ≠ none ∨ ∃ x ∈ y.slots, x.2.st = 2 ∧ x.2.instant ≤ y.clk.time + 100000 * uNs
    let answer (nak : Bool) : Ls := ({ y with pins := { y.pins with pwrOffAck := !nak, pwrOffNak := nak }, aon := { y.aon with pwrReqAt := none } } : Ls).logE 0x18 [w64 (b2n nak)]
    (s.ls.aon.pwrReqAt = some t → refuse → exec .pwrOffAck s = .next { s with ls := answer true })
    ∧ (s.ls.aon.pwrReqAt = some t → ¬refuse → exec .pwrOffAck s = .next { s with ls := answer false })
    ∧ (s.ls.aon.pwrReqAt = none → exec .pwrOffAck s = .next s))
  ∧ (∀ (s : Machine.State), (s.ls.pins.pwrOffAck = false → exec .mainPowerOff s = .next s)
    ∧ (s.ls.pins.pwrOffAck = true → ∃ z, exec .mainPowerOff s = .next { s with ls := z } ∧ IslandLost s.ls z ∧ z.mainOn = false ∧ ({ z.host with chains := [] } : LsHost) = { s.ls.host with mainGood := false, chains := [] } ∧ z.regs = s.ls.regs ∧ z.slots = s.ls.slots
        ∧ z.banks = s.ls.banks ∧ z.bp = s.ls.bp ∧ z.dbgUnlock = s.ls.dbgUnlock ∧ z.aon = { s.ls.aon with pwrReqAt := none } ∧ z.lag = s.ls.lag))
  ∧ (∀ (s : Machine.State) i b t, s.ls.aon.crossing = (i, b) :: t →
    let y := { s.ls with aon := { s.ls.aon with crossing := t } }
    (s.ls.mainOn = true → s.ls.inService = true → exec .aonCmpCrossing s = .next { s with ls := y.logE 1 [w64 i, w64 b] })
    ∧ (s.ls.mainOn = false ∨ s.ls.inService = false → exec .aonCmpCrossing s = .next { s with ls := { y with aon := { y.aon with held := s.ls.aon.held ++ [(i, b)] }, pins := { s.ls.pins with mainPwrReq := s.ls.pins.mainPwrReq || !s.ls.mainOn } } }))
  ∧ (∀ (s : Machine.State), s.ls.aon.crossing = [] → exec .aonCmpCrossing s = .next s)
  ∧ (∀ (s : Machine.State), (s.ls.reg 0x13 ≤ s.ls.tickW → exec .debugUnlockExpiry s = .next { s with ls := { s.ls with dbgUnlock := false, dbgWrite := false, dbgCapture := 0 } })
    ∧ (s.ls.tickW < s.ls.reg 0x13 → exec .debugUnlockExpiry s = .next s))
  ∧ (∀ (s : Machine.State) v, Takes (fun p => .lsDebugCtrlWrite p v) s 0x12 v (fun p y => match p with
    | some _ => if bit v.toNat 0 = true ∧ y.tickW < y.reg 0x13 then { y with dbgUnlock := true, dbgWrite := bit v.toNat 1 } else { y with dbgUnlock := false, dbgWrite := false, dbgCapture := 0 }
    | none => y.logE 0x16 [0x12, 4]))

/-- What the sample edge commits and starts, and what its capture takes and ships (R60, R93, R94, R97, R98, R100, R104, R105, R118, R119, R153, R370).
Where the spec is silent, the clauses follow the model's choice in log 1, 9, 63, 84. -/
def Obligations.LinesideSampleEdge : Prop :=
  (∀ (s : Machine.State), s.ls.cfgWait = none → s.ls.banks.tArm = none → s.ls.banks.tPrev = none → s.ls.banks.fArm = none →
    let target : Int := match s.ls.clk.tick with | some n => s.ls.clk.tickAt (n + 1) | none => (((s.ls.clk.prov + 1) * hNs 12 * uNs : Nat) : Int)
    let r := s.ls.reach target
    let y := { r with clk := r.clk.edge }
    let n := y.clk.markTick
    let ships := if y.shipsFrame then y.banks.fActive.bind (fun b => y.banks.tActive.map (fun t => (b, fld (y.reg (0x214 + b2n t)) 0 16))) else none
    let k := match ships with | some x => shardSlots (y.mapEntries x.1) | none => 0
    (s.ls.mainOn = false → exec .lsSampleEdge s = .next { s with ls := y })
    ∧ (s.ls.mainOn = true → ∃ z c, exec .lsSampleEdge s = .next { s with ls := z } ∧ z.clk = y.clk ∧ z.inService = y.inService ∧ z.mainOn = true ∧ z.die = y.die ∧ z.fenceHold = y.fenceHold ∧ z.slots = y.slots ∧ z.host = y.host
      ∧ z.smp.cap = some c ∧ c.tick = n ∧ c.edge = y.smp.lclk ∧ c.evt = fld (y.reg 2) 0 5 ∧ c.bun = fld (y.reg 2) 8 5 ∧ c.ships = ships ∧ c.flags = y.frameFlags ∧ c.fence = y.reg 0x14
      ∧ c.perTick = y.smp.lclk - y.smp.edgeLclk ∧ c.sawReset = y.smp.sawReset ∧ c.first = y.smp.firstEdge ∧ c.unsourced = y.smp.unsourced ∧ c.shards = y.tab.queue.take k ∧ c.backlog = y.tab.queue.length - k
      ∧ c.anchor = z.lag.anchor ∧ c.clears = (y.smp.sent.filter (fun x => bit x.2 16)).map (·.1)
      ∧ z.smp.ctr = y.smp.ctr ∧ z.smp.shadow = y.smp.shadow ∧ z.smp.lclk = y.smp.lclk ∧ z.smp.edgeLclk = y.smp.lclk ∧ z.smp.firstEdge = false ∧ z.smp.frozen = y.smp.frozen ∧ z.smp.stretch = y.smp.stretch
      ∧ z.smp.sawReset = false ∧ z.smp.sawStop = false ∧ z.smp.sawDrain = false ∧ z.smp.sawMismatch = false ∧ z.smp.sawSensorOff = false ∧ z.smp.sawShardOverflow = false
      ∧ z.smp.restored = (y.smp.restored && !y.shipsFrame) ∧ z.smp.boundaryPrev = y.berrCount ∧ z.smp.staged = y.smp.staged
      ∧ z.smp.sent = [] ∧ z.smp.commitFlag = !(y.smp.sent.isEmpty) ∧ (y.smp.sent ≠ [] → z.pins.selCommit = some y.smp.lclk) ∧ (y.smp.sent = [] → z.smp.unsourced = y.smp.unsourced)
      ∧ (∀ m b, y.lag.armed = some (m, b) → m ≤ n → z.lag.armed = none ∧ z.lag.anchor = if y.host.inReset then y.lag.anchor else some (m, b, y.smp.lclk))
      ∧ (y.lag.armed = none → z.lag.armed = none ∧ z.lag.anchor = y.lag.anchor) ∧ z.banks.frame = none ∧ z.tab.queue = y.tab.queue.drop k
      ∧ z.tab.wits = y.tab.wits.map (fun w => { w with edges := w.edges + 1 }) ∧ z.tab.suspended = y.tab.suspended.map (fun (x : Nat × Nat) => (x.1, x.2 - 1)) ∧ z.tab.pkts = y.tab.pkts
      ∧ z.portA.vc0 = y.portA.vc0 ∧ z.portB.vc0 = y.portB.vc0))
  ∧ (∀ (s : Ls), s.smp.cap = none → s.trace.fill = none → s.capStep = s)
  ∧ (∀ (s : Ls) c, s.smp.cap = some c → s.trace.fill = none → 1 < c.evt → c.evt < c.bun →
    let m := s.smp
    (m.lclk = c.edge + 1 → s.capStep = { s with smp := { m with cap := some { c with sensors := m.sensors, frozen := m.frozen, stretch := m.stretch }, sensors := m.sensors.map (fun (x : Nat × Sensor) => (x.1, { x.2 with fresh := false })), frozen := 0, stretch := [] } })
    ∧ (m.lclk = c.edge + c.evt → s.bpOf 2 = [] → s.capStep = { s with bp := { s.bp with high := 0 }, smp := { m with cap := some { c with disc := m.disc }, shadowPrev := m.shadow, shadow := m.ctr, disc := c.clears, ctr := c.clears.foldl (fun t k => Tbl.put 0 t k 0) m.ctr } })
    ∧ (m.lclk = c.edge + c.bun →
      let y := { s with smp := { m with cap := some { c with stallTotal := m.stallTotal, stall := s.host.stall, bundle := s.host.bundleIdx.toNat }, stallTotal := [] } }
      let d := { c with stallTotal := m.stallTotal, stall := s.host.stall, bundle := s.host.bundleIdx.toNat }
      let z := s.capStep
      z.smp = { y.smp with cap := none } ∧ z.lag = { s.lag with last := if d.lag.2.2 && !d.lag.2.1 then some d.lag.1 else none }
      ∧ (c.ships = none → z.banks = s.banks ∧ z.portA.vc0 = s.portA.vc0 ∧ z.portB.vc0 = s.portB.vc0)
      ∧ (∀ b id, c.ships = some (b, id) →
          let f := y.frameBytes d b (lagDelta d.lag s.lag.last)
          let x : TxStream := ⟨id, c.tick, f⟩
          z.banks = { s.banks with frame := some (c.tick, f) } ∧ z.portA.vc0 = x :: s.portA.vc0.take 1 ∧ z.portB.vc0 = x :: s.portB.vc0.take 1)))
  ∧ (∀ (s : Ls), s.mainOn = true → s.smp.lclkAcc < 262144 →
    let z := (s.cycles 1).capStep
    let d := cdiv (262144 - s.smp.lclkAcc) 5
    s.toLclk (s.smp.lclk + 1) = { z with clk := s.clk.reach ((s.clk.time + d : Nat) : Int), smp := { z.smp with lclkAcc := s.smp.lclkAcc + 5 * d - 262144 } })
  ∧ (∀ (s : Machine.State) n m, s.ls.inService = true → s.ls.clk.tick = some n → s.ls.banks.fArm = some m →
    let b := s.ls.banks.fStandby
    let left := match s.ls.banks.fActive with | some x => s.ls.banks.setFm x .valid | none => s.ls.banks
    (s.ls.tickW < m → exec .frameMapSwitch s = .next s)
    ∧ (m ≤ s.ls.tickW → s.ls.frameSizeOk = false → exec .frameMapSwitch s = .next { s with ls := { s.ls with banks := { s.ls.banks with fArm := none, fSwitchErr := true } } })
    ∧ (m ≤ s.ls.tickW → s.ls.frameSizeOk = true → left.fm b = .valid → exec .frameMapSwitch s = .next { s with ls := { s.ls with banks := { left.setFm b .active with fActive := some b, fArm := none } } })
    ∧ (m ≤ s.ls.tickW → s.ls.frameSizeOk = true → left.fm b ≠ .valid → exec .frameMapSwitch s = .next { s with ls := { s.ls with banks := { left with fActive := none, fArm := none } } }))
  ∧ (∀ (s : Machine.State), s.ls.clk.tick = none ∨ s.ls.banks.fArm = none → exec .frameMapSwitch s = .next s)
  ∧ (∀ (s : Machine.State) m b, s.ls.inService = true → s.ls.lag.armed = some (m, b) →
    (s.ls.clk.tick ≠ none → m ≤ s.ls.tickW → s.ls.host.inReset = true → exec .lagAnchorEffect s = .next { s with ls := { s.ls with lag := { s.ls.lag with armed := none } } })
    ∧ (s.ls.clk.tick ≠ none → m ≤ s.ls.tickW → s.ls.host.inReset = false → exec .lagAnchorEffect s = .next { s with ls := { s.ls with lag := { s.ls.lag with armed := none, anchor := some (m, b, s.ls.smp.edgeLclk) } } })
    ∧ (s.ls.clk.tick = none ∨ s.ls.tickW < m → exec .lagAnchorEffect s = .next s))
  ∧ (∀ (s : Machine.State), s.ls.lag.armed = none → exec .lagAnchorEffect s = .next s)

/-- Counters, selects, sensors, stretch pulses and bundles at the boundary (R74, R76, R86, R90, R92, R94, R96, R97, R99, R102, R104, R135). Where the spec
is silent, the clauses follow the model's choice in log 9, 63. -/
def Obligations.LinesideInputs : Prop :=
  (∀ (s : Machine.State) (x : LclkIn),
    let r := if x.inReset && !s.ls.host.inReset then s.ls.hostReset else s.ls
    let h := { r with host := { r.host with stall := x.stall, stopped := x.stopped, inReset := x.inReset, present := x.present, chains := if r.scan.st = 0 ∨ r.scan.st = 3 then x.chains else r.host.chains } }
    let add := fun (t : Tbl Word) (p : Nat × Nat) => if p.1 < 4096 then Tbl.put 0 t p.1 (Tbl.get 0 t p.1 + BitVec.ofNat 64 (p.2 % 16)) else t
    (s.ls.mainOn = false → exec (.counterIncrement x) s = .next { s with ls := h })
    ∧ (s.ls.mainOn = true → (∀ t, (s.ls.bpOf t) = []) →
      let y := { h with bp := { h.bp with high := 0 }, smp := { h.smp with ctr := if s.ls.boundary 0 then x.inc.foldl add s.ls.smp.ctr else s.ls.smp.ctr } }
      exec (.counterIncrement x) s = .next { s with ls := y.toLclk (s.ls.smp.lclk + 1) }))
  ∧ (∀ (s : Machine.State), s.ls.inService = true →
    (s.ls.smp.staged = [] → exec .selectSend s = .next s)
    ∧ (∀ k v, (s.ls.smp.staged.find? (fun x => decide (s.ls.smp.pass ≤ x.1))).or s.ls.smp.staged.head? = some (k, v) →
      exec .selectSend s = .next { s with ls := { s.ls with smp := { s.ls.smp with staged := Tbl.del s.ls.smp.staged k, sent := Tbl.ins s.ls.smp.sent k v, pass := if Tbl.del s.ls.smp.staged k = [] then 0 else k + 1 }, pins := { s.ls.pins with selWrite := some (s.ls.smp.lclk, k, BitVec.ofNat 16 v) } } }))
  ∧ (∀ (s : Machine.State) w,
    let ch := fld w.toNat 24 8
    let v : Sensor := ⟨BitVec.ofNat 16 (fld w.toNat 0 16), bit w.toNat 16, true⟩
    let y := { s.ls with smp := { s.ls.smp with sensors := Tbl.put ⟨0, false, false⟩ s.ls.smp.sensors ch v } }
    (167 < ch → s.ls.mainOn = true → exec (.sensorBeat w) s = .next { s with ls := s.ls.boundaryError 1 })
    ∧ (167 < ch → s.ls.mainOn = false → exec (.sensorBeat w) s = .next s)
    ∧ (ch ≤ 167 → s.ls.mainOn = true → s.ls.boundary 1 = true → bit w.toNat 16 = true ∨ (∀ i, i < 8 → bit (s.ls.reg (0x30 + i)) 0 = false ∨ fld (s.ls.reg (0x30 + i)) 2 8 ≠ ch) →
      exec (.sensorBeat w) s = .next { s with ls := y })
    ∧ (ch ≤ 167 → s.ls.mainOn = false ∨ s.ls.boundary 1 = false → bit w.toNat 16 = true → exec (.sensorBeat w) s = .next s)
    ∧ (∀ i, i < 8 → ch ≤ 167 → s.ls.mainOn = false → bit w.toNat 16 = false → (∀ k, k < 8 → k ≠ i → bit (s.ls.reg (0x30 + k)) 0 = false) → bit (s.ls.reg (0x30 + i)) 0 = true → fld (s.ls.reg (0x30 + i)) 2 8 = ch →
      bit (s.ls.reg (0x30 + i)) 1 = false → bit s.ls.aon.beyond.toNat i = false → sensorNum ch (fld (s.ls.reg (0x30 + i)) 16 16) < sensorNum ch (fld w.toNat 0 16) → fld (s.ls.reg (0x30 + i)) 40 4 ≤ Tbl.get 0 s.ls.aon.run i →
      exec (.sensorBeat w) s = .next { s with ls := { s.ls with aon := { s.ls.aon with run := Tbl.put 0 s.ls.aon.run i (min (Tbl.get 0 s.ls.aon.run i + 1) 16), beyond := BitVec.ofNat 8 (s.ls.aon.beyond.toNat ||| put i 1), crossing := s.ls.aon.crossing ++ [(i, w.toNat)] } } }))
  ∧ (∀ (s : Machine.State) r, (s.ls.mainOn = true → exec (.regionStretchPulse r) s = .next { s with ls := { s.ls with smp := { s.ls.smp with stretch := Tbl.put 0 s.ls.smp.stretch r (Tbl.get 0 s.ls.smp.stretch r + 1) } } })
    ∧ (s.ls.mainOn = false → exec (.regionStretchPulse r) s = .next s))
  ∧ (∀ (s : Machine.State) a, (s.ls.mainOn = false → exec (.bundleIssue a) s = .next { s with ls := { s.ls with host := { s.ls.host with bundleIdx := if s.ls.host.inReset then 0 else s.ls.host.bundleIdx + 1, bundleAddr := a, issuedAt := some s.ls.smp.lclk } } })
    ∧ (s.ls.mainOn = true → ∃ z, exec (.bundleIssue a) s = .next { s with ls := z } ∧ z.host = { s.ls.host with bundleIdx := if s.ls.host.inReset then 0 else s.ls.host.bundleIdx + 1, bundleAddr := a, issuedAt := some s.ls.smp.lclk }
        ∧ (∀ i, i < 32 → bit z.bp.hit.toNat i = (bit s.ls.bp.hit.toNat i || (bit (s.ls.reg (0x80 + i)) 0 && fld (s.ls.reg (0x80 + i)) 1 2 == 0 && Nat.land (Nat.xor a.toNat (s.ls.reg (0xA0 + i) % 2 ^ 48)) (s.ls.reg (0xC0 + i)) == 0)))
        ∧ ({ z.unlogged with host := s.ls.host, bp := s.ls.bp, regs := [], halt := s.ls.halt, trace := s.ls.trace, qsnap := s.ls.qsnap, pins := s.ls.pins } : Ls) = { s.ls.unlogged with regs := [] }))
  ∧ (∀ (s : Machine.State) k v, k < 4096 → Takes (fun p => .lsCtrSelWrite p k v) s (0x1000 + k) v (fun _ y => let x := y.setReg (0x1000 + k) v.toNat; { x with smp := { x.smp with staged := Tbl.ins x.smp.staged k (v.toNat % 2 ^ 17) } }))
  ∧ (∀ (s : Machine.State) k v, k < 4096 → (∀ t, (s.ls.bpOf t) = []) → Takes (fun p => .lsCtrValueWrite p k v) s (0x2000 + k) v (fun _ y => { y with smp := { y.smp with ctr := Tbl.put 0 y.smp.ctr k v, disc := k :: y.smp.disc }, bp := { y.bp with high := 0 } }))
  ∧ (∀ (s : Machine.State), Takes .lsLagArm s 0x132 1 (fun _ y => match y.clk.tick with
    | some n => if n + 1 < y.reg 0x130 then { y with lag := { y.lag with armed := some (y.reg 0x130, y.reg 0x131) } } else { y with lag := { y.lag with err := true } }
    | none => { y with lag := { y.lag with err := true } }))

/-- The fixed part of a frame and its size (R109, R110, R113, R115). -/
def Obligations.FrameBytes : Prop :=
  ∀ (s : Ls) (c : LsCap) b delta,
    let f := s.frameBytes c b delta
    let size := sizeBytes (s.frameSize b)
    f.length = size
    ∧ (c.tick < 2 ^ 64 → rd f 0 8 = c.tick) ∧ rd f 8 4 = s.die.toNat ∧ rd f 12 4 = c.fence % 2 ^ 32 ∧ rd f 16 2 = fld (s.reg (0x204 + b2n b)) 0 16 ∧ rd f 18 1 = s.frameSize b ∧ rd f 19 1 = b2n b
    ∧ rd f 20 4 = (c.flags + lagFlags c.lag delta) % 2 ^ 32 ∧ rd f 24 4 = unsigned 32 (if c.lag.2.2 then c.lag.1 else 0) ∧ rd f 28 4 = unsigned 32 (delta.getD 0) ∧ rd f 32 8 = c.bundle % 2 ^ 64
    ∧ rd f 40 2 = (if c.sawReset then 2 ^ 16 - 1 else c.frozen.toNat) ∧ rd f 42 2 = c.stretched ∧ (c.perTick < 2 ^ 32 → rd f 44 4 = c.perTick)
    ∧ rd f 48 2 = c.backlog % 2 ^ 16 ∧ sub f 50 14 = zeros 14 ∧ rd f 64 32 = c.stall.toNat

/-- Arming, sampling, triggering, freezing and reading out the trace (R124, R125, R126, R127, R128, R129, R130, R131, R497). Where the spec is silent, the
clauses follow the model's choice in log 9. -/
def Obligations.LinesideTrace : Prop :=
  (∀ (y : Ls),
    let cfg := y.reg 0x100
    let bad := 10 < fld cfg 1 4 ∨ 21844 < fld cfg 8 15 ∨ bit y.self.bist.toNat 0 = true
    (bad → y.traceArm = { y with trace := { y.trace with cfgErr := true } })
    ∧ (¬bad → y.trace.reading ≠ none → y.traceArm = { y with trace := { y.trace with pending := true } })
    ∧ (¬bad → y.trace.reading = none → y.traceArm = { y with trace := { LsTrace.init with st := .running, cfg := cfg, restart := true, cfgErr := y.trace.cfgErr, refused := y.trace.refused, k := cdiv (y.smp.lclk - y.smp.edgeLclk) (2 ^ (6 + fld cfg 1 4)) } }))
  ∧ (∀ (s : Machine.State), Takes .lsTraceArm s 0x101 1 (fun _ y => y.traceArm)
    ∧ Takes .lsTraceDisarm s 0x101 2 (fun _ y => if y.trace.st = .running ∨ y.trace.st = .post
        then ({ y with trace := { y.trace with st := .frozen, postLeft := 0, trigNext := false, disarmed := true } } : Ls).logE 8 [w64 y.trace.captured] else y)
    ∧ Takes .lsTraceTrigger s 0x101 4 (fun _ y => if y.trace.trigAt = some y.smp.lclk then y
        else if y.trace.st = .running then { y with trace := { y.trace with st := .post, trigNext := true, postLeft := fld y.trace.cfg 8 15, trigAt := some y.smp.lclk } }
        else { y with trace := { y.trace with extra := sat 8 (y.trace.extra + 1), trigAt := some y.smp.lclk } })
    ∧ Takes .lsTraceReadout s 0x101 8 (fun _ x =>
        let y := match x.trace.fill with | some n => x.toLclk n | none => x
        match y.readoutLink with
        | some l => if y.trace.st = .frozen ∧ y.trace.reading = none then { y.setPort l ((y.port l).sendTag 1 2 1 y.traceMessage) with trace := { y.trace with reading := some l } } else { y with trace := { y.trace with refused := true } }
        | none => { y with trace := { y.trace with refused := true } })
    ∧ Reads .lsTraceCapturedRead s 0x104 (fun y => { y with trace := { y.trace with latch := (some (w64 y.trace.recs.length), some (w64 y.trace.overwritten), some (w64 y.trace.dropped)) } }))
  ∧ (∀ (y : Ls),
    let p := bit y.trace.cfg 5
    y.readoutLink = (if (y.port p).st = .active then some p else if (y.port (!p)).st = .active then some (!p) else none))
  ∧ (∀ (s : Machine.State), s.ls.inService = true →
    let t := s.ls.trace
    let at_ := s.ls.smp.edgeLclk + t.k * 2 ^ (6 + fld t.cfg 1 4)
    let y := s.ls.toLclk at_
    let inTick := at_ ≤ s.ls.smp.lclk ∨ at_ < s.ls.smp.lclk + (s.ls.smp.lclkAcc + 5 * (s.ls.nextEdge - s.ls.clk.time).toNat) / 262144
    let on := (t.st = .running ∨ (t.st = .post ∧ (t.trigNext = true ∨ 0 < t.postLeft))) ∧ inTick
    let filled := some (y.smp.lclk + fld (y.reg 0x2) 8 5)
    let trig := t.trigNext
    let u := fun (w : Bool) => { t with captured := t.captured + 1, k := t.k + 1, point := some (y.smp.lclk, w), postLeft := if t.st = TraceSt.post ∧ trig = false then t.postLeft - 1 else t.postLeft, trigNext := false }
    (¬on → exec .traceSamplePoint s = .next s)
    ∧ (on → t.recs.length < 21845 → exec .traceSamplePoint s = .next { s with ls := { y with trace := { u true with recs := t.recs ++ [y.traceRecord trig], restart := false, fill := filled, trigPos := if trig then some t.recs.length else t.trigPos } } })
    ∧ (on → 21845 ≤ t.recs.length → bit t.cfg 0 = true → exec .traceSamplePoint s = .next { s with ls := { y with trace := { u false with dropped := t.dropped + 1, trigDropped := t.trigDropped || trig } } })
    ∧ (on → 21845 ≤ t.recs.length → bit t.cfg 0 = false → ∃ pos, exec .traceSamplePoint s = .next { s with ls := { y with trace := { u true with recs := t.recs.drop 1 ++ [y.traceRecord trig], restart := false, fill := filled, overwritten := t.overwritten + 1, trigPos := pos } } }
        ∧ pos = (if trig then some (t.recs.length - 1) else match t.trigPos with | some (i + 1) => some i | _ => none)))
  ∧ (∀ (y : Ls) trig,
    let r := y.traceRecord trig
    r.length = 48 ∧ rd r 0 7 = y.tickW % 2 ^ 56 ∧ bit (rd r 7 1) 1 = trig ∧ bit (rd r 7 1) 2 = y.halt.stopGate ∧ bit (rd r 7 1) 3 = y.halt.drainReq ∧ bit (rd r 7 1) 4 = y.host.inReset ∧ bit (rd r 7 1) 5 = y.clk.untimed
      ∧ bit (rd r 7 1) 6 = y.trace.restart ∧ bit (rd r 7 1) 0 = false ∧ rd r 8 6 = 0 ∧ rd r 16 32 = 0)
  ∧ (∀ (y : Ls) rs r, y.trace.recs = rs ++ [r] → r.length = 48 → bit (rd r 7 1) 0 = false → ∃ x,
    y.traceFill = { y with trace := { y.trace with recs := rs ++ [x], fill := none } } ∧ x.length = 48 ∧ sub x 0 7 = sub r 0 7 ∧ (∀ (i : Nat), 1 ≤ i → i < 8 → bit (rd x 7 1) i = bit (rd r 7 1) i) ∧ sub x 14 2 = sub r 14 2
      ∧ bit (rd x 7 1) 0 = decide (y.host.issuedAt = some (y.smp.lclk - 1)) ∧ rd x 8 6 = (if y.host.issuedAt = none then 0 else y.host.bundleAddr.toNat) ∧ rd x 16 32 = y.host.stall.toNat)
  ∧ (∀ (s : Machine.State), s.ls.inService = true →
    (s.ls.trace.st = .post → s.ls.trace.trigNext = false → s.ls.trace.postLeft = 0 → exec .tracePostComplete s
      = .next { s with ls := ({ s.ls with trace := { s.ls.trace with st := .frozen, disarmed := false } } : Ls).logE 8 [w64 s.ls.trace.captured] })
    ∧ (s.ls.trace.st ≠ .post ∨ s.ls.trace.trigNext = true ∨ s.ls.trace.postLeft ≠ 0 → exec .tracePostComplete s = .next s))
  ∧ (∀ (s : Machine.State) l, s.ls.inService = true → s.ls.trace.reading = some l →
    let done := { s.ls with trace := { s.ls.trace with reading := none, pending := false } }
    ((s.ls.port l).q.any (fun m => m.tag == 1) = true → exec .traceReadoutComplete s = .next s)
    ∧ ((s.ls.port l).q.any (fun m => m.tag == 1) = false → exec .traceReadoutComplete s = .next { s with ls := if s.ls.trace.pending then done.traceArm else done }))
  ∧ (∀ (s : Machine.State), s.ls.trace.reading = none → exec .traceReadoutComplete s = .next s)

/-- Taking, reading, completing and reading out the hang snapshot (R80, R132, R133, R134, R497, R523). Where the spec is silent, the clauses follow the
model's choice in log 9. -/
def Obligations.LinesideSnapshot : Prop :=
  (∀ (y : Ls) c b,
    let q := y.qsnap
    let counted := { y with qsnap := { q with busy := sat 8 (q.busy + 1), causeAt := some (y.smp.lclk, false) } }
    let off := y.boundary 4 = false ∨ bit y.self.bist.toNat 2 = true
    (q.causeAt = some (y.smp.lclk, true) → y.qsnapCause c b = { y with qsnap := match q.pending with
        | some p => if c < p.1 then { q with pending := some (c, b) } else q
        | none => if c < q.cause then { q with cause := c, bp := b } else q })
    ∧ (q.causeAt = some (y.smp.lclk, false) → y.qsnapCause c b = y)
    ∧ ((∀ (x : Bool), q.causeAt ≠ some (y.smp.lclk, x)) →
    (off → y.qsnapCause c b = counted)
    ∧ (¬off → q.reading ≠ none → q.pending = none → y.qsnapCause c b = { y with qsnap := { q with pending := some (c, b), causeAt := some (y.smp.lclk, true) } })
    ∧ (¬off → q.reading ≠ none → q.pending ≠ none → y.qsnapCause c b = y)
    ∧ (¬off → q.reading = none → q.st = 1 ∨ q.st = 2 → y.qsnapCause c b = counted)
    ∧ (¬off → q.reading = none → q.st ≠ 1 → q.st ≠ 2 → y.qsnapCause c b = y.qsnapStart c b)))
  ∧ (∀ (y : Ls) c b, y.qsnapStart c b = { y with
      qsnap := { y.qsnap with st := 1, reading := none, pending := none, descs := [], count := fld (y.reg 0x110) 0 14, startTick := y.tickW, endTick := 0, cause := c, bp := b, held := y.halt.stopGate || y.host.drainDone, readAt := y.smp.lclk, causeAt := some (y.smp.lclk, true) }, pins := { y.pins with qsnapReq := some 0 } })
  ∧ (∀ (s : Machine.State), Takes .lsQsnapTake s 0x111 1 (fun _ y => y.qsnapCause 0 0)
    ∧ Takes .lsQsnapReadout s 0x111 2 (fun _ y => match y.readoutLink with
        | some l => if 2 ≤ y.qsnap.st ∧ y.qsnap.reading = none then { y.setPort l ((y.port l).sendTag 2 2 1 y.qsnapMessage) with qsnap := { y.qsnap with reading := some l } } else y
        | none => y)
    ∧ Reads .lsQsnapStatusRead s 0x112 (fun y => { y with qsnap := { y.qsnap with busy := 0 } }))
  ∧ (∀ (s : Machine.State) d, s.ls.inService = true →
    let q := s.ls.qsnap
    let n := q.descs.length + 1
    let y := s.ls.toLclk (q.readAt + 64)
    let got := fun (x : Ls) (d : Option (BitVec 128)) => { x with qsnap := { q with descs := q.descs ++ [d], readAt := x.smp.lclk + 1, held := x.qsnap.held && (x.halt.stopGate || x.host.drainDone) }, pins := { x.pins with qsnapReq := if n < q.count then some n else none } }
    (q.st = 1 → q.descs.length < q.count → exec (.qsnapAck d) s = .next { s with ls := got s.ls (some d) } ∧ exec .qsnapReadTimeout s = .next { s with ls := got y none })
    ∧ (q.st ≠ 1 ∨ q.count ≤ q.descs.length → exec (.qsnapAck d) s = .next s ∧ exec .qsnapReadTimeout s = .next s)
    ∧ (q.st = 1 → q.descs.length = q.count → exec .qsnapComplete s = .next { s with ls := ({ s.ls with qsnap := { q with st := 2, endTick := s.ls.tickW } } : Ls).logE 9 [w64 q.cause, w64 (q.descs.filter (·.isNone)).length] })
    ∧ (q.st ≠ 1 ∨ q.descs.length ≠ q.count → exec .qsnapComplete s = .next s))
  ∧ (∀ (s : Machine.State) l, s.ls.inService = true → s.ls.qsnap.reading = some l →
    let done := { s.ls with qsnap := { s.ls.qsnap with reading := none, st := 3 } }
    ((s.ls.port l).q.any (fun m => m.tag == 2) = true → exec .qsnapReadoutComplete s = .next s)
    ∧ ((s.ls.port l).q.any (fun m => m.tag == 2) = false → exec .qsnapReadoutComplete s = .next { s with ls := match s.ls.qsnap.pending with | some (c, b) => done.qsnapStart c b | none => done }))
  ∧ (∀ (s : Machine.State), s.ls.qsnap.reading = none → exec .qsnapReadoutComplete s = .next s)
  ∧ (∀ (y : Ls) l, (y.trace.reading = some l → (y.linkLost l).trace = { y.trace with reading := none })
    ∧ (y.qsnap.reading = some l → (y.linkLost l).qsnap = (match y.qsnap.pending with | some (c, b) => (y.qsnapStart c b).qsnap | none => { y.qsnap with reading := none })))
  ∧ (∀ (s : Machine.State), s.ls.inService = true →
    let y := s.ls.toLclk (s.ls.halt.stopAt + 16)
    (s.ls.halt.snapDue = true → exec .stopSnapshotDelay s = .next { s with ls := ({ y with halt := { y.halt with snapDue := false } } : Ls).qsnapCause 3 0 })
    ∧ (s.ls.halt.snapDue = false → exec .stopSnapshotDelay s = .next s))
  ∧ (∀ (y : Ls),
    let b := y.qsnapMessage
    rd b 0 2 = 2 ∧ (y.qsnap.count < 2 ^ 16 → rd b 2 2 = y.qsnap.count) ∧ rd b 4 4 = y.die.toNat
      ∧ (∀ i d, y.qsnap.descs[i]? = some d → sub b (32 + 16 * i) 16 = (match d with | some v => le 16 v.toNat | none => List.replicate 16 0xFF)))

/-- Drains, stops and releases of the host (R83, R86, R137, R138, R139, R140, R141, R142, R143, R144, R523). Where the spec is silent, the clauses follow
the model's choice in log 9, 60, 83. -/
def Obligations.LinesideHalting : Prop :=
  (∀ (y : Ls),
    let h := y.halt
    (y.boundary 7 = false → y.drainCause = { y with halt := { h with drain := 3 } })
    ∧ (y.boundary 7 = true → h.stopGate = true → y.drainCause = if h.drainReq then y else { y with halt := { h with drainHeld := true } })
    ∧ (y.boundary 7 = true → h.stopGate = false → h.drainReq = true → y.drainCause = y)
    ∧ (y.boundary 7 = true → h.stopGate = false → h.drainReq = false → h.drain = 0 ∨ y.host.drainDone = false → y.drainCause = { y with halt := { h with drain := 1, drainReq := true, drainAt := y.smp.lclk, drainPending := false, drainHeld := false } })
    ∧ (y.boundary 7 = true → h.stopGate = false → h.drainReq = false → h.drain ≠ 0 → y.host.drainDone = true → y.drainCause = { y with halt := { h with drainPending := true } }))
  ∧ (∀ (y : Ls) src late untimed,
    let h := y.halt
    let ws := [w64 (src + put 2 (b2n late) + put 3 (b2n untimed))]
    let up := { y with halt := { h with drain := if h.drain = 1 then 4 else h.drain, drainReq := if h.drain = 1 then false else h.drainReq, stopGate := true, stopAt := y.smp.lclk, stopLate := h.stopLate || late, stopUntimed := h.stopUntimed || untimed, snapDue := y.inService && bit (y.reg 0x110) 17 } }
    let tr := if y.inService ∧ bit y.trace.cfg 6 then up.traceTrigger else up
    (h.stopGate = true → y.raiseStop src late untimed = y)
    ∧ (h.stopGate = false → late = true → y.raiseStop src late untimed = tr.logAlarm 6 ws 3)
    ∧ (h.stopGate = false → late = false → y.raiseStop src late untimed = tr.logE 6 ws))
  ∧ (∀ (y : Ls) armed,
    let h := y.halt
    let down := ({ y with halt := { h with stopGate := false, relPending := none } } : Ls).logE 7 [w64 (b2n armed)]
    (h.stopGate = false → y.lowerStop armed = y)
    ∧ (h.stopGate = true → y.scan.st = 1 ∨ y.scan.st = 2 ∨ y.scan.st = 5 → y.lowerStop armed = { y with halt := { h with relPending := some (b2n armed) } })
    ∧ (h.stopGate = true → y.scan.st ≠ 1 → y.scan.st ≠ 2 → y.scan.st ≠ 5 → y.lowerStop armed = if h.drainHeld then ({ down with halt := { down.halt with drainHeld := false } } : Ls).drainCause else down))
  ∧ (∀ (s : Machine.State), Takes .lsHaltDrain s 0x40 1 (fun _ y => y.drainCause)
    ∧ Takes .lsHaltReleaseDrain s 0x40 2 (fun _ y =>
        let z := { y with halt := { y.halt with drainReq := false } }
        if y.host.drainDone = true ∨ y.halt.drain = 0 then z else if y.halt.drainPending then ({ z with halt := { z.halt with drain := 0, drainPending := false } } : Ls).drainCause else { z with halt := { z.halt with drain := 0 } })
    ∧ Takes .lsHaltStopNow s 0x40 4 (fun _ y => y.raiseStop 1 false false)
    ∧ Takes .lsHaltArmStop s 0x40 8 (fun _ y => if y.instantAt 0x42 < y.clk.time + 1000 * uNs then y.raiseStop 2 true false else { y with halt := { y.halt with stopArmed := some (y.instantAt 0x42) } })
    ∧ Takes .lsHaltDisarmStop s 0x40 0x10 (fun _ y => { y with halt := { y.halt with stopArmed := none } })
    ∧ Takes .lsHaltReleaseStop s 0x40 0x20 (fun _ y => y.lowerStop false)
    ∧ Takes .lsHaltArmRelease s 0x40 0x40 (fun _ y => if y.instantAt 0x44 ≤ y.clk.time then ({ y with halt := { y.halt with relLate := true } } : Ls).lowerStop true else { y with halt := { y.halt with relArmed := some (y.instantAt 0x44) } })
    ∧ Takes .lsHaltDisarmRelease s 0x40 0x80 (fun _ y => { y with halt := { y.halt with relArmed := none } }))
  ∧ (∀ (s : Machine.State),
    let h := s.ls.halt
    let y := { s.ls with host := { s.ls.host with drainDone := true } }
    (h.drain = 1 → exec .drainDoneRise s = .next { s with ls := { y with halt := { h with drain := 2 } } })
    ∧ (h.drain = 3 → h.drainReq = true → exec .drainDoneRise s = .next { s with ls := let z := { y with halt := { h with drain := 2, lateDrain := true } }; z.logE 5 [w64 z.haltStatus] })
    ∧ (h.drain ≠ 1 → h.drain ≠ 3 ∨ h.drainReq = false → exec .drainDoneRise s = .next { s with ls := y }))
  ∧ (∀ (s : Machine.State), s.ls.inService = true →
    let y := s.ls.toLclk (s.ls.halt.drainAt + 2048)
    let late := let z := (let x := { y with halt := { y.halt with drain := 3 } }; if bit (x.reg 0x110) 16 then x.qsnapCause 2 0 else x); z.logAlarm 4 [w64 z.haltStatus] 3
    (s.ls.halt.drain = 1 → exec .drainTimeout s = .next { s with ls := late })
    ∧ (s.ls.halt.drain ≠ 1 → exec .drainTimeout s = .next s))
  ∧ (∀ (s : Machine.State),
    let h := s.ls.halt
    let y := { s.ls with host := { s.ls.host with drainDone := false } }
    (h.drainReq = true ∨ h.drain = 0 → exec .drainDoneFall s = .next { s with ls := y })
    ∧ (h.drainReq = false → h.drain ≠ 0 → h.drainPending = false → exec .drainDoneFall s = .next { s with ls := { y with halt := { h with drain := 0 } } })
    ∧ (h.drainReq = false → h.drain ≠ 0 → h.drainPending = true → exec .drainDoneFall s = .next { s with ls := ({ y with halt := { h with drain := 0, drainPending := false } } : Ls).drainCause }))
  ∧ (∀ (s : Machine.State),
    let h := s.ls.halt
    exec .hostResetRise s = .next { s with ls := { s.ls with host := { s.ls.host with inReset := true, bundleIdx := 0, issuedAt := none }, lag := { s.ls.lag with anchor := none, last := none }, smp := { s.ls.smp with sawReset := true }, halt := if h.drain = 1 then { h with drain := 5, drainReq := false } else h } })
  ∧ (∀ (s : Machine.State) t, s.ls.halt.stopArmed = some t →
    let y := s.ls.reach t
    exec .armedStopInstant s = .next { s with ls := ({ y with halt := { y.halt with stopArmed := none } } : Ls).raiseStop 2 false (s.ls.clk.st == .unlocked) })
  ∧ (∀ (s : Machine.State), s.ls.halt.stopArmed = none → exec .armedStopInstant s = .next s)
  ∧ (∀ (s : Machine.State) t, s.ls.halt.relArmed = some t →
    let y := s.ls.reach t
    exec .armedReleaseInstant s = .next { s with ls := ({ y with halt := { y.halt with relArmed := none } } : Ls).lowerStop true })
  ∧ (∀ (s : Machine.State), s.ls.halt.relArmed = none → exec .armedReleaseInstant s = .next s)

/-- Starting, shifting, pausing and restoring a scan (R144, R145, R146, R147, R148, R222, R497, R523). Where the spec is silent, the clauses follow the
model's choice in log 9, 62. -/
def Obligations.LinesideScan : Prop :=
  (∀ (s : Machine.State), Takes .lsScanStart s 0x120 1 (fun _ y =>
      let len := fld (y.reg 0x121) 0 25
      match y.readoutLink with
      | some l => if y.halt.stopGate = true ∧ y.halt.stopAt + 16 ≤ y.smp.lclk ∧ y.boundary 6 = true ∧ 0 < len ∧ bit y.self.bist.toNat 3 = false ∧ y.scan.st ≠ 1 ∧ y.scan.st ≠ 2 ∧ y.scan.st ≠ 5
        then
          let message := le 2 3 ++ le 2 0 ++ le 4 y.die.toNat ++ le 4 len ++ le 4 0 ++ le 8 y.tickW ++ le 8 0
          let up := { y with scan := { y.scan with st := 1, shifted := 0, len := len, offset := 0, startTime := y.clk.time, startTick := y.tickW, link := l, kept := [] }, pins := { y.pins with scanEn := true } }
          up.setPort l { y.port l with q := (y.port l).q ++ [⟨2, 2, false, message, false, 3, true⟩] }
        else { y with scan := { y.scan with refused := true } }
      | none => { y with scan := { y.scan with refused := true } })
    ∧ Takes .lsScanRestore s 0x120 2 (fun _ y => if y.scan.st = 4 then { y with scan := { y.scan with st := 5, len := fld (y.reg 0x121) 0 25, startTime := y.clk.time }, pins := { y.pins with scanEn := true } } else y))
  ∧ (∀ (y : Ls), y.scan.st = 1 ∨ y.scan.st = 5 →
    let c := y.scan
    let due := min (c.len - c.shifted) ((y.clk.time - c.startTime) / uNs)
    let n := if c.st = 1 then min due (8192 - (y.scanUnsent.length + 7) / 8) else due
    let ws := (List.range n).map (fun i => y.host.chains.getD (i % y.host.chains.length) 0)
    let z := y.scanAdvance
    z.scan.shifted = c.shifted + n ∧ z.host.chains = y.host.chains.rotateLeft n ∧ z.pins.scanRet = (match ws.getLast? with | some w => w | none => y.pins.scanRet)
      ∧ (∀ l, (z.port l).q = if c.st = 1 ∧ l = c.link then (y.port l).q.map (fun m => if m.tag = 3 then { m with bytes := m.bytes ++ (ws.map (fun w => le 8 w.toNat)).flatten } else m) else (y.port l).q)
      ∧ z.scan.st = (if c.st = 1 ∧ c.shifted + n < c.len ∧ 65536 ≤ z.scanUnsent.length then 2 else c.st) ∧ z.pins.scanEn = (y.pins.scanEn && z.scan.st == c.st))
  ∧ (∀ (s : Machine.State) chains, s.ls.inService = true →
    let c := s.ls.scan
    let x := { s.ls with host := { s.ls.host with chains := if chains = [] then s.ls.host.chains else chains } }
    let y := (x.reach ((c.startTime + (c.len - c.shifted) * uNs : Nat) : Int)).scanAdvance
    let z := y.setPort y.scan.link { y.port y.scan.link with q := (y.port y.scan.link).q.map (fun m => if m.tag = 3 then { m with more := false } else m) }
    let done := { z with scan := { z.scan with st := 3 }, pins := { z.pins with scanEn := false } }
    (c.st = 1 ∨ c.st = 5 → y.scan.shifted < y.scan.len → exec (.scanShiftComplete chains) s = .next { s with ls := y })
    ∧ (c.st = 1 ∨ c.st = 5 → y.scan.len ≤ y.scan.shifted → y.halt.relPending = none → exec (.scanShiftComplete chains) s = .next { s with ls := done })
    ∧ (∀ a, c.st = 1 ∨ c.st = 5 → y.scan.len ≤ y.scan.shifted → y.halt.relPending = some a → exec (.scanShiftComplete chains) s = .next { s with ls := ({ done with halt := { done.halt with relPending := none } } : Ls).lowerStop (a == 1) })
    ∧ (c.st ≠ 1 → c.st ≠ 5 → exec (.scanShiftComplete chains) s = .next { s with ls := x }))
  ∧ (∀ (s : Machine.State), s.ls.inService = true →
    let c := s.ls.scan
    let queued := (s.ls.port c.link).q.any (fun m => m.tag == 3)
    let from_ := c.shifted - c.kept.length / 8
    let again := fun (x : Ls) => { x with scan := { x.scan with st := 1, startTime := x.clk.time }, pins := { x.pins with scanEn := true } }
    let message := fun l (more : Bool) => ({ s.ls with scan := { c with offset := from_, link := l, kept := [] } } : Ls).setPort l { s.ls.port l with q := (s.ls.port l).q
      ++ [⟨2, 2, false, le 2 3 ++ le 2 0 ++ le 4 s.ls.die.toNat ++ le 4 c.len ++ le 4 from_ ++ le 8 c.startTick ++ le 8 0 ++ c.kept, false, 3, more⟩] }
    (c.st = 2 → queued = true → exec .scanResume s = .next { s with ls := if s.ls.scanUnsent.length < 65536 then again s.ls else s.ls })
    ∧ (∀ l, c.st = 2 → queued = false → s.ls.readoutLink = some l → exec .scanResume s = .next { s with ls := again (message l true) })
    ∧ (∀ l, c.st = 3 → c.kept ≠ [] → s.ls.readoutLink = some l → exec .scanResume s = .next { s with ls := message l false })
    ∧ (c.st ≠ 2 → c.st ≠ 3 ∨ c.kept = [] → exec .scanResume s = .next s)
    ∧ (c.st ≠ 2 ∨ queued = false → s.ls.readoutLink = none → exec .scanResume s = .next s))
  ∧ (∀ (y : Ls) l, y.scan.st = 1 → y.scan.link = l → (y.port l).q.any (fun m => m.tag == 3) = true →
    let z := y.scanUnlink l
    z.scan.st = 2 ∧ z.scan.shifted = y.scanAdvance.scan.shifted ∧ z.scan.kept = y.scanAdvance.scanUnsent ∧ z.pins.scanEn = false)

/-- Packets and shards at the taps (R78, R79, R358, R359, R360, R364, R365, R366, R367, R371). Where the spec is silent, the clauses follow the model's
choice in log 9. -/
def Obligations.TabletPackets : Prop :=
  (∀ (s : Machine.State) tap flags tag₀ high, s.ls.inService = true → bit (BitVec.toNat flags) 0 = true → bit (BitVec.toNat flags) 1 = true →
    let sb : BitVec 64 := high ++ tag₀ ++ flags
    let cls := fld sb.toNat 14 2
    let tag := BitVec.ofNat 16 (fld sb.toNat 16 16)
    let value := BitVec.ofNat 28 (fld sb.toNat 32 28)
    let run := exec (.tapPacketStart tap flags tag₀ high) s
    let mine := s.ls.tab.pkts.filter (fun p => p.tap == tap && p.digested)
    let digested := decide (mine.length < 64)
    let pkt : OpenPkt := ⟨tap, cls, tag, value, if digested then s.ls.tabMatch value.toNat else none, digested, s.ls.tickW⟩
    let opened := { s.ls with tab := { s.ls.tab with pkts := s.ls.tab.pkts ++ [pkt] } }
    let shards := s.ls.tab.shards.filter (fun x => x.tap == tap)
    (s.ls.tapOn tap = false → run = .next s)
    ∧ (s.ls.tapOn tap = true → cls = 3 → run = .next { s with ls := s.ls.boundaryError 5 })
    ∧ (s.ls.tapOn tap = true → cls = 0 → run = .next s)
    ∧ (s.ls.tapOn tap = true → cls = 1 → fld tag.toNat 14 2 = 3 → run = .next { s with ls := ({ s.ls with tab := { s.ls.tab with pkts := s.ls.tab.pkts ++ [⟨tap, 1, tag, value, none, false, s.ls.tickW⟩] } } : Ls).boundaryError 2 })
    ∧ (s.ls.tapOn tap = true → cls = 1 → fld tag.toNat 14 2 ≠ 3 → mine.length < 64 → run = .next { s with ls := opened })
    ∧ (s.ls.tapOn tap = true → cls = 1 → fld tag.toNat 14 2 ≠ 3 → 64 ≤ mine.length → run = .next { s with ls := opened.boundaryError 3 })
    ∧ (s.ls.tapOn tap = true → cls = 2 → 2 ≤ tag.toNat → run = .next { s with ls := s.ls.boundaryError 2 })
    ∧ (s.ls.tapOn tap = true → cls = 2 → tag.toNat < 2 → s.ls.tapFailed tap = true → run = .next { s with ls := s.ls.queueShard tap value 2 0 })
    ∧ (s.ls.tapOn tap = true → cls = 2 → tag.toNat < 2 → s.ls.tapFailed tap = false → shards.any (fun x => x.ref == value) = true → run = .next s)
    ∧ (s.ls.tapOn tap = true → cls = 2 → tag.toNat < 2 → s.ls.tapFailed tap = false → shards.any (fun x => x.ref == value) = false → 4 ≤ shards.length → run = .next { s with ls := s.ls.queueShard tap value 2 0 })
    ∧ (s.ls.tapOn tap = true → cls = 2 → tag.toNat < 2 → s.ls.tapFailed tap = false → shards.any (fun x => x.ref == value) = false → shards.length < 4 →
        run = .next { s with ls := { s.ls with tab := { s.ls.tab with shards := s.ls.tab.shards ++ [⟨tap, value, crc64Xz.init, 0⟩] } } }))
  ∧ (∀ (s : Machine.State) flags tag₀ high beats, s.ls.inService = true → bit (BitVec.toNat flags) 0 = true → bit (BitVec.toNat flags) 2 = true → fld (BitVec.toNat flags) 14 2 = 1 →
    let sb : BitVec 64 := high ++ tag₀ ++ flags
    let tag := BitVec.ofNat 16 (fld sb.toNat 16 16)
    let value := BitVec.ofNat 28 (fld sb.toNat 32 28)
    let n := fld sb.toNat 3 11
    let data := fit (2048 * ((beats.length - 1) / 2048) + if n = 0 then 2048 else n) beats
    let run := exec (.egressPacketEnd flags tag₀ high beats) s
    let role := fld tag.toNat 14 2
    let chunk := fld tag.toNat 0 14
    let p := s.ls.takePkt 1 tag value
    let y := p.2
    let ok := if s.ls.tapFailed 1 then 0 else 1
    (s.ls.boundary 2 = false → run = .next s)
    ∧ (s.ls.boundary 2 = true → p.1 = none → run = .next s)
    ∧ (∀ k, s.ls.boundary 2 = true → p.1 = some k → k.digested = false → run = .next { s with ls := y.driveDigest tag 0 })
    ∧ (∀ k, s.ls.boundary 2 = true → p.1 = some k → k.digested = true → role = 2 → let d := transitDigest value.toNat tag.toNat 0 data
        run = .next { s with ls := ((y.driveDigest tag (ok * d)).istatAdd 0 1).testPacket k d })
    ∧ (∀ k, s.ls.boundary 2 = true → p.1 = some k → k.digested = true → role ≠ 2 → k.entry = none → run = .next { s with ls := (y.driveDigest tag 0).istatAdd 3 1 })
    ∧ (∀ k e d, s.ls.boundary 2 = true → p.1 = some k → k.digested = true → role ≠ 2 → k.entry = some e → entryDigest e value.toNat tag.toNat data = some d →
        let z := (y.driveDigest tag (ok * d)).istatAdd 0 1
        run = .next { s with ls := if e.linear = true ∧ role = 1 then z.witnessClose e value.toNat chunk (some d) else z })
    ∧ (∀ k e, s.ls.boundary 2 = true → p.1 = some k → k.digested = true → role ≠ 2 → k.entry = some e → entryDigest e value.toNat tag.toNat data = none →
        let z := (y.driveDigest tag 0).istatAdd 2 1
        run = .next { s with ls := (if role = 1 then z.witnessClose e value.toNat chunk none else z).mismatch e value.toNat 0 }))
  ∧ (∀ (s : Machine.State) flags tag₀ high beats, s.ls.inService = true → bit (BitVec.toNat flags) 0 = true → bit (BitVec.toNat flags) 2 = true → fld (BitVec.toNat flags) 14 2 = 1 →
    let sb : BitVec 64 := high ++ tag₀ ++ flags
    let tag := BitVec.ofNat 16 (fld sb.toNat 16 16)
    let value := BitVec.ofNat 28 (fld sb.toNat 32 28)
    let n := fld sb.toNat 3 11
    let data := fit (2048 * ((beats.length - 1) / 2048) + if n = 0 then 2048 else n) beats
    let run := exec (.ingressPacketEnd flags tag₀ high beats) s
    let role := fld tag.toNat 14 2
    let chunk := fld tag.toNat 0 14
    let p := s.ls.takePkt 0 tag value
    let y := p.2
    let bad := fun (e : TabEntry) => { s with ls := (y.istatAdd 2 1).mismatch e value.toNat 0 }
    let body := data.take (data.length - 8)
    let carried := unle (data.drop (data.length - 8))
    (s.ls.boundary 3 = false → run = .next s)
    ∧ (s.ls.boundary 3 = true → p.1 = none → run = .next s)
    ∧ (∀ k, s.ls.boundary 3 = true → p.1 = some k → k.digested = false → run = .next { s with ls := y })
    ∧ (∀ k, s.ls.boundary 3 = true → p.1 = some k → k.digested = true → k.entry = none → run = .next { s with ls := y.istatAdd 3 1 })
    ∧ (∀ k e, s.ls.boundary 3 = true → p.1 = some k → k.digested = true → k.entry = some e → role ≠ 2 → data.length ≤ 8 ∨ entryDigest e value.toNat tag.toNat body = none → run = .next (bad e))
    ∧ (∀ k e d, s.ls.boundary 3 = true → p.1 = some k → k.digested = true → k.entry = some e → role ≠ 2 → 8 < data.length → entryDigest e value.toNat tag.toNat body = some d →
        let z := if d = carried then y.istatAdd 1 1 else (y.istatAdd 2 1).mismatch e value.toNat carried
        run = .next { s with ls := if e.linear = true ∧ role = 1 then (z.witnessAdd e chunk d).1 else z })
    ∧ (∀ k e, s.ls.boundary 3 = true → p.1 = some k → k.digested = true → k.entry = some e → role = 2 →
        (e.linear = false → run = .next { s with ls := y.istatAdd 3 1 })
        ∧ (e.linear = true → linearDigest e data = none → run = .next (bad e))
        ∧ (∀ d, e.linear = true → linearDigest e data = some d → run
            = .next { s with ls := (y.witnessAdd e chunk d).1.istatAdd (if (y.witnessAdd e chunk d).2 then 20 else 3) 1 })))
  ∧ (∀ (s : Machine.State) tap flags tag high, s.ls.inService = true → bit (BitVec.toNat flags) 0 = false ∨ bit (BitVec.toNat flags) 1 = false → exec (.tapPacketStart tap flags tag high) s = .next s)
  ∧ (∀ (s : Machine.State) flags tag₀ high beats, s.ls.inService = true → bit (BitVec.toNat flags) 0 = false ∨ bit (BitVec.toNat flags) 2 = false ∨ fld (BitVec.toNat flags) 14 2 = 0 ∨ fld (BitVec.toNat flags) 14 2 = 3 →
    exec (.egressPacketEnd flags tag₀ high beats) s = .next s ∧ exec (.ingressPacketEnd flags tag₀ high beats) s = .next s)
  ∧ (∀ (s : Machine.State) tap flags tag₀ high beats, s.ls.inService = true → tap < 2 → s.ls.tapOn tap = true → bit (BitVec.toNat flags) 0 = true → bit (BitVec.toNat flags) 2 = true → fld (BitVec.toNat flags) 14 2 = 2 →
    let sb : BitVec 64 := high ++ tag₀ ++ flags
    let tag := BitVec.ofNat 16 (fld sb.toNat 16 16)
    let value := BitVec.ofNat 28 (fld sb.toNat 32 28)
    let n := fld sb.toNat 3 11
    let data := fit (2048 * ((beats.length - 1) / 2048) + if n = 0 then 2048 else n) beats
    let run := if tap = 1 then exec (.egressPacketEnd flags tag₀ high beats) s else exec (.ingressPacketEnd flags tag₀ high beats) s
    let rest := s.ls.tab.shards.filter (fun y => !(y.tap == tap && y.ref == value))
    (2 ≤ tag.toNat ∨ s.ls.tab.shards.find? (fun x => x.tap == tap && x.ref == value) = none → run = .next s)
    ∧ (∀ x, tag.toNat < 2 → s.ls.tab.shards.find? (fun x => x.tap == tap && x.ref == value) = some x →
      let c := crcFeed crc64Xz x.crc data
      let n := x.len + data.length
      (bit tag.toNat 0 = false → run = .next { s with ls := { s.ls with tab := { s.ls.tab with shards := rest ++ [{ x with crc := c, len := n }] } } })
      ∧ (bit tag.toNat 0 = true → run = .next { s with ls := ({ s.ls with tab := { s.ls.tab with shards := rest } } : Ls).queueShard tap value (if 4194304 < n then 1 else 0) (crcResult crc64Xz (crcFeed crc64Xz c (le 4 value.toNat))) })))
  ∧ (∀ (y : Ls) tap ref st d,
    let w := BitVec.toNat ref + put 28 st + put 30 tap + put 31 1
    let i := if st = 0 then 9 else if st = 2 then 10 else 11
    (y.tab.queue.length < 64 → y.queueShard tap ref st d = let z := y.istatAdd i 1; { z with tab := { z.tab with queue := y.tab.queue ++ [(w, w64 d)] } })
    ∧ (64 ≤ y.tab.queue.length → y.queueShard tap ref st d = let z := y.istatAdd 12 1; ({ z with smp := { z.smp with sawShardOverflow := true } } : Ls).logE 0x13 [w64 w]))
  ∧ (∀ (y : Ls) tag d, y.driveDigest tag d = { y with pins := { y.pins with dig := some (y.smp.lclk, tag, w64 d) } })
  ∧ (∀ (y : Ls) e group w, y.mismatch e group w = let z := y.logAlarm 0x12 [w64 (put 28 6 + group), w64 w] 4; if e.actAbort then z.originate e.g else z)

/-- Witnesses, entry enables, the test window and poison (R81, R360, R368, R369, R370, R377, R378, R383, R497). Where the spec is silent, the clauses
follow the model's choice in log 9, 74, 85. -/
def Obligations.TabletUpkeep : Prop :=
  (∀ (y : Ls) e chunk d,
    let is := fun (w : Witness) => w.g == e.g && w.chunk == chunk
    (y.isSuspended e.g = true → y.witnessAdd e chunk d = (y, false))
    ∧ (y.isSuspended e.g = false → y.tab.wits.any is = true → y.witnessAdd e chunk d = ({ y with tab := { y.tab with wits := y.tab.wits.map (fun w => if is w then { w with sum := w.sum + d, n := w.n + 1 } else w) } }, true))
    ∧ (y.isSuspended e.g = false → y.tab.wits.any is = false → y.tab.wits.length < 64 → y.witnessAdd e chunk d = ({ y with tab := { y.tab with wits := y.tab.wits ++ [⟨e.g, chunk, d, 1, 0, e.wticks⟩] } }, true))
    ∧ (y.isSuspended e.g = false → y.tab.wits.any is = false → 64 ≤ y.tab.wits.length → y.witnessAdd e chunk d = (let z := y.istatAdd 8 1;
        { z with tab := { z.tab with wits := y.tab.wits.filter (fun w => w.g != e.g), suspended := y.tab.suspended.filter (fun x => x.1 != e.g) ++ [(e.g, e.wticks)] } }, false)))
  ∧ (∀ (y : Ls) e group chunk d,
    let is := fun (w : Witness) => w.g == e.g && w.chunk == chunk
    let z := { y with tab := { y.tab with wits := y.tab.wits.filter (fun x => !is x) } }
    (y.tab.wits.find? is = none → y.witnessClose e group chunk (some d) = y.istatAdd 6 1)
    ∧ (∀ w, y.tab.wits.find? is = some w → w.n = e.fanIn → w.sum % mers61 = d → y.witnessClose e group chunk (some d) = z.istatAdd 4 1)
    ∧ (∀ w, y.tab.wits.find? is = some w → w.n ≠ e.fanIn ∨ w.sum % mers61 ≠ d → y.witnessClose e group chunk (some d) = (z.istatAdd 5 1).mismatch e group d)
    ∧ (∀ w, y.tab.wits.find? is = some w → y.witnessClose e group chunk none = z.istatAdd 5 1))
  ∧ (∀ (s : Machine.State), s.ls.inService = true →
    exec .witnessExpiry s = .next { s with ls := ({ s.ls with tab := { s.ls.tab with wits := s.ls.tab.wits.filter (fun w => decide (w.edges < w.limit)) } } : Ls).istatAdd 7 (s.ls.tab.wits.filter (fun w => decide (w.limit ≤ w.edges))).length }
    ∧ exec .witnessSuspendEnd s = .next { s with ls := { s.ls with tab := { s.ls.tab with suspended := s.ls.tab.suspended.filter (fun x => decide (0 < x.2)) } } })
  ∧ (∀ (s : Machine.State) g, s.ls.inService = true →
    let busy := s.ls.tab.pkts.any (fun p => match p.entry with | some e => e.g == g | none => false)
    let z := { s.ls with tab := { s.ls.tab with pend := s.ls.tab.pend.filter (· != g) } }
    (s.ls.tab.pend.contains g = true → busy = false → exec (.tabEnableApply g) s = .next { s with ls := z.setReg (0x3000 + g) (setFld (s.ls.reg (0x3000 + g)) 28 1 1) })
    ∧ (s.ls.tab.pend.contains g = false ∨ busy = true → exec (.tabEnableApply g) s = .next s))
  ∧ (∀ (s : Machine.State) g v, g < 256 → Takes (fun p => .lsTabGroupWrite p g v) s (0x3000 + g) v (fun _ y => y.tabGroupWrite g v.toNat))
  ∧ (∀ (y : Ls) g v,
    let busy := y.tab.pkts.any (fun p => match p.entry with | some e => e.g == g | none => false)
    let off := y.tab.pend.filter (· != g)
    let was := bit (y.reg (0x3000 + g)) 28
    y.self.tablet = 0 →
    (bit v 28 = true → was = false → busy = true → y.tabGroupWrite g v = { y.setReg (0x3000 + g) (setFld v 28 1 0) with tab := { y.tab with pend := off ++ [g] } })
    ∧ (bit v 28 = true → was = true ∨ busy = false → y.tabGroupWrite g v = { y.setReg (0x3000 + g) v with tab := { y.tab with pend := off } })
    ∧ (bit v 28 = false → y.tabGroupWrite g v = ({ y.setReg (0x3000 + g) v with tab := { y.tab with wits := y.tab.wits.filter (fun w => w.g != g), pend := off } } : Ls).istatAdd 7 (y.tab.wits.filter (fun w => w.g == g)).length))
  ∧ (∀ (s : Machine.State), s.ls.inService = true →
    let ws := s.ls.reg 0x238
    let wt := s.ls.reg 0x239
    let missing := fun i => bit (s.ls.reg (0x3600 + i)) 42 = true ∧ Tbl.get 0 s.ls.tab.results i = 0
    (wt = 0 ∨ s.ls.clk.tick = none ∨ s.ls.tickW < ws + wt → exec .testWindowEnd s = .next s)
    ∧ (wt ≠ 0 → s.ls.clk.tick ≠ none → ws + wt ≤ s.ls.tickW → ∃ z, exec .testWindowEnd s = .next { s with ls := z } ∧ (∀ i, i < 256 → (missing i → Tbl.get 0 z.tab.results i = 3) ∧ (¬missing i → Tbl.get 0 z.tab.results i = Tbl.get 0 s.ls.tab.results i))
        ∧ z.istat = ((List.range 256).filter (fun i => bit (s.ls.reg (0x3600 + i)) 42 && Tbl.get 0 s.ls.tab.results i == 0)).foldl (fun t _ => Tbl.put 0 t 18 (Tbl.get 0 t 18 + 1)) s.ls.istat ∧ ({ z with istat := [], tab := { z.tab with results := [] } } : Ls) = { s.ls with istat := [], tab := { s.ls.tab with results := [] } }))
  ∧ (∀ (s : Machine.State) w, s.ls.boundary 5 = true → s.ls.poison.length < 64 →
    let y := { s.ls with pins := { s.ls.pins with poisonAck := some s.ls.smp.lclk }, poison := s.ls.poison ++ [w] }
    let ws := [w64 (w.toNat % 2 ^ 64), w64 (w.toNat / 2 ^ 64)]
    let kind := fld w.toNat 4 2
    let job := fld w.toNat 52 28
    let gs := (List.range 256).filter (fun g => bit (s.ls.reg (0x3000 + g)) 28 && bit (s.ls.reg (0x3100 + g)) 17 && s.ls.reg (0x3400 + g) == job)
    let used := (y.istatAdd 14 1).logAlarm 0x11 ws 4
    s.ls.inService = true →
    (kind = 1 → exec (.poisonAccept w) s = .next { s with ls := (y.istatAdd 13 1).logE 0x11 ws })
    ∧ (kind = 2 → job = 0 ∨ gs = [] → exec (.poisonAccept w) s = .next { s with ls := used.istatAdd 15 1 })
    ∧ (kind = 2 → job ≠ 0 → gs ≠ [] → exec (.poisonAccept w) s = .next { s with ls := gs.foldl (fun x g => x.originate g) used })
    ∧ (kind = 0 ∨ kind = 3 → exec (.poisonAccept w) s = .next { s with ls := y.boundaryError 4 }))
  ∧ (∀ (s : Machine.State) w, s.ls.boundary 5 = false ∨ 64 ≤ s.ls.poison.length → exec (.poisonAccept w) s = .next s)

/-- Configuration messages, the debug segment and the checks of a write (R13, R390, R517, R518, R519, R521, R523). Where the spec is silent, the clauses
follow the model's choice in log 9, 65, 66, 87. -/
def Obligations.LinesideConfiguration : Prop :=
  (∀ (s : Machine.State) l m p, s.ls.inService = true → s.ls.cfgWait = none → (s.ls.port l).takeInbox 3 0 (fun _ => true) = (some m, p) →
    (cfgOps m.bytes = none → exec (.configMessageReceived l) s = .next { s with ls := s.ls.setPort l (p.count 14 1) })
    ∧ (∀ ops, cfgOps m.bytes = some ops → s.ls.lclkLeft ≤ ops.length → exec (.configMessageReceived l) s = .next { s with ls := { s.ls with cfgWait := some l } })
    ∧ (∀ ops, cfgOps m.bytes = some ops → ops.length < s.ls.lclkLeft →
      let done := ops.foldl (fun (x : Ls × List Bytes × Nat) o => let z := (x.1.toLclk x.2.2).cfgApply l o; (z.1, x.2.1 ++ [({ o with value := z.2 } : CfgOp).bytes], x.2.2 + 1)) (s.ls.setPort l p, [], s.ls.smp.lclk + 1)
      (done.1.port l).st = .active → exec (.configMessageReceived l) s = .next { s with ls := done.1.setPort l ((done.1.port l).sendTag 5 3 0 (le 2 0x11 ++ sub m.bytes 2 6 ++ done.2.1.flatten)) }))
  ∧ (∀ (s : Machine.State) l p, s.ls.cfgWait ≠ none ∨ (s.ls.port l).takeInbox 3 0 (fun _ => true) = (none, p) → exec (.configMessageReceived l) s = .next s)
  ∧ (∀ (y : Ls) l (o : CfgOp),
    (o.op = 1 → y.cfgApply l o = (y.readEffect o.addr, (y.readReg o.addr).toNat))
    ∧ (o.op = 2 → y.cfgApply l o = (let w := y.writeReg (some l) o.addr o.value (2 ^ 64 - 1); ({ w with vc3Last := some (w.smp.lclk, o.addr, o.value) }, (w.readReg o.addr).toNat)))
    ∧ (o.op = 3 → y.cfgApply l o = (let w := y.writeReg (some l) o.addr o.value o.mask; ({ w with vc3Last := some (w.smp.lclk, o.addr, o.value) }, (w.readReg o.addr).toNat))))
  ∧ (∀ (s : Machine.State) a (v : Word), s.ls.inService = true →
    let y := s.ls.toLclk (s.ls.smp.lclk + 1)
    let logged := fun (x : Ls) => (match s.ls.vc3Last with | some (n, b, w) => if n = s.ls.smp.lclk ∧ b = a then x.logE 0x17 [w64 b, w64 w] else x | none => x).logE 0x17 [w64 a, v]
    (s.ls.dbgUnlock = false → ∀ op, exec (.debugSegmentUpdate a op v) s = .next { s with ls := { y with dbgCapture := 0 } })
    ∧ (s.ls.dbgUnlock = true → exec (.debugSegmentUpdate a 1 v) s = .next { s with ls := ({ y with dbgCapture := y.readReg a } : Ls).readEffect a })
    ∧ (s.ls.dbgUnlock = true → s.ls.dbgWrite = true → exec (.debugSegmentUpdate a 2 v) s = .next { s with ls := if a = 0x300 then (logged y).writeReg none a v.toNat (2 ^ 64 - 1) else logged (y.writeReg none a v.toNat (2 ^ 64 - 1)) })
    ∧ (s.ls.dbgUnlock = true → s.ls.dbgWrite = false → exec (.debugSegmentUpdate a 2 v) s = .next { s with ls := y }))
  ∧ (∀ (s : Machine.State) l txn a size (v k : Word), s.ls.inService = true → (s.ls.port l).st = .active →
    let w := (s.ls.toLclk (s.ls.smp.lclk + 1)).writeReg (some l) a v.toNat k.toNat
    exec (.registerWrite (.ls (.vc3 l txn)) a size v k) s = .next { s with ls := ({ w with vc3Last := some (w.smp.lclk, a, v.toNat) } : Ls).answered l txn ⟨3, a, v.toNat, k.toNat⟩ (w.readReg a) })
  ∧ (∀ (y : Ls) via a v k,
    let new := Nat.xor (y.writeBase a) (Nat.land (Nat.xor (y.writeBase a) v) k) % 2 ^ 64
    (a = 0xFFFF ∨ regAssigned a = false → y.writeReg via a v k = y.logE 0x16 [w64 a, 1])
    ∧ (regAssigned a = true → a ≠ 0xFFFF → via = none → a = 0x12 ∨ a = 0x13 → y.writeReg via a v k = y.logE 0x16 [w64 a, 4])
    ∧ (regAssigned a = true → a ≠ 0xFFFF → a ≠ 0x12 → a ≠ 0x13 → 1 < popcount (cmdBits a) (Nat.land v k) → y.writeReg via a v k = y.logE 0x16 [w64 a, 3])
    ∧ (regAssigned a = true → a ≠ 0xFFFF → a ≠ 0x12 → a ≠ 0x13 → popcount (cmdBits a) (Nat.land v k) ≤ 1 → regInRange a new = false → y.writeReg via a v k = y.logE 0x16 [w64 a, 2])
    ∧ (a = 0x3 ∨ a = 0x42 ∨ a = 0x100 ∨ a = 0x301 → regInRange a new = true → y.writeReg via a v k = y.setReg a new))
  ∧ (∀ (s : Machine.State), Reads .lsTimeLoRead s 0x20 (fun y => { y with timeLatch := some (w64 (packTime (capture y.clk.time) >>> 64)) })
    ∧ Reads .lsFenceStatusRead s 0x15 (fun y => { y with fenceIgnored := 0 }))
  ∧ (∀ (s : Machine.State) v, Takes (fun p => .lsFenceEpochWrite p v) s 0x14 v (fun _ y => let z := y.setReg 0x14 v.toNat; if v.toNat % 8192 = y.fenceLow.toNat then { z with fenceHold := false } else z))
  ∧ (∀ (y : Ls) arg,
    (y.fenceHold = true → y.fenceLow.toNat = arg → y.fenceSignal arg = y)
    ∧ (y.fenceHold = false ∨ y.fenceLow.toNat ≠ arg → y.reg 0x14 % 8192 = arg → y.fenceSignal arg = { y with fenceIgnored := sat 8 (y.fenceIgnored + 1) })
    ∧ (y.fenceHold = false ∨ y.fenceLow.toNat ≠ arg → y.reg 0x14 % 8192 ≠ arg → y.fenceSignal arg = ({ y with fenceHold := true, fenceLow := BitVec.ofNat 13 arg } : Ls).logE 0xF [w64 (y.reg 0x14)]))

/-- Validating, arming and cancelling Timetable banks and frame maps (R57, R116, R117, R118, R524, R539). Where the spec is silent, the clauses follow the
model's choice in log 9. -/
def Obligations.LinesideBanks : Prop :=
  (∀ (s : Machine.State),
    Takes .lsTtValidate s 0x210 1 (fun _ y =>
      let b := y.banks.tStandby
      let c := y.ttCheck b
      if c.1 = 0 then { y with banks := { y.banks.setTt b (if y.banks.tt b = .armed then .armed else .valid) with tCheck := 0, tSlot := c.2 } }
      else { y with banks := { y.banks.setTt b .invalid with tCheck := c.1, tSlot := c.2, tArm := none } })
    ∧ Takes .lsTtArm s 0x210 2 (fun _ y =>
      let b := y.banks.tStandby
      if (y.banks.tt b = .valid ∨ y.banks.tt b = .armed) ∧ y.clk.tick.any (fun n => decide (n + 1 < y.reg 0x212)) = true then { y with banks := { y.banks.setTt b .armed with tArm := some (y.reg 0x212) } }
      else { y with banks := { y.banks with tArmErr := true } })
    ∧ Takes .lsTtCancel s 0x210 4 (fun _ y => let b := y.banks.tStandby; if y.banks.tt b = .armed then { y with banks := { y.banks.setTt b .valid with tArm := none } } else y)
    ∧ Takes .lsFrameValidate s 0x200 1 (fun _ y =>
      let b := y.banks.fStandby
      let c := y.frameCheck b
      { y with banks := { y.banks.setFm b (if c.1 = 0 then .valid else .invalid) with fCheck := c.1, fEntry := c.2 } })
    ∧ Takes .lsFrameArmSwitch s 0x200 2 (fun _ y =>
      let size := y.frameSize y.banks.fStandby
      let fits := y.ownedFlits.all (fun n => sizeFlits size == n)
      if fits = true ∧ y.clk.tick.any (fun n => decide (n + 1 < y.reg 0x202)) = true then { y with banks := { y.banks with fArm := some (y.reg 0x202) } }
      else { y with banks := { y.banks with fSwitchErr := true } })
    ∧ Takes .lsFrameCancelSwitch s 0x200 4 (fun _ y => { y with banks := { y.banks with fArm := none } }))
  ∧ (∀ (y : Ls) b,
    let n := fld (y.reg (0x204 + b2n b)) 18 9
    (n = 0 ∨ 480 < n → y.frameCheck b = (1, 0))
    ∧ (n ≠ 0 → n ≤ 480 → entriesCheck (sizeBytes (y.frameSize b)) 0 0x60 (y.mapEntries b) = none → shardCheck (y.mapEntries b) = none → y.frameCheck b = (0, 0)))
  ∧ (∀ size off (e : MapEntry),
    (9 < e.kind ∨ e.rest ≠ 0 → entryCheck size off e = 2)
    ∧ (e.kind ≤ 9 → e.rest = 0 → e.width ∉ kindWidths e.kind → entryCheck size off e = 3)
    ∧ (e.kind ≤ 9 → e.rest = 0 → e.width ∈ kindWidths e.kind → (e.kind = 2 → e.shift = 0) → kindMax e.kind < e.index → entryCheck size off e = 4))
  ∧ (∀ (y : Ls) a v b, y.banks.fActive = some b → a = 0x204 + b2n b ∨ ∃ i, i < 480 ∧ a = (if b then 0x600 else 0x400) + i →
    y.writeReg none a v (2 ^ 64 - 1) = { y with banks := { y.banks with activeWrites := sat 16 (y.banks.activeWrites + 1) } })

/-- Link control and the CRC engines of the Lineside (R220, R221, R414, R415, R416, R420, R421, R422, R497, R520, R523). Where the spec is silent, the
clauses follow the model's choice in log 9, 66, 94. -/
def Obligations.LinesideLinksAndCrc : Prop :=
  (∀ (s : Machine.State) l,
    let act := fun (a : Nat) (p : Option Bool) (y : Ls) => if p = some l then { y with linkDefer := some (l, a) } else y.linkControl l a
    Takes (fun p => .lsLinkEnable p l) s (0x252 + b2n l) 1 (act 1) ∧ Takes (fun p => .lsLinkRetrain p l) s (0x252 + b2n l) 2 (act 2) ∧ Takes (fun p => .lsLinkHoldDown p l) s (0x252 + b2n l) 3 (act 3))
  ∧ (∀ (y : Ls) l,
    let p := y.port l
    let may := y.inService = true ∧ bit y.self.bist.toNat (4 + b2n l) = false
    (may → y.linkControl l 1 = y.linkMoved l (if p.st = .held ∨ p.st = .down then ({ p with st := .down, hold := false } : Port).startTrain else { p with hold := false }))
    ∧ (¬may → y.linkControl l 1 = y.linkMoved l { p with st := if p.st = .held then .down else p.st, hold := false })
    ∧ y.linkControl l 2 = y.linkMoved l (p.retrain false)
    ∧ y.linkControl l 3 = y.linkMoved l { p.leave .down with hold := true })
  ∧ (∀ (s : Machine.State) i r v, i < 4 → r < 4 → Takes (fun p => .lsCrcCfgWrite p i r v) s (0x280 + 8 * i + r) v (fun _ y => y.crcCfgWrite i r v.toNat))
  ∧ (∀ (y : Ls) i r v, i < 4 → y.crc.length = 4 →
    let e := y.crc.getD i CrcEng.init
    let c := e.cfg.withReg r v
    let busy := y.crcBusy e
    let bad := bit y.self.crc.toNat i = true ∨ c.width < 8 ∨ 64 < c.width ∨ c.poly % 2 = 0 ∨ 2 ^ c.width ≤ c.poly ∨ 2 ^ c.width ≤ c.init ∨ 2 ^ c.width ≤ c.xorOut ∨ c.bind = 3 ∨ c.vc = 0 ∨ crcConflict y.crc i c = true
    (c.enable = true → bad → y.crcCfgWrite i r v = { y with crc := y.crc.set i { e with cfgErr := true, cfg := if e.cfg.enable then e.cfg else { c with enable := false } } })
    ∧ (c.enable = true → ¬bad → busy = true → y.crcCfgWrite i r v = { y with crc := y.crc.set i { e with cfg := c, pending := e.pending || !e.cfg.enable } })
    ∧ (c.enable = true → ¬bad → busy = false → y.crcCfgWrite i r v = { y with crc := y.crc.set i { e with cfg := c, act := c, pending := false } })
    ∧ (c.enable = false → busy = true → y.crcCfgWrite i r v = { y with crc := y.crc.set i { e with cfg := c, pending := false } })
    ∧ (c.enable = false → busy = false → y.crcCfgWrite i r v = { y with crc := y.crc.set i { e with cfg := c, act := c, pending := false } }))
  ∧ (∀ (s : Machine.State) i v, i < 4 →
    Takes (fun p => .lsCrcFeedWrite p i v) s (0x286 + 8 * i) v (fun _ y =>
      let k := y.crc.getD i CrcEng.init
      let e := if y.crcBusy k = true then k else { k with act := k.cfg, pending := false }
      if e.act.bind = 0 ∧ e.act.enable = true then { y with crc := y.crc.set i { e with value := crcFeed e.act.params e.value (le (if e.act.feedLen = 0 then 8 else e.act.feedLen) v.toNat) } } else y)
    ∧ Takes (fun p => .lsCrcValueWrite p i v) s (0x284 + 8 * i) v (fun _ y => let e := y.crc.getD i CrcEng.init; { y with crc := y.crc.set i { e with value := v.toNat % 2 ^ e.act.width } })
    ∧ Reads (fun p => .lsCrcStatusRead p i) s (0x287 + 8 * i) (fun y => { y with crc := y.crc.set i { y.crc.getD i CrcEng.init with mismatches := 0 } }))
  ∧ (∀ (s : Machine.State) i,
    let e := s.ls.crc.getD i CrcEng.init
    let k := s.jn.crc.getD i CrcEng.init
    let free := k.busyAt k.act.port (s.jn.port k.act.port) = false ∧ k.jobUnit = none
    (e.pending = true → s.ls.crcBusy e = false → exec (.crcEnableApply .ls i) s = .next { s with ls := { s.ls with crc := s.ls.crc.set i { e with act := e.cfg, pending := false } } })
    ∧ (e.pending = false ∨ s.ls.crcBusy e = true → exec (.crcEnableApply .ls i) s = .next s)
    ∧ (k.pending = true → free → exec (.crcEnableApply .jn i) s = .next { s with jn := { s.jn with crc := s.jn.crc.set i { k with act := k.cfg, pending := false } } })
    ∧ (k.pending = false ∨ ¬free → exec (.crcEnableApply .jn i) s = .next s))

/-- A step runs the command at the front of the queue (R3, R70, R435). -/
def Obligations.StepTakesTheFrontCommand : Prop :=
  (∀ (s : Machine.State) c rest, s.pending = c :: rest → Machine.step s = exec c { s with pending := rest })
  ∧ (∀ (s : Machine.State) c, Machine.step { s with pending := c :: s.pending } = exec c s)
  ∧ (∀ (s : Machine.State), s.pending = [] → ∃ t, Machine.step s = .next t ∧ t.pending = [] ∧ t.jclk = s.jclk + 1 ∧ t.free = s.free ∧ t.ls.clk = s.ls.clk.advance
      ∧ (s.jn.boot.porst = false → t.jn = { s.jn with clk := s.jn.clk.advance, exp := s.jn.exp.tick }) ∧ (s.jn.boot.porst = true → t.jn = s.jn)
      ∧ ({ t.ls with clk := s.ls.clk, smp := s.ls.smp, qsnap := s.ls.qsnap } : Ls) = s.ls)

/-- No command is refused, and one reserved value alone faults (R442, R443, R527). Where the spec is silent, the clauses follow the model's choice in log
34. -/
def Obligations.OnlyTheReservedSlotCountStops : Prop :=
  ∀ (c : Instr) (s : Machine.State),
    let stops : Prop := match c with
      | .mailboxCtrlWrite tap m .ctrl v => s.jn.reservedSlots tap m v = true
      | .registerWrite (.bar tap) a size v _ => s.jn.barReserved tap a size v.toNat = true
      | _ => False
    (stops → exec c s = .fault .reservedSlots) ∧ (¬stops → ∃ t, exec c s = .next t)

/-- Commands leave the queue, and a part neither changes nor depends on the other's state (R33, R87, R200, R204). Where the spec is silent, the clauses
follow the model's choice in log 1, 2, 76. -/
def Obligations.QueueAndPartsStayApart : Prop :=
  (∀ (c : Instr) (s t : Machine.State), exec c s = .next t → t.pending = s.pending ∧ t.jclk = s.jclk ∧ s.free ≤ t.free ∧ (t.jn = s.jn ∨ t.ls = s.ls))
  ∧ (∀ (c : Instr) (s t s' t' : Machine.State), exec c s = .next s' → exec c t = .next t' → s.free = t.free →
    s'.free = t'.free ∧ (s.jn = t.jn → s'.jn = t'.jn) ∧ (s.ls = t.ls → s'.ls = t'.ls))

/-- Every step keeps near-tier memory in its canonical form (R346, R352, R353). -/
def Obligations.NearTierMemoryStaysCanonical : Prop :=
  ∀ (s t : Machine.State), Memory.wf s.jn.mem = true → Machine.step s = .next t → Memory.wf t.jn.mem = true

/-- Debug writes need the segment unlocked, and only PORST_N clears VALID (R480, R498). -/
def Obligations.DebugAndIdentityOfTheLineside : Prop :=
  (∀ (s t : Machine.State), (s.ls.dbgWrite = true → s.ls.dbgUnlock = true) → Machine.step s = .next t → (t.ls.dbgWrite = true → t.ls.dbgUnlock = true))
  ∧ (∀ (s t : Machine.State), s.ls.dieValid = true → Machine.step s = .next t → s.pending.head? ≠ some .lsColdReset → t.ls.dieValid = true)

/-- What can lower STOP_GATE and FENCE_HOLD (R86, R88, R139, R140, R144, R390). -/
def Obligations.StopGateFallsOnlyOnRelease : Prop :=
  (∀ (c : Instr) (s t : Machine.State), exec c s = .next t → s.ls.halt.stopGate = true → t.ls.halt.stopGate = false →
    match c with
    | .lsColdReset | .lsHaltReleaseStop _ | .lsHaltArmRelease _ | .configMessageReceived _ | .lsSampleEdge | .registerWrite (.ls _) _ _ _ _ => True
    | .debugSegmentUpdate a op _ => a = 0x40 ∧ op = 2 ∧ s.ls.dbgWrite = true
    | .armedReleaseInstant => s.ls.halt.relArmed ≠ none
    | .scanShiftComplete _ => s.ls.halt.relPending ≠ none
    | _ => False)
  ∧ (∀ (c : Instr) (s t : Machine.State), exec c s = .next t → s.ls.fenceHold = true → t.ls.fenceHold = false →
    match c with
    | .lsColdReset | .lsFenceEpochWrite _ _ | .configMessageReceived _ | .lsSampleEdge | .registerWrite (.ls _) _ _ _ _ => True
    | .debugSegmentUpdate a op _ => a = 0x14 ∧ op = 2 ∧ s.ls.dbgWrite = true
    | _ => False)
  ∧ (∀ (s t : Machine.State), s.ls.cfgWait = none → exec .lsSampleEdge s = .next t → s.ls.halt.stopGate = true → t.ls.halt.stopGate = true ∧ t.ls.fenceHold = s.ls.fenceHold)

/-- What reset leaves (R87, R88, R138, R168, R390, R399, R480, R484, R498, R531, R539). Where the spec is silent, the clauses follow the model's choice in
log 6. -/
def Obligations.StateAfterReset : Prop :=
  let r := Machine.State.reset
  r.pending = [] ∧ r.jn.boot.porst = true ∧ r.jn.boot.service = 0 ∧ r.jn.boot.phase = 0 ∧ r.jn.confirmed = false ∧ r.jn.clk.st = .unlocked ∧ r.jn.clk.tick = none ∧ r.ls.clk.st = .unlocked ∧ r.ls.clk.tick = none
  ∧ (∀ p, p < 68 → (r.jn.port p).st = .down) ∧ (∀ l, (r.ls.port l).st = .down) ∧ r.ls.inService = false ∧ r.ls.dieValid = false ∧ r.ls.banks.tActive = none ∧ r.ls.banks.fActive = none ∧ r.ls.banks.t0 = .empty ∧ r.ls.banks.t1 = .empty
  ∧ r.ls.halt.drain = 0 ∧ r.ls.halt.stopGate = false ∧ r.ls.fenceHold = false ∧ (∀ g, g < 256 → (r.ls.slot g).st = 0) ∧ r.ls.dbgUnlock = false ∧ r.ls.dbgWrite = false ∧ r.ls.trace.st = .idle ∧ r.ls.log.recs = []
  ∧ (∀ c, c < 16 → (r.jn.ctx c).st = .disabled) ∧ r.jn.b0.tt = .empty ∧ r.jn.b1.tt = .empty ∧ r.jn.mem = [] ∧ Memory.wf r.jn.mem = true ∧ (r.ls.dbgWrite = true → r.ls.dbgUnlock = true)

/-- TT_LOAD and PLAN_LOAD by the state of their bank (R58). -/
def Obligations.LoadsByBankState : Prop :=
  (∀ (s : Machine.State) m it rest img, Served s.jn m it rest 0x101 true false false → body 16 [(1, 3)] it.req.body = true → rd it.req.body 0 1 ≤ 1 → s.jn.buffer 0 (rd it.req.body 8 8) (rd it.req.body 4 4) = .inr img →
    let k := s.jn.bank (rd it.req.body 0 1)
    (k.tt = .active ∨ k.leaving = true → CompletesWith (exec (.ttLoad m) s) s m it rest 0x22 [] s.jn)
    ∧ (k.tt = .armed → k.leaving = false → CompletesWith (exec (.ttLoad m) s) s m it rest 0x23 [] s.jn)
    ∧ (k.tt ≠ .active → k.leaving = false → k.tt ≠ .armed → ∃ j r, exec (.ttLoad m) s = .next { s with jn := j } ∧ Replied s.jn j m it rest r [] ∧ (j.bank (rd it.req.body 0 1)).imageBytes = img
        ∧ ((r = 0 ∧ (j.bank (rd it.req.body 0 1)).tt = .valid ∧ (j.bank (rd it.req.body 0 1)).image.isSome = true) ∨ (r = 0x21 ∧ (j.bank (rd it.req.body 0 1)).tt = .invalid ∧ (j.bank (rd it.req.body 0 1)).image = none))))
  ∧ (∀ (s : Machine.State) m it rest img, Served s.jn m it rest 0x105 true false false → body 16 [(1, 3)] it.req.body = true → rd it.req.body 0 1 ≤ 1 → s.jn.buffer 0 (rd it.req.body 8 8) (rd it.req.body 4 4) = .inr img →
    let k := s.jn.bank (rd it.req.body 0 1)
    (k.plan = .active ∨ k.leaving = true → CompletesWith (exec (.planLoad m) s) s m it rest 0x22 [] s.jn)
    ∧ (k.plan = .armed → k.leaving = false → CompletesWith (exec (.planLoad m) s) s m it rest 0x23 [] s.jn)
    ∧ (k.plan ≠ .active → k.leaving = false → k.plan ≠ .armed → ∃ j r, exec (.planLoad m) s = .next { s with jn := j } ∧ Replied s.jn j m it rest r []
        ∧ ((r = 0 ∧ (j.bank (rd it.req.body 0 1)).plan = .valid ∧ ∃ p, planCheck s.jn.role.level s.jn.id s.jn.unusedSlots img = .inl p ∧ (j.bank (rd it.req.body 0 1)).planv = some p)
          ∨ (r = 0x26 ∧ (j.bank (rd it.req.body 0 1)).plan = .invalid ∧ (j.bank (rd it.req.body 0 1)).planv = none))))

/-- q of an ABS detector (R268). -/
def Obligations.AbsDetectors : Prop :=
  ∀ (e : Det) (k : DetState) (x : Fp) (stats : StatView) (u y : Option Fp), e.form = 1 → x.isNan = false →
    (e.side = 0 → e.eval k false (some x) stats u y = .done x 0 0)
    ∧ (e.side = 1 → e.eval k false (some x) stats u y = .done x.neg 0 0)
    ∧ (e.side = 2 → e.eval k false (some x) stats u y = .done x.abs 0 0)

/-- The last 8 bytes of a frame (R111). -/
def Obligations.FrameTrailer : Prop :=
  (∀ (s : Ls) (c : LsCap) b delta,
    let f := s.frameBytes c b delta
    let size := sizeBytes (s.frameSize b)
    f.length = size ∧ rd f (size - 8) 2 = (s.mapEntries b).length ∧ rd f (size - 6) 2 = 0 ∧ rd f (size - 4) 4 = crcOf crc32 (f.take (size - 4)))
  ∧ crc32 = { width := 32, poly := 0x04C11DB7, init := 0xFFFFFFFF, refIn := true, refOut := true, xorOut := 0xFFFFFFFF }

/-- The SHARD_ENTITY word of a shard slot (R372). -/
def Obligations.ShardWords : Prop :=
  ∀ (s : Ls) tap (ref : BitVec 28) status digest, tap ≤ 1 → status ≤ 2 → s.tab.queue.length < 64 →
    ∃ w, (s.queueShard tap ref status digest).tab.queue = s.tab.queue ++ [(w, w64 digest)]
      ∧ w % 2 ^ 28 = ref.toNat ∧ w / 2 ^ 28 % 4 = status ∧ w / 2 ^ 30 % 2 = tap ∧ w / 2 ^ 31 = 1 ∧ w ≠ 0
      ∧ ∀ (t : Ls) (e : MapEntry) (c : LsCap), e.kind = 7 →
          (∀ d, c.shards[e.index]? = some (w, d) → t.fieldValue c e = w) ∧ (c.shards[e.index]? = none → t.fieldValue c e = 0)

end
end

