-- ==== Sys2Proof/Laws/Blocks.lean ====
section
/-! SUPPORT. Decoding of blocks: the all-zero codeword, and when a block is clean (R197, R201). -/

namespace Sys2Proof.Machine

theorem gfMulGo_zero (b : Nat) : ∀ n, gfMulGo 0 b n 0 = 0 := by
  intro n
  induction n with
  | zero => rfl
  | succ n ih => simp [gfMulGo, ih]

theorem gfEval_zero (x : Nat) : ∀ n, gfEval x (List.replicate n 0) 0 = 0 := by
  intro n
  induction n with
  | zero => rfl
  | succ n ih => simp [List.replicate_succ, gfEval, gfMul, gfMulGo_zero, ih]

theorem rsDecode_zero (n : Nat) : rsDecode (List.replicate n 0) = some (List.replicate n 0, 0) := by
  simp [rsDecode, gfEval_zero]

theorem rsFill_nil : rsFill [] ++ [] = List.replicate 514 0 := by rw [List.append_nil, rsFill, List.nil_append, List.length_nil, Nat.sub_zero]

theorem rsDecodeShort_eq (k : Nat) (msg par c : List Nat) (e : Nat) (h : rsDecode (rsFill msg ++ par) = some (c, e)) :
    rsDecodeShort k msg par = if (c.take 514).drop k |>.all (· == 0) then some (c.take k, e) else none := by
  unfold rsDecodeShort; rw [h]

theorem all_zero_take (n m : Nat) : ((List.replicate n 0).take m).all (· == 0) = true := by simp

theorem rsDecodeShort_nil : rsDecodeShort 0 [] [] = some ([], 0) := by
  rw [rsDecodeShort_eq 0 [] [] _ _ (rsFill_nil ▸ rsDecode_zero 514)]
  rw [List.drop_zero, rsFill_nil, all_zero_take, if_pos rfl, List.take_zero]

theorem decodeBlock_clean (n : Nat) (rx a b : List Nat) (x : List Nat × Nat) (y : List Nat × Nat) 
   (h0 : everyOther (rx.take (cdiv (40 + 2048 * n) 10)) = a) (h1 : everyOther ((rx.take (cdiv (40 + 2048 * n) 10)).drop 1) = b)
   (hx : rsDecodeShort a.length a (everyOther (rx.drop (cdiv (40 + 2048 * n) 10))) = some x)
   (hy : rsDecodeShort b.length b (everyOther ((rx.drop (cdiv (40 + 2048 * n) 10)).drop 1)) = some y) (hc : x.2 + y.2 = 0) 
   (hp : Nat.testBit (ofSymbols (interleave x.1 y.1)) 24 = lanePar (blockFlits (ofSymbols (interleave x.1 y.1) >>> 40) n)) :
   (decodeBlock n rx).1 = .clean := by
  unfold decodeBlock
  obtain ⟨x1, x2⟩ := x
  obtain ⟨y1, y2⟩ := y
  simp only [h0, h1, hx, hy, hp]
  simp_all

theorem decodeBlock_nil : (decodeBlock 0 []).1 = .clean := 
  decodeBlock_clean 0 [] [] [] ([], 0) ([], 0) rfl rfl rsDecodeShort_nil rsDecodeShort_nil rfl rfl

end Sys2Proof.Machine
end

