-- ==== Sys2Proof/Laws/Exec.lean ====
section
/-! SUPPORT. What each command of the table is: one lemma an arm of the dispatch, true by definition. -/

namespace Sys2Proof.Machine

theorem exec_coldReset (boot : BootIn) (s : State) : exec (.coldReset boot) s = atJn (·.porstRise boot) s := rfl
theorem exec_porstNAssert (ns : Nat) (s : State) : exec (.porstNAssert ns) s = takeBool (fun taken => atJn (·.porstFall ns taken)) s := rfl
theorem exec_supplyLoss (s : State) : exec (.supplyLoss) s = atJn (·.supplyLoss) s := rfl
theorem exec_refclkLoss (ns : Nat) (s : State) : exec (.refclkLoss ns) s = atJn (·.refclkLoss ns) s := rfl
theorem exec_refclkRestored (boot : BootIn) (s : State) : exec (.refclkRestored boot) s = atJn (·.refclkBack boot) s := rfl
theorem exec_perstAssert (s : State) : exec (.perstAssert) s = .next s := rfl
theorem exec_watchdogExpiry (early : Bool) (boot : BootIn) (s : State) : exec (.watchdogExpiry early boot) s = onJn (·.watchdog early boot) s := rfl
theorem exec_flushWaitExpiry (boot : BootIn) (s : State) : exec (.flushWaitExpiry boot) s = onJn (·.flushExpiry boot) s := rfl
theorem exec_powerFail (ns : Nat) (s : State) : exec (.powerFail ns) s = takeBool (fun taken => onJn (·.powerFail ns taken)) s := rfl
theorem exec_powerFailFlushComplete (s : State) : exec (.powerFailFlushComplete) s = onJn (·.powerFlushed) s := rfl
theorem exec_powerFailClear (s : State) : exec (.powerFailClear) s = onJn (·.powerClear) s := rfl
theorem exec_roleConfirm (m : Nat) (s : State) : exec (.roleConfirm m) s = onJn (·.command Cmd.roleConfirm m) s := rfl
theorem exec_twinJudgingStart (s : State) : exec (.twinJudgingStart) s = onJn (·.judgingStart) s := rfl
theorem exec_twinLost (s : State) : exec (.twinLost) s = onJn (·.twinLost) s := rfl
theorem exec_dutyTakeover (s : State) : exec (.dutyTakeover) s = onJn (·.takeover) s := rfl
theorem exec_dutyTransfer (m : Nat) (s : State) : exec (.dutyTransfer m) s = onJn (·.command Cmd.dutyTransfer m) s := rfl
theorem exec_dutyTransferEffect (s : State) : exec (.dutyTransferEffect) s = onJn (·.dutyEffect) s := rfl
theorem exec_sampleEdge (temps : List (Nat × Int)) (s : State) : exec (.sampleEdge temps) s = onJn (fun j => ((j.sampleEdge).temperatures temps).serve) s := rfl
theorem exec_dFrameDeadline (s : State) : exec (.dFrameDeadline) s = onScore (·.dFrame) s := rfl
theorem exec_dTrayDeadline (s : State) : exec (.dTrayDeadline) s = onJn (·.dTray) s := rfl
theorem exec_reductionDeadline (phase : Nat) (s : State) : exec (.reductionDeadline phase) s = onScore (·.dReduce phase) s := rfl
theorem exec_dBcastDeadline (s : State) : exec (.dBcastDeadline) s = onScore (·.dBcast) s := rfl
theorem exec_dScoreEndDeadline (s : State) : exec (.dScoreEndDeadline) s = onScore (·.dScoreEnd) s := rfl
theorem exec_dPublishDeadline (s : State) : exec (.dPublishDeadline) s = onJn (·.dPublish) s := rfl
theorem exec_streamArrivalDeadline (port stream tick : Nat) (s : State) : exec (.streamArrivalDeadline port stream tick) s = onJn (·.streamDeadline port stream tick) s := rfl
theorem exec_flitSlotTransmit (e : End) (s : State) : exec (.flitSlotTransmit e) s = onEnd e (fun l x => x.txSlot l) (fun p j => j.txSlot p) s := rfl
theorem exec_blockDecoded (e : End) (idx n : Nat) (rx : List Nat) (s : State) : exec (.blockDecoded e idx n rx) s = onPort e (fun now x => x.blockDecoded idx (decodeBlock n rx).1 now) s := rfl
theorem exec_flitReceived (e : End) (slot grid : Nat) (raw : Bytes) (s : State) : exec (.flitReceived e slot grid raw) s = onEnd e (fun l x => x.rxFlit l slot grid raw) (fun p j => j.rxFlit p slot grid raw) s := rfl
theorem exec_timetableQuarantine (port : Nat) (s : State) : exec (.timetableQuarantine port) s = onJn (·.quarantine port) s := rfl
theorem exec_quarantineEnd (port : Nat) (s : State) : exec (.quarantineEnd port) s = onJn (·.quarantineEnd port) s := rfl
theorem exec_replayTimeout (e : End) (s : State) : exec (.replayTimeout e) s = onPort e (fun _ x => x.replayTimeout) s := rfl
theorem exec_retireTimeout (e : End) (s : State) : exec (.retireTimeout e) s = onPort e (fun _ x => x.retireTimeout) s := rfl
theorem exec_linkTrainStart (e : End) (s : State) : exec (.linkTrainStart e) s = mayTrain e (·.startTrain) s := rfl
theorem exec_trainingFrameReceived (e : End) (samePhase : Bool) (header : Word) (s : State) : exec (.trainingFrameReceived e samePhase header) s = onEnd e (fun l x => x.trainFrame l samePhase header.toNat) (fun p j => j.trainFrame p samePhase header.toNat) s := rfl
theorem exec_trainTimeout (e : End) (s : State) : exec (.trainTimeout e) s = onPort e (fun _ x => x.trainTimeout) s := rfl
theorem exec_trainRetry (e : End) (s : State) : exec (.trainRetry e) s = mayTrain e (·.trainRetry) s := rfl
theorem exec_identReceived (e : End) (raw : Bytes) (s : State) : exec (.identReceived e raw) s = onEnd e (fun l x => x.identFlit l raw) (fun p j => j.identFlit p raw) s := rfl
theorem exec_linkActiveEntry (e : End) (s : State) : exec (.linkActiveEntry e) s = onEnd e (fun l x => x.linkActive l) (fun p j => j.linkActive p) s := rfl
theorem exec_subtreeAdvertisement (port : Nat) (s : State) : exec (.subtreeAdvertisement port) s = onJn (·.subtreeAdvert port) s := rfl
theorem exec_signalAbortReceived (e : End) (s : State) : exec (.signalAbortReceived e) s = onEnd e (fun l x => x.takeSignal l 1 (fun x a => x.abortReceived (a / 32) (a % 32))) (fun p j => j.takeSignal p 1 (fun j a => j.abortReceived p (a / 32) (a % 32))) s := rfl
theorem exec_signalFenceReceived (link : Bool) (s : State) : exec (.signalFenceReceived link) s = onMain (fun x => x.takeSignal link 2 (fun x a => x.fenceSignal a)) s := rfl
theorem exec_signalStopReceived (e : End) (s : State) : exec (.signalStopReceived e) s = onEnd e (fun l x => x.takeSignal l 3 (fun x _ => x.raiseStop 0 false false)) (fun p j => j.takeSignal p 3 (fun j _ => j.stopReceived p)) s := rfl
theorem exec_signalFlushReceived (link : Bool) (s : State) : exec (.signalFlushReceived link) s = onMain (fun x => x.takeSignal link 4 (fun x _ => x.flush)) s := rfl
theorem exec_signalAlarmReceived (e : End) (s : State) : exec (.signalAlarmReceived e) s = onEnd e (fun l x => x.takeSignal l 5 (fun x _ => x)) (fun p j => j.takeSignal p 5 (fun j _ => j.bump 10 1)) s := rfl
theorem exec_signalTraceReceived (link : Bool) (s : State) : exec (.signalTraceReceived link) s = onMain (fun x => x.takeSignal link 6 (fun x _ => x.traceTrigger)) s := rfl
theorem exec_tickMarkReceived (e : End) (s : State) : exec (.tickMarkReceived e) s = onEnd e (fun l x => x.tickMark l) (fun p j => j.tickMark p) s := rfl
theorem exec_delayEchoDue (e : End) (s : State) : exec (.delayEchoDue e) s = onEnd e (fun l x => x.echoDue l) (fun p j => j.echoDue p) s := rfl
theorem exec_delayEchoReceived (port : Nat) (s : State) : exec (.delayEchoReceived port) s = onJn (·.delayEcho port) s := rfl
theorem exec_twinTimeMessageReceived (port : Nat) (s : State) : exec (.twinTimeMessageReceived port) s = onJn (·.twinTime port) s := rfl
theorem exec_sourceLoss (part : Part) (s : State) : exec (.sourceLoss part) s = onPart part (·.sourceLoss) (·.reselect) s := rfl
theorem exec_sourceRevert (part : Part) (s : State) : exec (.sourceRevert part) s = onPart part (·.sourceRevert) (·.sourceRevert) s := rfl
theorem exec_holdoverLimitExceeded (part : Part) (s : State) : exec (.holdoverLimitExceeded part) s = onPart part (·.holdoverLimit) (·.holdoverLimit) s := rfl
theorem exec_ptpMessageReceived (msg : PtpMsg) (s : State) : exec (.ptpMessageReceived msg) s = takeWord (fun err => onJn (·.ptp msg (err.toNat % 2 ^ 32))) s := rfl
theorem exec_ppsInEdge (s : State) : exec (.ppsInEdge) s = takeWord (fun err => onJn (·.ppsIn (err.toNat % 2 ^ 32))) s := rfl
theorem exec_synceQualified (ppt : Int) (s : State) : exec (.synceQualified ppt) s = onJn (·.synceOn ppt) s := rfl
theorem exec_synceDisqualified (s : State) : exec (.synceDisqualified) s = onJn (·.synceOff) s := rfl
theorem exec_tsInEdge (k : Nat) (falling wide : Bool) (s : State) : exec (.tsInEdge k falling wide) s = onJn (·.tsEdge k falling wide) s := rfl
theorem exec_trigOutEdge (k : Nat) (s : State) : exec (.trigOutEdge k) s = onJn (·.trigEdge k) s := rfl
theorem exec_ppsOutEdge (s : State) : exec (.ppsOutEdge) s = onJn (·.ppsOut) s := rfl
theorem exec_frameReceived (port : Nat) (s : State) : exec (.frameReceived port) s = onJn (·.frameReceived port) s := rfl
theorem exec_presenceWordReceived (port : Nat) (s : State) : exec (.presenceWordReceived port) s = onJn (·.presenceReceived port) s := rfl
theorem exec_partialReceived (port : Nat) (s : State) : exec (.partialReceived port) s = onJn (·.partialReceived port) s := rfl
theorem exec_mergeBatchComplete (s : State) : exec (.mergeBatchComplete) s = onJn (·.mergeBatch) s := rfl
theorem exec_twinDigestReceived (port : Nat) (s : State) : exec (.twinDigestReceived port) s = onJn (·.twinDigestReceived port) s := rfl
theorem exec_statsFlitReceived (port index : Nat) (s : State) : exec (.statsFlitReceived port index) s = onJn (·.statsFlit port index) s := rfl
theorem exec_statsStreamReceived (port : Nat) (s : State) : exec (.statsStreamReceived port) s = onJn (·.statsStream port) s := rfl
theorem exec_detectorBatchReady (tick ctx : Nat) (s : State) : exec (.detectorBatchReady tick ctx) s = onScore (·.detBatch tick ctx) s := rfl
theorem exec_featureDeadline (tick ctx ens : Nat) (s : State) : exec (.featureDeadline tick ctx ens) s = onScore (·.featureDeadline tick ctx ens) s := rfl
theorem exec_waybillLookupComplete (tick ctx entity : Nat) (error : Bool) (s : State) : exec (.waybillLookupComplete tick ctx entity error) s = onScore (·.lookupDone tick ctx entity error) s := rfl
theorem exec_treeWalkComplete (tick ctx ens entity tree : Nat) (fault : Option (Nat × Nat)) (s : State) : exec (.treeWalkComplete tick ctx ens entity tree fault) s = onScore (·.treeWalk tick ctx ens entity tree fault) s := rfl
theorem exec_sidingPageFetchComplete (tick ctx : Nat) (ok : Bool) (s : State) : exec (.sidingPageFetchComplete tick ctx ok) s = onScore (·.pageFetched tick ctx ok) s := rfl
theorem exec_residualPassComplete (s : State) : exec (.residualPassComplete) s = onScore (·.residualPass) s := rfl
theorem exec_forecasterUpdateStart (s : State) : exec (.forecasterUpdateStart) s = onJn (·.updateStart) s := rfl
theorem exec_sequenceInstruction (fault : Bool) (s : State) : exec (.sequenceInstruction fault) s = takeWords 1048576 (fun fv => onJn (·.seqStep fv fault)) s := rfl
theorem exec_groupCommit (s : State) : exec (.groupCommit) s = onJn (·.groupCommit) s := rfl
theorem exec_runtimeSelfCheck (row unit : Nat) (ok : Bool) (s : State) : exec (.runtimeSelfCheck row unit ok) s = onJn (·.selfCheck row unit ok) s := rfl
theorem exec_relayOnlyEntry (s : State) : exec (.relayOnlyEntry) s = onJn (·.relayOnly) s := rfl
theorem exec_scrubAccess (part : Part) (memory addr fate : Nat) (owner : LineOwner) (s : State) : exec (.scrubAccess part memory addr fate owner) s = onPart part (·.scrub memory addr fate) (·.scrub memory addr fate owner) s := rfl
theorem exec_staticWearMove (failed : Bool) (s : State) : exec (.staticWearMove failed) s = onJn (·.wearMove failed) s := rfl
theorem exec_historyFarCopy (ctx : Nat) (s : State) : exec (.historyFarCopy ctx) s = onJn (·.farCopy ctx) s := rfl
theorem exec_logbookMessageReceived (port : Nat) (s : State) : exec (.logbookMessageReceived port) s = onJn (·.logbookReceived port) s := rfl
theorem exec_logRecordCommit (log : Nat) (s : State) : exec (.logRecordCommit log) s = onJn (·.logCommit log) s := rfl
theorem exec_alarmRecordReceived (port : Nat) (s : State) : exec (.alarmRecordReceived port) s = onJn (·.alarmReceived port) s := rfl
theorem exec_bulkMessageReceived (port subch : Nat) (s : State) : exec (.bulkMessageReceived port subch) s = onJn (·.bulkReceived port subch) s := rfl
theorem exec_exportMessageClose (ctx kind : Nat) (s : State) : exec (.exportMessageClose ctx kind) s = onJn (·.exportClose ctx kind) s := rfl
theorem exec_exportQueueService (eth : Nat) (s : State) : exec (.exportQueueService eth) s = onJn (·.exportService eth) s := rfl
theorem exec_exportFrameComplete (eth : Nat) (s : State) : exec (.exportFrameComplete eth) s = onJn (·.exportSent eth) s := rfl
theorem exec_mirrorAckReceived (port : Nat) (s : State) : exec (.mirrorAckReceived port) s = onJn (·.mirrorReceived port) s := rfl
theorem exec_bundleChunkReceived (port : Nat) (s : State) : exec (.bundleChunkReceived port) s = onJn (·.chunkReceived port) s := rfl
theorem exec_bundleVerifyComplete (id : Nat) (s : State) : exec (.bundleVerifyComplete id) s = onJn (·.bundleVerify id) s := rfl
theorem exec_bundleIncompleteTimeout (id : Nat) (s : State) : exec (.bundleIncompleteTimeout id) s = onJn (·.bundleTimeout id) s := rfl
theorem exec_bundleActivation (ctx type : Nat) (s : State) : exec (.bundleActivation ctx type) s = onScore (·.bundleActivate ctx type) s := rfl
theorem exec_contextConfigEffect (ctx : Nat) (s : State) : exec (.contextConfigEffect ctx) s = onScore (·.contextEffect ctx) s := rfl
theorem exec_contextDrainComplete (ctx : Nat) (s : State) : exec (.contextDrainComplete ctx) s = onJn (·.drainDone ctx) s := rfl
theorem exec_waybillWriteEffect (s : State) : exec (.waybillWriteEffect) s = onScore (·.wayEffect) s := rfl
theorem exec_refTableActivate (slot : Nat) (s : State) : exec (.refTableActivate slot) s = onJn (·.refActivate slot) s := rfl
theorem exec_testResultCollect (s : State) : exec (.testResultCollect) s = onJn (·.testCollect) s := rfl
theorem exec_dieConfigEffect (slot : Nat) (s : State) : exec (.dieConfigEffect slot) s = onJn (·.dieConfigEffect slot) s := rfl
theorem exec_dieReadmitEffect (slot : Nat) (s : State) : exec (.dieReadmitEffect slot) s = onJn (·.readmitEffect slot) s := rfl
theorem exec_twinStateExchange (port : Nat) (s : State) : exec (.twinStateExchange port) s = onJn (·.twinStatesReceived port) s := rfl
theorem exec_membershipEffect (slot : Nat) (s : State) : exec (.membershipEffect slot) s = onJn (·.membershipEffect slot) s := rfl
theorem exec_junctionAbortInstant (slot : Nat) (s : State) : exec (.junctionAbortInstant slot) s = onJn (·.abortInstant slot) s := rfl
theorem exec_linesideAbortInstant (slot : Nat) (s : State) : exec (.linesideAbortInstant slot) s = onMain (·.abortInstant slot) s := rfl
theorem exec_ballastJobStart (unit : Nat) (s : State) : exec (.ballastJobStart unit) s = onJn (·.jobStart unit) s := rfl
theorem exec_ballastJobComplete (unit : Nat) (s : State) : exec (.ballastJobComplete unit) s = onJn (·.jobComplete unit) s := rfl
theorem exec_mailboxRequestTake (m : Nat) (slot : Bytes) (s : State) : exec (.mailboxRequestTake m slot) s = onJn (·.requestTake m slot) s := rfl
theorem exec_mailboxDatagramReceived (eth : Nat) (prot : Bool) (an pn source : Nat) (data : Bytes) (s : State) : exec (.mailboxDatagramReceived eth prot an pn source data) s = onJn (·.datagram eth prot an pn source data) s := rfl
theorem exec_mailboxSegmentTimeout (m : Nat) (s : State) : exec (.mailboxSegmentTimeout m) s = onJn (·.segmentTimeout m) s := rfl
theorem exec_relayedRequestReceived (port : Nat) (s : State) : exec (.relayedRequestReceived port) s = onJn (·.relayedRequest port) s := rfl
theorem exec_relayedReplyReceived (port : Nat) (s : State) : exec (.relayedReplyReceived port) s = onJn (·.relayedReply port) s := rfl
theorem exec_relayTimeout (s : State) : exec (.relayTimeout) s = onJn (·.relayTimeout) s := rfl
theorem exec_sessionExpiry (m : Nat) (s : State) : exec (.sessionExpiry m) s = onJn (·.sessionExpiry m) s := rfl
theorem exec_fwVerifyComplete (s : State) : exec (.fwVerifyComplete) s = onJn (·.fwVerifyDone) s := rfl
theorem exec_fwActivation (s : State) : exec (.fwActivation) s = onJn (·.fwActivation) s := rfl
theorem exec_fwResume (s : State) : exec (.fwResume) s = onJn (·.fwResume) s := rfl
theorem exec_fwRevert (s : State) : exec (.fwRevert) s = onJn (·.fwRevert) s := rfl
theorem exec_modeSetEffect (s : State) : exec (.modeSetEffect) s = onJn (·.modeEffect) s := rfl
theorem exec_sessionOpen (m : Nat) (s : State) : exec (.sessionOpen m) s = onJn (·.command Cmd.sessionOpen m) s := rfl
theorem exec_sessionClose (m : Nat) (s : State) : exec (.sessionClose m) s = onJn (·.command Cmd.sessionClose m) s := rfl
theorem exec_heartbeat (m : Nat) (s : State) : exec (.heartbeat m) s = onJn (·.command Cmd.heartbeat m) s := rfl
theorem exec_noticeRead (m : Nat) (s : State) : exec (.noticeRead m) s = onJn (·.command Cmd.noticeRead m) s := rfl
theorem exec_alarmRead (m : Nat) (s : State) : exec (.alarmRead m) s = onJn (·.command Cmd.alarmRead m) s := rfl
theorem exec_counterRead (m : Nat) (s : State) : exec (.counterRead m) s = onJn (·.command Cmd.counterRead m) s := rfl
theorem exec_reset (m : Nat) (s : State) : exec (.reset m) s = onJn (·.command Cmd.reset m) s := rfl
theorem exec_portMap (m : Nat) (s : State) : exec (.portMap m) s = onJn (·.command Cmd.portMap m) s := rfl
theorem exec_ttLoad (m : Nat) (s : State) : exec (.ttLoad m) s = onJn (·.command Cmd.ttLoad m) s := rfl
theorem exec_ttArm (m : Nat) (s : State) : exec (.ttArm m) s = onJn (·.command Cmd.ttArm m) s := rfl
theorem exec_ttCancel (m : Nat) (s : State) : exec (.ttCancel m) s = onJn (·.command Cmd.ttCancel m) s := rfl
theorem exec_ttStatus (m : Nat) (s : State) : exec (.ttStatus m) s = onJn (·.command Cmd.ttStatus m) s := rfl
theorem exec_planLoad (m : Nat) (s : State) : exec (.planLoad m) s = onJn (·.command Cmd.planLoad m) s := rfl
theorem exec_bankSwitch (s : State) : exec (.bankSwitch) s = onJn (·.bankSwitch) s := rfl
theorem exec_bankPreviousRelease (s : State) : exec (.bankPreviousRelease) s = onJn (·.bankRelease) s := rfl
theorem exec_linkControl (m : Nat) (s : State) : exec (.linkControl m) s = onJn (·.command Cmd.linkControl m) s := rfl
theorem exec_contextConfig (m : Nat) (s : State) : exec (.contextConfig m) s = onJn (·.command Cmd.contextConfig m) s := rfl
theorem exec_contextStatus (m : Nat) (s : State) : exec (.contextStatus m) s = onJn (·.command Cmd.contextStatus m) s := rfl
theorem exec_bundleTransfer (m : Nat) (s : State) : exec (.bundleTransfer m) s = onJn (·.command Cmd.bundleTransfer m) s := rfl
theorem exec_bundleStatus (m : Nat) (s : State) : exec (.bundleStatus m) s = onJn (·.command Cmd.bundleStatus m) s := rfl
theorem exec_waybillWrite (m : Nat) (s : State) : exec (.waybillWrite m) s = onJn (·.command Cmd.waybillWrite m) s := rfl
theorem exec_refTableLoad (m : Nat) (s : State) : exec (.refTableLoad m) s = onJn (·.command Cmd.refTableLoad m) s := rfl
theorem exec_historyRead (m : Nat) (s : State) : exec (.historyRead m) s = onJn (·.command Cmd.historyRead m) s := rfl
theorem exec_logConfig (m : Nat) (s : State) : exec (.logConfig m) s = onJn (·.command Cmd.logConfig m) s := rfl
theorem exec_logRead (m : Nat) (s : State) : exec (.logRead m) s = onJn (·.command Cmd.logRead m) s := rfl
theorem exec_logRelease (m : Nat) (s : State) : exec (.logRelease m) s = onJn (·.command Cmd.logRelease m) s := rfl
theorem exec_testPackRead (m : Nat) (s : State) : exec (.testPackRead m) s = onJn (·.command Cmd.testPackRead m) s := rfl
theorem exec_testResult (m : Nat) (s : State) : exec (.testResult m) s = onJn (·.command Cmd.testResult m) s := rfl
theorem exec_dieConfig (m : Nat) (s : State) : exec (.dieConfig m) s = onJn (·.command Cmd.dieConfig m) s := rfl
theorem exec_dieReadmit (m : Nat) (s : State) : exec (.dieReadmit m) s = onJn (·.command Cmd.dieReadmit m) s := rfl
theorem exec_membershipLoad (m : Nat) (s : State) : exec (.membershipLoad m) s = onJn (·.command Cmd.membershipLoad m) s := rfl
theorem exec_groupRearm (m : Nat) (s : State) : exec (.groupRearm m) s = onJn (·.command Cmd.groupRearm m) s := rfl
theorem exec_membershipStatus (m : Nat) (s : State) : exec (.membershipStatus m) s = onJn (·.command Cmd.membershipStatus m) s := rfl
theorem exec_traceSignal (m : Nat) (s : State) : exec (.traceSignal m) s = onJn (·.command Cmd.traceSignal m) s := rfl
theorem exec_timeConfig (m : Nat) (s : State) : exec (.timeConfig m) s = onJn (·.command Cmd.timeConfig m) s := rfl
theorem exec_timestampRead (m : Nat) (s : State) : exec (.timestampRead m) s = onJn (·.command Cmd.timestampRead m) s := rfl
theorem exec_timingIoConfig (m : Nat) (s : State) : exec (.timingIoConfig m) s = onJn (·.command Cmd.timingIoConfig m) s := rfl
theorem exec_fleetStop (m : Nat) (s : State) : exec (.fleetStop m) s = onJn (·.command Cmd.fleetStop m) s := rfl
theorem exec_lsRead (m : Nat) (s : State) : exec (.lsRead m) s = onJn (·.command Cmd.lsRead m) s := rfl
theorem exec_lsWrite (m : Nat) (s : State) : exec (.lsWrite m) s = onJn (·.command Cmd.lsWrite m) s := rfl
theorem exec_exportConfig (m : Nat) (s : State) : exec (.exportConfig m) s = onJn (·.command Cmd.exportConfig m) s := rfl
theorem exec_bufferWrite (m : Nat) (s : State) : exec (.bufferWrite m) s = onJn (·.command Cmd.bufferWrite m) s := rfl
theorem exec_bufferRead (m : Nat) (s : State) : exec (.bufferRead m) s = onJn (·.command Cmd.bufferRead m) s := rfl
theorem exec_ballast (m : Nat) (s : State) : exec (.ballast m) s = onJn (·.command Cmd.ballast m) s := rfl
theorem exec_crcEngine (m : Nat) (s : State) : exec (.crcEngine m) s = onJn (·.command Cmd.crcEngine m) s := rfl
theorem exec_crcData (m : Nat) (s : State) : exec (.crcData m) s = onJn (·.command Cmd.crcData m) s := rfl
theorem exec_crcValueRead (m : Nat) (s : State) : exec (.crcValueRead m) s = onJn (·.command Cmd.crcValueRead m) s := rfl
theorem exec_crcValueWrite (m : Nat) (s : State) : exec (.crcValueWrite m) s = onJn (·.command Cmd.crcValueWrite m) s := rfl
theorem exec_fwLoad (m : Nat) (s : State) : exec (.fwLoad m) s = onJn (·.command Cmd.fwLoad m) s := rfl
theorem exec_fwStatus (m : Nat) (s : State) : exec (.fwStatus m) s = onJn (·.command Cmd.fwStatus m) s := rfl
theorem exec_fwActivate (m : Nat) (s : State) : exec (.fwActivate m) s = onJn (·.command Cmd.fwActivate m) s := rfl
theorem exec_deviceId (m : Nat) (s : State) : exec (.deviceId m) s = onJn (·.command Cmd.deviceId m) s := rfl
theorem exec_ownerProvision (m : Nat) (s : State) : exec (.ownerProvision m) s = onJn (·.command Cmd.ownerProvision m) s := rfl
theorem exec_keyInstall (m : Nat) (s : State) : exec (.keyInstall m) s = onJn (·.command Cmd.keyInstall m) s := rfl
theorem exec_keyRemove (m : Nat) (s : State) : exec (.keyRemove m) s = onJn (·.command Cmd.keyRemove m) s := rfl
theorem exec_keyList (m : Nat) (s : State) : exec (.keyList m) s = onJn (·.command Cmd.keyList m) s := rfl
theorem exec_macsecSa (m : Nat) (s : State) : exec (.macsecSa m) s = onJn (·.command Cmd.macsecSa m) s := rfl
theorem exec_modeSet (m : Nat) (s : State) : exec (.modeSet m) s = onJn (·.command Cmd.modeSet m) s := rfl
theorem exec_fuseLock (m : Nat) (s : State) : exec (.fuseLock m) s = onJn (·.command Cmd.fuseLock m) s := rfl
theorem exec_rollbackAdvance (m : Nat) (s : State) : exec (.rollbackAdvance m) s = onJn (·.command Cmd.rollbackAdvance m) s := rfl
theorem exec_secEventRead (m : Nat) (s : State) : exec (.secEventRead m) s = onJn (·.command Cmd.secEventRead m) s := rfl
theorem exec_dbgResponse (level key : Nat) (pub sig : Bytes) (s : State) : exec (.dbgResponse level key pub sig) s = onJn (·.dbgResponse level key pub sig) s := rfl
theorem exec_dbgChallenge (s : State) : exec (.dbgChallenge) s = onJn (·.dbgChallenge) s := rfl
theorem exec_mailboxReqTailWrite (tap : Bool) (m : Nat) (v : Nat) (s : State) : exec (.mailboxReqTailWrite tap m v) s = onBar tap (fun j => j.onMbox m (·.writeReqTail v)) s := rfl
theorem exec_mailboxRplHeadWrite (tap : Bool) (m : Nat) (v : Nat) (s : State) : exec (.mailboxRplHeadWrite tap m v) s = onBar tap (fun j => j.onMbox m (·.writeRplHead v)) s := rfl
theorem exec_mailboxCtrlWrite (tap : Bool) (m : Nat) (reg : MboxReg) (v : Nat) (s : State) : exec (.mailboxCtrlWrite tap m reg v) s = writeMbox tap m reg v s := rfl
theorem exec_jnRegLowHalfRead (tap : Bool) (off size : Nat) (s : State) : exec (.jnRegLowHalfRead tap off size) s = atJn (·.csrRead tap off size) s := rfl
theorem exec_jnErrCaptureClear (tap : Bool) (errors : List (Nat × Nat × Nat)) (s : State) : exec (.jnErrCaptureClear tap errors) s = onBar tap (·.captureClear errors) s := rfl
theorem exec_registerWrite (via : RegVia) (addr size : Nat) (value mask : Word) (s : State) : exec (.registerWrite via addr size value mask) s = writeRegister via addr size value mask s := rfl
theorem exec_configMessageReceived (link : Bool) (s : State) : exec (.configMessageReceived link) s = onMain (·.cfgReceived link) s := rfl
theorem exec_crcEnableApply (part : Part) (i : Nat) (s : State) : exec (.crcEnableApply part i) s = onPart part (·.crcEnableApply i) (·.crcEnableApply i) s := rfl
theorem exec_debugSegmentUpdate (addr op : Nat) (value : Word) (s : State) : exec (.debugSegmentUpdate addr op value) s = onMain (·.debugUpdate addr op value) s := rfl
theorem exec_debugUnlockExpiry (s : State) : exec (.debugUnlockExpiry) s = onLs (·.debugExpiry) s := rfl
theorem exec_lsColdReset (s : State) : exec (.lsColdReset) s = onLs (·.coldReset) s := rfl
theorem exec_lsWarmReset (s : State) : exec (.lsWarmReset) s = onLs (·.warmReset) s := rfl
theorem exec_lsRefclkLoss (s : State) : exec (.lsRefclkLoss) s = onLs (·.refclkLoss) s := rfl
theorem exec_mainIslandServiceEntry (r : SelfResult) (s : State) : exec (.mainIslandServiceEntry r) s = onLs (·.serviceEntry r) s := rfl
theorem exec_lsSelftestComplete (r : SelfResult) (s : State) : exec (.lsSelftestComplete r) s = onMain (·.selfComplete r) s := rfl
theorem exec_lsSelftestStart (via : LsVia) (s : State) : exec (.lsSelftestStart via) s = onReg via 2 0x10 1 s := rfl
theorem exec_pwrOffReq (s : State) : exec (.pwrOffReq) s = onMain (·.pwrOffReq) s := rfl
theorem exec_pwrOffAck (s : State) : exec (.pwrOffAck) s = onMain (·.pwrOffAnswer) s := rfl
theorem exec_mainPowerOff (s : State) : exec (.mainPowerOff) s = onLs (·.powerOff) s := rfl
theorem exec_aonCmpCrossing (s : State) : exec (.aonCmpCrossing) s = onLs (·.aonCrossing) s := rfl
theorem exec_lsSampleEdge (s : State) : exec (.lsSampleEdge) s = onLs (·.edgeAll) s := rfl
theorem exec_lagAnchorEffect (s : State) : exec (.lagAnchorEffect) s = onMain (·.lagEffect) s := rfl
theorem exec_frameMapSwitch (s : State) : exec (.frameMapSwitch) s = onMain (·.frameMapSwitch) s := rfl
theorem exec_counterIncrement (x : LclkIn) (s : State) : exec (.counterIncrement x) s = onLs (·.lclkCycle x) s := rfl
theorem exec_selectSend (s : State) : exec (.selectSend) s = onMain (·.selSend) s := rfl
theorem exec_sensorBeat (w : BitVec 32) (s : State) : exec (.sensorBeat w) s = onLs (·.sensorBeat w) s := rfl
theorem exec_regionStretchPulse (region : Nat) (s : State) : exec (.regionStretchPulse region) s = onLs (·.stretchPulse region) s := rfl
theorem exec_bundleIssue (addr : BitVec 48) (s : State) : exec (.bundleIssue addr) s = onLs (·.bundleIssue addr) s := rfl
theorem exec_traceSamplePoint (s : State) : exec (.traceSamplePoint) s = onMain (·.traceSample) s := rfl
theorem exec_tracePostComplete (s : State) : exec (.tracePostComplete) s = onMain (·.tracePostComplete) s := rfl
theorem exec_traceReadoutComplete (s : State) : exec (.traceReadoutComplete) s = onMain (·.traceReadoutDone) s := rfl
theorem exec_qsnapAck (data : BitVec 128) (s : State) : exec (.qsnapAck data) s = onMain (·.qsnapRead (some data)) s := rfl
theorem exec_qsnapReadTimeout (s : State) : exec (.qsnapReadTimeout) s = onMain (·.qsnapRead none) s := rfl
theorem exec_qsnapComplete (s : State) : exec (.qsnapComplete) s = onMain (·.qsnapDone) s := rfl
theorem exec_qsnapReadoutComplete (s : State) : exec (.qsnapReadoutComplete) s = onMain (·.qsnapReadoutDone) s := rfl
theorem exec_stopSnapshotDelay (s : State) : exec (.stopSnapshotDelay) s = onMain (·.stopSnapshot) s := rfl
theorem exec_drainDoneRise (s : State) : exec (.drainDoneRise) s = onLs (·.drainDoneRise) s := rfl
theorem exec_drainTimeout (s : State) : exec (.drainTimeout) s = onMain (·.drainTimeout) s := rfl
theorem exec_drainDoneFall (s : State) : exec (.drainDoneFall) s = onLs (·.drainDoneFall) s := rfl
theorem exec_hostResetRise (s : State) : exec (.hostResetRise) s = onLs (·.hostReset) s := rfl
theorem exec_armedStopInstant (s : State) : exec (.armedStopInstant) s = onLs (·.armedStop) s := rfl
theorem exec_armedReleaseInstant (s : State) : exec (.armedReleaseInstant) s = onLs (·.armedRelease) s := rfl
theorem exec_scanShiftComplete (chains : List Word) (s : State) : exec (.scanShiftComplete chains) s = onMain (fun x => (x.holdChains chains).scanComplete) s := rfl
theorem exec_scanResume (s : State) : exec (.scanResume) s = onMain (·.scanResume) s := rfl
theorem exec_tapPacketStart (tap : Nat) (flags tag : BitVec 16) (value : BitVec 32) (s : State) : exec (.tapPacketStart tap flags tag value) s = onMain (·.tapBeat tap (sideband flags tag value)) s := rfl
theorem exec_egressPacketEnd (flags tag : BitVec 16) (value : BitVec 32) (data : Bytes) (s : State) : exec (.egressPacketEnd flags tag value data) s = onMain (·.egressBeat (sideband flags tag value) data) s := rfl
theorem exec_ingressPacketEnd (flags tag : BitVec 16) (value : BitVec 32) (data : Bytes) (s : State) : exec (.ingressPacketEnd flags tag value data) s = onMain (·.ingressBeat (sideband flags tag value) data) s := rfl
theorem exec_witnessExpiry (s : State) : exec (.witnessExpiry) s = onMain (·.witnessExpire) s := rfl
theorem exec_witnessSuspendEnd (s : State) : exec (.witnessSuspendEnd) s = onMain (·.suspendEnd) s := rfl
theorem exec_tabEnableApply (g : Nat) (s : State) : exec (.tabEnableApply g) s = onMain (·.tabEnableApply g) s := rfl
theorem exec_testWindowEnd (s : State) : exec (.testWindowEnd) s = onMain (·.testWindowEnd) s := rfl
theorem exec_poisonAccept (w : BitVec 96) (s : State) : exec (.poisonAccept w) s = onMain (·.poisonAccept w) s := rfl
theorem exec_lsLinkEnable (via : LsVia) (link : Bool) (s : State) : exec (.lsLinkEnable via link) s = onReg via 2 (0x252 + b2n link) 1 s := rfl
theorem exec_lsLinkRetrain (via : LsVia) (link : Bool) (s : State) : exec (.lsLinkRetrain via link) s = onReg via 2 (0x252 + b2n link) 2 s := rfl
theorem exec_lsLinkHoldDown (via : LsVia) (link : Bool) (s : State) : exec (.lsLinkHoldDown via link) s = onReg via 2 (0x252 + b2n link) 3 s := rfl
theorem exec_lsTtValidate (via : LsVia) (s : State) : exec (.lsTtValidate via) s = onReg via 2 0x210 1 s := rfl
theorem exec_lsTtArm (via : LsVia) (s : State) : exec (.lsTtArm via) s = onReg via 2 0x210 2 s := rfl
theorem exec_lsTtCancel (via : LsVia) (s : State) : exec (.lsTtCancel via) s = onReg via 2 0x210 4 s := rfl
theorem exec_lsFrameValidate (via : LsVia) (s : State) : exec (.lsFrameValidate via) s = onReg via 2 0x200 1 s := rfl
theorem exec_lsFrameArmSwitch (via : LsVia) (s : State) : exec (.lsFrameArmSwitch via) s = onReg via 2 0x200 2 s := rfl
theorem exec_lsFrameCancelSwitch (via : LsVia) (s : State) : exec (.lsFrameCancelSwitch via) s = onReg via 2 0x200 4 s := rfl
theorem exec_lsTraceArm (via : LsVia) (s : State) : exec (.lsTraceArm via) s = onReg via 2 0x101 1 s := rfl
theorem exec_lsTraceDisarm (via : LsVia) (s : State) : exec (.lsTraceDisarm via) s = onReg via 2 0x101 2 s := rfl
theorem exec_lsTraceTrigger (via : LsVia) (s : State) : exec (.lsTraceTrigger via) s = onReg via 2 0x101 4 s := rfl
theorem exec_lsTraceReadout (via : LsVia) (s : State) : exec (.lsTraceReadout via) s = onReg via 2 0x101 8 s := rfl
theorem exec_lsTraceCapturedRead (via : LsVia) (s : State) : exec (.lsTraceCapturedRead via) s = onReg via 1 0x104 0 s := rfl
theorem exec_lsQsnapTake (via : LsVia) (s : State) : exec (.lsQsnapTake via) s = onReg via 2 0x111 1 s := rfl
theorem exec_lsQsnapReadout (via : LsVia) (s : State) : exec (.lsQsnapReadout via) s = onReg via 2 0x111 2 s := rfl
theorem exec_lsQsnapStatusRead (via : LsVia) (s : State) : exec (.lsQsnapStatusRead via) s = onReg via 1 0x112 0 s := rfl
theorem exec_lsScanStart (via : LsVia) (s : State) : exec (.lsScanStart via) s = onReg via 2 0x120 1 s := rfl
theorem exec_lsScanRestore (via : LsVia) (s : State) : exec (.lsScanRestore via) s = onReg via 2 0x120 2 s := rfl
theorem exec_lsHaltDrain (via : LsVia) (s : State) : exec (.lsHaltDrain via) s = onReg via 2 0x40 0x01 s := rfl
theorem exec_lsHaltReleaseDrain (via : LsVia) (s : State) : exec (.lsHaltReleaseDrain via) s = onReg via 2 0x40 0x02 s := rfl
theorem exec_lsHaltStopNow (via : LsVia) (s : State) : exec (.lsHaltStopNow via) s = onReg via 2 0x40 0x04 s := rfl
theorem exec_lsHaltArmStop (via : LsVia) (s : State) : exec (.lsHaltArmStop via) s = onReg via 2 0x40 0x08 s := rfl
theorem exec_lsHaltDisarmStop (via : LsVia) (s : State) : exec (.lsHaltDisarmStop via) s = onReg via 2 0x40 0x10 s := rfl
theorem exec_lsHaltReleaseStop (via : LsVia) (s : State) : exec (.lsHaltReleaseStop via) s = onReg via 2 0x40 0x20 s := rfl
theorem exec_lsHaltArmRelease (via : LsVia) (s : State) : exec (.lsHaltArmRelease via) s = onReg via 2 0x40 0x40 s := rfl
theorem exec_lsHaltDisarmRelease (via : LsVia) (s : State) : exec (.lsHaltDisarmRelease via) s = onReg via 2 0x40 0x80 s := rfl
theorem exec_lsLogMark (via : LsVia) (s : State) : exec (.lsLogMark via) s = onReg via 2 0x300 1 s := rfl
theorem exec_lsLagArm (via : LsVia) (s : State) : exec (.lsLagArm via) s = onReg via 2 0x132 1 s := rfl
theorem exec_lsCtrSelWrite (via : LsVia) (k : Nat) (v : Word) (s : State) : exec (.lsCtrSelWrite via k v) s = onReg via 2 (0x1000 + k) v s := rfl
theorem exec_lsCtrValueWrite (via : LsVia) (k : Nat) (v : Word) (s : State) : exec (.lsCtrValueWrite via k v) s = onReg via 2 (0x2000 + k) v s := rfl
theorem exec_lsLogCommitSeqWrite (via : LsVia) (v : Word) (s : State) : exec (.lsLogCommitSeqWrite via v) s = onReg via 2 0x304 v s := rfl
theorem exec_lsFenceEpochWrite (via : LsVia) (v : Word) (s : State) : exec (.lsFenceEpochWrite via v) s = onReg via 2 0x14 v s := rfl
theorem exec_lsFenceStatusRead (via : LsVia) (s : State) : exec (.lsFenceStatusRead via) s = onReg via 1 0x15 0 s := rfl
theorem exec_lsTabGroupWrite (via : LsVia) (g : Nat) (v : Word) (s : State) : exec (.lsTabGroupWrite via g v) s = onReg via 2 (0x3000 + g) v s := rfl
theorem exec_lsDebugCtrlWrite (via : LsVia) (v : Word) (s : State) : exec (.lsDebugCtrlWrite via v) s = onReg via 2 0x12 v s := rfl
theorem exec_lsCrcCfgWrite (via : LsVia) (i r : Nat) (v : Word) (s : State) : exec (.lsCrcCfgWrite via i r v) s = onReg via 2 (0x280 + 8 * i + r) v s := rfl
theorem exec_lsCrcFeedWrite (via : LsVia) (i : Nat) (v : Word) (s : State) : exec (.lsCrcFeedWrite via i v) s = onReg via 2 (0x286 + 8 * i) v s := rfl
theorem exec_lsCrcValueWrite (via : LsVia) (i : Nat) (v : Word) (s : State) : exec (.lsCrcValueWrite via i v) s = onReg via 2 (0x284 + 8 * i) v s := rfl
theorem exec_lsCrcStatusRead (via : LsVia) (i : Nat) (s : State) : exec (.lsCrcStatusRead via i) s = onReg via 1 (0x287 + 8 * i) 0 s := rfl
theorem exec_lsTimeLoRead (via : LsVia) (s : State) : exec (.lsTimeLoRead via) s = onReg via 1 0x20 0 s := rfl
theorem exec_linesideConfigReplyReceived (port : Nat) (s : State) : exec (.linesideConfigReplyReceived port) s = onJn (·.cfgReply port) s := rfl
theorem exec_markerMissing (e : End) (s : State) : exec (.markerMissing e) s = onPort e (fun _ x => x.retrain false) s := rfl
theorem exec_ethernetLinkStateChange (eth : Nat) (up : Bool) (s : State) : exec (.ethernetLinkStateChange eth up) s = onJn (·.ethLink eth up) s := rfl
theorem exec_ethernetControlFrameReceived (eth : Nat) (s : State) : exec (.ethernetControlFrameReceived eth) s = onJn (·.ethControl eth) s := rfl
theorem exec_ptpDelayReqDue (s : State) : exec (.ptpDelayReqDue) s = onJn (·.delayReqDue) s := rfl
theorem exec_leapAtReached (part : Part) (s : State) : exec (.leapAtReached part) s = onPart part (fun x => x.setClock x.clk.leapReached) (·.leapReached) s := rfl
theorem exec_nearTierStackError (s : State) : exec (.nearTierStackError) s = onJn (·.stackError) s := rfl

end Sys2Proof.Machine
end

