-- ==== Sys2Proof/Laws/State.lean ====
section
/-! SUPPORT. What the named updates of the state leave alone: one lemma a field, true by definition, and what the part operations answer. -/

namespace Sys2Proof.Machine

/-! ### Junction.setPort -/

@[simp] theorem Junction.setPort_boot (j : Junction) (p : Nat) (x : Port) : (j.setPort p x).boot = j.boot := rfl
@[simp] theorem Junction.setPort_straps (j : Junction) (p : Nat) (x : Port) : (j.setPort p x).straps = j.straps := rfl
@[simp] theorem Junction.setPort_confirmed (j : Junction) (p : Nat) (x : Port) : (j.setPort p x).confirmed = j.confirmed := rfl
@[simp] theorem Junction.setPort_index (j : Junction) (p : Nat) (x : Port) : (j.setPort p x).index = j.index := rfl
@[simp] theorem Junction.setPort_twin (j : Junction) (p : Nat) (x : Port) : (j.setPort p x).twin = j.twin := rfl
@[simp] theorem Junction.setPort_portMap (j : Junction) (p : Nat) (x : Port) : (j.setPort p x).portMap = j.portMap := rfl
@[simp] theorem Junction.setPort_subtree (j : Junction) (p : Nat) (x : Port) : (j.setPort p x).subtree = j.subtree := rfl
@[simp] theorem Junction.setPort_clk (j : Junction) (p : Nat) (x : Port) : (j.setPort p x).clk = j.clk := rfl
@[simp] theorem Junction.setPort_ext (j : Junction) (p : Nat) (x : Port) : (j.setPort p x).ext = j.ext := rfl
@[simp] theorem Junction.setPort_ref (j : Junction) (p : Nat) (x : Port) : (j.setPort p x).ref = j.ref := rfl
@[simp] theorem Junction.setPort_tsIn (j : Junction) (p : Nat) (x : Port) : (j.setPort p x).tsIn = j.tsIn := rfl
@[simp] theorem Junction.setPort_trig (j : Junction) (p : Nat) (x : Port) : (j.setPort p x).trig = j.trig := rfl
@[simp] theorem Junction.setPort_pps (j : Junction) (p : Nat) (x : Port) : (j.setPort p x).pps = j.pps := rfl
@[simp] theorem Junction.setPort_b0 (j : Junction) (p : Nat) (x : Port) : (j.setPort p x).b0 = j.b0 := rfl
@[simp] theorem Junction.setPort_b1 (j : Junction) (p : Nat) (x : Port) : (j.setPort p x).b1 = j.b1 := rfl
@[simp] theorem Junction.setPort_old (j : Junction) (p : Nat) (x : Port) : (j.setPort p x).old = j.old := rfl
@[simp] theorem Junction.setPort_stopAt (j : Junction) (p : Nat) (x : Port) : (j.setPort p x).stopAt = j.stopAt := rfl
@[simp] theorem Junction.setPort_shadow (j : Junction) (p : Nat) (x : Port) : (j.setPort p x).shadow = j.shadow := rfl
@[simp] theorem Junction.setPort_txns (j : Junction) (p : Nat) (x : Port) : (j.setPort p x).txns = j.txns := rfl
@[simp] theorem Junction.setPort_nextTxn (j : Junction) (p : Nat) (x : Port) : (j.setPort p x).nextTxn = j.nextTxn := rfl
@[simp] theorem Junction.setPort_lineCfg (j : Junction) (p : Nat) (x : Port) : (j.setPort p x).lineCfg = j.lineCfg := rfl
@[simp] theorem Junction.setPort_banksRead (j : Junction) (p : Nat) (x : Port) : (j.setPort p x).banksRead = j.banksRead := rfl
@[simp] theorem Junction.setPort_lineParts (j : Junction) (p : Nat) (x : Port) : (j.setPort p x).lineParts = j.lineParts := rfl
@[simp] theorem Junction.setPort_ticks (j : Junction) (p : Nat) (x : Port) : (j.setPort p x).ticks = j.ticks := rfl
@[simp] theorem Junction.setPort_flights (j : Junction) (p : Nat) (x : Port) : (j.setPort p x).flights = j.flights := rfl
@[simp] theorem Junction.setPort_statPrev (j : Junction) (p : Nat) (x : Port) : (j.setPort p x).statPrev = j.statPrev := rfl
@[simp] theorem Junction.setPort_det (j : Junction) (p : Nat) (x : Port) : (j.setPort p x).det = j.det := rfl
@[simp] theorem Junction.setPort_verdictPrev (j : Junction) (p : Nat) (x : Port) : (j.setPort p x).verdictPrev = j.verdictPrev := rfl
@[simp] theorem Junction.setPort_stats (j : Junction) (p : Nat) (x : Port) : (j.setPort p x).stats = j.stats := rfl
@[simp] theorem Junction.setPort_exclusions (j : Junction) (p : Nat) (x : Port) : (j.setPort p x).exclusions = j.exclusions := rfl
@[simp] theorem Junction.setPort_mem (j : Junction) (p : Nat) (x : Port) : (j.setPort p x).mem = j.mem := rfl
@[simp] theorem Junction.setPort_poisoned (j : Junction) (p : Nat) (x : Port) : (j.setPort p x).poisoned = j.poisoned := rfl
@[simp] theorem Junction.setPort_store (j : Junction) (p : Nat) (x : Port) : (j.setPort p x).store = j.store := rfl
@[simp] theorem Junction.setPort_hist (j : Junction) (p : Nat) (x : Port) : (j.setPort p x).hist = j.hist := rfl
@[simp] theorem Junction.setPort_ctxs (j : Junction) (p : Nat) (x : Port) : (j.setPort p x).ctxs = j.ctxs := rfl
@[simp] theorem Junction.setPort_bundles (j : Junction) (p : Nat) (x : Port) : (j.setPort p x).bundles = j.bundles := rfl
@[simp] theorem Junction.setPort_wayOps (j : Junction) (p : Nat) (x : Port) : (j.setPort p x).wayOps = j.wayOps := rfl
@[simp] theorem Junction.setPort_grp (j : Junction) (p : Nat) (x : Port) : (j.setPort p x).grp = j.grp := rfl
@[simp] theorem Junction.setPort_seqRun (j : Junction) (p : Nat) (x : Port) : (j.setPort p x).seqRun = j.seqRun := rfl
@[simp] theorem Junction.setPort_fc (j : Junction) (p : Nat) (x : Port) : (j.setPort p x).fc = j.fc := rfl
@[simp] theorem Junction.setPort_areas (j : Junction) (p : Nat) (x : Port) : (j.setPort p x).areas = j.areas := rfl
@[simp] theorem Junction.setPort_refs (j : Junction) (p : Nat) (x : Port) : (j.setPort p x).refs = j.refs := rfl
@[simp] theorem Junction.setPort_shardCnt (j : Junction) (p : Nat) (x : Port) : (j.setPort p x).shardCnt = j.shardCnt := rfl
@[simp] theorem Junction.setPort_tests (j : Junction) (p : Nat) (x : Port) : (j.setPort p x).tests = j.tests := rfl
@[simp] theorem Junction.setPort_dies (j : Junction) (p : Nat) (x : Port) : (j.setPort p x).dies = j.dies := rfl
@[simp] theorem Junction.setPort_slots (j : Junction) (p : Nat) (x : Port) : (j.setPort p x).slots = j.slots := rfl
@[simp] theorem Junction.setPort_logs (j : Junction) (p : Nat) (x : Port) : (j.setPort p x).logs = j.logs := rfl
@[simp] theorem Junction.setPort_logRate (j : Junction) (p : Nat) (x : Port) : (j.setPort p x).logRate = j.logRate := rfl
@[simp] theorem Junction.setPort_logRateNew (j : Junction) (p : Nat) (x : Port) : (j.setPort p x).logRateNew = j.logRateNew := rfl
@[simp] theorem Junction.setPort_logTokens (j : Junction) (p : Nat) (x : Port) : (j.setPort p x).logTokens = j.logTokens := rfl
@[simp] theorem Junction.setPort_rateDrop (j : Junction) (p : Nat) (x : Port) : (j.setPort p x).rateDrop = j.rateDrop := rfl
@[simp] theorem Junction.setPort_ownSeq (j : Junction) (p : Nat) (x : Port) : (j.setPort p x).ownSeq = j.ownSeq := rfl
@[simp] theorem Junction.setPort_nearFull (j : Junction) (p : Nat) (x : Port) : (j.setPort p x).nearFull = j.nearFull := rfl
@[simp] theorem Junction.setPort_mail (j : Junction) (p : Nat) (x : Port) : (j.setPort p x).mail = j.mail := rfl
@[simp] theorem Junction.setPort_hops (j : Junction) (p : Nat) (x : Port) : (j.setPort p x).hops = j.hops := rfl
@[simp] theorem Junction.setPort_alarms (j : Junction) (p : Nat) (x : Port) : (j.setPort p x).alarms = j.alarms := rfl
@[simp] theorem Junction.setPort_alarmDrop (j : Junction) (p : Nat) (x : Port) : (j.setPort p x).alarmDrop = j.alarmDrop := rfl
@[simp] theorem Junction.setPort_notices (j : Junction) (p : Nat) (x : Port) : (j.setPort p x).notices = j.notices := rfl
@[simp] theorem Junction.setPort_sec (j : Junction) (p : Nat) (x : Port) : (j.setPort p x).sec = j.sec := rfl
@[simp] theorem Junction.setPort_ballast (j : Junction) (p : Nat) (x : Port) : (j.setPort p x).ballast = j.ballast := rfl
@[simp] theorem Junction.setPort_crc (j : Junction) (p : Nat) (x : Port) : (j.setPort p x).crc = j.crc := rfl
@[simp] theorem Junction.setPort_exp (j : Junction) (p : Nat) (x : Port) : (j.setPort p x).exp = j.exp := rfl
@[simp] theorem Junction.setPort_errs (j : Junction) (p : Nat) (x : Port) : (j.setPort p x).errs = j.errs := rfl
@[simp] theorem Junction.setPort_latch (j : Junction) (p : Nat) (x : Port) : (j.setPort p x).latch = j.latch := rfl
@[simp] theorem Junction.setPort_readData (j : Junction) (p : Nat) (x : Port) : (j.setPort p x).readData = j.readData := rfl
@[simp] theorem Junction.setPort_flush (j : Junction) (p : Nat) (x : Port) : (j.setPort p x).flush = j.flush := rfl
@[simp] theorem Junction.setPort_cnt (j : Junction) (p : Nat) (x : Port) : (j.setPort p x).cnt = j.cnt := rfl
@[simp] theorem Junction.setPort_jobSeq (j : Junction) (p : Nat) (x : Port) : (j.setPort p x).jobSeq = j.jobSeq := rfl

/-! ### Junction.setCtx -/

@[simp] theorem Junction.setCtx_boot (j : Junction) (c : Nat) (x : Ctx) : (j.setCtx c x).boot = j.boot := rfl
@[simp] theorem Junction.setCtx_straps (j : Junction) (c : Nat) (x : Ctx) : (j.setCtx c x).straps = j.straps := rfl
@[simp] theorem Junction.setCtx_confirmed (j : Junction) (c : Nat) (x : Ctx) : (j.setCtx c x).confirmed = j.confirmed := rfl
@[simp] theorem Junction.setCtx_index (j : Junction) (c : Nat) (x : Ctx) : (j.setCtx c x).index = j.index := rfl
@[simp] theorem Junction.setCtx_twin (j : Junction) (c : Nat) (x : Ctx) : (j.setCtx c x).twin = j.twin := rfl
@[simp] theorem Junction.setCtx_portMap (j : Junction) (c : Nat) (x : Ctx) : (j.setCtx c x).portMap = j.portMap := rfl
@[simp] theorem Junction.setCtx_subtree (j : Junction) (c : Nat) (x : Ctx) : (j.setCtx c x).subtree = j.subtree := rfl
@[simp] theorem Junction.setCtx_clk (j : Junction) (c : Nat) (x : Ctx) : (j.setCtx c x).clk = j.clk := rfl
@[simp] theorem Junction.setCtx_ext (j : Junction) (c : Nat) (x : Ctx) : (j.setCtx c x).ext = j.ext := rfl
@[simp] theorem Junction.setCtx_ref (j : Junction) (c : Nat) (x : Ctx) : (j.setCtx c x).ref = j.ref := rfl
@[simp] theorem Junction.setCtx_tsIn (j : Junction) (c : Nat) (x : Ctx) : (j.setCtx c x).tsIn = j.tsIn := rfl
@[simp] theorem Junction.setCtx_trig (j : Junction) (c : Nat) (x : Ctx) : (j.setCtx c x).trig = j.trig := rfl
@[simp] theorem Junction.setCtx_pps (j : Junction) (c : Nat) (x : Ctx) : (j.setCtx c x).pps = j.pps := rfl
@[simp] theorem Junction.setCtx_b0 (j : Junction) (c : Nat) (x : Ctx) : (j.setCtx c x).b0 = j.b0 := rfl
@[simp] theorem Junction.setCtx_b1 (j : Junction) (c : Nat) (x : Ctx) : (j.setCtx c x).b1 = j.b1 := rfl
@[simp] theorem Junction.setCtx_old (j : Junction) (c : Nat) (x : Ctx) : (j.setCtx c x).old = j.old := rfl
@[simp] theorem Junction.setCtx_stopAt (j : Junction) (c : Nat) (x : Ctx) : (j.setCtx c x).stopAt = j.stopAt := rfl
@[simp] theorem Junction.setCtx_ports (j : Junction) (c : Nat) (x : Ctx) : (j.setCtx c x).ports = j.ports := rfl
@[simp] theorem Junction.setCtx_shadow (j : Junction) (c : Nat) (x : Ctx) : (j.setCtx c x).shadow = j.shadow := rfl
@[simp] theorem Junction.setCtx_txns (j : Junction) (c : Nat) (x : Ctx) : (j.setCtx c x).txns = j.txns := rfl
@[simp] theorem Junction.setCtx_nextTxn (j : Junction) (c : Nat) (x : Ctx) : (j.setCtx c x).nextTxn = j.nextTxn := rfl
@[simp] theorem Junction.setCtx_lineCfg (j : Junction) (c : Nat) (x : Ctx) : (j.setCtx c x).lineCfg = j.lineCfg := rfl
@[simp] theorem Junction.setCtx_banksRead (j : Junction) (c : Nat) (x : Ctx) : (j.setCtx c x).banksRead = j.banksRead := rfl
@[simp] theorem Junction.setCtx_lineParts (j : Junction) (c : Nat) (x : Ctx) : (j.setCtx c x).lineParts = j.lineParts := rfl
@[simp] theorem Junction.setCtx_ticks (j : Junction) (c : Nat) (x : Ctx) : (j.setCtx c x).ticks = j.ticks := rfl
@[simp] theorem Junction.setCtx_flights (j : Junction) (c : Nat) (x : Ctx) : (j.setCtx c x).flights = j.flights := rfl
@[simp] theorem Junction.setCtx_statPrev (j : Junction) (c : Nat) (x : Ctx) : (j.setCtx c x).statPrev = j.statPrev := rfl
@[simp] theorem Junction.setCtx_det (j : Junction) (c : Nat) (x : Ctx) : (j.setCtx c x).det = j.det := rfl
@[simp] theorem Junction.setCtx_verdictPrev (j : Junction) (c : Nat) (x : Ctx) : (j.setCtx c x).verdictPrev = j.verdictPrev := rfl
@[simp] theorem Junction.setCtx_stats (j : Junction) (c : Nat) (x : Ctx) : (j.setCtx c x).stats = j.stats := rfl
@[simp] theorem Junction.setCtx_exclusions (j : Junction) (c : Nat) (x : Ctx) : (j.setCtx c x).exclusions = j.exclusions := rfl
@[simp] theorem Junction.setCtx_mem (j : Junction) (c : Nat) (x : Ctx) : (j.setCtx c x).mem = j.mem := rfl
@[simp] theorem Junction.setCtx_poisoned (j : Junction) (c : Nat) (x : Ctx) : (j.setCtx c x).poisoned = j.poisoned := rfl
@[simp] theorem Junction.setCtx_store (j : Junction) (c : Nat) (x : Ctx) : (j.setCtx c x).store = j.store := rfl
@[simp] theorem Junction.setCtx_hist (j : Junction) (c : Nat) (x : Ctx) : (j.setCtx c x).hist = j.hist := rfl
@[simp] theorem Junction.setCtx_bundles (j : Junction) (c : Nat) (x : Ctx) : (j.setCtx c x).bundles = j.bundles := rfl
@[simp] theorem Junction.setCtx_wayOps (j : Junction) (c : Nat) (x : Ctx) : (j.setCtx c x).wayOps = j.wayOps := rfl
@[simp] theorem Junction.setCtx_grp (j : Junction) (c : Nat) (x : Ctx) : (j.setCtx c x).grp = j.grp := rfl
@[simp] theorem Junction.setCtx_seqRun (j : Junction) (c : Nat) (x : Ctx) : (j.setCtx c x).seqRun = j.seqRun := rfl
@[simp] theorem Junction.setCtx_fc (j : Junction) (c : Nat) (x : Ctx) : (j.setCtx c x).fc = j.fc := rfl
@[simp] theorem Junction.setCtx_areas (j : Junction) (c : Nat) (x : Ctx) : (j.setCtx c x).areas = j.areas := rfl
@[simp] theorem Junction.setCtx_refs (j : Junction) (c : Nat) (x : Ctx) : (j.setCtx c x).refs = j.refs := rfl
@[simp] theorem Junction.setCtx_shardCnt (j : Junction) (c : Nat) (x : Ctx) : (j.setCtx c x).shardCnt = j.shardCnt := rfl
@[simp] theorem Junction.setCtx_tests (j : Junction) (c : Nat) (x : Ctx) : (j.setCtx c x).tests = j.tests := rfl
@[simp] theorem Junction.setCtx_dies (j : Junction) (c : Nat) (x : Ctx) : (j.setCtx c x).dies = j.dies := rfl
@[simp] theorem Junction.setCtx_slots (j : Junction) (c : Nat) (x : Ctx) : (j.setCtx c x).slots = j.slots := rfl
@[simp] theorem Junction.setCtx_logs (j : Junction) (c : Nat) (x : Ctx) : (j.setCtx c x).logs = j.logs := rfl
@[simp] theorem Junction.setCtx_logRate (j : Junction) (c : Nat) (x : Ctx) : (j.setCtx c x).logRate = j.logRate := rfl
@[simp] theorem Junction.setCtx_logRateNew (j : Junction) (c : Nat) (x : Ctx) : (j.setCtx c x).logRateNew = j.logRateNew := rfl
@[simp] theorem Junction.setCtx_logTokens (j : Junction) (c : Nat) (x : Ctx) : (j.setCtx c x).logTokens = j.logTokens := rfl
@[simp] theorem Junction.setCtx_rateDrop (j : Junction) (c : Nat) (x : Ctx) : (j.setCtx c x).rateDrop = j.rateDrop := rfl
@[simp] theorem Junction.setCtx_ownSeq (j : Junction) (c : Nat) (x : Ctx) : (j.setCtx c x).ownSeq = j.ownSeq := rfl
@[simp] theorem Junction.setCtx_nearFull (j : Junction) (c : Nat) (x : Ctx) : (j.setCtx c x).nearFull = j.nearFull := rfl
@[simp] theorem Junction.setCtx_mail (j : Junction) (c : Nat) (x : Ctx) : (j.setCtx c x).mail = j.mail := rfl
@[simp] theorem Junction.setCtx_hops (j : Junction) (c : Nat) (x : Ctx) : (j.setCtx c x).hops = j.hops := rfl
@[simp] theorem Junction.setCtx_alarms (j : Junction) (c : Nat) (x : Ctx) : (j.setCtx c x).alarms = j.alarms := rfl
@[simp] theorem Junction.setCtx_alarmDrop (j : Junction) (c : Nat) (x : Ctx) : (j.setCtx c x).alarmDrop = j.alarmDrop := rfl
@[simp] theorem Junction.setCtx_notices (j : Junction) (c : Nat) (x : Ctx) : (j.setCtx c x).notices = j.notices := rfl
@[simp] theorem Junction.setCtx_sec (j : Junction) (c : Nat) (x : Ctx) : (j.setCtx c x).sec = j.sec := rfl
@[simp] theorem Junction.setCtx_ballast (j : Junction) (c : Nat) (x : Ctx) : (j.setCtx c x).ballast = j.ballast := rfl
@[simp] theorem Junction.setCtx_crc (j : Junction) (c : Nat) (x : Ctx) : (j.setCtx c x).crc = j.crc := rfl
@[simp] theorem Junction.setCtx_exp (j : Junction) (c : Nat) (x : Ctx) : (j.setCtx c x).exp = j.exp := rfl
@[simp] theorem Junction.setCtx_errs (j : Junction) (c : Nat) (x : Ctx) : (j.setCtx c x).errs = j.errs := rfl
@[simp] theorem Junction.setCtx_latch (j : Junction) (c : Nat) (x : Ctx) : (j.setCtx c x).latch = j.latch := rfl
@[simp] theorem Junction.setCtx_readData (j : Junction) (c : Nat) (x : Ctx) : (j.setCtx c x).readData = j.readData := rfl
@[simp] theorem Junction.setCtx_flush (j : Junction) (c : Nat) (x : Ctx) : (j.setCtx c x).flush = j.flush := rfl
@[simp] theorem Junction.setCtx_cnt (j : Junction) (c : Nat) (x : Ctx) : (j.setCtx c x).cnt = j.cnt := rfl
@[simp] theorem Junction.setCtx_jobSeq (j : Junction) (c : Nat) (x : Ctx) : (j.setCtx c x).jobSeq = j.jobSeq := rfl

/-! ### Junction.setDie -/

@[simp] theorem Junction.setDie_boot (j : Junction) (k : Nat) (x : DieSlot) : (j.setDie k x).boot = j.boot := rfl
@[simp] theorem Junction.setDie_straps (j : Junction) (k : Nat) (x : DieSlot) : (j.setDie k x).straps = j.straps := rfl
@[simp] theorem Junction.setDie_confirmed (j : Junction) (k : Nat) (x : DieSlot) : (j.setDie k x).confirmed = j.confirmed := rfl
@[simp] theorem Junction.setDie_index (j : Junction) (k : Nat) (x : DieSlot) : (j.setDie k x).index = j.index := rfl
@[simp] theorem Junction.setDie_twin (j : Junction) (k : Nat) (x : DieSlot) : (j.setDie k x).twin = j.twin := rfl
@[simp] theorem Junction.setDie_portMap (j : Junction) (k : Nat) (x : DieSlot) : (j.setDie k x).portMap = j.portMap := rfl
@[simp] theorem Junction.setDie_subtree (j : Junction) (k : Nat) (x : DieSlot) : (j.setDie k x).subtree = j.subtree := rfl
@[simp] theorem Junction.setDie_clk (j : Junction) (k : Nat) (x : DieSlot) : (j.setDie k x).clk = j.clk := rfl
@[simp] theorem Junction.setDie_ext (j : Junction) (k : Nat) (x : DieSlot) : (j.setDie k x).ext = j.ext := rfl
@[simp] theorem Junction.setDie_ref (j : Junction) (k : Nat) (x : DieSlot) : (j.setDie k x).ref = j.ref := rfl
@[simp] theorem Junction.setDie_tsIn (j : Junction) (k : Nat) (x : DieSlot) : (j.setDie k x).tsIn = j.tsIn := rfl
@[simp] theorem Junction.setDie_trig (j : Junction) (k : Nat) (x : DieSlot) : (j.setDie k x).trig = j.trig := rfl
@[simp] theorem Junction.setDie_pps (j : Junction) (k : Nat) (x : DieSlot) : (j.setDie k x).pps = j.pps := rfl
@[simp] theorem Junction.setDie_b0 (j : Junction) (k : Nat) (x : DieSlot) : (j.setDie k x).b0 = j.b0 := rfl
@[simp] theorem Junction.setDie_b1 (j : Junction) (k : Nat) (x : DieSlot) : (j.setDie k x).b1 = j.b1 := rfl
@[simp] theorem Junction.setDie_old (j : Junction) (k : Nat) (x : DieSlot) : (j.setDie k x).old = j.old := rfl
@[simp] theorem Junction.setDie_stopAt (j : Junction) (k : Nat) (x : DieSlot) : (j.setDie k x).stopAt = j.stopAt := rfl
@[simp] theorem Junction.setDie_ports (j : Junction) (k : Nat) (x : DieSlot) : (j.setDie k x).ports = j.ports := rfl
@[simp] theorem Junction.setDie_shadow (j : Junction) (k : Nat) (x : DieSlot) : (j.setDie k x).shadow = j.shadow := rfl
@[simp] theorem Junction.setDie_txns (j : Junction) (k : Nat) (x : DieSlot) : (j.setDie k x).txns = j.txns := rfl
@[simp] theorem Junction.setDie_nextTxn (j : Junction) (k : Nat) (x : DieSlot) : (j.setDie k x).nextTxn = j.nextTxn := rfl
@[simp] theorem Junction.setDie_lineCfg (j : Junction) (k : Nat) (x : DieSlot) : (j.setDie k x).lineCfg = j.lineCfg := rfl
@[simp] theorem Junction.setDie_banksRead (j : Junction) (k : Nat) (x : DieSlot) : (j.setDie k x).banksRead = j.banksRead := rfl
@[simp] theorem Junction.setDie_lineParts (j : Junction) (k : Nat) (x : DieSlot) : (j.setDie k x).lineParts = j.lineParts := rfl
@[simp] theorem Junction.setDie_ticks (j : Junction) (k : Nat) (x : DieSlot) : (j.setDie k x).ticks = j.ticks := rfl
@[simp] theorem Junction.setDie_flights (j : Junction) (k : Nat) (x : DieSlot) : (j.setDie k x).flights = j.flights := rfl
@[simp] theorem Junction.setDie_statPrev (j : Junction) (k : Nat) (x : DieSlot) : (j.setDie k x).statPrev = j.statPrev := rfl
@[simp] theorem Junction.setDie_det (j : Junction) (k : Nat) (x : DieSlot) : (j.setDie k x).det = j.det := rfl
@[simp] theorem Junction.setDie_verdictPrev (j : Junction) (k : Nat) (x : DieSlot) : (j.setDie k x).verdictPrev = j.verdictPrev := rfl
@[simp] theorem Junction.setDie_stats (j : Junction) (k : Nat) (x : DieSlot) : (j.setDie k x).stats = j.stats := rfl
@[simp] theorem Junction.setDie_exclusions (j : Junction) (k : Nat) (x : DieSlot) : (j.setDie k x).exclusions = j.exclusions := rfl
@[simp] theorem Junction.setDie_mem (j : Junction) (k : Nat) (x : DieSlot) : (j.setDie k x).mem = j.mem := rfl
@[simp] theorem Junction.setDie_poisoned (j : Junction) (k : Nat) (x : DieSlot) : (j.setDie k x).poisoned = j.poisoned := rfl
@[simp] theorem Junction.setDie_store (j : Junction) (k : Nat) (x : DieSlot) : (j.setDie k x).store = j.store := rfl
@[simp] theorem Junction.setDie_hist (j : Junction) (k : Nat) (x : DieSlot) : (j.setDie k x).hist = j.hist := rfl
@[simp] theorem Junction.setDie_ctxs (j : Junction) (k : Nat) (x : DieSlot) : (j.setDie k x).ctxs = j.ctxs := rfl
@[simp] theorem Junction.setDie_bundles (j : Junction) (k : Nat) (x : DieSlot) : (j.setDie k x).bundles = j.bundles := rfl
@[simp] theorem Junction.setDie_wayOps (j : Junction) (k : Nat) (x : DieSlot) : (j.setDie k x).wayOps = j.wayOps := rfl
@[simp] theorem Junction.setDie_grp (j : Junction) (k : Nat) (x : DieSlot) : (j.setDie k x).grp = j.grp := rfl
@[simp] theorem Junction.setDie_seqRun (j : Junction) (k : Nat) (x : DieSlot) : (j.setDie k x).seqRun = j.seqRun := rfl
@[simp] theorem Junction.setDie_fc (j : Junction) (k : Nat) (x : DieSlot) : (j.setDie k x).fc = j.fc := rfl
@[simp] theorem Junction.setDie_areas (j : Junction) (k : Nat) (x : DieSlot) : (j.setDie k x).areas = j.areas := rfl
@[simp] theorem Junction.setDie_refs (j : Junction) (k : Nat) (x : DieSlot) : (j.setDie k x).refs = j.refs := rfl
@[simp] theorem Junction.setDie_shardCnt (j : Junction) (k : Nat) (x : DieSlot) : (j.setDie k x).shardCnt = j.shardCnt := rfl
@[simp] theorem Junction.setDie_tests (j : Junction) (k : Nat) (x : DieSlot) : (j.setDie k x).tests = j.tests := rfl
@[simp] theorem Junction.setDie_slots (j : Junction) (k : Nat) (x : DieSlot) : (j.setDie k x).slots = j.slots := rfl
@[simp] theorem Junction.setDie_logs (j : Junction) (k : Nat) (x : DieSlot) : (j.setDie k x).logs = j.logs := rfl
@[simp] theorem Junction.setDie_logRate (j : Junction) (k : Nat) (x : DieSlot) : (j.setDie k x).logRate = j.logRate := rfl
@[simp] theorem Junction.setDie_logRateNew (j : Junction) (k : Nat) (x : DieSlot) : (j.setDie k x).logRateNew = j.logRateNew := rfl
@[simp] theorem Junction.setDie_logTokens (j : Junction) (k : Nat) (x : DieSlot) : (j.setDie k x).logTokens = j.logTokens := rfl
@[simp] theorem Junction.setDie_rateDrop (j : Junction) (k : Nat) (x : DieSlot) : (j.setDie k x).rateDrop = j.rateDrop := rfl
@[simp] theorem Junction.setDie_ownSeq (j : Junction) (k : Nat) (x : DieSlot) : (j.setDie k x).ownSeq = j.ownSeq := rfl
@[simp] theorem Junction.setDie_nearFull (j : Junction) (k : Nat) (x : DieSlot) : (j.setDie k x).nearFull = j.nearFull := rfl
@[simp] theorem Junction.setDie_mail (j : Junction) (k : Nat) (x : DieSlot) : (j.setDie k x).mail = j.mail := rfl
@[simp] theorem Junction.setDie_hops (j : Junction) (k : Nat) (x : DieSlot) : (j.setDie k x).hops = j.hops := rfl
@[simp] theorem Junction.setDie_alarms (j : Junction) (k : Nat) (x : DieSlot) : (j.setDie k x).alarms = j.alarms := rfl
@[simp] theorem Junction.setDie_alarmDrop (j : Junction) (k : Nat) (x : DieSlot) : (j.setDie k x).alarmDrop = j.alarmDrop := rfl
@[simp] theorem Junction.setDie_notices (j : Junction) (k : Nat) (x : DieSlot) : (j.setDie k x).notices = j.notices := rfl
@[simp] theorem Junction.setDie_sec (j : Junction) (k : Nat) (x : DieSlot) : (j.setDie k x).sec = j.sec := rfl
@[simp] theorem Junction.setDie_ballast (j : Junction) (k : Nat) (x : DieSlot) : (j.setDie k x).ballast = j.ballast := rfl
@[simp] theorem Junction.setDie_crc (j : Junction) (k : Nat) (x : DieSlot) : (j.setDie k x).crc = j.crc := rfl
@[simp] theorem Junction.setDie_exp (j : Junction) (k : Nat) (x : DieSlot) : (j.setDie k x).exp = j.exp := rfl
@[simp] theorem Junction.setDie_errs (j : Junction) (k : Nat) (x : DieSlot) : (j.setDie k x).errs = j.errs := rfl
@[simp] theorem Junction.setDie_latch (j : Junction) (k : Nat) (x : DieSlot) : (j.setDie k x).latch = j.latch := rfl
@[simp] theorem Junction.setDie_readData (j : Junction) (k : Nat) (x : DieSlot) : (j.setDie k x).readData = j.readData := rfl
@[simp] theorem Junction.setDie_flush (j : Junction) (k : Nat) (x : DieSlot) : (j.setDie k x).flush = j.flush := rfl
@[simp] theorem Junction.setDie_cnt (j : Junction) (k : Nat) (x : DieSlot) : (j.setDie k x).cnt = j.cnt := rfl
@[simp] theorem Junction.setDie_jobSeq (j : Junction) (k : Nat) (x : DieSlot) : (j.setDie k x).jobSeq = j.jobSeq := rfl

/-! ### Junction.setSlot -/

@[simp] theorem Junction.setSlot_boot (j : Junction) (g : Nat) (x : MemSlot) : (j.setSlot g x).boot = j.boot := rfl
@[simp] theorem Junction.setSlot_straps (j : Junction) (g : Nat) (x : MemSlot) : (j.setSlot g x).straps = j.straps := rfl
@[simp] theorem Junction.setSlot_confirmed (j : Junction) (g : Nat) (x : MemSlot) : (j.setSlot g x).confirmed = j.confirmed := rfl
@[simp] theorem Junction.setSlot_index (j : Junction) (g : Nat) (x : MemSlot) : (j.setSlot g x).index = j.index := rfl
@[simp] theorem Junction.setSlot_twin (j : Junction) (g : Nat) (x : MemSlot) : (j.setSlot g x).twin = j.twin := rfl
@[simp] theorem Junction.setSlot_portMap (j : Junction) (g : Nat) (x : MemSlot) : (j.setSlot g x).portMap = j.portMap := rfl
@[simp] theorem Junction.setSlot_subtree (j : Junction) (g : Nat) (x : MemSlot) : (j.setSlot g x).subtree = j.subtree := rfl
@[simp] theorem Junction.setSlot_clk (j : Junction) (g : Nat) (x : MemSlot) : (j.setSlot g x).clk = j.clk := rfl
@[simp] theorem Junction.setSlot_ext (j : Junction) (g : Nat) (x : MemSlot) : (j.setSlot g x).ext = j.ext := rfl
@[simp] theorem Junction.setSlot_ref (j : Junction) (g : Nat) (x : MemSlot) : (j.setSlot g x).ref = j.ref := rfl
@[simp] theorem Junction.setSlot_tsIn (j : Junction) (g : Nat) (x : MemSlot) : (j.setSlot g x).tsIn = j.tsIn := rfl
@[simp] theorem Junction.setSlot_trig (j : Junction) (g : Nat) (x : MemSlot) : (j.setSlot g x).trig = j.trig := rfl
@[simp] theorem Junction.setSlot_pps (j : Junction) (g : Nat) (x : MemSlot) : (j.setSlot g x).pps = j.pps := rfl
@[simp] theorem Junction.setSlot_b0 (j : Junction) (g : Nat) (x : MemSlot) : (j.setSlot g x).b0 = j.b0 := rfl
@[simp] theorem Junction.setSlot_b1 (j : Junction) (g : Nat) (x : MemSlot) : (j.setSlot g x).b1 = j.b1 := rfl
@[simp] theorem Junction.setSlot_old (j : Junction) (g : Nat) (x : MemSlot) : (j.setSlot g x).old = j.old := rfl
@[simp] theorem Junction.setSlot_stopAt (j : Junction) (g : Nat) (x : MemSlot) : (j.setSlot g x).stopAt = j.stopAt := rfl
@[simp] theorem Junction.setSlot_ports (j : Junction) (g : Nat) (x : MemSlot) : (j.setSlot g x).ports = j.ports := rfl
@[simp] theorem Junction.setSlot_shadow (j : Junction) (g : Nat) (x : MemSlot) : (j.setSlot g x).shadow = j.shadow := rfl
@[simp] theorem Junction.setSlot_txns (j : Junction) (g : Nat) (x : MemSlot) : (j.setSlot g x).txns = j.txns := rfl
@[simp] theorem Junction.setSlot_nextTxn (j : Junction) (g : Nat) (x : MemSlot) : (j.setSlot g x).nextTxn = j.nextTxn := rfl
@[simp] theorem Junction.setSlot_lineCfg (j : Junction) (g : Nat) (x : MemSlot) : (j.setSlot g x).lineCfg = j.lineCfg := rfl
@[simp] theorem Junction.setSlot_banksRead (j : Junction) (g : Nat) (x : MemSlot) : (j.setSlot g x).banksRead = j.banksRead := rfl
@[simp] theorem Junction.setSlot_lineParts (j : Junction) (g : Nat) (x : MemSlot) : (j.setSlot g x).lineParts = j.lineParts := rfl
@[simp] theorem Junction.setSlot_ticks (j : Junction) (g : Nat) (x : MemSlot) : (j.setSlot g x).ticks = j.ticks := rfl
@[simp] theorem Junction.setSlot_flights (j : Junction) (g : Nat) (x : MemSlot) : (j.setSlot g x).flights = j.flights := rfl
@[simp] theorem Junction.setSlot_statPrev (j : Junction) (g : Nat) (x : MemSlot) : (j.setSlot g x).statPrev = j.statPrev := rfl
@[simp] theorem Junction.setSlot_det (j : Junction) (g : Nat) (x : MemSlot) : (j.setSlot g x).det = j.det := rfl
@[simp] theorem Junction.setSlot_verdictPrev (j : Junction) (g : Nat) (x : MemSlot) : (j.setSlot g x).verdictPrev = j.verdictPrev := rfl
@[simp] theorem Junction.setSlot_stats (j : Junction) (g : Nat) (x : MemSlot) : (j.setSlot g x).stats = j.stats := rfl
@[simp] theorem Junction.setSlot_exclusions (j : Junction) (g : Nat) (x : MemSlot) : (j.setSlot g x).exclusions = j.exclusions := rfl
@[simp] theorem Junction.setSlot_mem (j : Junction) (g : Nat) (x : MemSlot) : (j.setSlot g x).mem = j.mem := rfl
@[simp] theorem Junction.setSlot_poisoned (j : Junction) (g : Nat) (x : MemSlot) : (j.setSlot g x).poisoned = j.poisoned := rfl
@[simp] theorem Junction.setSlot_store (j : Junction) (g : Nat) (x : MemSlot) : (j.setSlot g x).store = j.store := rfl
@[simp] theorem Junction.setSlot_hist (j : Junction) (g : Nat) (x : MemSlot) : (j.setSlot g x).hist = j.hist := rfl
@[simp] theorem Junction.setSlot_ctxs (j : Junction) (g : Nat) (x : MemSlot) : (j.setSlot g x).ctxs = j.ctxs := rfl
@[simp] theorem Junction.setSlot_bundles (j : Junction) (g : Nat) (x : MemSlot) : (j.setSlot g x).bundles = j.bundles := rfl
@[simp] theorem Junction.setSlot_wayOps (j : Junction) (g : Nat) (x : MemSlot) : (j.setSlot g x).wayOps = j.wayOps := rfl
@[simp] theorem Junction.setSlot_grp (j : Junction) (g : Nat) (x : MemSlot) : (j.setSlot g x).grp = j.grp := rfl
@[simp] theorem Junction.setSlot_seqRun (j : Junction) (g : Nat) (x : MemSlot) : (j.setSlot g x).seqRun = j.seqRun := rfl
@[simp] theorem Junction.setSlot_fc (j : Junction) (g : Nat) (x : MemSlot) : (j.setSlot g x).fc = j.fc := rfl
@[simp] theorem Junction.setSlot_areas (j : Junction) (g : Nat) (x : MemSlot) : (j.setSlot g x).areas = j.areas := rfl
@[simp] theorem Junction.setSlot_refs (j : Junction) (g : Nat) (x : MemSlot) : (j.setSlot g x).refs = j.refs := rfl
@[simp] theorem Junction.setSlot_shardCnt (j : Junction) (g : Nat) (x : MemSlot) : (j.setSlot g x).shardCnt = j.shardCnt := rfl
@[simp] theorem Junction.setSlot_tests (j : Junction) (g : Nat) (x : MemSlot) : (j.setSlot g x).tests = j.tests := rfl
@[simp] theorem Junction.setSlot_dies (j : Junction) (g : Nat) (x : MemSlot) : (j.setSlot g x).dies = j.dies := rfl
@[simp] theorem Junction.setSlot_logs (j : Junction) (g : Nat) (x : MemSlot) : (j.setSlot g x).logs = j.logs := rfl
@[simp] theorem Junction.setSlot_logRate (j : Junction) (g : Nat) (x : MemSlot) : (j.setSlot g x).logRate = j.logRate := rfl
@[simp] theorem Junction.setSlot_logRateNew (j : Junction) (g : Nat) (x : MemSlot) : (j.setSlot g x).logRateNew = j.logRateNew := rfl
@[simp] theorem Junction.setSlot_logTokens (j : Junction) (g : Nat) (x : MemSlot) : (j.setSlot g x).logTokens = j.logTokens := rfl
@[simp] theorem Junction.setSlot_rateDrop (j : Junction) (g : Nat) (x : MemSlot) : (j.setSlot g x).rateDrop = j.rateDrop := rfl
@[simp] theorem Junction.setSlot_ownSeq (j : Junction) (g : Nat) (x : MemSlot) : (j.setSlot g x).ownSeq = j.ownSeq := rfl
@[simp] theorem Junction.setSlot_nearFull (j : Junction) (g : Nat) (x : MemSlot) : (j.setSlot g x).nearFull = j.nearFull := rfl
@[simp] theorem Junction.setSlot_mail (j : Junction) (g : Nat) (x : MemSlot) : (j.setSlot g x).mail = j.mail := rfl
@[simp] theorem Junction.setSlot_hops (j : Junction) (g : Nat) (x : MemSlot) : (j.setSlot g x).hops = j.hops := rfl
@[simp] theorem Junction.setSlot_alarms (j : Junction) (g : Nat) (x : MemSlot) : (j.setSlot g x).alarms = j.alarms := rfl
@[simp] theorem Junction.setSlot_alarmDrop (j : Junction) (g : Nat) (x : MemSlot) : (j.setSlot g x).alarmDrop = j.alarmDrop := rfl
@[simp] theorem Junction.setSlot_notices (j : Junction) (g : Nat) (x : MemSlot) : (j.setSlot g x).notices = j.notices := rfl
@[simp] theorem Junction.setSlot_sec (j : Junction) (g : Nat) (x : MemSlot) : (j.setSlot g x).sec = j.sec := rfl
@[simp] theorem Junction.setSlot_ballast (j : Junction) (g : Nat) (x : MemSlot) : (j.setSlot g x).ballast = j.ballast := rfl
@[simp] theorem Junction.setSlot_crc (j : Junction) (g : Nat) (x : MemSlot) : (j.setSlot g x).crc = j.crc := rfl
@[simp] theorem Junction.setSlot_exp (j : Junction) (g : Nat) (x : MemSlot) : (j.setSlot g x).exp = j.exp := rfl
@[simp] theorem Junction.setSlot_errs (j : Junction) (g : Nat) (x : MemSlot) : (j.setSlot g x).errs = j.errs := rfl
@[simp] theorem Junction.setSlot_latch (j : Junction) (g : Nat) (x : MemSlot) : (j.setSlot g x).latch = j.latch := rfl
@[simp] theorem Junction.setSlot_readData (j : Junction) (g : Nat) (x : MemSlot) : (j.setSlot g x).readData = j.readData := rfl
@[simp] theorem Junction.setSlot_flush (j : Junction) (g : Nat) (x : MemSlot) : (j.setSlot g x).flush = j.flush := rfl
@[simp] theorem Junction.setSlot_cnt (j : Junction) (g : Nat) (x : MemSlot) : (j.setSlot g x).cnt = j.cnt := rfl
@[simp] theorem Junction.setSlot_jobSeq (j : Junction) (g : Nat) (x : MemSlot) : (j.setSlot g x).jobSeq = j.jobSeq := rfl

/-! ### Junction.setLog -/

@[simp] theorem Junction.setLog_boot (j : Junction) (l : Nat) (x : JnLog) : (j.setLog l x).boot = j.boot := rfl
@[simp] theorem Junction.setLog_straps (j : Junction) (l : Nat) (x : JnLog) : (j.setLog l x).straps = j.straps := rfl
@[simp] theorem Junction.setLog_confirmed (j : Junction) (l : Nat) (x : JnLog) : (j.setLog l x).confirmed = j.confirmed := rfl
@[simp] theorem Junction.setLog_index (j : Junction) (l : Nat) (x : JnLog) : (j.setLog l x).index = j.index := rfl
@[simp] theorem Junction.setLog_twin (j : Junction) (l : Nat) (x : JnLog) : (j.setLog l x).twin = j.twin := rfl
@[simp] theorem Junction.setLog_portMap (j : Junction) (l : Nat) (x : JnLog) : (j.setLog l x).portMap = j.portMap := rfl
@[simp] theorem Junction.setLog_subtree (j : Junction) (l : Nat) (x : JnLog) : (j.setLog l x).subtree = j.subtree := rfl
@[simp] theorem Junction.setLog_clk (j : Junction) (l : Nat) (x : JnLog) : (j.setLog l x).clk = j.clk := rfl
@[simp] theorem Junction.setLog_ext (j : Junction) (l : Nat) (x : JnLog) : (j.setLog l x).ext = j.ext := rfl
@[simp] theorem Junction.setLog_ref (j : Junction) (l : Nat) (x : JnLog) : (j.setLog l x).ref = j.ref := rfl
@[simp] theorem Junction.setLog_tsIn (j : Junction) (l : Nat) (x : JnLog) : (j.setLog l x).tsIn = j.tsIn := rfl
@[simp] theorem Junction.setLog_trig (j : Junction) (l : Nat) (x : JnLog) : (j.setLog l x).trig = j.trig := rfl
@[simp] theorem Junction.setLog_pps (j : Junction) (l : Nat) (x : JnLog) : (j.setLog l x).pps = j.pps := rfl
@[simp] theorem Junction.setLog_b0 (j : Junction) (l : Nat) (x : JnLog) : (j.setLog l x).b0 = j.b0 := rfl
@[simp] theorem Junction.setLog_b1 (j : Junction) (l : Nat) (x : JnLog) : (j.setLog l x).b1 = j.b1 := rfl
@[simp] theorem Junction.setLog_old (j : Junction) (l : Nat) (x : JnLog) : (j.setLog l x).old = j.old := rfl
@[simp] theorem Junction.setLog_stopAt (j : Junction) (l : Nat) (x : JnLog) : (j.setLog l x).stopAt = j.stopAt := rfl
@[simp] theorem Junction.setLog_ports (j : Junction) (l : Nat) (x : JnLog) : (j.setLog l x).ports = j.ports := rfl
@[simp] theorem Junction.setLog_shadow (j : Junction) (l : Nat) (x : JnLog) : (j.setLog l x).shadow = j.shadow := rfl
@[simp] theorem Junction.setLog_txns (j : Junction) (l : Nat) (x : JnLog) : (j.setLog l x).txns = j.txns := rfl
@[simp] theorem Junction.setLog_nextTxn (j : Junction) (l : Nat) (x : JnLog) : (j.setLog l x).nextTxn = j.nextTxn := rfl
@[simp] theorem Junction.setLog_lineCfg (j : Junction) (l : Nat) (x : JnLog) : (j.setLog l x).lineCfg = j.lineCfg := rfl
@[simp] theorem Junction.setLog_banksRead (j : Junction) (l : Nat) (x : JnLog) : (j.setLog l x).banksRead = j.banksRead := rfl
@[simp] theorem Junction.setLog_lineParts (j : Junction) (l : Nat) (x : JnLog) : (j.setLog l x).lineParts = j.lineParts := rfl
@[simp] theorem Junction.setLog_ticks (j : Junction) (l : Nat) (x : JnLog) : (j.setLog l x).ticks = j.ticks := rfl
@[simp] theorem Junction.setLog_flights (j : Junction) (l : Nat) (x : JnLog) : (j.setLog l x).flights = j.flights := rfl
@[simp] theorem Junction.setLog_statPrev (j : Junction) (l : Nat) (x : JnLog) : (j.setLog l x).statPrev = j.statPrev := rfl
@[simp] theorem Junction.setLog_det (j : Junction) (l : Nat) (x : JnLog) : (j.setLog l x).det = j.det := rfl
@[simp] theorem Junction.setLog_verdictPrev (j : Junction) (l : Nat) (x : JnLog) : (j.setLog l x).verdictPrev = j.verdictPrev := rfl
@[simp] theorem Junction.setLog_stats (j : Junction) (l : Nat) (x : JnLog) : (j.setLog l x).stats = j.stats := rfl
@[simp] theorem Junction.setLog_exclusions (j : Junction) (l : Nat) (x : JnLog) : (j.setLog l x).exclusions = j.exclusions := rfl
@[simp] theorem Junction.setLog_mem (j : Junction) (l : Nat) (x : JnLog) : (j.setLog l x).mem = j.mem := rfl
@[simp] theorem Junction.setLog_poisoned (j : Junction) (l : Nat) (x : JnLog) : (j.setLog l x).poisoned = j.poisoned := rfl
@[simp] theorem Junction.setLog_store (j : Junction) (l : Nat) (x : JnLog) : (j.setLog l x).store = j.store := rfl
@[simp] theorem Junction.setLog_hist (j : Junction) (l : Nat) (x : JnLog) : (j.setLog l x).hist = j.hist := rfl
@[simp] theorem Junction.setLog_ctxs (j : Junction) (l : Nat) (x : JnLog) : (j.setLog l x).ctxs = j.ctxs := rfl
@[simp] theorem Junction.setLog_bundles (j : Junction) (l : Nat) (x : JnLog) : (j.setLog l x).bundles = j.bundles := rfl
@[simp] theorem Junction.setLog_wayOps (j : Junction) (l : Nat) (x : JnLog) : (j.setLog l x).wayOps = j.wayOps := rfl
@[simp] theorem Junction.setLog_grp (j : Junction) (l : Nat) (x : JnLog) : (j.setLog l x).grp = j.grp := rfl
@[simp] theorem Junction.setLog_seqRun (j : Junction) (l : Nat) (x : JnLog) : (j.setLog l x).seqRun = j.seqRun := rfl
@[simp] theorem Junction.setLog_fc (j : Junction) (l : Nat) (x : JnLog) : (j.setLog l x).fc = j.fc := rfl
@[simp] theorem Junction.setLog_areas (j : Junction) (l : Nat) (x : JnLog) : (j.setLog l x).areas = j.areas := rfl
@[simp] theorem Junction.setLog_refs (j : Junction) (l : Nat) (x : JnLog) : (j.setLog l x).refs = j.refs := rfl
@[simp] theorem Junction.setLog_shardCnt (j : Junction) (l : Nat) (x : JnLog) : (j.setLog l x).shardCnt = j.shardCnt := rfl
@[simp] theorem Junction.setLog_tests (j : Junction) (l : Nat) (x : JnLog) : (j.setLog l x).tests = j.tests := rfl
@[simp] theorem Junction.setLog_dies (j : Junction) (l : Nat) (x : JnLog) : (j.setLog l x).dies = j.dies := rfl
@[simp] theorem Junction.setLog_slots (j : Junction) (l : Nat) (x : JnLog) : (j.setLog l x).slots = j.slots := rfl
@[simp] theorem Junction.setLog_logRate (j : Junction) (l : Nat) (x : JnLog) : (j.setLog l x).logRate = j.logRate := rfl
@[simp] theorem Junction.setLog_logRateNew (j : Junction) (l : Nat) (x : JnLog) : (j.setLog l x).logRateNew = j.logRateNew := rfl
@[simp] theorem Junction.setLog_logTokens (j : Junction) (l : Nat) (x : JnLog) : (j.setLog l x).logTokens = j.logTokens := rfl
@[simp] theorem Junction.setLog_rateDrop (j : Junction) (l : Nat) (x : JnLog) : (j.setLog l x).rateDrop = j.rateDrop := rfl
@[simp] theorem Junction.setLog_ownSeq (j : Junction) (l : Nat) (x : JnLog) : (j.setLog l x).ownSeq = j.ownSeq := rfl
@[simp] theorem Junction.setLog_nearFull (j : Junction) (l : Nat) (x : JnLog) : (j.setLog l x).nearFull = j.nearFull := rfl
@[simp] theorem Junction.setLog_mail (j : Junction) (l : Nat) (x : JnLog) : (j.setLog l x).mail = j.mail := rfl
@[simp] theorem Junction.setLog_hops (j : Junction) (l : Nat) (x : JnLog) : (j.setLog l x).hops = j.hops := rfl
@[simp] theorem Junction.setLog_alarms (j : Junction) (l : Nat) (x : JnLog) : (j.setLog l x).alarms = j.alarms := rfl
@[simp] theorem Junction.setLog_alarmDrop (j : Junction) (l : Nat) (x : JnLog) : (j.setLog l x).alarmDrop = j.alarmDrop := rfl
@[simp] theorem Junction.setLog_notices (j : Junction) (l : Nat) (x : JnLog) : (j.setLog l x).notices = j.notices := rfl
@[simp] theorem Junction.setLog_sec (j : Junction) (l : Nat) (x : JnLog) : (j.setLog l x).sec = j.sec := rfl
@[simp] theorem Junction.setLog_ballast (j : Junction) (l : Nat) (x : JnLog) : (j.setLog l x).ballast = j.ballast := rfl
@[simp] theorem Junction.setLog_crc (j : Junction) (l : Nat) (x : JnLog) : (j.setLog l x).crc = j.crc := rfl
@[simp] theorem Junction.setLog_exp (j : Junction) (l : Nat) (x : JnLog) : (j.setLog l x).exp = j.exp := rfl
@[simp] theorem Junction.setLog_errs (j : Junction) (l : Nat) (x : JnLog) : (j.setLog l x).errs = j.errs := rfl
@[simp] theorem Junction.setLog_latch (j : Junction) (l : Nat) (x : JnLog) : (j.setLog l x).latch = j.latch := rfl
@[simp] theorem Junction.setLog_readData (j : Junction) (l : Nat) (x : JnLog) : (j.setLog l x).readData = j.readData := rfl
@[simp] theorem Junction.setLog_flush (j : Junction) (l : Nat) (x : JnLog) : (j.setLog l x).flush = j.flush := rfl
@[simp] theorem Junction.setLog_cnt (j : Junction) (l : Nat) (x : JnLog) : (j.setLog l x).cnt = j.cnt := rfl
@[simp] theorem Junction.setLog_jobSeq (j : Junction) (l : Nat) (x : JnLog) : (j.setLog l x).jobSeq = j.jobSeq := rfl

/-! ### Junction.setMbox -/

@[simp] theorem Junction.setMbox_boot (j : Junction) (m : Nat) (x : Mailbox) : (j.setMbox m x).boot = j.boot := rfl
@[simp] theorem Junction.setMbox_straps (j : Junction) (m : Nat) (x : Mailbox) : (j.setMbox m x).straps = j.straps := rfl
@[simp] theorem Junction.setMbox_confirmed (j : Junction) (m : Nat) (x : Mailbox) : (j.setMbox m x).confirmed = j.confirmed := rfl
@[simp] theorem Junction.setMbox_index (j : Junction) (m : Nat) (x : Mailbox) : (j.setMbox m x).index = j.index := rfl
@[simp] theorem Junction.setMbox_twin (j : Junction) (m : Nat) (x : Mailbox) : (j.setMbox m x).twin = j.twin := rfl
@[simp] theorem Junction.setMbox_portMap (j : Junction) (m : Nat) (x : Mailbox) : (j.setMbox m x).portMap = j.portMap := rfl
@[simp] theorem Junction.setMbox_subtree (j : Junction) (m : Nat) (x : Mailbox) : (j.setMbox m x).subtree = j.subtree := rfl
@[simp] theorem Junction.setMbox_clk (j : Junction) (m : Nat) (x : Mailbox) : (j.setMbox m x).clk = j.clk := rfl
@[simp] theorem Junction.setMbox_ext (j : Junction) (m : Nat) (x : Mailbox) : (j.setMbox m x).ext = j.ext := rfl
@[simp] theorem Junction.setMbox_ref (j : Junction) (m : Nat) (x : Mailbox) : (j.setMbox m x).ref = j.ref := rfl
@[simp] theorem Junction.setMbox_tsIn (j : Junction) (m : Nat) (x : Mailbox) : (j.setMbox m x).tsIn = j.tsIn := rfl
@[simp] theorem Junction.setMbox_trig (j : Junction) (m : Nat) (x : Mailbox) : (j.setMbox m x).trig = j.trig := rfl
@[simp] theorem Junction.setMbox_pps (j : Junction) (m : Nat) (x : Mailbox) : (j.setMbox m x).pps = j.pps := rfl
@[simp] theorem Junction.setMbox_b0 (j : Junction) (m : Nat) (x : Mailbox) : (j.setMbox m x).b0 = j.b0 := rfl
@[simp] theorem Junction.setMbox_b1 (j : Junction) (m : Nat) (x : Mailbox) : (j.setMbox m x).b1 = j.b1 := rfl
@[simp] theorem Junction.setMbox_old (j : Junction) (m : Nat) (x : Mailbox) : (j.setMbox m x).old = j.old := rfl
@[simp] theorem Junction.setMbox_stopAt (j : Junction) (m : Nat) (x : Mailbox) : (j.setMbox m x).stopAt = j.stopAt := rfl
@[simp] theorem Junction.setMbox_ports (j : Junction) (m : Nat) (x : Mailbox) : (j.setMbox m x).ports = j.ports := rfl
@[simp] theorem Junction.setMbox_shadow (j : Junction) (m : Nat) (x : Mailbox) : (j.setMbox m x).shadow = j.shadow := rfl
@[simp] theorem Junction.setMbox_txns (j : Junction) (m : Nat) (x : Mailbox) : (j.setMbox m x).txns = j.txns := rfl
@[simp] theorem Junction.setMbox_nextTxn (j : Junction) (m : Nat) (x : Mailbox) : (j.setMbox m x).nextTxn = j.nextTxn := rfl
@[simp] theorem Junction.setMbox_lineCfg (j : Junction) (m : Nat) (x : Mailbox) : (j.setMbox m x).lineCfg = j.lineCfg := rfl
@[simp] theorem Junction.setMbox_banksRead (j : Junction) (m : Nat) (x : Mailbox) : (j.setMbox m x).banksRead = j.banksRead := rfl
@[simp] theorem Junction.setMbox_lineParts (j : Junction) (m : Nat) (x : Mailbox) : (j.setMbox m x).lineParts = j.lineParts := rfl
@[simp] theorem Junction.setMbox_ticks (j : Junction) (m : Nat) (x : Mailbox) : (j.setMbox m x).ticks = j.ticks := rfl
@[simp] theorem Junction.setMbox_flights (j : Junction) (m : Nat) (x : Mailbox) : (j.setMbox m x).flights = j.flights := rfl
@[simp] theorem Junction.setMbox_statPrev (j : Junction) (m : Nat) (x : Mailbox) : (j.setMbox m x).statPrev = j.statPrev := rfl
@[simp] theorem Junction.setMbox_det (j : Junction) (m : Nat) (x : Mailbox) : (j.setMbox m x).det = j.det := rfl
@[simp] theorem Junction.setMbox_verdictPrev (j : Junction) (m : Nat) (x : Mailbox) : (j.setMbox m x).verdictPrev = j.verdictPrev := rfl
@[simp] theorem Junction.setMbox_stats (j : Junction) (m : Nat) (x : Mailbox) : (j.setMbox m x).stats = j.stats := rfl
@[simp] theorem Junction.setMbox_exclusions (j : Junction) (m : Nat) (x : Mailbox) : (j.setMbox m x).exclusions = j.exclusions := rfl
@[simp] theorem Junction.setMbox_mem (j : Junction) (m : Nat) (x : Mailbox) : (j.setMbox m x).mem = j.mem := rfl
@[simp] theorem Junction.setMbox_poisoned (j : Junction) (m : Nat) (x : Mailbox) : (j.setMbox m x).poisoned = j.poisoned := rfl
@[simp] theorem Junction.setMbox_store (j : Junction) (m : Nat) (x : Mailbox) : (j.setMbox m x).store = j.store := rfl
@[simp] theorem Junction.setMbox_hist (j : Junction) (m : Nat) (x : Mailbox) : (j.setMbox m x).hist = j.hist := rfl
@[simp] theorem Junction.setMbox_ctxs (j : Junction) (m : Nat) (x : Mailbox) : (j.setMbox m x).ctxs = j.ctxs := rfl
@[simp] theorem Junction.setMbox_bundles (j : Junction) (m : Nat) (x : Mailbox) : (j.setMbox m x).bundles = j.bundles := rfl
@[simp] theorem Junction.setMbox_wayOps (j : Junction) (m : Nat) (x : Mailbox) : (j.setMbox m x).wayOps = j.wayOps := rfl
@[simp] theorem Junction.setMbox_grp (j : Junction) (m : Nat) (x : Mailbox) : (j.setMbox m x).grp = j.grp := rfl
@[simp] theorem Junction.setMbox_seqRun (j : Junction) (m : Nat) (x : Mailbox) : (j.setMbox m x).seqRun = j.seqRun := rfl
@[simp] theorem Junction.setMbox_fc (j : Junction) (m : Nat) (x : Mailbox) : (j.setMbox m x).fc = j.fc := rfl
@[simp] theorem Junction.setMbox_areas (j : Junction) (m : Nat) (x : Mailbox) : (j.setMbox m x).areas = j.areas := rfl
@[simp] theorem Junction.setMbox_refs (j : Junction) (m : Nat) (x : Mailbox) : (j.setMbox m x).refs = j.refs := rfl
@[simp] theorem Junction.setMbox_shardCnt (j : Junction) (m : Nat) (x : Mailbox) : (j.setMbox m x).shardCnt = j.shardCnt := rfl
@[simp] theorem Junction.setMbox_tests (j : Junction) (m : Nat) (x : Mailbox) : (j.setMbox m x).tests = j.tests := rfl
@[simp] theorem Junction.setMbox_dies (j : Junction) (m : Nat) (x : Mailbox) : (j.setMbox m x).dies = j.dies := rfl
@[simp] theorem Junction.setMbox_slots (j : Junction) (m : Nat) (x : Mailbox) : (j.setMbox m x).slots = j.slots := rfl
@[simp] theorem Junction.setMbox_logs (j : Junction) (m : Nat) (x : Mailbox) : (j.setMbox m x).logs = j.logs := rfl
@[simp] theorem Junction.setMbox_logRate (j : Junction) (m : Nat) (x : Mailbox) : (j.setMbox m x).logRate = j.logRate := rfl
@[simp] theorem Junction.setMbox_logRateNew (j : Junction) (m : Nat) (x : Mailbox) : (j.setMbox m x).logRateNew = j.logRateNew := rfl
@[simp] theorem Junction.setMbox_logTokens (j : Junction) (m : Nat) (x : Mailbox) : (j.setMbox m x).logTokens = j.logTokens := rfl
@[simp] theorem Junction.setMbox_rateDrop (j : Junction) (m : Nat) (x : Mailbox) : (j.setMbox m x).rateDrop = j.rateDrop := rfl
@[simp] theorem Junction.setMbox_ownSeq (j : Junction) (m : Nat) (x : Mailbox) : (j.setMbox m x).ownSeq = j.ownSeq := rfl
@[simp] theorem Junction.setMbox_nearFull (j : Junction) (m : Nat) (x : Mailbox) : (j.setMbox m x).nearFull = j.nearFull := rfl
@[simp] theorem Junction.setMbox_hops (j : Junction) (m : Nat) (x : Mailbox) : (j.setMbox m x).hops = j.hops := rfl
@[simp] theorem Junction.setMbox_alarms (j : Junction) (m : Nat) (x : Mailbox) : (j.setMbox m x).alarms = j.alarms := rfl
@[simp] theorem Junction.setMbox_alarmDrop (j : Junction) (m : Nat) (x : Mailbox) : (j.setMbox m x).alarmDrop = j.alarmDrop := rfl
@[simp] theorem Junction.setMbox_notices (j : Junction) (m : Nat) (x : Mailbox) : (j.setMbox m x).notices = j.notices := rfl
@[simp] theorem Junction.setMbox_sec (j : Junction) (m : Nat) (x : Mailbox) : (j.setMbox m x).sec = j.sec := rfl
@[simp] theorem Junction.setMbox_ballast (j : Junction) (m : Nat) (x : Mailbox) : (j.setMbox m x).ballast = j.ballast := rfl
@[simp] theorem Junction.setMbox_crc (j : Junction) (m : Nat) (x : Mailbox) : (j.setMbox m x).crc = j.crc := rfl
@[simp] theorem Junction.setMbox_exp (j : Junction) (m : Nat) (x : Mailbox) : (j.setMbox m x).exp = j.exp := rfl
@[simp] theorem Junction.setMbox_errs (j : Junction) (m : Nat) (x : Mailbox) : (j.setMbox m x).errs = j.errs := rfl
@[simp] theorem Junction.setMbox_latch (j : Junction) (m : Nat) (x : Mailbox) : (j.setMbox m x).latch = j.latch := rfl
@[simp] theorem Junction.setMbox_readData (j : Junction) (m : Nat) (x : Mailbox) : (j.setMbox m x).readData = j.readData := rfl
@[simp] theorem Junction.setMbox_flush (j : Junction) (m : Nat) (x : Mailbox) : (j.setMbox m x).flush = j.flush := rfl
@[simp] theorem Junction.setMbox_cnt (j : Junction) (m : Nat) (x : Mailbox) : (j.setMbox m x).cnt = j.cnt := rfl
@[simp] theorem Junction.setMbox_jobSeq (j : Junction) (m : Nat) (x : Mailbox) : (j.setMbox m x).jobSeq = j.jobSeq := rfl

/-! ### Junction.setHist -/

@[simp] theorem Junction.setHist_boot (j : Junction) (c : Nat) (h : Hist) : (j.setHist c h).boot = j.boot := rfl
@[simp] theorem Junction.setHist_straps (j : Junction) (c : Nat) (h : Hist) : (j.setHist c h).straps = j.straps := rfl
@[simp] theorem Junction.setHist_confirmed (j : Junction) (c : Nat) (h : Hist) : (j.setHist c h).confirmed = j.confirmed := rfl
@[simp] theorem Junction.setHist_index (j : Junction) (c : Nat) (h : Hist) : (j.setHist c h).index = j.index := rfl
@[simp] theorem Junction.setHist_twin (j : Junction) (c : Nat) (h : Hist) : (j.setHist c h).twin = j.twin := rfl
@[simp] theorem Junction.setHist_portMap (j : Junction) (c : Nat) (h : Hist) : (j.setHist c h).portMap = j.portMap := rfl
@[simp] theorem Junction.setHist_subtree (j : Junction) (c : Nat) (h : Hist) : (j.setHist c h).subtree = j.subtree := rfl
@[simp] theorem Junction.setHist_clk (j : Junction) (c : Nat) (h : Hist) : (j.setHist c h).clk = j.clk := rfl
@[simp] theorem Junction.setHist_ext (j : Junction) (c : Nat) (h : Hist) : (j.setHist c h).ext = j.ext := rfl
@[simp] theorem Junction.setHist_ref (j : Junction) (c : Nat) (h : Hist) : (j.setHist c h).ref = j.ref := rfl
@[simp] theorem Junction.setHist_tsIn (j : Junction) (c : Nat) (h : Hist) : (j.setHist c h).tsIn = j.tsIn := rfl
@[simp] theorem Junction.setHist_trig (j : Junction) (c : Nat) (h : Hist) : (j.setHist c h).trig = j.trig := rfl
@[simp] theorem Junction.setHist_pps (j : Junction) (c : Nat) (h : Hist) : (j.setHist c h).pps = j.pps := rfl
@[simp] theorem Junction.setHist_b0 (j : Junction) (c : Nat) (h : Hist) : (j.setHist c h).b0 = j.b0 := rfl
@[simp] theorem Junction.setHist_b1 (j : Junction) (c : Nat) (h : Hist) : (j.setHist c h).b1 = j.b1 := rfl
@[simp] theorem Junction.setHist_old (j : Junction) (c : Nat) (h : Hist) : (j.setHist c h).old = j.old := rfl
@[simp] theorem Junction.setHist_stopAt (j : Junction) (c : Nat) (h : Hist) : (j.setHist c h).stopAt = j.stopAt := rfl
@[simp] theorem Junction.setHist_ports (j : Junction) (c : Nat) (h : Hist) : (j.setHist c h).ports = j.ports := rfl
@[simp] theorem Junction.setHist_shadow (j : Junction) (c : Nat) (h : Hist) : (j.setHist c h).shadow = j.shadow := rfl
@[simp] theorem Junction.setHist_txns (j : Junction) (c : Nat) (h : Hist) : (j.setHist c h).txns = j.txns := rfl
@[simp] theorem Junction.setHist_nextTxn (j : Junction) (c : Nat) (h : Hist) : (j.setHist c h).nextTxn = j.nextTxn := rfl
@[simp] theorem Junction.setHist_lineCfg (j : Junction) (c : Nat) (h : Hist) : (j.setHist c h).lineCfg = j.lineCfg := rfl
@[simp] theorem Junction.setHist_banksRead (j : Junction) (c : Nat) (h : Hist) : (j.setHist c h).banksRead = j.banksRead := rfl
@[simp] theorem Junction.setHist_lineParts (j : Junction) (c : Nat) (h : Hist) : (j.setHist c h).lineParts = j.lineParts := rfl
@[simp] theorem Junction.setHist_ticks (j : Junction) (c : Nat) (h : Hist) : (j.setHist c h).ticks = j.ticks := rfl
@[simp] theorem Junction.setHist_flights (j : Junction) (c : Nat) (h : Hist) : (j.setHist c h).flights = j.flights := rfl
@[simp] theorem Junction.setHist_statPrev (j : Junction) (c : Nat) (h : Hist) : (j.setHist c h).statPrev = j.statPrev := rfl
@[simp] theorem Junction.setHist_det (j : Junction) (c : Nat) (h : Hist) : (j.setHist c h).det = j.det := rfl
@[simp] theorem Junction.setHist_verdictPrev (j : Junction) (c : Nat) (h : Hist) : (j.setHist c h).verdictPrev = j.verdictPrev := rfl
@[simp] theorem Junction.setHist_stats (j : Junction) (c : Nat) (h : Hist) : (j.setHist c h).stats = j.stats := rfl
@[simp] theorem Junction.setHist_exclusions (j : Junction) (c : Nat) (h : Hist) : (j.setHist c h).exclusions = j.exclusions := rfl
@[simp] theorem Junction.setHist_mem (j : Junction) (c : Nat) (h : Hist) : (j.setHist c h).mem = j.mem := rfl
@[simp] theorem Junction.setHist_poisoned (j : Junction) (c : Nat) (h : Hist) : (j.setHist c h).poisoned = j.poisoned := rfl
@[simp] theorem Junction.setHist_store (j : Junction) (c : Nat) (h : Hist) : (j.setHist c h).store = j.store := rfl
@[simp] theorem Junction.setHist_ctxs (j : Junction) (c : Nat) (h : Hist) : (j.setHist c h).ctxs = j.ctxs := rfl
@[simp] theorem Junction.setHist_bundles (j : Junction) (c : Nat) (h : Hist) : (j.setHist c h).bundles = j.bundles := rfl
@[simp] theorem Junction.setHist_wayOps (j : Junction) (c : Nat) (h : Hist) : (j.setHist c h).wayOps = j.wayOps := rfl
@[simp] theorem Junction.setHist_grp (j : Junction) (c : Nat) (h : Hist) : (j.setHist c h).grp = j.grp := rfl
@[simp] theorem Junction.setHist_seqRun (j : Junction) (c : Nat) (h : Hist) : (j.setHist c h).seqRun = j.seqRun := rfl
@[simp] theorem Junction.setHist_fc (j : Junction) (c : Nat) (h : Hist) : (j.setHist c h).fc = j.fc := rfl
@[simp] theorem Junction.setHist_areas (j : Junction) (c : Nat) (h : Hist) : (j.setHist c h).areas = j.areas := rfl
@[simp] theorem Junction.setHist_refs (j : Junction) (c : Nat) (h : Hist) : (j.setHist c h).refs = j.refs := rfl
@[simp] theorem Junction.setHist_shardCnt (j : Junction) (c : Nat) (h : Hist) : (j.setHist c h).shardCnt = j.shardCnt := rfl
@[simp] theorem Junction.setHist_tests (j : Junction) (c : Nat) (h : Hist) : (j.setHist c h).tests = j.tests := rfl
@[simp] theorem Junction.setHist_dies (j : Junction) (c : Nat) (h : Hist) : (j.setHist c h).dies = j.dies := rfl
@[simp] theorem Junction.setHist_slots (j : Junction) (c : Nat) (h : Hist) : (j.setHist c h).slots = j.slots := rfl
@[simp] theorem Junction.setHist_logs (j : Junction) (c : Nat) (h : Hist) : (j.setHist c h).logs = j.logs := rfl
@[simp] theorem Junction.setHist_logRate (j : Junction) (c : Nat) (h : Hist) : (j.setHist c h).logRate = j.logRate := rfl
@[simp] theorem Junction.setHist_logRateNew (j : Junction) (c : Nat) (h : Hist) : (j.setHist c h).logRateNew = j.logRateNew := rfl
@[simp] theorem Junction.setHist_logTokens (j : Junction) (c : Nat) (h : Hist) : (j.setHist c h).logTokens = j.logTokens := rfl
@[simp] theorem Junction.setHist_rateDrop (j : Junction) (c : Nat) (h : Hist) : (j.setHist c h).rateDrop = j.rateDrop := rfl
@[simp] theorem Junction.setHist_ownSeq (j : Junction) (c : Nat) (h : Hist) : (j.setHist c h).ownSeq = j.ownSeq := rfl
@[simp] theorem Junction.setHist_nearFull (j : Junction) (c : Nat) (h : Hist) : (j.setHist c h).nearFull = j.nearFull := rfl
@[simp] theorem Junction.setHist_mail (j : Junction) (c : Nat) (h : Hist) : (j.setHist c h).mail = j.mail := rfl
@[simp] theorem Junction.setHist_hops (j : Junction) (c : Nat) (h : Hist) : (j.setHist c h).hops = j.hops := rfl
@[simp] theorem Junction.setHist_alarms (j : Junction) (c : Nat) (h : Hist) : (j.setHist c h).alarms = j.alarms := rfl
@[simp] theorem Junction.setHist_alarmDrop (j : Junction) (c : Nat) (h : Hist) : (j.setHist c h).alarmDrop = j.alarmDrop := rfl
@[simp] theorem Junction.setHist_notices (j : Junction) (c : Nat) (h : Hist) : (j.setHist c h).notices = j.notices := rfl
@[simp] theorem Junction.setHist_sec (j : Junction) (c : Nat) (h : Hist) : (j.setHist c h).sec = j.sec := rfl
@[simp] theorem Junction.setHist_ballast (j : Junction) (c : Nat) (h : Hist) : (j.setHist c h).ballast = j.ballast := rfl
@[simp] theorem Junction.setHist_crc (j : Junction) (c : Nat) (h : Hist) : (j.setHist c h).crc = j.crc := rfl
@[simp] theorem Junction.setHist_exp (j : Junction) (c : Nat) (h : Hist) : (j.setHist c h).exp = j.exp := rfl
@[simp] theorem Junction.setHist_errs (j : Junction) (c : Nat) (h : Hist) : (j.setHist c h).errs = j.errs := rfl
@[simp] theorem Junction.setHist_latch (j : Junction) (c : Nat) (h : Hist) : (j.setHist c h).latch = j.latch := rfl
@[simp] theorem Junction.setHist_readData (j : Junction) (c : Nat) (h : Hist) : (j.setHist c h).readData = j.readData := rfl
@[simp] theorem Junction.setHist_flush (j : Junction) (c : Nat) (h : Hist) : (j.setHist c h).flush = j.flush := rfl
@[simp] theorem Junction.setHist_cnt (j : Junction) (c : Nat) (h : Hist) : (j.setHist c h).cnt = j.cnt := rfl
@[simp] theorem Junction.setHist_jobSeq (j : Junction) (c : Nat) (h : Hist) : (j.setHist c h).jobSeq = j.jobSeq := rfl

/-! ### Junction.setWork -/

@[simp] theorem Junction.setWork_boot (j : Junction) (w : TickWork) : (j.setWork w).boot = j.boot := rfl
@[simp] theorem Junction.setWork_straps (j : Junction) (w : TickWork) : (j.setWork w).straps = j.straps := rfl
@[simp] theorem Junction.setWork_confirmed (j : Junction) (w : TickWork) : (j.setWork w).confirmed = j.confirmed := rfl
@[simp] theorem Junction.setWork_index (j : Junction) (w : TickWork) : (j.setWork w).index = j.index := rfl
@[simp] theorem Junction.setWork_twin (j : Junction) (w : TickWork) : (j.setWork w).twin = j.twin := rfl
@[simp] theorem Junction.setWork_portMap (j : Junction) (w : TickWork) : (j.setWork w).portMap = j.portMap := rfl
@[simp] theorem Junction.setWork_subtree (j : Junction) (w : TickWork) : (j.setWork w).subtree = j.subtree := rfl
@[simp] theorem Junction.setWork_clk (j : Junction) (w : TickWork) : (j.setWork w).clk = j.clk := rfl
@[simp] theorem Junction.setWork_ext (j : Junction) (w : TickWork) : (j.setWork w).ext = j.ext := rfl
@[simp] theorem Junction.setWork_ref (j : Junction) (w : TickWork) : (j.setWork w).ref = j.ref := rfl
@[simp] theorem Junction.setWork_tsIn (j : Junction) (w : TickWork) : (j.setWork w).tsIn = j.tsIn := rfl
@[simp] theorem Junction.setWork_trig (j : Junction) (w : TickWork) : (j.setWork w).trig = j.trig := rfl
@[simp] theorem Junction.setWork_pps (j : Junction) (w : TickWork) : (j.setWork w).pps = j.pps := rfl
@[simp] theorem Junction.setWork_b0 (j : Junction) (w : TickWork) : (j.setWork w).b0 = j.b0 := rfl
@[simp] theorem Junction.setWork_b1 (j : Junction) (w : TickWork) : (j.setWork w).b1 = j.b1 := rfl
@[simp] theorem Junction.setWork_old (j : Junction) (w : TickWork) : (j.setWork w).old = j.old := rfl
@[simp] theorem Junction.setWork_stopAt (j : Junction) (w : TickWork) : (j.setWork w).stopAt = j.stopAt := rfl
@[simp] theorem Junction.setWork_ports (j : Junction) (w : TickWork) : (j.setWork w).ports = j.ports := rfl
@[simp] theorem Junction.setWork_shadow (j : Junction) (w : TickWork) : (j.setWork w).shadow = j.shadow := rfl
@[simp] theorem Junction.setWork_txns (j : Junction) (w : TickWork) : (j.setWork w).txns = j.txns := rfl
@[simp] theorem Junction.setWork_nextTxn (j : Junction) (w : TickWork) : (j.setWork w).nextTxn = j.nextTxn := rfl
@[simp] theorem Junction.setWork_lineCfg (j : Junction) (w : TickWork) : (j.setWork w).lineCfg = j.lineCfg := rfl
@[simp] theorem Junction.setWork_banksRead (j : Junction) (w : TickWork) : (j.setWork w).banksRead = j.banksRead := rfl
@[simp] theorem Junction.setWork_lineParts (j : Junction) (w : TickWork) : (j.setWork w).lineParts = j.lineParts := rfl
@[simp] theorem Junction.setWork_flights (j : Junction) (w : TickWork) : (j.setWork w).flights = j.flights := rfl
@[simp] theorem Junction.setWork_statPrev (j : Junction) (w : TickWork) : (j.setWork w).statPrev = j.statPrev := rfl
@[simp] theorem Junction.setWork_det (j : Junction) (w : TickWork) : (j.setWork w).det = j.det := rfl
@[simp] theorem Junction.setWork_verdictPrev (j : Junction) (w : TickWork) : (j.setWork w).verdictPrev = j.verdictPrev := rfl
@[simp] theorem Junction.setWork_stats (j : Junction) (w : TickWork) : (j.setWork w).stats = j.stats := rfl
@[simp] theorem Junction.setWork_exclusions (j : Junction) (w : TickWork) : (j.setWork w).exclusions = j.exclusions := rfl
@[simp] theorem Junction.setWork_mem (j : Junction) (w : TickWork) : (j.setWork w).mem = j.mem := rfl
@[simp] theorem Junction.setWork_poisoned (j : Junction) (w : TickWork) : (j.setWork w).poisoned = j.poisoned := rfl
@[simp] theorem Junction.setWork_store (j : Junction) (w : TickWork) : (j.setWork w).store = j.store := rfl
@[simp] theorem Junction.setWork_hist (j : Junction) (w : TickWork) : (j.setWork w).hist = j.hist := rfl
@[simp] theorem Junction.setWork_ctxs (j : Junction) (w : TickWork) : (j.setWork w).ctxs = j.ctxs := rfl
@[simp] theorem Junction.setWork_bundles (j : Junction) (w : TickWork) : (j.setWork w).bundles = j.bundles := rfl
@[simp] theorem Junction.setWork_wayOps (j : Junction) (w : TickWork) : (j.setWork w).wayOps = j.wayOps := rfl
@[simp] theorem Junction.setWork_grp (j : Junction) (w : TickWork) : (j.setWork w).grp = j.grp := rfl
@[simp] theorem Junction.setWork_seqRun (j : Junction) (w : TickWork) : (j.setWork w).seqRun = j.seqRun := rfl
@[simp] theorem Junction.setWork_fc (j : Junction) (w : TickWork) : (j.setWork w).fc = j.fc := rfl
@[simp] theorem Junction.setWork_areas (j : Junction) (w : TickWork) : (j.setWork w).areas = j.areas := rfl
@[simp] theorem Junction.setWork_refs (j : Junction) (w : TickWork) : (j.setWork w).refs = j.refs := rfl
@[simp] theorem Junction.setWork_shardCnt (j : Junction) (w : TickWork) : (j.setWork w).shardCnt = j.shardCnt := rfl
@[simp] theorem Junction.setWork_tests (j : Junction) (w : TickWork) : (j.setWork w).tests = j.tests := rfl
@[simp] theorem Junction.setWork_dies (j : Junction) (w : TickWork) : (j.setWork w).dies = j.dies := rfl
@[simp] theorem Junction.setWork_slots (j : Junction) (w : TickWork) : (j.setWork w).slots = j.slots := rfl
@[simp] theorem Junction.setWork_logs (j : Junction) (w : TickWork) : (j.setWork w).logs = j.logs := rfl
@[simp] theorem Junction.setWork_logRate (j : Junction) (w : TickWork) : (j.setWork w).logRate = j.logRate := rfl
@[simp] theorem Junction.setWork_logRateNew (j : Junction) (w : TickWork) : (j.setWork w).logRateNew = j.logRateNew := rfl
@[simp] theorem Junction.setWork_logTokens (j : Junction) (w : TickWork) : (j.setWork w).logTokens = j.logTokens := rfl
@[simp] theorem Junction.setWork_rateDrop (j : Junction) (w : TickWork) : (j.setWork w).rateDrop = j.rateDrop := rfl
@[simp] theorem Junction.setWork_ownSeq (j : Junction) (w : TickWork) : (j.setWork w).ownSeq = j.ownSeq := rfl
@[simp] theorem Junction.setWork_nearFull (j : Junction) (w : TickWork) : (j.setWork w).nearFull = j.nearFull := rfl
@[simp] theorem Junction.setWork_mail (j : Junction) (w : TickWork) : (j.setWork w).mail = j.mail := rfl
@[simp] theorem Junction.setWork_hops (j : Junction) (w : TickWork) : (j.setWork w).hops = j.hops := rfl
@[simp] theorem Junction.setWork_alarms (j : Junction) (w : TickWork) : (j.setWork w).alarms = j.alarms := rfl
@[simp] theorem Junction.setWork_alarmDrop (j : Junction) (w : TickWork) : (j.setWork w).alarmDrop = j.alarmDrop := rfl
@[simp] theorem Junction.setWork_notices (j : Junction) (w : TickWork) : (j.setWork w).notices = j.notices := rfl
@[simp] theorem Junction.setWork_sec (j : Junction) (w : TickWork) : (j.setWork w).sec = j.sec := rfl
@[simp] theorem Junction.setWork_ballast (j : Junction) (w : TickWork) : (j.setWork w).ballast = j.ballast := rfl
@[simp] theorem Junction.setWork_crc (j : Junction) (w : TickWork) : (j.setWork w).crc = j.crc := rfl
@[simp] theorem Junction.setWork_exp (j : Junction) (w : TickWork) : (j.setWork w).exp = j.exp := rfl
@[simp] theorem Junction.setWork_errs (j : Junction) (w : TickWork) : (j.setWork w).errs = j.errs := rfl
@[simp] theorem Junction.setWork_latch (j : Junction) (w : TickWork) : (j.setWork w).latch = j.latch := rfl
@[simp] theorem Junction.setWork_readData (j : Junction) (w : TickWork) : (j.setWork w).readData = j.readData := rfl
@[simp] theorem Junction.setWork_flush (j : Junction) (w : TickWork) : (j.setWork w).flush = j.flush := rfl
@[simp] theorem Junction.setWork_cnt (j : Junction) (w : TickWork) : (j.setWork w).cnt = j.cnt := rfl
@[simp] theorem Junction.setWork_jobSeq (j : Junction) (w : TickWork) : (j.setWork w).jobSeq = j.jobSeq := rfl

/-! ### Junction.bump -/

@[simp] theorem Junction.bump_boot (j : Junction) (k n : Nat) : (j.bump k n).boot = j.boot := rfl
@[simp] theorem Junction.bump_straps (j : Junction) (k n : Nat) : (j.bump k n).straps = j.straps := rfl
@[simp] theorem Junction.bump_confirmed (j : Junction) (k n : Nat) : (j.bump k n).confirmed = j.confirmed := rfl
@[simp] theorem Junction.bump_index (j : Junction) (k n : Nat) : (j.bump k n).index = j.index := rfl
@[simp] theorem Junction.bump_twin (j : Junction) (k n : Nat) : (j.bump k n).twin = j.twin := rfl
@[simp] theorem Junction.bump_portMap (j : Junction) (k n : Nat) : (j.bump k n).portMap = j.portMap := rfl
@[simp] theorem Junction.bump_subtree (j : Junction) (k n : Nat) : (j.bump k n).subtree = j.subtree := rfl
@[simp] theorem Junction.bump_clk (j : Junction) (k n : Nat) : (j.bump k n).clk = j.clk := rfl
@[simp] theorem Junction.bump_ext (j : Junction) (k n : Nat) : (j.bump k n).ext = j.ext := rfl
@[simp] theorem Junction.bump_ref (j : Junction) (k n : Nat) : (j.bump k n).ref = j.ref := rfl
@[simp] theorem Junction.bump_tsIn (j : Junction) (k n : Nat) : (j.bump k n).tsIn = j.tsIn := rfl
@[simp] theorem Junction.bump_trig (j : Junction) (k n : Nat) : (j.bump k n).trig = j.trig := rfl
@[simp] theorem Junction.bump_pps (j : Junction) (k n : Nat) : (j.bump k n).pps = j.pps := rfl
@[simp] theorem Junction.bump_b0 (j : Junction) (k n : Nat) : (j.bump k n).b0 = j.b0 := rfl
@[simp] theorem Junction.bump_b1 (j : Junction) (k n : Nat) : (j.bump k n).b1 = j.b1 := rfl
@[simp] theorem Junction.bump_old (j : Junction) (k n : Nat) : (j.bump k n).old = j.old := rfl
@[simp] theorem Junction.bump_stopAt (j : Junction) (k n : Nat) : (j.bump k n).stopAt = j.stopAt := rfl
@[simp] theorem Junction.bump_ports (j : Junction) (k n : Nat) : (j.bump k n).ports = j.ports := rfl
@[simp] theorem Junction.bump_shadow (j : Junction) (k n : Nat) : (j.bump k n).shadow = j.shadow := rfl
@[simp] theorem Junction.bump_txns (j : Junction) (k n : Nat) : (j.bump k n).txns = j.txns := rfl
@[simp] theorem Junction.bump_nextTxn (j : Junction) (k n : Nat) : (j.bump k n).nextTxn = j.nextTxn := rfl
@[simp] theorem Junction.bump_lineCfg (j : Junction) (k n : Nat) : (j.bump k n).lineCfg = j.lineCfg := rfl
@[simp] theorem Junction.bump_banksRead (j : Junction) (k n : Nat) : (j.bump k n).banksRead = j.banksRead := rfl
@[simp] theorem Junction.bump_lineParts (j : Junction) (k n : Nat) : (j.bump k n).lineParts = j.lineParts := rfl
@[simp] theorem Junction.bump_ticks (j : Junction) (k n : Nat) : (j.bump k n).ticks = j.ticks := rfl
@[simp] theorem Junction.bump_flights (j : Junction) (k n : Nat) : (j.bump k n).flights = j.flights := rfl
@[simp] theorem Junction.bump_statPrev (j : Junction) (k n : Nat) : (j.bump k n).statPrev = j.statPrev := rfl
@[simp] theorem Junction.bump_det (j : Junction) (k n : Nat) : (j.bump k n).det = j.det := rfl
@[simp] theorem Junction.bump_verdictPrev (j : Junction) (k n : Nat) : (j.bump k n).verdictPrev = j.verdictPrev := rfl
@[simp] theorem Junction.bump_stats (j : Junction) (k n : Nat) : (j.bump k n).stats = j.stats := rfl
@[simp] theorem Junction.bump_exclusions (j : Junction) (k n : Nat) : (j.bump k n).exclusions = j.exclusions := rfl
@[simp] theorem Junction.bump_mem (j : Junction) (k n : Nat) : (j.bump k n).mem = j.mem := rfl
@[simp] theorem Junction.bump_poisoned (j : Junction) (k n : Nat) : (j.bump k n).poisoned = j.poisoned := rfl
@[simp] theorem Junction.bump_store (j : Junction) (k n : Nat) : (j.bump k n).store = j.store := rfl
@[simp] theorem Junction.bump_hist (j : Junction) (k n : Nat) : (j.bump k n).hist = j.hist := rfl
@[simp] theorem Junction.bump_ctxs (j : Junction) (k n : Nat) : (j.bump k n).ctxs = j.ctxs := rfl
@[simp] theorem Junction.bump_bundles (j : Junction) (k n : Nat) : (j.bump k n).bundles = j.bundles := rfl
@[simp] theorem Junction.bump_wayOps (j : Junction) (k n : Nat) : (j.bump k n).wayOps = j.wayOps := rfl
@[simp] theorem Junction.bump_grp (j : Junction) (k n : Nat) : (j.bump k n).grp = j.grp := rfl
@[simp] theorem Junction.bump_seqRun (j : Junction) (k n : Nat) : (j.bump k n).seqRun = j.seqRun := rfl
@[simp] theorem Junction.bump_fc (j : Junction) (k n : Nat) : (j.bump k n).fc = j.fc := rfl
@[simp] theorem Junction.bump_areas (j : Junction) (k n : Nat) : (j.bump k n).areas = j.areas := rfl
@[simp] theorem Junction.bump_refs (j : Junction) (k n : Nat) : (j.bump k n).refs = j.refs := rfl
@[simp] theorem Junction.bump_shardCnt (j : Junction) (k n : Nat) : (j.bump k n).shardCnt = j.shardCnt := rfl
@[simp] theorem Junction.bump_tests (j : Junction) (k n : Nat) : (j.bump k n).tests = j.tests := rfl
@[simp] theorem Junction.bump_dies (j : Junction) (k n : Nat) : (j.bump k n).dies = j.dies := rfl
@[simp] theorem Junction.bump_slots (j : Junction) (k n : Nat) : (j.bump k n).slots = j.slots := rfl
@[simp] theorem Junction.bump_logs (j : Junction) (k n : Nat) : (j.bump k n).logs = j.logs := rfl
@[simp] theorem Junction.bump_logRate (j : Junction) (k n : Nat) : (j.bump k n).logRate = j.logRate := rfl
@[simp] theorem Junction.bump_logRateNew (j : Junction) (k n : Nat) : (j.bump k n).logRateNew = j.logRateNew := rfl
@[simp] theorem Junction.bump_logTokens (j : Junction) (k n : Nat) : (j.bump k n).logTokens = j.logTokens := rfl
@[simp] theorem Junction.bump_rateDrop (j : Junction) (k n : Nat) : (j.bump k n).rateDrop = j.rateDrop := rfl
@[simp] theorem Junction.bump_ownSeq (j : Junction) (k n : Nat) : (j.bump k n).ownSeq = j.ownSeq := rfl
@[simp] theorem Junction.bump_nearFull (j : Junction) (k n : Nat) : (j.bump k n).nearFull = j.nearFull := rfl
@[simp] theorem Junction.bump_mail (j : Junction) (k n : Nat) : (j.bump k n).mail = j.mail := rfl
@[simp] theorem Junction.bump_hops (j : Junction) (k n : Nat) : (j.bump k n).hops = j.hops := rfl
@[simp] theorem Junction.bump_alarms (j : Junction) (k n : Nat) : (j.bump k n).alarms = j.alarms := rfl
@[simp] theorem Junction.bump_alarmDrop (j : Junction) (k n : Nat) : (j.bump k n).alarmDrop = j.alarmDrop := rfl
@[simp] theorem Junction.bump_notices (j : Junction) (k n : Nat) : (j.bump k n).notices = j.notices := rfl
@[simp] theorem Junction.bump_sec (j : Junction) (k n : Nat) : (j.bump k n).sec = j.sec := rfl
@[simp] theorem Junction.bump_ballast (j : Junction) (k n : Nat) : (j.bump k n).ballast = j.ballast := rfl
@[simp] theorem Junction.bump_crc (j : Junction) (k n : Nat) : (j.bump k n).crc = j.crc := rfl
@[simp] theorem Junction.bump_exp (j : Junction) (k n : Nat) : (j.bump k n).exp = j.exp := rfl
@[simp] theorem Junction.bump_errs (j : Junction) (k n : Nat) : (j.bump k n).errs = j.errs := rfl
@[simp] theorem Junction.bump_latch (j : Junction) (k n : Nat) : (j.bump k n).latch = j.latch := rfl
@[simp] theorem Junction.bump_readData (j : Junction) (k n : Nat) : (j.bump k n).readData = j.readData := rfl
@[simp] theorem Junction.bump_flush (j : Junction) (k n : Nat) : (j.bump k n).flush = j.flush := rfl
@[simp] theorem Junction.bump_jobSeq (j : Junction) (k n : Nat) : (j.bump k n).jobSeq = j.jobSeq := rfl

/-! ### Junction.setEngine -/

@[simp] theorem Junction.setEngine_boot (j : Junction) (i : Nat) (e : CrcEng) : (j.setEngine i e).boot = j.boot := rfl
@[simp] theorem Junction.setEngine_straps (j : Junction) (i : Nat) (e : CrcEng) : (j.setEngine i e).straps = j.straps := rfl
@[simp] theorem Junction.setEngine_confirmed (j : Junction) (i : Nat) (e : CrcEng) : (j.setEngine i e).confirmed = j.confirmed := rfl
@[simp] theorem Junction.setEngine_index (j : Junction) (i : Nat) (e : CrcEng) : (j.setEngine i e).index = j.index := rfl
@[simp] theorem Junction.setEngine_twin (j : Junction) (i : Nat) (e : CrcEng) : (j.setEngine i e).twin = j.twin := rfl
@[simp] theorem Junction.setEngine_portMap (j : Junction) (i : Nat) (e : CrcEng) : (j.setEngine i e).portMap = j.portMap := rfl
@[simp] theorem Junction.setEngine_subtree (j : Junction) (i : Nat) (e : CrcEng) : (j.setEngine i e).subtree = j.subtree := rfl
@[simp] theorem Junction.setEngine_clk (j : Junction) (i : Nat) (e : CrcEng) : (j.setEngine i e).clk = j.clk := rfl
@[simp] theorem Junction.setEngine_ext (j : Junction) (i : Nat) (e : CrcEng) : (j.setEngine i e).ext = j.ext := rfl
@[simp] theorem Junction.setEngine_ref (j : Junction) (i : Nat) (e : CrcEng) : (j.setEngine i e).ref = j.ref := rfl
@[simp] theorem Junction.setEngine_tsIn (j : Junction) (i : Nat) (e : CrcEng) : (j.setEngine i e).tsIn = j.tsIn := rfl
@[simp] theorem Junction.setEngine_trig (j : Junction) (i : Nat) (e : CrcEng) : (j.setEngine i e).trig = j.trig := rfl
@[simp] theorem Junction.setEngine_pps (j : Junction) (i : Nat) (e : CrcEng) : (j.setEngine i e).pps = j.pps := rfl
@[simp] theorem Junction.setEngine_b0 (j : Junction) (i : Nat) (e : CrcEng) : (j.setEngine i e).b0 = j.b0 := rfl
@[simp] theorem Junction.setEngine_b1 (j : Junction) (i : Nat) (e : CrcEng) : (j.setEngine i e).b1 = j.b1 := rfl
@[simp] theorem Junction.setEngine_old (j : Junction) (i : Nat) (e : CrcEng) : (j.setEngine i e).old = j.old := rfl
@[simp] theorem Junction.setEngine_stopAt (j : Junction) (i : Nat) (e : CrcEng) : (j.setEngine i e).stopAt = j.stopAt := rfl
@[simp] theorem Junction.setEngine_ports (j : Junction) (i : Nat) (e : CrcEng) : (j.setEngine i e).ports = j.ports := rfl
@[simp] theorem Junction.setEngine_shadow (j : Junction) (i : Nat) (e : CrcEng) : (j.setEngine i e).shadow = j.shadow := rfl
@[simp] theorem Junction.setEngine_txns (j : Junction) (i : Nat) (e : CrcEng) : (j.setEngine i e).txns = j.txns := rfl
@[simp] theorem Junction.setEngine_nextTxn (j : Junction) (i : Nat) (e : CrcEng) : (j.setEngine i e).nextTxn = j.nextTxn := rfl
@[simp] theorem Junction.setEngine_lineCfg (j : Junction) (i : Nat) (e : CrcEng) : (j.setEngine i e).lineCfg = j.lineCfg := rfl
@[simp] theorem Junction.setEngine_banksRead (j : Junction) (i : Nat) (e : CrcEng) : (j.setEngine i e).banksRead = j.banksRead := rfl
@[simp] theorem Junction.setEngine_lineParts (j : Junction) (i : Nat) (e : CrcEng) : (j.setEngine i e).lineParts = j.lineParts := rfl
@[simp] theorem Junction.setEngine_ticks (j : Junction) (i : Nat) (e : CrcEng) : (j.setEngine i e).ticks = j.ticks := rfl
@[simp] theorem Junction.setEngine_flights (j : Junction) (i : Nat) (e : CrcEng) : (j.setEngine i e).flights = j.flights := rfl
@[simp] theorem Junction.setEngine_statPrev (j : Junction) (i : Nat) (e : CrcEng) : (j.setEngine i e).statPrev = j.statPrev := rfl
@[simp] theorem Junction.setEngine_det (j : Junction) (i : Nat) (e : CrcEng) : (j.setEngine i e).det = j.det := rfl
@[simp] theorem Junction.setEngine_verdictPrev (j : Junction) (i : Nat) (e : CrcEng) : (j.setEngine i e).verdictPrev = j.verdictPrev := rfl
@[simp] theorem Junction.setEngine_stats (j : Junction) (i : Nat) (e : CrcEng) : (j.setEngine i e).stats = j.stats := rfl
@[simp] theorem Junction.setEngine_exclusions (j : Junction) (i : Nat) (e : CrcEng) : (j.setEngine i e).exclusions = j.exclusions := rfl
@[simp] theorem Junction.setEngine_mem (j : Junction) (i : Nat) (e : CrcEng) : (j.setEngine i e).mem = j.mem := rfl
@[simp] theorem Junction.setEngine_poisoned (j : Junction) (i : Nat) (e : CrcEng) : (j.setEngine i e).poisoned = j.poisoned := rfl
@[simp] theorem Junction.setEngine_store (j : Junction) (i : Nat) (e : CrcEng) : (j.setEngine i e).store = j.store := rfl
@[simp] theorem Junction.setEngine_hist (j : Junction) (i : Nat) (e : CrcEng) : (j.setEngine i e).hist = j.hist := rfl
@[simp] theorem Junction.setEngine_ctxs (j : Junction) (i : Nat) (e : CrcEng) : (j.setEngine i e).ctxs = j.ctxs := rfl
@[simp] theorem Junction.setEngine_bundles (j : Junction) (i : Nat) (e : CrcEng) : (j.setEngine i e).bundles = j.bundles := rfl
@[simp] theorem Junction.setEngine_wayOps (j : Junction) (i : Nat) (e : CrcEng) : (j.setEngine i e).wayOps = j.wayOps := rfl
@[simp] theorem Junction.setEngine_grp (j : Junction) (i : Nat) (e : CrcEng) : (j.setEngine i e).grp = j.grp := rfl
@[simp] theorem Junction.setEngine_seqRun (j : Junction) (i : Nat) (e : CrcEng) : (j.setEngine i e).seqRun = j.seqRun := rfl
@[simp] theorem Junction.setEngine_fc (j : Junction) (i : Nat) (e : CrcEng) : (j.setEngine i e).fc = j.fc := rfl
@[simp] theorem Junction.setEngine_areas (j : Junction) (i : Nat) (e : CrcEng) : (j.setEngine i e).areas = j.areas := rfl
@[simp] theorem Junction.setEngine_refs (j : Junction) (i : Nat) (e : CrcEng) : (j.setEngine i e).refs = j.refs := rfl
@[simp] theorem Junction.setEngine_shardCnt (j : Junction) (i : Nat) (e : CrcEng) : (j.setEngine i e).shardCnt = j.shardCnt := rfl
@[simp] theorem Junction.setEngine_tests (j : Junction) (i : Nat) (e : CrcEng) : (j.setEngine i e).tests = j.tests := rfl
@[simp] theorem Junction.setEngine_dies (j : Junction) (i : Nat) (e : CrcEng) : (j.setEngine i e).dies = j.dies := rfl
@[simp] theorem Junction.setEngine_slots (j : Junction) (i : Nat) (e : CrcEng) : (j.setEngine i e).slots = j.slots := rfl
@[simp] theorem Junction.setEngine_logs (j : Junction) (i : Nat) (e : CrcEng) : (j.setEngine i e).logs = j.logs := rfl
@[simp] theorem Junction.setEngine_logRate (j : Junction) (i : Nat) (e : CrcEng) : (j.setEngine i e).logRate = j.logRate := rfl
@[simp] theorem Junction.setEngine_logRateNew (j : Junction) (i : Nat) (e : CrcEng) : (j.setEngine i e).logRateNew = j.logRateNew := rfl
@[simp] theorem Junction.setEngine_logTokens (j : Junction) (i : Nat) (e : CrcEng) : (j.setEngine i e).logTokens = j.logTokens := rfl
@[simp] theorem Junction.setEngine_rateDrop (j : Junction) (i : Nat) (e : CrcEng) : (j.setEngine i e).rateDrop = j.rateDrop := rfl
@[simp] theorem Junction.setEngine_ownSeq (j : Junction) (i : Nat) (e : CrcEng) : (j.setEngine i e).ownSeq = j.ownSeq := rfl
@[simp] theorem Junction.setEngine_nearFull (j : Junction) (i : Nat) (e : CrcEng) : (j.setEngine i e).nearFull = j.nearFull := rfl
@[simp] theorem Junction.setEngine_mail (j : Junction) (i : Nat) (e : CrcEng) : (j.setEngine i e).mail = j.mail := rfl
@[simp] theorem Junction.setEngine_hops (j : Junction) (i : Nat) (e : CrcEng) : (j.setEngine i e).hops = j.hops := rfl
@[simp] theorem Junction.setEngine_alarms (j : Junction) (i : Nat) (e : CrcEng) : (j.setEngine i e).alarms = j.alarms := rfl
@[simp] theorem Junction.setEngine_alarmDrop (j : Junction) (i : Nat) (e : CrcEng) : (j.setEngine i e).alarmDrop = j.alarmDrop := rfl
@[simp] theorem Junction.setEngine_notices (j : Junction) (i : Nat) (e : CrcEng) : (j.setEngine i e).notices = j.notices := rfl
@[simp] theorem Junction.setEngine_sec (j : Junction) (i : Nat) (e : CrcEng) : (j.setEngine i e).sec = j.sec := rfl
@[simp] theorem Junction.setEngine_ballast (j : Junction) (i : Nat) (e : CrcEng) : (j.setEngine i e).ballast = j.ballast := rfl
@[simp] theorem Junction.setEngine_exp (j : Junction) (i : Nat) (e : CrcEng) : (j.setEngine i e).exp = j.exp := rfl
@[simp] theorem Junction.setEngine_errs (j : Junction) (i : Nat) (e : CrcEng) : (j.setEngine i e).errs = j.errs := rfl
@[simp] theorem Junction.setEngine_latch (j : Junction) (i : Nat) (e : CrcEng) : (j.setEngine i e).latch = j.latch := rfl
@[simp] theorem Junction.setEngine_readData (j : Junction) (i : Nat) (e : CrcEng) : (j.setEngine i e).readData = j.readData := rfl
@[simp] theorem Junction.setEngine_flush (j : Junction) (i : Nat) (e : CrcEng) : (j.setEngine i e).flush = j.flush := rfl
@[simp] theorem Junction.setEngine_cnt (j : Junction) (i : Nat) (e : CrcEng) : (j.setEngine i e).cnt = j.cnt := rfl
@[simp] theorem Junction.setEngine_jobSeq (j : Junction) (i : Nat) (e : CrcEng) : (j.setEngine i e).jobSeq = j.jobSeq := rfl

/-! ### Junction.error -/

@[simp] theorem Junction.error_boot (j : Junction) (a b c : Nat) : (j.error a b c).boot = j.boot := rfl
@[simp] theorem Junction.error_straps (j : Junction) (a b c : Nat) : (j.error a b c).straps = j.straps := rfl
@[simp] theorem Junction.error_confirmed (j : Junction) (a b c : Nat) : (j.error a b c).confirmed = j.confirmed := rfl
@[simp] theorem Junction.error_index (j : Junction) (a b c : Nat) : (j.error a b c).index = j.index := rfl
@[simp] theorem Junction.error_twin (j : Junction) (a b c : Nat) : (j.error a b c).twin = j.twin := rfl
@[simp] theorem Junction.error_portMap (j : Junction) (a b c : Nat) : (j.error a b c).portMap = j.portMap := rfl
@[simp] theorem Junction.error_subtree (j : Junction) (a b c : Nat) : (j.error a b c).subtree = j.subtree := rfl
@[simp] theorem Junction.error_clk (j : Junction) (a b c : Nat) : (j.error a b c).clk = j.clk := rfl
@[simp] theorem Junction.error_ext (j : Junction) (a b c : Nat) : (j.error a b c).ext = j.ext := rfl
@[simp] theorem Junction.error_ref (j : Junction) (a b c : Nat) : (j.error a b c).ref = j.ref := rfl
@[simp] theorem Junction.error_tsIn (j : Junction) (a b c : Nat) : (j.error a b c).tsIn = j.tsIn := rfl
@[simp] theorem Junction.error_trig (j : Junction) (a b c : Nat) : (j.error a b c).trig = j.trig := rfl
@[simp] theorem Junction.error_pps (j : Junction) (a b c : Nat) : (j.error a b c).pps = j.pps := rfl
@[simp] theorem Junction.error_b0 (j : Junction) (a b c : Nat) : (j.error a b c).b0 = j.b0 := rfl
@[simp] theorem Junction.error_b1 (j : Junction) (a b c : Nat) : (j.error a b c).b1 = j.b1 := rfl
@[simp] theorem Junction.error_old (j : Junction) (a b c : Nat) : (j.error a b c).old = j.old := rfl
@[simp] theorem Junction.error_stopAt (j : Junction) (a b c : Nat) : (j.error a b c).stopAt = j.stopAt := rfl
@[simp] theorem Junction.error_ports (j : Junction) (a b c : Nat) : (j.error a b c).ports = j.ports := rfl
@[simp] theorem Junction.error_shadow (j : Junction) (a b c : Nat) : (j.error a b c).shadow = j.shadow := rfl
@[simp] theorem Junction.error_txns (j : Junction) (a b c : Nat) : (j.error a b c).txns = j.txns := rfl
@[simp] theorem Junction.error_nextTxn (j : Junction) (a b c : Nat) : (j.error a b c).nextTxn = j.nextTxn := rfl
@[simp] theorem Junction.error_lineCfg (j : Junction) (a b c : Nat) : (j.error a b c).lineCfg = j.lineCfg := rfl
@[simp] theorem Junction.error_banksRead (j : Junction) (a b c : Nat) : (j.error a b c).banksRead = j.banksRead := rfl
@[simp] theorem Junction.error_lineParts (j : Junction) (a b c : Nat) : (j.error a b c).lineParts = j.lineParts := rfl
@[simp] theorem Junction.error_ticks (j : Junction) (a b c : Nat) : (j.error a b c).ticks = j.ticks := rfl
@[simp] theorem Junction.error_flights (j : Junction) (a b c : Nat) : (j.error a b c).flights = j.flights := rfl
@[simp] theorem Junction.error_statPrev (j : Junction) (a b c : Nat) : (j.error a b c).statPrev = j.statPrev := rfl
@[simp] theorem Junction.error_det (j : Junction) (a b c : Nat) : (j.error a b c).det = j.det := rfl
@[simp] theorem Junction.error_verdictPrev (j : Junction) (a b c : Nat) : (j.error a b c).verdictPrev = j.verdictPrev := rfl
@[simp] theorem Junction.error_stats (j : Junction) (a b c : Nat) : (j.error a b c).stats = j.stats := rfl
@[simp] theorem Junction.error_exclusions (j : Junction) (a b c : Nat) : (j.error a b c).exclusions = j.exclusions := rfl
@[simp] theorem Junction.error_mem (j : Junction) (a b c : Nat) : (j.error a b c).mem = j.mem := rfl
@[simp] theorem Junction.error_poisoned (j : Junction) (a b c : Nat) : (j.error a b c).poisoned = j.poisoned := rfl
@[simp] theorem Junction.error_store (j : Junction) (a b c : Nat) : (j.error a b c).store = j.store := rfl
@[simp] theorem Junction.error_hist (j : Junction) (a b c : Nat) : (j.error a b c).hist = j.hist := rfl
@[simp] theorem Junction.error_ctxs (j : Junction) (a b c : Nat) : (j.error a b c).ctxs = j.ctxs := rfl
@[simp] theorem Junction.error_bundles (j : Junction) (a b c : Nat) : (j.error a b c).bundles = j.bundles := rfl
@[simp] theorem Junction.error_wayOps (j : Junction) (a b c : Nat) : (j.error a b c).wayOps = j.wayOps := rfl
@[simp] theorem Junction.error_grp (j : Junction) (a b c : Nat) : (j.error a b c).grp = j.grp := rfl
@[simp] theorem Junction.error_seqRun (j : Junction) (a b c : Nat) : (j.error a b c).seqRun = j.seqRun := rfl
@[simp] theorem Junction.error_fc (j : Junction) (a b c : Nat) : (j.error a b c).fc = j.fc := rfl
@[simp] theorem Junction.error_areas (j : Junction) (a b c : Nat) : (j.error a b c).areas = j.areas := rfl
@[simp] theorem Junction.error_refs (j : Junction) (a b c : Nat) : (j.error a b c).refs = j.refs := rfl
@[simp] theorem Junction.error_shardCnt (j : Junction) (a b c : Nat) : (j.error a b c).shardCnt = j.shardCnt := rfl
@[simp] theorem Junction.error_tests (j : Junction) (a b c : Nat) : (j.error a b c).tests = j.tests := rfl
@[simp] theorem Junction.error_dies (j : Junction) (a b c : Nat) : (j.error a b c).dies = j.dies := rfl
@[simp] theorem Junction.error_slots (j : Junction) (a b c : Nat) : (j.error a b c).slots = j.slots := rfl
@[simp] theorem Junction.error_logs (j : Junction) (a b c : Nat) : (j.error a b c).logs = j.logs := rfl
@[simp] theorem Junction.error_logRate (j : Junction) (a b c : Nat) : (j.error a b c).logRate = j.logRate := rfl
@[simp] theorem Junction.error_logRateNew (j : Junction) (a b c : Nat) : (j.error a b c).logRateNew = j.logRateNew := rfl
@[simp] theorem Junction.error_logTokens (j : Junction) (a b c : Nat) : (j.error a b c).logTokens = j.logTokens := rfl
@[simp] theorem Junction.error_rateDrop (j : Junction) (a b c : Nat) : (j.error a b c).rateDrop = j.rateDrop := rfl
@[simp] theorem Junction.error_ownSeq (j : Junction) (a b c : Nat) : (j.error a b c).ownSeq = j.ownSeq := rfl
@[simp] theorem Junction.error_nearFull (j : Junction) (a b c : Nat) : (j.error a b c).nearFull = j.nearFull := rfl
@[simp] theorem Junction.error_mail (j : Junction) (a b c : Nat) : (j.error a b c).mail = j.mail := rfl
@[simp] theorem Junction.error_hops (j : Junction) (a b c : Nat) : (j.error a b c).hops = j.hops := rfl
@[simp] theorem Junction.error_alarms (j : Junction) (a b c : Nat) : (j.error a b c).alarms = j.alarms := rfl
@[simp] theorem Junction.error_alarmDrop (j : Junction) (a b c : Nat) : (j.error a b c).alarmDrop = j.alarmDrop := rfl
@[simp] theorem Junction.error_notices (j : Junction) (a b c : Nat) : (j.error a b c).notices = j.notices := rfl
@[simp] theorem Junction.error_sec (j : Junction) (a b c : Nat) : (j.error a b c).sec = j.sec := rfl
@[simp] theorem Junction.error_ballast (j : Junction) (a b c : Nat) : (j.error a b c).ballast = j.ballast := rfl
@[simp] theorem Junction.error_crc (j : Junction) (a b c : Nat) : (j.error a b c).crc = j.crc := rfl
@[simp] theorem Junction.error_exp (j : Junction) (a b c : Nat) : (j.error a b c).exp = j.exp := rfl
@[simp] theorem Junction.error_latch (j : Junction) (a b c : Nat) : (j.error a b c).latch = j.latch := rfl
@[simp] theorem Junction.error_readData (j : Junction) (a b c : Nat) : (j.error a b c).readData = j.readData := rfl
@[simp] theorem Junction.error_flush (j : Junction) (a b c : Nat) : (j.error a b c).flush = j.flush := rfl
@[simp] theorem Junction.error_cnt (j : Junction) (a b c : Nat) : (j.error a b c).cnt = j.cnt := rfl
@[simp] theorem Junction.error_jobSeq (j : Junction) (a b c : Nat) : (j.error a b c).jobSeq = j.jobSeq := rfl

/-! ### Junction.setFw -/

@[simp] theorem Junction.setFw_boot (j : Junction) (f : Fw) : (j.setFw f).boot = j.boot := rfl
@[simp] theorem Junction.setFw_straps (j : Junction) (f : Fw) : (j.setFw f).straps = j.straps := rfl
@[simp] theorem Junction.setFw_confirmed (j : Junction) (f : Fw) : (j.setFw f).confirmed = j.confirmed := rfl
@[simp] theorem Junction.setFw_index (j : Junction) (f : Fw) : (j.setFw f).index = j.index := rfl
@[simp] theorem Junction.setFw_twin (j : Junction) (f : Fw) : (j.setFw f).twin = j.twin := rfl
@[simp] theorem Junction.setFw_portMap (j : Junction) (f : Fw) : (j.setFw f).portMap = j.portMap := rfl
@[simp] theorem Junction.setFw_subtree (j : Junction) (f : Fw) : (j.setFw f).subtree = j.subtree := rfl
@[simp] theorem Junction.setFw_clk (j : Junction) (f : Fw) : (j.setFw f).clk = j.clk := rfl
@[simp] theorem Junction.setFw_ext (j : Junction) (f : Fw) : (j.setFw f).ext = j.ext := rfl
@[simp] theorem Junction.setFw_ref (j : Junction) (f : Fw) : (j.setFw f).ref = j.ref := rfl
@[simp] theorem Junction.setFw_tsIn (j : Junction) (f : Fw) : (j.setFw f).tsIn = j.tsIn := rfl
@[simp] theorem Junction.setFw_trig (j : Junction) (f : Fw) : (j.setFw f).trig = j.trig := rfl
@[simp] theorem Junction.setFw_pps (j : Junction) (f : Fw) : (j.setFw f).pps = j.pps := rfl
@[simp] theorem Junction.setFw_b0 (j : Junction) (f : Fw) : (j.setFw f).b0 = j.b0 := rfl
@[simp] theorem Junction.setFw_b1 (j : Junction) (f : Fw) : (j.setFw f).b1 = j.b1 := rfl
@[simp] theorem Junction.setFw_old (j : Junction) (f : Fw) : (j.setFw f).old = j.old := rfl
@[simp] theorem Junction.setFw_stopAt (j : Junction) (f : Fw) : (j.setFw f).stopAt = j.stopAt := rfl
@[simp] theorem Junction.setFw_ports (j : Junction) (f : Fw) : (j.setFw f).ports = j.ports := rfl
@[simp] theorem Junction.setFw_shadow (j : Junction) (f : Fw) : (j.setFw f).shadow = j.shadow := rfl
@[simp] theorem Junction.setFw_txns (j : Junction) (f : Fw) : (j.setFw f).txns = j.txns := rfl
@[simp] theorem Junction.setFw_nextTxn (j : Junction) (f : Fw) : (j.setFw f).nextTxn = j.nextTxn := rfl
@[simp] theorem Junction.setFw_lineCfg (j : Junction) (f : Fw) : (j.setFw f).lineCfg = j.lineCfg := rfl
@[simp] theorem Junction.setFw_banksRead (j : Junction) (f : Fw) : (j.setFw f).banksRead = j.banksRead := rfl
@[simp] theorem Junction.setFw_lineParts (j : Junction) (f : Fw) : (j.setFw f).lineParts = j.lineParts := rfl
@[simp] theorem Junction.setFw_ticks (j : Junction) (f : Fw) : (j.setFw f).ticks = j.ticks := rfl
@[simp] theorem Junction.setFw_flights (j : Junction) (f : Fw) : (j.setFw f).flights = j.flights := rfl
@[simp] theorem Junction.setFw_statPrev (j : Junction) (f : Fw) : (j.setFw f).statPrev = j.statPrev := rfl
@[simp] theorem Junction.setFw_det (j : Junction) (f : Fw) : (j.setFw f).det = j.det := rfl
@[simp] theorem Junction.setFw_verdictPrev (j : Junction) (f : Fw) : (j.setFw f).verdictPrev = j.verdictPrev := rfl
@[simp] theorem Junction.setFw_stats (j : Junction) (f : Fw) : (j.setFw f).stats = j.stats := rfl
@[simp] theorem Junction.setFw_exclusions (j : Junction) (f : Fw) : (j.setFw f).exclusions = j.exclusions := rfl
@[simp] theorem Junction.setFw_mem (j : Junction) (f : Fw) : (j.setFw f).mem = j.mem := rfl
@[simp] theorem Junction.setFw_poisoned (j : Junction) (f : Fw) : (j.setFw f).poisoned = j.poisoned := rfl
@[simp] theorem Junction.setFw_store (j : Junction) (f : Fw) : (j.setFw f).store = j.store := rfl
@[simp] theorem Junction.setFw_hist (j : Junction) (f : Fw) : (j.setFw f).hist = j.hist := rfl
@[simp] theorem Junction.setFw_ctxs (j : Junction) (f : Fw) : (j.setFw f).ctxs = j.ctxs := rfl
@[simp] theorem Junction.setFw_bundles (j : Junction) (f : Fw) : (j.setFw f).bundles = j.bundles := rfl
@[simp] theorem Junction.setFw_wayOps (j : Junction) (f : Fw) : (j.setFw f).wayOps = j.wayOps := rfl
@[simp] theorem Junction.setFw_grp (j : Junction) (f : Fw) : (j.setFw f).grp = j.grp := rfl
@[simp] theorem Junction.setFw_seqRun (j : Junction) (f : Fw) : (j.setFw f).seqRun = j.seqRun := rfl
@[simp] theorem Junction.setFw_fc (j : Junction) (f : Fw) : (j.setFw f).fc = j.fc := rfl
@[simp] theorem Junction.setFw_areas (j : Junction) (f : Fw) : (j.setFw f).areas = j.areas := rfl
@[simp] theorem Junction.setFw_refs (j : Junction) (f : Fw) : (j.setFw f).refs = j.refs := rfl
@[simp] theorem Junction.setFw_shardCnt (j : Junction) (f : Fw) : (j.setFw f).shardCnt = j.shardCnt := rfl
@[simp] theorem Junction.setFw_tests (j : Junction) (f : Fw) : (j.setFw f).tests = j.tests := rfl
@[simp] theorem Junction.setFw_dies (j : Junction) (f : Fw) : (j.setFw f).dies = j.dies := rfl
@[simp] theorem Junction.setFw_slots (j : Junction) (f : Fw) : (j.setFw f).slots = j.slots := rfl
@[simp] theorem Junction.setFw_logs (j : Junction) (f : Fw) : (j.setFw f).logs = j.logs := rfl
@[simp] theorem Junction.setFw_logRate (j : Junction) (f : Fw) : (j.setFw f).logRate = j.logRate := rfl
@[simp] theorem Junction.setFw_logRateNew (j : Junction) (f : Fw) : (j.setFw f).logRateNew = j.logRateNew := rfl
@[simp] theorem Junction.setFw_logTokens (j : Junction) (f : Fw) : (j.setFw f).logTokens = j.logTokens := rfl
@[simp] theorem Junction.setFw_rateDrop (j : Junction) (f : Fw) : (j.setFw f).rateDrop = j.rateDrop := rfl
@[simp] theorem Junction.setFw_ownSeq (j : Junction) (f : Fw) : (j.setFw f).ownSeq = j.ownSeq := rfl
@[simp] theorem Junction.setFw_nearFull (j : Junction) (f : Fw) : (j.setFw f).nearFull = j.nearFull := rfl
@[simp] theorem Junction.setFw_mail (j : Junction) (f : Fw) : (j.setFw f).mail = j.mail := rfl
@[simp] theorem Junction.setFw_hops (j : Junction) (f : Fw) : (j.setFw f).hops = j.hops := rfl
@[simp] theorem Junction.setFw_alarms (j : Junction) (f : Fw) : (j.setFw f).alarms = j.alarms := rfl
@[simp] theorem Junction.setFw_alarmDrop (j : Junction) (f : Fw) : (j.setFw f).alarmDrop = j.alarmDrop := rfl
@[simp] theorem Junction.setFw_notices (j : Junction) (f : Fw) : (j.setFw f).notices = j.notices := rfl
@[simp] theorem Junction.setFw_ballast (j : Junction) (f : Fw) : (j.setFw f).ballast = j.ballast := rfl
@[simp] theorem Junction.setFw_crc (j : Junction) (f : Fw) : (j.setFw f).crc = j.crc := rfl
@[simp] theorem Junction.setFw_exp (j : Junction) (f : Fw) : (j.setFw f).exp = j.exp := rfl
@[simp] theorem Junction.setFw_errs (j : Junction) (f : Fw) : (j.setFw f).errs = j.errs := rfl
@[simp] theorem Junction.setFw_latch (j : Junction) (f : Fw) : (j.setFw f).latch = j.latch := rfl
@[simp] theorem Junction.setFw_readData (j : Junction) (f : Fw) : (j.setFw f).readData = j.readData := rfl
@[simp] theorem Junction.setFw_flush (j : Junction) (f : Fw) : (j.setFw f).flush = j.flush := rfl
@[simp] theorem Junction.setFw_cnt (j : Junction) (f : Fw) : (j.setFw f).cnt = j.cnt := rfl
@[simp] theorem Junction.setFw_jobSeq (j : Junction) (f : Fw) : (j.setFw f).jobSeq = j.jobSeq := rfl

/-! ### Ls.setReg -/

@[simp] theorem Ls.setReg_clk (s : Ls) (a v : Nat) : (s.setReg a v).clk = s.clk := rfl
@[simp] theorem Ls.setReg_mainOn (s : Ls) (a v : Nat) : (s.setReg a v).mainOn = s.mainOn := rfl
@[simp] theorem Ls.setReg_inService (s : Ls) (a v : Nat) : (s.setReg a v).inService = s.inService := rfl
@[simp] theorem Ls.setReg_die (s : Ls) (a v : Nat) : (s.setReg a v).die = s.die := rfl
@[simp] theorem Ls.setReg_dieValid (s : Ls) (a v : Nat) : (s.setReg a v).dieValid = s.dieValid := rfl
@[simp] theorem Ls.setReg_configured (s : Ls) (a v : Nat) : (s.setReg a v).configured = s.configured := rfl
@[simp] theorem Ls.setReg_host (s : Ls) (a v : Nat) : (s.setReg a v).host = s.host := rfl
@[simp] theorem Ls.setReg_pins (s : Ls) (a v : Nat) : (s.setReg a v).pins = s.pins := rfl
@[simp] theorem Ls.setReg_smp (s : Ls) (a v : Nat) : (s.setReg a v).smp = s.smp := rfl
@[simp] theorem Ls.setReg_lag (s : Ls) (a v : Nat) : (s.setReg a v).lag = s.lag := rfl
@[simp] theorem Ls.setReg_banks (s : Ls) (a v : Nat) : (s.setReg a v).banks = s.banks := rfl
@[simp] theorem Ls.setReg_trace (s : Ls) (a v : Nat) : (s.setReg a v).trace = s.trace := rfl
@[simp] theorem Ls.setReg_qsnap (s : Ls) (a v : Nat) : (s.setReg a v).qsnap = s.qsnap := rfl
@[simp] theorem Ls.setReg_bp (s : Ls) (a v : Nat) : (s.setReg a v).bp = s.bp := rfl
@[simp] theorem Ls.setReg_halt (s : Ls) (a v : Nat) : (s.setReg a v).halt = s.halt := rfl
@[simp] theorem Ls.setReg_scan (s : Ls) (a v : Nat) : (s.setReg a v).scan = s.scan := rfl
@[simp] theorem Ls.setReg_log (s : Ls) (a v : Nat) : (s.setReg a v).log = s.log := rfl
@[simp] theorem Ls.setReg_tab (s : Ls) (a v : Nat) : (s.setReg a v).tab = s.tab := rfl
@[simp] theorem Ls.setReg_poison (s : Ls) (a v : Nat) : (s.setReg a v).poison = s.poison := rfl
@[simp] theorem Ls.setReg_slots (s : Ls) (a v : Nat) : (s.setReg a v).slots = s.slots := rfl
@[simp] theorem Ls.setReg_slotIgnored (s : Ls) (a v : Nat) : (s.setReg a v).slotIgnored = s.slotIgnored := rfl
@[simp] theorem Ls.setReg_fenceHold (s : Ls) (a v : Nat) : (s.setReg a v).fenceHold = s.fenceHold := rfl
@[simp] theorem Ls.setReg_fenceLow (s : Ls) (a v : Nat) : (s.setReg a v).fenceLow = s.fenceLow := rfl
@[simp] theorem Ls.setReg_fenceIgnored (s : Ls) (a v : Nat) : (s.setReg a v).fenceIgnored = s.fenceIgnored := rfl
@[simp] theorem Ls.setReg_crc (s : Ls) (a v : Nat) : (s.setReg a v).crc = s.crc := rfl
@[simp] theorem Ls.setReg_istat (s : Ls) (a v : Nat) : (s.setReg a v).istat = s.istat := rfl
@[simp] theorem Ls.setReg_berrCount (s : Ls) (a v : Nat) : (s.setReg a v).berrCount = s.berrCount := rfl
@[simp] theorem Ls.setReg_berrLast (s : Ls) (a v : Nat) : (s.setReg a v).berrLast = s.berrLast := rfl
@[simp] theorem Ls.setReg_self (s : Ls) (a v : Nat) : (s.setReg a v).self = s.self := rfl
@[simp] theorem Ls.setReg_aon (s : Ls) (a v : Nat) : (s.setReg a v).aon = s.aon := rfl
@[simp] theorem Ls.setReg_dbgUnlock (s : Ls) (a v : Nat) : (s.setReg a v).dbgUnlock = s.dbgUnlock := rfl
@[simp] theorem Ls.setReg_dbgWrite (s : Ls) (a v : Nat) : (s.setReg a v).dbgWrite = s.dbgWrite := rfl
@[simp] theorem Ls.setReg_dbgCapture (s : Ls) (a v : Nat) : (s.setReg a v).dbgCapture = s.dbgCapture := rfl
@[simp] theorem Ls.setReg_timeLatch (s : Ls) (a v : Nat) : (s.setReg a v).timeLatch = s.timeLatch := rfl
@[simp] theorem Ls.setReg_vc3Last (s : Ls) (a v : Nat) : (s.setReg a v).vc3Last = s.vc3Last := rfl
@[simp] theorem Ls.setReg_linkDefer (s : Ls) (a v : Nat) : (s.setReg a v).linkDefer = s.linkDefer := rfl
@[simp] theorem Ls.setReg_cfgWait (s : Ls) (a v : Nat) : (s.setReg a v).cfgWait = s.cfgWait := rfl
@[simp] theorem Ls.setReg_portA (s : Ls) (a v : Nat) : (s.setReg a v).portA = s.portA := rfl
@[simp] theorem Ls.setReg_portB (s : Ls) (a v : Nat) : (s.setReg a v).portB = s.portB := rfl

/-! ### Ls.setSlot -/

@[simp] theorem Ls.setSlot_clk (s : Ls) (g : Nat) (k : AbortSlot) : (s.setSlot g k).clk = s.clk := rfl
@[simp] theorem Ls.setSlot_mainOn (s : Ls) (g : Nat) (k : AbortSlot) : (s.setSlot g k).mainOn = s.mainOn := rfl
@[simp] theorem Ls.setSlot_inService (s : Ls) (g : Nat) (k : AbortSlot) : (s.setSlot g k).inService = s.inService := rfl
@[simp] theorem Ls.setSlot_die (s : Ls) (g : Nat) (k : AbortSlot) : (s.setSlot g k).die = s.die := rfl
@[simp] theorem Ls.setSlot_dieValid (s : Ls) (g : Nat) (k : AbortSlot) : (s.setSlot g k).dieValid = s.dieValid := rfl
@[simp] theorem Ls.setSlot_configured (s : Ls) (g : Nat) (k : AbortSlot) : (s.setSlot g k).configured = s.configured := rfl
@[simp] theorem Ls.setSlot_regs (s : Ls) (g : Nat) (k : AbortSlot) : (s.setSlot g k).regs = s.regs := rfl
@[simp] theorem Ls.setSlot_host (s : Ls) (g : Nat) (k : AbortSlot) : (s.setSlot g k).host = s.host := rfl
@[simp] theorem Ls.setSlot_pins (s : Ls) (g : Nat) (k : AbortSlot) : (s.setSlot g k).pins = s.pins := rfl
@[simp] theorem Ls.setSlot_smp (s : Ls) (g : Nat) (k : AbortSlot) : (s.setSlot g k).smp = s.smp := rfl
@[simp] theorem Ls.setSlot_lag (s : Ls) (g : Nat) (k : AbortSlot) : (s.setSlot g k).lag = s.lag := rfl
@[simp] theorem Ls.setSlot_banks (s : Ls) (g : Nat) (k : AbortSlot) : (s.setSlot g k).banks = s.banks := rfl
@[simp] theorem Ls.setSlot_trace (s : Ls) (g : Nat) (k : AbortSlot) : (s.setSlot g k).trace = s.trace := rfl
@[simp] theorem Ls.setSlot_qsnap (s : Ls) (g : Nat) (k : AbortSlot) : (s.setSlot g k).qsnap = s.qsnap := rfl
@[simp] theorem Ls.setSlot_bp (s : Ls) (g : Nat) (k : AbortSlot) : (s.setSlot g k).bp = s.bp := rfl
@[simp] theorem Ls.setSlot_halt (s : Ls) (g : Nat) (k : AbortSlot) : (s.setSlot g k).halt = s.halt := rfl
@[simp] theorem Ls.setSlot_scan (s : Ls) (g : Nat) (k : AbortSlot) : (s.setSlot g k).scan = s.scan := rfl
@[simp] theorem Ls.setSlot_log (s : Ls) (g : Nat) (k : AbortSlot) : (s.setSlot g k).log = s.log := rfl
@[simp] theorem Ls.setSlot_tab (s : Ls) (g : Nat) (k : AbortSlot) : (s.setSlot g k).tab = s.tab := rfl
@[simp] theorem Ls.setSlot_poison (s : Ls) (g : Nat) (k : AbortSlot) : (s.setSlot g k).poison = s.poison := rfl
@[simp] theorem Ls.setSlot_slotIgnored (s : Ls) (g : Nat) (k : AbortSlot) : (s.setSlot g k).slotIgnored = s.slotIgnored := rfl
@[simp] theorem Ls.setSlot_fenceHold (s : Ls) (g : Nat) (k : AbortSlot) : (s.setSlot g k).fenceHold = s.fenceHold := rfl
@[simp] theorem Ls.setSlot_fenceLow (s : Ls) (g : Nat) (k : AbortSlot) : (s.setSlot g k).fenceLow = s.fenceLow := rfl
@[simp] theorem Ls.setSlot_fenceIgnored (s : Ls) (g : Nat) (k : AbortSlot) : (s.setSlot g k).fenceIgnored = s.fenceIgnored := rfl
@[simp] theorem Ls.setSlot_crc (s : Ls) (g : Nat) (k : AbortSlot) : (s.setSlot g k).crc = s.crc := rfl
@[simp] theorem Ls.setSlot_istat (s : Ls) (g : Nat) (k : AbortSlot) : (s.setSlot g k).istat = s.istat := rfl
@[simp] theorem Ls.setSlot_berrCount (s : Ls) (g : Nat) (k : AbortSlot) : (s.setSlot g k).berrCount = s.berrCount := rfl
@[simp] theorem Ls.setSlot_berrLast (s : Ls) (g : Nat) (k : AbortSlot) : (s.setSlot g k).berrLast = s.berrLast := rfl
@[simp] theorem Ls.setSlot_self (s : Ls) (g : Nat) (k : AbortSlot) : (s.setSlot g k).self = s.self := rfl
@[simp] theorem Ls.setSlot_aon (s : Ls) (g : Nat) (k : AbortSlot) : (s.setSlot g k).aon = s.aon := rfl
@[simp] theorem Ls.setSlot_dbgUnlock (s : Ls) (g : Nat) (k : AbortSlot) : (s.setSlot g k).dbgUnlock = s.dbgUnlock := rfl
@[simp] theorem Ls.setSlot_dbgWrite (s : Ls) (g : Nat) (k : AbortSlot) : (s.setSlot g k).dbgWrite = s.dbgWrite := rfl
@[simp] theorem Ls.setSlot_dbgCapture (s : Ls) (g : Nat) (k : AbortSlot) : (s.setSlot g k).dbgCapture = s.dbgCapture := rfl
@[simp] theorem Ls.setSlot_timeLatch (s : Ls) (g : Nat) (k : AbortSlot) : (s.setSlot g k).timeLatch = s.timeLatch := rfl
@[simp] theorem Ls.setSlot_vc3Last (s : Ls) (g : Nat) (k : AbortSlot) : (s.setSlot g k).vc3Last = s.vc3Last := rfl
@[simp] theorem Ls.setSlot_linkDefer (s : Ls) (g : Nat) (k : AbortSlot) : (s.setSlot g k).linkDefer = s.linkDefer := rfl
@[simp] theorem Ls.setSlot_cfgWait (s : Ls) (g : Nat) (k : AbortSlot) : (s.setSlot g k).cfgWait = s.cfgWait := rfl
@[simp] theorem Ls.setSlot_portA (s : Ls) (g : Nat) (k : AbortSlot) : (s.setSlot g k).portA = s.portA := rfl
@[simp] theorem Ls.setSlot_portB (s : Ls) (g : Nat) (k : AbortSlot) : (s.setSlot g k).portB = s.portB := rfl

/-! ### Ls.setPort -/

@[simp] theorem Ls.setPort_clk (s : Ls) (l : Bool) (p : Port) : (s.setPort l p).clk = s.clk := by cases l <;> rfl
@[simp] theorem Ls.setPort_mainOn (s : Ls) (l : Bool) (p : Port) : (s.setPort l p).mainOn = s.mainOn := by cases l <;> rfl
@[simp] theorem Ls.setPort_inService (s : Ls) (l : Bool) (p : Port) : (s.setPort l p).inService = s.inService := by cases l <;> rfl
@[simp] theorem Ls.setPort_die (s : Ls) (l : Bool) (p : Port) : (s.setPort l p).die = s.die := by cases l <;> rfl
@[simp] theorem Ls.setPort_dieValid (s : Ls) (l : Bool) (p : Port) : (s.setPort l p).dieValid = s.dieValid := by cases l <;> rfl
@[simp] theorem Ls.setPort_configured (s : Ls) (l : Bool) (p : Port) : (s.setPort l p).configured = s.configured := by cases l <;> rfl
@[simp] theorem Ls.setPort_regs (s : Ls) (l : Bool) (p : Port) : (s.setPort l p).regs = s.regs := by cases l <;> rfl
@[simp] theorem Ls.setPort_host (s : Ls) (l : Bool) (p : Port) : (s.setPort l p).host = s.host := by cases l <;> rfl
@[simp] theorem Ls.setPort_pins (s : Ls) (l : Bool) (p : Port) : (s.setPort l p).pins = s.pins := by cases l <;> rfl
@[simp] theorem Ls.setPort_smp (s : Ls) (l : Bool) (p : Port) : (s.setPort l p).smp = s.smp := by cases l <;> rfl
@[simp] theorem Ls.setPort_lag (s : Ls) (l : Bool) (p : Port) : (s.setPort l p).lag = s.lag := by cases l <;> rfl
@[simp] theorem Ls.setPort_banks (s : Ls) (l : Bool) (p : Port) : (s.setPort l p).banks = s.banks := by cases l <;> rfl
@[simp] theorem Ls.setPort_trace (s : Ls) (l : Bool) (p : Port) : (s.setPort l p).trace = s.trace := by cases l <;> rfl
@[simp] theorem Ls.setPort_qsnap (s : Ls) (l : Bool) (p : Port) : (s.setPort l p).qsnap = s.qsnap := by cases l <;> rfl
@[simp] theorem Ls.setPort_bp (s : Ls) (l : Bool) (p : Port) : (s.setPort l p).bp = s.bp := by cases l <;> rfl
@[simp] theorem Ls.setPort_halt (s : Ls) (l : Bool) (p : Port) : (s.setPort l p).halt = s.halt := by cases l <;> rfl
@[simp] theorem Ls.setPort_scan (s : Ls) (l : Bool) (p : Port) : (s.setPort l p).scan = s.scan := by cases l <;> rfl
@[simp] theorem Ls.setPort_log (s : Ls) (l : Bool) (p : Port) : (s.setPort l p).log = s.log := by cases l <;> rfl
@[simp] theorem Ls.setPort_tab (s : Ls) (l : Bool) (p : Port) : (s.setPort l p).tab = s.tab := by cases l <;> rfl
@[simp] theorem Ls.setPort_poison (s : Ls) (l : Bool) (p : Port) : (s.setPort l p).poison = s.poison := by cases l <;> rfl
@[simp] theorem Ls.setPort_slots (s : Ls) (l : Bool) (p : Port) : (s.setPort l p).slots = s.slots := by cases l <;> rfl
@[simp] theorem Ls.setPort_slotIgnored (s : Ls) (l : Bool) (p : Port) : (s.setPort l p).slotIgnored = s.slotIgnored := by cases l <;> rfl
@[simp] theorem Ls.setPort_fenceHold (s : Ls) (l : Bool) (p : Port) : (s.setPort l p).fenceHold = s.fenceHold := by cases l <;> rfl
@[simp] theorem Ls.setPort_fenceLow (s : Ls) (l : Bool) (p : Port) : (s.setPort l p).fenceLow = s.fenceLow := by cases l <;> rfl
@[simp] theorem Ls.setPort_fenceIgnored (s : Ls) (l : Bool) (p : Port) : (s.setPort l p).fenceIgnored = s.fenceIgnored := by cases l <;> rfl
@[simp] theorem Ls.setPort_crc (s : Ls) (l : Bool) (p : Port) : (s.setPort l p).crc = s.crc := by cases l <;> rfl
@[simp] theorem Ls.setPort_istat (s : Ls) (l : Bool) (p : Port) : (s.setPort l p).istat = s.istat := by cases l <;> rfl
@[simp] theorem Ls.setPort_berrCount (s : Ls) (l : Bool) (p : Port) : (s.setPort l p).berrCount = s.berrCount := by cases l <;> rfl
@[simp] theorem Ls.setPort_berrLast (s : Ls) (l : Bool) (p : Port) : (s.setPort l p).berrLast = s.berrLast := by cases l <;> rfl
@[simp] theorem Ls.setPort_self (s : Ls) (l : Bool) (p : Port) : (s.setPort l p).self = s.self := by cases l <;> rfl
@[simp] theorem Ls.setPort_aon (s : Ls) (l : Bool) (p : Port) : (s.setPort l p).aon = s.aon := by cases l <;> rfl
@[simp] theorem Ls.setPort_dbgUnlock (s : Ls) (l : Bool) (p : Port) : (s.setPort l p).dbgUnlock = s.dbgUnlock := by cases l <;> rfl
@[simp] theorem Ls.setPort_dbgWrite (s : Ls) (l : Bool) (p : Port) : (s.setPort l p).dbgWrite = s.dbgWrite := by cases l <;> rfl
@[simp] theorem Ls.setPort_dbgCapture (s : Ls) (l : Bool) (p : Port) : (s.setPort l p).dbgCapture = s.dbgCapture := by cases l <;> rfl
@[simp] theorem Ls.setPort_timeLatch (s : Ls) (l : Bool) (p : Port) : (s.setPort l p).timeLatch = s.timeLatch := by cases l <;> rfl
@[simp] theorem Ls.setPort_vc3Last (s : Ls) (l : Bool) (p : Port) : (s.setPort l p).vc3Last = s.vc3Last := by cases l <;> rfl
@[simp] theorem Ls.setPort_linkDefer (s : Ls) (l : Bool) (p : Port) : (s.setPort l p).linkDefer = s.linkDefer := by cases l <;> rfl
@[simp] theorem Ls.setPort_cfgWait (s : Ls) (l : Bool) (p : Port) : (s.setPort l p).cfgWait = s.cfgWait := by cases l <;> rfl

@[simp] theorem Ls.setPort_port (s : Ls) (l : Bool) (p : Port) : (s.setPort l p).port l = p := by cases l <;> rfl

@[simp] theorem Ls.setPort_other (s : Ls) (l : Bool) (p : Port) : (s.setPort l p).port (!l) = s.port (!l) := by cases l <;> rfl

/-! ### What the part operations answer -/

theorem onJn_next (f : Junction → Junction) (s : State) (h : s.jn.boot.porst = false) : onJn f s = .next { s with jn := f s.jn } := by
  simp [onJn, h]

theorem onJn_held (f : Junction → Junction) (s : State) (h : s.jn.boot.porst = true) : onJn f s = .next s := by
  simp [onJn, h]

theorem onMain_next (f : Ls → Ls) (s : State) (h : s.ls.inService = true) : onMain f s = .next { s with ls := f s.ls } := by
  simp [onMain, h]

theorem onMain_off (f : Ls → Ls) (s : State) (h : s.ls.inService = false) : onMain f s = .next s := by
  simp [onMain, h]

/-- Every part operation answers a next state that keeps the queue. -/
theorem onJn_pending {f : Junction → Junction} {s t : State} (h : onJn f s = .next t) :
    t.pending = s.pending ∧ t.ls = s.ls ∧ t.free = s.free ∧ t.jclk = s.jclk := by
  cases h; exact ⟨rfl, rfl, rfl, rfl⟩

theorem onMain_pending {f : Ls → Ls} {s t : State} (h : onMain f s = .next t) :
    t.pending = s.pending ∧ t.jn = s.jn ∧ t.free = s.free ∧ t.jclk = s.jclk := by
  cases h; exact ⟨rfl, rfl, rfl, rfl⟩

end Sys2Proof.Machine
end

