-- ==== Sys2Proof/Laws/Frames.lean ====
section
/-! SUPPORT. What the shared operations of the Junction leave alone: records, notices, errors, security events, alarms, signals, messages, Lineside writes and replies (R152 to R160, R207, R426, R443 to R450, R454, R457, R481, R519, R536). -/

namespace Sys2Proof.Machine

/-- A fold keeps what each of its steps keeps. -/
theorem foldl_keeps {α β γ : Type} (g : α → γ) (f : α → β → α) (h : ∀ a b, g (f a b) = g a) (l : List β) (a : α) : g (l.foldl f a) = g a := by
  induction l generalizing a with
  | nil => rfl
  | cons b t ih => rw [List.foldl_cons, ih, h]

theorem Junction.quiet_of_unlogged {j k : Junction} (h : j.unlogged = k.unlogged) : j.quiet = k.quiet := by
  have hs : j.unlogged.sec = k.unlogged.sec := by rw [h]
  change j.sec = k.sec at hs
  unfold Junction.quiet; rw [h, hs]

theorem Junction.still_of_quiet {j k : Junction} (h : j.quiet = k.quiet) : j.still = k.still := by
  have hs : j.quiet.sec = k.quiet.sec := by rw [h]
  have ht : ({ j.sec with events := [], evDropped := 0, sas := [] } : Sec) = { k.sec with events := [], evDropped := 0, sas := [] } :=
    congrArg (fun x : Sec => ({ x with sas := [] } : Sec)) hs
  unfold Junction.still; rw [h, ht]

theorem map_set_same {α β : Type} (f : α → β) (d : α) (l : List α) (i : Nat) (y : α) (h : f y = f (l.getD i d)) : (l.set i y).map f = l.map f := by
  apply List.ext_getElem?
  intro k
  simp only [List.getElem?_map, List.getElem?_set]
  by_cases hk : i = k
  · subst hk
    by_cases hl : i < l.length
    · simp [hl, h, List.getD_eq_getElem?_getD]
    · simp [hl]
  · simp [hk]

/-! ### What the parts that stay are -/

@[simp] theorem Junction.unlogged_boot (j : Junction) : j.unlogged.boot = j.boot := rfl
@[simp] theorem Junction.unlogged_straps (j : Junction) : j.unlogged.straps = j.straps := rfl
@[simp] theorem Junction.unlogged_confirmed (j : Junction) : j.unlogged.confirmed = j.confirmed := rfl
@[simp] theorem Junction.unlogged_index (j : Junction) : j.unlogged.index = j.index := rfl
@[simp] theorem Junction.unlogged_twin (j : Junction) : j.unlogged.twin = j.twin := rfl
@[simp] theorem Junction.unlogged_portMap (j : Junction) : j.unlogged.portMap = j.portMap := rfl
@[simp] theorem Junction.unlogged_subtree (j : Junction) : j.unlogged.subtree = j.subtree := rfl
@[simp] theorem Junction.unlogged_clk (j : Junction) : j.unlogged.clk = j.clk := rfl
@[simp] theorem Junction.unlogged_ext (j : Junction) : j.unlogged.ext = j.ext := rfl
@[simp] theorem Junction.unlogged_ref (j : Junction) : j.unlogged.ref = j.ref := rfl
@[simp] theorem Junction.unlogged_tsIn (j : Junction) : j.unlogged.tsIn = j.tsIn := rfl
@[simp] theorem Junction.unlogged_trig (j : Junction) : j.unlogged.trig = j.trig := rfl
@[simp] theorem Junction.unlogged_pps (j : Junction) : j.unlogged.pps = j.pps := rfl
@[simp] theorem Junction.unlogged_b0 (j : Junction) : j.unlogged.b0 = j.b0 := rfl
@[simp] theorem Junction.unlogged_b1 (j : Junction) : j.unlogged.b1 = j.b1 := rfl
@[simp] theorem Junction.unlogged_ports (j : Junction) : j.unlogged.ports = j.ports := rfl
@[simp] theorem Junction.unlogged_shadow (j : Junction) : j.unlogged.shadow = j.shadow := rfl
@[simp] theorem Junction.unlogged_txns (j : Junction) : j.unlogged.txns = j.txns := rfl
@[simp] theorem Junction.unlogged_nextTxn (j : Junction) : j.unlogged.nextTxn = j.nextTxn := rfl
@[simp] theorem Junction.unlogged_lineCfg (j : Junction) : j.unlogged.lineCfg = j.lineCfg := rfl
@[simp] theorem Junction.unlogged_lineParts (j : Junction) : j.unlogged.lineParts = j.lineParts := rfl
@[simp] theorem Junction.unlogged_ticks (j : Junction) : j.unlogged.ticks = j.ticks := rfl
@[simp] theorem Junction.unlogged_statPrev (j : Junction) : j.unlogged.statPrev = j.statPrev := rfl
@[simp] theorem Junction.unlogged_det (j : Junction) : j.unlogged.det = j.det := rfl
@[simp] theorem Junction.unlogged_verdictPrev (j : Junction) : j.unlogged.verdictPrev = j.verdictPrev := rfl
@[simp] theorem Junction.unlogged_stats (j : Junction) : j.unlogged.stats = j.stats := rfl
@[simp] theorem Junction.unlogged_exclusions (j : Junction) : j.unlogged.exclusions = j.exclusions := rfl
@[simp] theorem Junction.unlogged_mem (j : Junction) : j.unlogged.mem = j.mem := rfl
@[simp] theorem Junction.unlogged_poisoned (j : Junction) : j.unlogged.poisoned = j.poisoned := rfl
@[simp] theorem Junction.unlogged_hist (j : Junction) : j.unlogged.hist = j.hist := rfl
@[simp] theorem Junction.unlogged_bundles (j : Junction) : j.unlogged.bundles = j.bundles := rfl
@[simp] theorem Junction.unlogged_wayOps (j : Junction) : j.unlogged.wayOps = j.wayOps := rfl
@[simp] theorem Junction.unlogged_grp (j : Junction) : j.unlogged.grp = j.grp := rfl
@[simp] theorem Junction.unlogged_seqRun (j : Junction) : j.unlogged.seqRun = j.seqRun := rfl
@[simp] theorem Junction.unlogged_fc (j : Junction) : j.unlogged.fc = j.fc := rfl
@[simp] theorem Junction.unlogged_areas (j : Junction) : j.unlogged.areas = j.areas := rfl
@[simp] theorem Junction.unlogged_refs (j : Junction) : j.unlogged.refs = j.refs := rfl
@[simp] theorem Junction.unlogged_shardCnt (j : Junction) : j.unlogged.shardCnt = j.shardCnt := rfl
@[simp] theorem Junction.unlogged_tests (j : Junction) : j.unlogged.tests = j.tests := rfl
@[simp] theorem Junction.unlogged_dies (j : Junction) : j.unlogged.dies = j.dies := rfl
@[simp] theorem Junction.unlogged_slots (j : Junction) : j.unlogged.slots = j.slots := rfl
@[simp] theorem Junction.unlogged_logRate (j : Junction) : j.unlogged.logRate = j.logRate := rfl
@[simp] theorem Junction.unlogged_logRateNew (j : Junction) : j.unlogged.logRateNew = j.logRateNew := rfl
@[simp] theorem Junction.unlogged_mail (j : Junction) : j.unlogged.mail = j.mail := rfl
@[simp] theorem Junction.unlogged_hops (j : Junction) : j.unlogged.hops = j.hops := rfl
@[simp] theorem Junction.unlogged_alarms (j : Junction) : j.unlogged.alarms = j.alarms := rfl
@[simp] theorem Junction.unlogged_alarmDrop (j : Junction) : j.unlogged.alarmDrop = j.alarmDrop := rfl
@[simp] theorem Junction.unlogged_notices (j : Junction) : j.unlogged.notices = j.notices := rfl
@[simp] theorem Junction.unlogged_sec (j : Junction) : j.unlogged.sec = j.sec := rfl
@[simp] theorem Junction.unlogged_ballast (j : Junction) : j.unlogged.ballast = j.ballast := rfl
@[simp] theorem Junction.unlogged_crc (j : Junction) : j.unlogged.crc = j.crc := rfl
@[simp] theorem Junction.unlogged_errs (j : Junction) : j.unlogged.errs = j.errs := rfl
@[simp] theorem Junction.unlogged_latch (j : Junction) : j.unlogged.latch = j.latch := rfl
@[simp] theorem Junction.unlogged_readData (j : Junction) : j.unlogged.readData = j.readData := rfl
@[simp] theorem Junction.unlogged_flush (j : Junction) : j.unlogged.flush = j.flush := rfl
@[simp] theorem Junction.unlogged_cnt (j : Junction) : j.unlogged.cnt = j.cnt := rfl
@[simp] theorem Junction.unlogged_jobSeq (j : Junction) : j.unlogged.jobSeq = j.jobSeq := rfl

@[simp] theorem Junction.quiet_boot (j : Junction) : j.quiet.boot = j.boot := rfl
@[simp] theorem Junction.quiet_straps (j : Junction) : j.quiet.straps = j.straps := rfl
@[simp] theorem Junction.quiet_confirmed (j : Junction) : j.quiet.confirmed = j.confirmed := rfl
@[simp] theorem Junction.quiet_index (j : Junction) : j.quiet.index = j.index := rfl
@[simp] theorem Junction.quiet_twin (j : Junction) : j.quiet.twin = j.twin := rfl
@[simp] theorem Junction.quiet_portMap (j : Junction) : j.quiet.portMap = j.portMap := rfl
@[simp] theorem Junction.quiet_subtree (j : Junction) : j.quiet.subtree = j.subtree := rfl
@[simp] theorem Junction.quiet_clk (j : Junction) : j.quiet.clk = j.clk := rfl
@[simp] theorem Junction.quiet_ext (j : Junction) : j.quiet.ext = j.ext := rfl
@[simp] theorem Junction.quiet_ref (j : Junction) : j.quiet.ref = j.ref := rfl
@[simp] theorem Junction.quiet_tsIn (j : Junction) : j.quiet.tsIn = j.tsIn := rfl
@[simp] theorem Junction.quiet_trig (j : Junction) : j.quiet.trig = j.trig := rfl
@[simp] theorem Junction.quiet_pps (j : Junction) : j.quiet.pps = j.pps := rfl
@[simp] theorem Junction.quiet_b0 (j : Junction) : j.quiet.b0 = j.b0 := rfl
@[simp] theorem Junction.quiet_b1 (j : Junction) : j.quiet.b1 = j.b1 := rfl
@[simp] theorem Junction.quiet_shadow (j : Junction) : j.quiet.shadow = j.shadow := rfl
@[simp] theorem Junction.quiet_txns (j : Junction) : j.quiet.txns = j.txns := rfl
@[simp] theorem Junction.quiet_nextTxn (j : Junction) : j.quiet.nextTxn = j.nextTxn := rfl
@[simp] theorem Junction.quiet_lineCfg (j : Junction) : j.quiet.lineCfg = j.lineCfg := rfl
@[simp] theorem Junction.quiet_lineParts (j : Junction) : j.quiet.lineParts = j.lineParts := rfl
@[simp] theorem Junction.quiet_ticks (j : Junction) : j.quiet.ticks = j.ticks := rfl
@[simp] theorem Junction.quiet_statPrev (j : Junction) : j.quiet.statPrev = j.statPrev := rfl
@[simp] theorem Junction.quiet_det (j : Junction) : j.quiet.det = j.det := rfl
@[simp] theorem Junction.quiet_verdictPrev (j : Junction) : j.quiet.verdictPrev = j.verdictPrev := rfl
@[simp] theorem Junction.quiet_stats (j : Junction) : j.quiet.stats = j.stats := rfl
@[simp] theorem Junction.quiet_exclusions (j : Junction) : j.quiet.exclusions = j.exclusions := rfl
@[simp] theorem Junction.quiet_mem (j : Junction) : j.quiet.mem = j.mem := rfl
@[simp] theorem Junction.quiet_poisoned (j : Junction) : j.quiet.poisoned = j.poisoned := rfl
@[simp] theorem Junction.quiet_hist (j : Junction) : j.quiet.hist = j.hist := rfl
@[simp] theorem Junction.quiet_bundles (j : Junction) : j.quiet.bundles = j.bundles := rfl
@[simp] theorem Junction.quiet_wayOps (j : Junction) : j.quiet.wayOps = j.wayOps := rfl
@[simp] theorem Junction.quiet_grp (j : Junction) : j.quiet.grp = j.grp := rfl
@[simp] theorem Junction.quiet_seqRun (j : Junction) : j.quiet.seqRun = j.seqRun := rfl
@[simp] theorem Junction.quiet_fc (j : Junction) : j.quiet.fc = j.fc := rfl
@[simp] theorem Junction.quiet_areas (j : Junction) : j.quiet.areas = j.areas := rfl
@[simp] theorem Junction.quiet_refs (j : Junction) : j.quiet.refs = j.refs := rfl
@[simp] theorem Junction.quiet_shardCnt (j : Junction) : j.quiet.shardCnt = j.shardCnt := rfl
@[simp] theorem Junction.quiet_tests (j : Junction) : j.quiet.tests = j.tests := rfl
@[simp] theorem Junction.quiet_dies (j : Junction) : j.quiet.dies = j.dies := rfl
@[simp] theorem Junction.quiet_slots (j : Junction) : j.quiet.slots = j.slots := rfl
@[simp] theorem Junction.quiet_logRate (j : Junction) : j.quiet.logRate = j.logRate := rfl
@[simp] theorem Junction.quiet_logRateNew (j : Junction) : j.quiet.logRateNew = j.logRateNew := rfl
@[simp] theorem Junction.quiet_mail (j : Junction) : j.quiet.mail = j.mail := rfl
@[simp] theorem Junction.quiet_hops (j : Junction) : j.quiet.hops = j.hops := rfl
@[simp] theorem Junction.quiet_ballast (j : Junction) : j.quiet.ballast = j.ballast := rfl
@[simp] theorem Junction.quiet_crc (j : Junction) : j.quiet.crc = j.crc := rfl
@[simp] theorem Junction.quiet_latch (j : Junction) : j.quiet.latch = j.latch := rfl
@[simp] theorem Junction.quiet_readData (j : Junction) : j.quiet.readData = j.readData := rfl
@[simp] theorem Junction.quiet_flush (j : Junction) : j.quiet.flush = j.flush := rfl
@[simp] theorem Junction.quiet_jobSeq (j : Junction) : j.quiet.jobSeq = j.jobSeq := rfl

@[simp] theorem Junction.still_boot (j : Junction) : j.still.boot = j.boot := rfl
@[simp] theorem Junction.still_straps (j : Junction) : j.still.straps = j.straps := rfl
@[simp] theorem Junction.still_confirmed (j : Junction) : j.still.confirmed = j.confirmed := rfl
@[simp] theorem Junction.still_index (j : Junction) : j.still.index = j.index := rfl
@[simp] theorem Junction.still_twin (j : Junction) : j.still.twin = j.twin := rfl
@[simp] theorem Junction.still_portMap (j : Junction) : j.still.portMap = j.portMap := rfl
@[simp] theorem Junction.still_subtree (j : Junction) : j.still.subtree = j.subtree := rfl
@[simp] theorem Junction.still_clk (j : Junction) : j.still.clk = j.clk := rfl
@[simp] theorem Junction.still_ext (j : Junction) : j.still.ext = j.ext := rfl
@[simp] theorem Junction.still_ref (j : Junction) : j.still.ref = j.ref := rfl
@[simp] theorem Junction.still_tsIn (j : Junction) : j.still.tsIn = j.tsIn := rfl
@[simp] theorem Junction.still_trig (j : Junction) : j.still.trig = j.trig := rfl
@[simp] theorem Junction.still_pps (j : Junction) : j.still.pps = j.pps := rfl
@[simp] theorem Junction.still_b0 (j : Junction) : j.still.b0 = j.b0 := rfl
@[simp] theorem Junction.still_b1 (j : Junction) : j.still.b1 = j.b1 := rfl
@[simp] theorem Junction.still_shadow (j : Junction) : j.still.shadow = j.shadow := rfl
@[simp] theorem Junction.still_txns (j : Junction) : j.still.txns = j.txns := rfl
@[simp] theorem Junction.still_nextTxn (j : Junction) : j.still.nextTxn = j.nextTxn := rfl
@[simp] theorem Junction.still_lineCfg (j : Junction) : j.still.lineCfg = j.lineCfg := rfl
@[simp] theorem Junction.still_lineParts (j : Junction) : j.still.lineParts = j.lineParts := rfl
@[simp] theorem Junction.still_ticks (j : Junction) : j.still.ticks = j.ticks := rfl
@[simp] theorem Junction.still_statPrev (j : Junction) : j.still.statPrev = j.statPrev := rfl
@[simp] theorem Junction.still_det (j : Junction) : j.still.det = j.det := rfl
@[simp] theorem Junction.still_verdictPrev (j : Junction) : j.still.verdictPrev = j.verdictPrev := rfl
@[simp] theorem Junction.still_stats (j : Junction) : j.still.stats = j.stats := rfl
@[simp] theorem Junction.still_exclusions (j : Junction) : j.still.exclusions = j.exclusions := rfl
@[simp] theorem Junction.still_mem (j : Junction) : j.still.mem = j.mem := rfl
@[simp] theorem Junction.still_poisoned (j : Junction) : j.still.poisoned = j.poisoned := rfl
@[simp] theorem Junction.still_hist (j : Junction) : j.still.hist = j.hist := rfl
@[simp] theorem Junction.still_bundles (j : Junction) : j.still.bundles = j.bundles := rfl
@[simp] theorem Junction.still_wayOps (j : Junction) : j.still.wayOps = j.wayOps := rfl
@[simp] theorem Junction.still_grp (j : Junction) : j.still.grp = j.grp := rfl
@[simp] theorem Junction.still_seqRun (j : Junction) : j.still.seqRun = j.seqRun := rfl
@[simp] theorem Junction.still_fc (j : Junction) : j.still.fc = j.fc := rfl
@[simp] theorem Junction.still_areas (j : Junction) : j.still.areas = j.areas := rfl
@[simp] theorem Junction.still_refs (j : Junction) : j.still.refs = j.refs := rfl
@[simp] theorem Junction.still_shardCnt (j : Junction) : j.still.shardCnt = j.shardCnt := rfl
@[simp] theorem Junction.still_tests (j : Junction) : j.still.tests = j.tests := rfl
@[simp] theorem Junction.still_dies (j : Junction) : j.still.dies = j.dies := rfl
@[simp] theorem Junction.still_slots (j : Junction) : j.still.slots = j.slots := rfl
@[simp] theorem Junction.still_logRate (j : Junction) : j.still.logRate = j.logRate := rfl
@[simp] theorem Junction.still_logRateNew (j : Junction) : j.still.logRateNew = j.logRateNew := rfl
@[simp] theorem Junction.still_hops (j : Junction) : j.still.hops = j.hops := rfl
@[simp] theorem Junction.still_ballast (j : Junction) : j.still.ballast = j.ballast := rfl
@[simp] theorem Junction.still_crc (j : Junction) : j.still.crc = j.crc := rfl
@[simp] theorem Junction.still_latch (j : Junction) : j.still.latch = j.latch := rfl
@[simp] theorem Junction.still_readData (j : Junction) : j.still.readData = j.readData := rfl
@[simp] theorem Junction.still_flush (j : Junction) : j.still.flush = j.flush := rfl
@[simp] theorem Junction.still_jobSeq (j : Junction) : j.still.jobSeq = j.jobSeq := rfl

/-! ### Records -/

@[simp] theorem Junction.setCtx_dropped (j : Junction) (c n : Nat) : (j.setCtx c { j.ctx c with expDropped := n }).unlogged = j.unlogged := by
  have h := map_set_same (fun x : Ctx => ({ x with expDropped := 0 } : Ctx)) Ctx.init j.ctxs c { j.ctxs.getD c Ctx.init with expDropped := n } rfl
  show ({ j.unlogged with ctxs := (j.ctxs.set c { j.ctxs.getD c Ctx.init with expDropped := n }).map (fun x : Ctx => ({ x with expDropped := 0 } : Ctx)) } : Junction) = _
  rw [h]; rfl

@[simp] theorem Junction.export_unlogged (j : Junction) (c k t key : Nat) (d : Bytes) : (j.export_ c k t key d).unlogged = j.unlogged := by
  unfold Junction.export_
  split
  · rfl
  · dsimp only
    split
    · rw [Junction.setCtx_dropped]; rfl
    · rfl

@[simp] theorem Junction.exportTo_unlogged (j : Junction) (o k t key : Nat) (d : Bytes) : (j.exportTo o k t key d).unlogged = j.unlogged :=
  foldl_keeps Junction.unlogged _ (fun _ _ => Junction.export_unlogged _ _ _ _ _ _) _ _

@[simp] theorem Junction.setLog_unlogged (j : Junction) (l : Nat) (g : JnLog) : (j.setLog l g).unlogged = j.unlogged := rfl

@[simp] theorem Store.openBlock_rest (s : Store) (tray : Bool) (l : Nat) :
    ({ s.openBlock tray l with map := [], erase := [], mapSeq := 0 } : Store) = { s with map := [], erase := [], mapSeq := 0 } := by
  unfold Store.openBlock; split <;> rfl

@[simp] theorem Junction.enterLog_unlogged (j : Junction) (l o : Nat) (b : Bytes) : (j.enterLog l o b).unlogged = j.unlogged := by
  have hs : ∀ (k : Junction) (n : Bool), ({ k with nearFull := n } : Junction).unlogged = k.unlogged := fun _ _ => rfl
  have he : ∀ (k : Junction) (e : Exp), ({ k with exp := e } : Junction).unlogged = k.unlogged := fun _ _ => rfl
  have hst : ∀ (k : Junction) (n : Nat), ({ k with store := k.store.openBlock k.tray n } : Junction).unlogged = k.unlogged := by
    intro k n
    show ({ k.unlogged with store := { k.store.openBlock k.tray n with map := [], erase := [], mapSeq := 0 } } : Junction) = _
    rw [Store.openBlock_rest]; rfl
  unfold Junction.enterLog
  dsimp only
  refine (hs _ _).trans ?_
  repeat' split
  all_goals first
    | rfl
    | (rw [he]; rfl)
    | (rw [Junction.exportTo_unlogged]; first | (rw [hst]; rfl) | rfl)

@[simp] theorem Junction.commitRecord_unlogged (j : Junction) (l o : Nat) (b : Bytes) : (j.commitRecord l o b).unlogged = j.unlogged := by
  unfold Junction.commitRecord
  dsimp only
  repeat' split
  all_goals first | rfl | (rw [Junction.enterLog_unlogged]; rfl)

@[simp] theorem Junction.event_unlogged (j : Junction) (c : Nat) (ws : List Nat) : (j.event c ws).1.unlogged = j.unlogged := by
  unfold Junction.event
  dsimp only
  repeat' split
  all_goals first | rfl | (rw [Junction.commitRecord_unlogged]; rfl)

/-- Recording an event changes only the log side of the Junction. -/
@[simp] theorem Junction.logE_unlogged (j : Junction) (c : Nat) (ws : List Nat) : (j.logE c ws).unlogged = j.unlogged := Junction.event_unlogged j c ws

@[simp] theorem Junction.logE_boot (j : Junction) (c : Nat) (ws : List Nat) : (j.logE c ws).boot = j.boot := by
  have h := congrArg Junction.boot (Junction.logE_unlogged j c ws); exact h
@[simp] theorem Junction.logE_straps (j : Junction) (c : Nat) (ws : List Nat) : (j.logE c ws).straps = j.straps := by
  have h := congrArg Junction.straps (Junction.logE_unlogged j c ws); exact h
@[simp] theorem Junction.logE_confirmed (j : Junction) (c : Nat) (ws : List Nat) : (j.logE c ws).confirmed = j.confirmed := by
  have h := congrArg Junction.confirmed (Junction.logE_unlogged j c ws); exact h
@[simp] theorem Junction.logE_index (j : Junction) (c : Nat) (ws : List Nat) : (j.logE c ws).index = j.index := by
  have h := congrArg Junction.index (Junction.logE_unlogged j c ws); exact h
@[simp] theorem Junction.logE_twin (j : Junction) (c : Nat) (ws : List Nat) : (j.logE c ws).twin = j.twin := by
  have h := congrArg Junction.twin (Junction.logE_unlogged j c ws); exact h
@[simp] theorem Junction.logE_portMap (j : Junction) (c : Nat) (ws : List Nat) : (j.logE c ws).portMap = j.portMap := by
  have h := congrArg Junction.portMap (Junction.logE_unlogged j c ws); exact h
@[simp] theorem Junction.logE_subtree (j : Junction) (c : Nat) (ws : List Nat) : (j.logE c ws).subtree = j.subtree := by
  have h := congrArg Junction.subtree (Junction.logE_unlogged j c ws); exact h
@[simp] theorem Junction.logE_clk (j : Junction) (c : Nat) (ws : List Nat) : (j.logE c ws).clk = j.clk := by
  have h := congrArg Junction.clk (Junction.logE_unlogged j c ws); exact h
@[simp] theorem Junction.logE_ext (j : Junction) (c : Nat) (ws : List Nat) : (j.logE c ws).ext = j.ext := by
  have h := congrArg Junction.ext (Junction.logE_unlogged j c ws); exact h
@[simp] theorem Junction.logE_ref (j : Junction) (c : Nat) (ws : List Nat) : (j.logE c ws).ref = j.ref := by
  have h := congrArg Junction.ref (Junction.logE_unlogged j c ws); exact h
@[simp] theorem Junction.logE_tsIn (j : Junction) (c : Nat) (ws : List Nat) : (j.logE c ws).tsIn = j.tsIn := by
  have h := congrArg Junction.tsIn (Junction.logE_unlogged j c ws); exact h
@[simp] theorem Junction.logE_trig (j : Junction) (c : Nat) (ws : List Nat) : (j.logE c ws).trig = j.trig := by
  have h := congrArg Junction.trig (Junction.logE_unlogged j c ws); exact h
@[simp] theorem Junction.logE_pps (j : Junction) (c : Nat) (ws : List Nat) : (j.logE c ws).pps = j.pps := by
  have h := congrArg Junction.pps (Junction.logE_unlogged j c ws); exact h
@[simp] theorem Junction.logE_b0 (j : Junction) (c : Nat) (ws : List Nat) : (j.logE c ws).b0 = j.b0 := by
  have h := congrArg Junction.b0 (Junction.logE_unlogged j c ws); exact h
@[simp] theorem Junction.logE_b1 (j : Junction) (c : Nat) (ws : List Nat) : (j.logE c ws).b1 = j.b1 := by
  have h := congrArg Junction.b1 (Junction.logE_unlogged j c ws); exact h
@[simp] theorem Junction.logE_ports (j : Junction) (c : Nat) (ws : List Nat) : (j.logE c ws).ports = j.ports := by
  have h := congrArg Junction.ports (Junction.logE_unlogged j c ws); exact h
@[simp] theorem Junction.logE_shadow (j : Junction) (c : Nat) (ws : List Nat) : (j.logE c ws).shadow = j.shadow := by
  have h := congrArg Junction.shadow (Junction.logE_unlogged j c ws); exact h
@[simp] theorem Junction.logE_txns (j : Junction) (c : Nat) (ws : List Nat) : (j.logE c ws).txns = j.txns := by
  have h := congrArg Junction.txns (Junction.logE_unlogged j c ws); exact h
@[simp] theorem Junction.logE_nextTxn (j : Junction) (c : Nat) (ws : List Nat) : (j.logE c ws).nextTxn = j.nextTxn := by
  have h := congrArg Junction.nextTxn (Junction.logE_unlogged j c ws); exact h
@[simp] theorem Junction.logE_lineCfg (j : Junction) (c : Nat) (ws : List Nat) : (j.logE c ws).lineCfg = j.lineCfg := by
  have h := congrArg Junction.lineCfg (Junction.logE_unlogged j c ws); exact h
@[simp] theorem Junction.logE_lineParts (j : Junction) (c : Nat) (ws : List Nat) : (j.logE c ws).lineParts = j.lineParts := by
  have h := congrArg Junction.lineParts (Junction.logE_unlogged j c ws); exact h
@[simp] theorem Junction.logE_ticks (j : Junction) (c : Nat) (ws : List Nat) : (j.logE c ws).ticks = j.ticks := by
  have h := congrArg Junction.ticks (Junction.logE_unlogged j c ws); exact h
@[simp] theorem Junction.logE_statPrev (j : Junction) (c : Nat) (ws : List Nat) : (j.logE c ws).statPrev = j.statPrev := by
  have h := congrArg Junction.statPrev (Junction.logE_unlogged j c ws); exact h
@[simp] theorem Junction.logE_det (j : Junction) (c : Nat) (ws : List Nat) : (j.logE c ws).det = j.det := by
  have h := congrArg Junction.det (Junction.logE_unlogged j c ws); exact h
@[simp] theorem Junction.logE_verdictPrev (j : Junction) (c : Nat) (ws : List Nat) : (j.logE c ws).verdictPrev = j.verdictPrev := by
  have h := congrArg Junction.verdictPrev (Junction.logE_unlogged j c ws); exact h
@[simp] theorem Junction.logE_stats (j : Junction) (c : Nat) (ws : List Nat) : (j.logE c ws).stats = j.stats := by
  have h := congrArg Junction.stats (Junction.logE_unlogged j c ws); exact h
@[simp] theorem Junction.logE_exclusions (j : Junction) (c : Nat) (ws : List Nat) : (j.logE c ws).exclusions = j.exclusions := by
  have h := congrArg Junction.exclusions (Junction.logE_unlogged j c ws); exact h
@[simp] theorem Junction.logE_mem (j : Junction) (c : Nat) (ws : List Nat) : (j.logE c ws).mem = j.mem := by
  have h := congrArg Junction.mem (Junction.logE_unlogged j c ws); exact h
@[simp] theorem Junction.logE_poisoned (j : Junction) (c : Nat) (ws : List Nat) : (j.logE c ws).poisoned = j.poisoned := by
  have h := congrArg Junction.poisoned (Junction.logE_unlogged j c ws); exact h
@[simp] theorem Junction.logE_hist (j : Junction) (c : Nat) (ws : List Nat) : (j.logE c ws).hist = j.hist := by
  have h := congrArg Junction.hist (Junction.logE_unlogged j c ws); exact h
@[simp] theorem Junction.logE_bundles (j : Junction) (c : Nat) (ws : List Nat) : (j.logE c ws).bundles = j.bundles := by
  have h := congrArg Junction.bundles (Junction.logE_unlogged j c ws); exact h
@[simp] theorem Junction.logE_wayOps (j : Junction) (c : Nat) (ws : List Nat) : (j.logE c ws).wayOps = j.wayOps := by
  have h := congrArg Junction.wayOps (Junction.logE_unlogged j c ws); exact h
@[simp] theorem Junction.logE_grp (j : Junction) (c : Nat) (ws : List Nat) : (j.logE c ws).grp = j.grp := by
  have h := congrArg Junction.grp (Junction.logE_unlogged j c ws); exact h
@[simp] theorem Junction.logE_seqRun (j : Junction) (c : Nat) (ws : List Nat) : (j.logE c ws).seqRun = j.seqRun := by
  have h := congrArg Junction.seqRun (Junction.logE_unlogged j c ws); exact h
@[simp] theorem Junction.logE_fc (j : Junction) (c : Nat) (ws : List Nat) : (j.logE c ws).fc = j.fc := by
  have h := congrArg Junction.fc (Junction.logE_unlogged j c ws); exact h
@[simp] theorem Junction.logE_areas (j : Junction) (c : Nat) (ws : List Nat) : (j.logE c ws).areas = j.areas := by
  have h := congrArg Junction.areas (Junction.logE_unlogged j c ws); exact h
@[simp] theorem Junction.logE_refs (j : Junction) (c : Nat) (ws : List Nat) : (j.logE c ws).refs = j.refs := by
  have h := congrArg Junction.refs (Junction.logE_unlogged j c ws); exact h
@[simp] theorem Junction.logE_shardCnt (j : Junction) (c : Nat) (ws : List Nat) : (j.logE c ws).shardCnt = j.shardCnt := by
  have h := congrArg Junction.shardCnt (Junction.logE_unlogged j c ws); exact h
@[simp] theorem Junction.logE_tests (j : Junction) (c : Nat) (ws : List Nat) : (j.logE c ws).tests = j.tests := by
  have h := congrArg Junction.tests (Junction.logE_unlogged j c ws); exact h
@[simp] theorem Junction.logE_dies (j : Junction) (c : Nat) (ws : List Nat) : (j.logE c ws).dies = j.dies := by
  have h := congrArg Junction.dies (Junction.logE_unlogged j c ws); exact h
@[simp] theorem Junction.logE_slots (j : Junction) (c : Nat) (ws : List Nat) : (j.logE c ws).slots = j.slots := by
  have h := congrArg Junction.slots (Junction.logE_unlogged j c ws); exact h
@[simp] theorem Junction.logE_logRate (j : Junction) (c : Nat) (ws : List Nat) : (j.logE c ws).logRate = j.logRate := by
  have h := congrArg Junction.logRate (Junction.logE_unlogged j c ws); exact h
@[simp] theorem Junction.logE_logRateNew (j : Junction) (c : Nat) (ws : List Nat) : (j.logE c ws).logRateNew = j.logRateNew := by
  have h := congrArg Junction.logRateNew (Junction.logE_unlogged j c ws); exact h
@[simp] theorem Junction.logE_mail (j : Junction) (c : Nat) (ws : List Nat) : (j.logE c ws).mail = j.mail := by
  have h := congrArg Junction.mail (Junction.logE_unlogged j c ws); exact h
@[simp] theorem Junction.logE_hops (j : Junction) (c : Nat) (ws : List Nat) : (j.logE c ws).hops = j.hops := by
  have h := congrArg Junction.hops (Junction.logE_unlogged j c ws); exact h
@[simp] theorem Junction.logE_alarms (j : Junction) (c : Nat) (ws : List Nat) : (j.logE c ws).alarms = j.alarms := by
  have h := congrArg Junction.alarms (Junction.logE_unlogged j c ws); exact h
@[simp] theorem Junction.logE_alarmDrop (j : Junction) (c : Nat) (ws : List Nat) : (j.logE c ws).alarmDrop = j.alarmDrop := by
  have h := congrArg Junction.alarmDrop (Junction.logE_unlogged j c ws); exact h
@[simp] theorem Junction.logE_notices (j : Junction) (c : Nat) (ws : List Nat) : (j.logE c ws).notices = j.notices := by
  have h := congrArg Junction.notices (Junction.logE_unlogged j c ws); exact h
@[simp] theorem Junction.logE_sec (j : Junction) (c : Nat) (ws : List Nat) : (j.logE c ws).sec = j.sec := by
  have h := congrArg Junction.sec (Junction.logE_unlogged j c ws); exact h
@[simp] theorem Junction.logE_ballast (j : Junction) (c : Nat) (ws : List Nat) : (j.logE c ws).ballast = j.ballast := by
  have h := congrArg Junction.ballast (Junction.logE_unlogged j c ws); exact h
@[simp] theorem Junction.logE_crc (j : Junction) (c : Nat) (ws : List Nat) : (j.logE c ws).crc = j.crc := by
  have h := congrArg Junction.crc (Junction.logE_unlogged j c ws); exact h
@[simp] theorem Junction.logE_errs (j : Junction) (c : Nat) (ws : List Nat) : (j.logE c ws).errs = j.errs := by
  have h := congrArg Junction.errs (Junction.logE_unlogged j c ws); exact h
@[simp] theorem Junction.logE_latch (j : Junction) (c : Nat) (ws : List Nat) : (j.logE c ws).latch = j.latch := by
  have h := congrArg Junction.latch (Junction.logE_unlogged j c ws); exact h
@[simp] theorem Junction.logE_readData (j : Junction) (c : Nat) (ws : List Nat) : (j.logE c ws).readData = j.readData := by
  have h := congrArg Junction.readData (Junction.logE_unlogged j c ws); exact h
@[simp] theorem Junction.logE_flush (j : Junction) (c : Nat) (ws : List Nat) : (j.logE c ws).flush = j.flush := by
  have h := congrArg Junction.flush (Junction.logE_unlogged j c ws); exact h
@[simp] theorem Junction.logE_cnt (j : Junction) (c : Nat) (ws : List Nat) : (j.logE c ws).cnt = j.cnt := by
  have h := congrArg Junction.cnt (Junction.logE_unlogged j c ws); exact h
@[simp] theorem Junction.logE_jobSeq (j : Junction) (c : Nat) (ws : List Nat) : (j.logE c ws).jobSeq = j.jobSeq := by
  have h := congrArg Junction.jobSeq (Junction.logE_unlogged j c ws); exact h

@[simp] theorem Junction.logE_epochs (j : Junction) (c : Nat) (ws : List Nat) : (j.logE c ws).store.epochs = j.store.epochs := by
  have h := congrArg (fun k : Junction => k.store.epochs) (Junction.logE_unlogged j c ws); exact h

@[simp] theorem Junction.logE_quiet (j : Junction) (c : Nat) (ws : List Nat) : (j.logE c ws).quiet = j.quiet :=
  Junction.quiet_of_unlogged (Junction.logE_unlogged j c ws)

/-! ### Notices, errors, counters, security events -/

@[simp] theorem Junction.notice_quiet (j : Junction) (c : Nat) : (j.notice c).quiet = j.quiet := by
  unfold Junction.notice; split <;> rfl

@[simp] theorem Junction.error_quiet (j : Junction) (a b c : Nat) : (j.error a b c).quiet = j.quiet := rfl

@[simp] theorem Junction.bump_quiet (j : Junction) (k n : Nat) : (j.bump k n).quiet = j.quiet := rfl

theorem Sec.event_rest (x : Sec) (c d t : Nat) : ({ x.event c d t with events := [], evDropped := 0 } : Sec) = { x with events := [], evDropped := 0 } := by
  unfold Sec.event; split <;> rfl

theorem Junction.secEvent_quiet_raw (j : Junction) (c d t : Nat) : ({ j with sec := j.sec.event c d t } : Junction).quiet = j.quiet := by
  show ({ j.quiet with sec := { j.sec.event c d t with events := [], evDropped := 0 } } : Junction) = _
  rw [Sec.event_rest]; rfl

@[simp] theorem Junction.secEvent_quiet (j : Junction) (c d : Nat) : (j.secEvent c d).quiet = j.quiet := by
  unfold Junction.secEvent; rw [Junction.logE_quiet, Junction.secEvent_quiet_raw]

@[simp] theorem Junction.notePrivilege_quiet (j : Junction) (c o : Nat) : (j.notePrivilege c o).quiet = j.quiet := by
  unfold Junction.notePrivilege; split <;> simp

/-! ### Ports, signals, messages, alarms -/

@[simp] theorem Junction.setPort_quiet (j : Junction) (p : Nat) (x : Port) : (j.setPort p x).quiet = j.quiet := rfl

@[simp] theorem Junction.onPort_quiet (j : Junction) (p : Nat) (f : Port → Port) : (j.onPort p f).quiet = j.quiet := rfl

@[simp] theorem Junction.signal_quiet (j : Junction) (p c a : Nat) : (j.signal p c a).quiet = j.quiet := by
  unfold Junction.signal; split <;> rfl

@[simp] theorem Junction.send_quiet (j : Junction) (p v s t : Nat) (b : Bytes) : (j.send p v s t b).quiet = j.quiet := by
  unfold Junction.send; split <;> rfl

@[simp] theorem Junction.export_quiet (j : Junction) (c k t key : Nat) (d : Bytes) : (j.export_ c k t key d).quiet = j.quiet :=
  Junction.quiet_of_unlogged (Junction.export_unlogged j c k t key d)

@[simp] theorem Junction.exportTo_quiet (j : Junction) (o k t key : Nat) (d : Bytes) : (j.exportTo o k t key d).quiet = j.quiet :=
  Junction.quiet_of_unlogged (Junction.exportTo_unlogged j o k t key d)

@[simp] theorem Junction.queueAlarm_quiet (j : Junction) (e : Nat) (b : Bytes) : (j.queueAlarm e b).quiet = j.quiet := by
  unfold Junction.queueAlarm
  dsimp only
  rw [Junction.exportTo_quiet]
  exact foldl_keeps Junction.quiet _ (fun a c => by split <;> rfl) _ _

@[simp] theorem Junction.sendAlarm_quiet (j : Junction) (c e : Nat) (b : Bytes) : (j.sendAlarm c e b).quiet = j.quiet := by
  unfold Junction.sendAlarm
  dsimp only
  rw [Junction.queueAlarm_quiet]
  exact foldl_keeps Junction.quiet _ (fun a p => by simp) _ _

@[simp] theorem Junction.event_quiet (j : Junction) (c : Nat) (ws : List Nat) : (j.event c ws).1.quiet = j.quiet := Junction.logE_quiet j c ws

@[simp] theorem Junction.alarmEvent_quiet (j : Junction) (c : Nat) (ws : List Nat) (cls e : Nat) : (j.alarmEvent c ws cls e).quiet = j.quiet := by
  unfold Junction.alarmEvent; dsimp only; rw [Junction.sendAlarm_quiet, Junction.event_quiet]

@[simp] theorem Junction.bareAlarm_quiet (j : Junction) (cls e : Nat) (ws : List Nat) : (j.bareAlarm cls e ws).quiet = j.quiet :=
  Junction.sendAlarm_quiet _ _ _ _

/-! ### Replies -/

@[simp] theorem Junction.setMbox_still (j : Junction) (m : Nat) (x : Mailbox) : (j.setMbox m x).still = j.still := rfl

theorem Junction.setQuiet_still {j k : Junction} (h : j.quiet = k.quiet) : j.still = k.still := Junction.still_of_quiet h

@[simp] theorem Junction.sendProtected_still (j : Junction) (p : Nat) (l : List Bytes) : (j.sendProtected p l).still = j.still := by
  unfold Junction.sendProtected
  split
  · rfl
  · dsimp only
    split
    · exact Eq.trans (b := (j.secEvent 10 p).still) rfl (Junction.still_of_quiet (Junction.secEvent_quiet j 10 p))
    · rfl

@[simp] theorem Junction.deliver_still (j : Junction) (m : Nat) (it : Taken) (r : Reply) : (j.deliver m it r).still = j.still := by
  unfold Junction.deliver
  split
  · exact Junction.still_of_quiet (Junction.send_quiet _ _ _ _ _ _)
  · split
    · rfl
    · exact Junction.sendProtected_still _ _ _

/-- A reply changes the mailboxes, the association that carries it, and nothing else but records of its end. -/
@[simp] theorem Junction.giveReply_still (j : Junction) (m : Nat) (it : Taken) (r : Reply) (k : Bool) : (j.giveReply m it r k).still = j.still := by
  unfold Junction.giveReply
  dsimp only
  rw [Junction.setMbox_still]
  repeat' split
  all_goals first | rfl | (rw [Junction.deliver_still]; rfl)

@[simp] theorem Junction.answer_still (j : Junction) (m : Nat) (it : Taken) (r : Rc) (b : Bytes) (k : Bool) : (j.answer m it r b k).still = j.still := by
  unfold Junction.answer
  dsimp only
  rw [Junction.giveReply_still]
  exact Junction.still_of_quiet (Junction.notePrivilege_quiet _ _ _)

@[simp] theorem Junction.popTaken_still (j : Junction) (m : Nat) : (j.popTaken m).still = j.still := rfl

@[simp] theorem Junction.owe_still (j : Junction) (m : Nat) (it : Taken) (w : Waits) : (j.owe m it w).still = j.still := rfl

@[simp] theorem Junction.payMailbox_still (j : Junction) (m : Nat) (pick : Owed → Bool) (r : Request → Nat → Reply) : (j.payMailbox m pick r).still = j.still := by
  unfold Junction.payMailbox
  dsimp only
  split
  · rfl
  · exact foldl_keeps Junction.still _ (fun a o => by simp) _ _

/-- Completing owed replies changes only what replies change. -/
@[simp] theorem Junction.pay_still (j : Junction) (pick : Owed → Bool) (r : Rc) (b : Bytes) : (j.pay pick r b).still = j.still :=
  foldl_keeps Junction.still _ (fun a m => by simp) _ _

@[simp] theorem Junction.settleLinks_still (j : Junction) : j.settleLinks.still = j.still := Junction.pay_still _ _ _ _

end Sys2Proof.Machine
end

