-- ==== Sys2Proof/Laws/Mail.lean ====
section
/-! SUPPORT. Operations that never look at the mailboxes: doing them with other mailboxes gives the same Junction with those mailboxes. -/

namespace Sys2Proof.Machine

/-- The Junction with other mailboxes. -/
def Junction.withMail (j : Junction) (l : List Mailbox) : Junction := { j with mail := l }

theorem foldl_comm {α β : Type} (g : α → α) (f : α → β → α) (h : ∀ a b, f (g a) b = g (f a b)) (l : List β) (a : α) : l.foldl f (g a) = g (l.foldl f a) := by
  induction l generalizing a with
  | nil => rfl
  | cons b t ih => rw [List.foldl_cons, List.foldl_cons, h, ih]

theorem Junction.export_withMail (j : Junction) (l : List Mailbox) (c k t key : Nat) (d : Bytes) :
    (j.withMail l).export_ c k t key d = (j.export_ c k t key d).withMail l := by
  have hc : (j.withMail l).ctx c = j.ctx c := rfl
  have hs : (j.withMail l).share c = j.share c := rfl
  have he : (j.withMail l).exp = j.exp := rfl
  unfold Junction.export_
  rw [hc, hs, he]
  split
  · rfl
  · dsimp only; split <;> rfl

theorem Junction.exportTo_withMail (j : Junction) (l : List Mailbox) (o k t key : Nat) (d : Bytes) :
    (j.withMail l).exportTo o k t key d = (j.exportTo o k t key d).withMail l :=
  foldl_comm (fun j : Junction => j.withMail l) _ (fun a _ => Junction.export_withMail a l _ _ _ _ _) _ _

/-- Marks of the log side that follow an entry. -/
theorem Junction.near_withMail (k : Junction) (l : List Mailbox) :
    ({ k.withMail l with nearFull := (k.withMail l).nearFullOf } : Junction) = ({ k with nearFull := k.nearFullOf } : Junction).withMail l := rfl

theorem Junction.openBlock_withMail (k : Junction) (l : List Mailbox) (c : Prop) [Decidable c] (n : Nat) :
    (if c then { k.withMail l with store := (k.withMail l).store.openBlock (k.withMail l).tray n } else k.withMail l)
      = (if c then { k with store := k.store.openBlock k.tray n } else k : Junction).withMail l := by
  by_cases h : c
  · have hb : (k.withMail l).store.openBlock (k.withMail l).tray n = k.store.openBlock k.tray n := by
      rw [show (k.withMail l).store = k.store from rfl, show (k.withMail l).tray = k.tray from rfl]
    rw [if_pos h, if_pos h, hb]
    generalize k.store.openBlock k.tray n = z
    rfl
  · rw [if_neg h, if_neg h]

theorem Junction.enterLog_withMail (j : Junction) (l : List Mailbox) (n o : Nat) (b : Bytes) : (j.withMail l).enterLog n o b = (j.enterLog n o b).withMail l := by
  have hl : (j.withMail l).log n = j.log n := rfl
  have hs : ∀ g : JnLog, (j.withMail l).setLog n g = (j.setLog n g).withMail l := fun _ => rfl
  unfold Junction.enterLog
  simp only [hl, hs, Junction.openBlock_withMail, Junction.exportTo_withMail]
  rw [← Junction.near_withMail]
  generalize (j.log n).recs.getLast? = x
  have hif : ∀ (c : Prop) [Decidable c] (a b : Junction), (if c then a.withMail l else b.withMail l) = (if c then a else b).withMail l := fun c _ a b => by split <;> rfl
  cases x with
  | none => simp only [hif]
  | some last =>
    by_cases h : foldable last b
    · simp only [h, if_true]; rfl
    · simp only [h]; simp only [hif]; rfl

theorem Junction.commitRecord_withMail (j : Junction) (l : List Mailbox) (n o : Nat) (b : Bytes) : (j.withMail l).commitRecord n o b = (j.commitRecord n o b).withMail l := by
  have hl : (j.withMail l).log n = j.log n := rfl
  have hs : ∀ g : JnLog, (j.withMail l).setLog n g = (j.setLog n g).withMail l := fun _ => rfl
  unfold Junction.commitRecord
  simp only [hl, hs, Junction.enterLog_withMail]
  generalize (j.log n).expected = x
  cases x with
  | none => rfl
  | some e =>
    by_cases h : atOrAfter (rd b 0x14 4) e = true
    · simp only [h, if_true]
    · simp only [h]; rfl

theorem Junction.event_withMail (j : Junction) (l : List Mailbox) (c : Nat) (ws : List Nat) : ((j.withMail l).event c ws).1 = (j.event c ws).1.withMail l := by
  have h1 : (j.withMail l).logRate = j.logRate := rfl
  have h2 : (j.withMail l).logTokens = j.logTokens := rfl
  have h3 : ∀ a b d, (j.withMail l).ownRecord a b d ws = j.ownRecord a b d ws := fun _ _ _ => rfl
  unfold Junction.event
  simp only [h1, h2, h3]
  by_cases hb : fld (Tbl.get 8 j.logRate c) 0 8 = 0
  · rw [if_pos hb, if_pos hb]
  · rw [if_neg hb, if_neg hb]
    by_cases ht : Tbl.get 8 j.logTokens c = 0
    · rw [if_pos ht, if_pos ht]; rfl
    · rw [if_neg ht, if_neg ht]
      exact Junction.commitRecord_withMail { j with logTokens := Tbl.put 8 j.logTokens c (Tbl.get 8 j.logTokens c - 1), ownSeq := (j.ownSeq + 1) % 2 ^ 32 } l 0 0 _

theorem Junction.logE_withMail (j : Junction) (l : List Mailbox) (c : Nat) (ws : List Nat) : (j.withMail l).logE c ws = (j.logE c ws).withMail l :=
  Junction.event_withMail j l c ws

theorem Junction.secEvent_withMail (j : Junction) (l : List Mailbox) (c d : Nat) : (j.withMail l).secEvent c d = (j.secEvent c d).withMail l :=
  Junction.logE_withMail { j with sec := j.sec.event c d j.clk.tickWord.toNat } l 0x32 [c, d]

theorem Junction.notice_withMail (j : Junction) (l : List Mailbox) (c : Nat) : (j.withMail l).notice c = (j.notice c).withMail l := by
  have h1 : (j.withMail l).notices = j.notices := rfl
  unfold Junction.notice; rw [h1]; split <;> rfl

theorem Junction.send_withMail (j : Junction) (l : List Mailbox) (p v s t : Nat) (b : Bytes) : (j.withMail l).send p v s t b = (j.send p v s t b).withMail l := by
  have h : (j.withMail l).port p = j.port p := rfl
  unfold Junction.send; rw [h]; split <;> rfl

theorem Junction.signal_withMail (j : Junction) (l : List Mailbox) (p c a : Nat) : (j.withMail l).signal p c a = (j.signal p c a).withMail l := by
  have h : (j.withMail l).port p = j.port p := rfl
  unfold Junction.signal; rw [h]; split <;> rfl

theorem Junction.noteShadow_withMail (j : Junction) (l : List Mailbox) (p a : Nat) (v : Word) : (j.withMail l).noteShadow p a v = (j.noteShadow p a v).withMail l := by
  unfold Junction.noteShadow; dsimp only; split <;> rfl

theorem Junction.request_withMail (j : Junction) (l : List Mailbox) (p : Nat) (u : TxnUse) (ops : List CfgOp) : (j.withMail l).request p u ops = (j.request p u ops).withMail l := by
  unfold Junction.request
  refine foldl_comm (fun j : Junction => j.withMail l) _ (fun a i => ?_) _ _
  have h : (a.withMail l).nextTxn = a.nextTxn := rfl
  dsimp only
  rw [h, Junction.send_withMail]; rfl

theorem Junction.writeLs_withMail (j : Junction) (l : List Mailbox) (p : Nat) (u : TxnUse) (ws : List (Nat × Nat)) : (j.withMail l).writeLs p u ws = (j.writeLs p u ws).withMail l := by
  have h : (j.withMail l).port p = j.port p := rfl
  unfold Junction.writeLs
  rw [h]
  split
  · rfl
  · rw [foldl_comm (fun j : Junction => j.withMail l) _ (fun a i => Junction.noteShadow_withMail a l _ _ _), Junction.request_withMail]

theorem Junction.dieTo_withMail (j : Junction) (l : List Mailbox) (k : Nat) (st : DieSt) : (j.withMail l).dieTo k st = (j.dieTo k st).withMail l := by
  have h : (j.withMail l).die k = j.die k := rfl
  unfold Junction.dieTo
  rw [h]
  dsimp only
  split
  · rfl
  · have hd : ∀ d : DieSlot, (j.withMail l).setDie k d = (j.setDie k d).withMail l := fun _ => rfl
    rw [hd, show (j.withMail l).portMap = j.portMap from rfl, Junction.logE_withMail]

theorem Junction.sendFlush_withMail (j : Junction) (l : List Mailbox) : (j.withMail l).sendFlush = j.sendFlush.withMail l := by
  unfold Junction.sendFlush
  rw [show (j.withMail l).tray = j.tray from rfl]
  split
  · exact foldl_comm (fun j : Junction => j.withMail l) _ (fun _ _ => Junction.signal_withMail _ _ _ _ _) _ _
  · rfl

theorem Junction.deriveMaps_withMail (j : Junction) (l : List Mailbox) (t : TtImage) (k : Nat) : (j.withMail l).deriveMaps t k = (j.deriveMaps t k).withMail l := by
  have h1 : (j.withMail l).lsStandby k = j.lsStandby k := rfl
  have h2 : (j.withMail l).tray = j.tray := rfl
  have h3 : (j.withMail l).port k = j.port k := rfl
  unfold Junction.deriveMaps
  rw [h1, h2, h3, show (j.withMail l).banksRead = j.banksRead from rfl]
  split
  · rfl
  · rw [Junction.writeLs_withMail, Junction.request_withMail]

theorem Junction.deriveAll_withMail (j : Junction) (l : List Mailbox) (t : TtImage) :
    (List.range 32).foldl (fun j p => j.deriveMaps t p) (j.withMail l) = ((List.range 32).foldl (fun j p => j.deriveMaps t p) j).withMail l :=
  foldl_comm (fun j : Junction => j.withMail l) _ (fun _ _ => Junction.deriveMaps_withMail _ _ _ _) _ _

theorem Junction.writeAll_withMail (j : Junction) (l : List Mailbox) (u : TxnUse) (ws : List (Nat × Nat)) (ps : List Nat) :
    ps.foldl (fun j q => j.writeLs q u ws) (j.withMail l) = (ps.foldl (fun j q => j.writeLs q u ws) j).withMail l :=
  foldl_comm (fun j : Junction => j.withMail l) _ (fun _ _ => Junction.writeLs_withMail _ _ _ _ _) _ _

theorem Junction.setBank_withMail (j : Junction) (l : List Mailbox) (b : Nat) (k : JnBank) : (j.withMail l).setBank b k = (j.setBank b k).withMail l := by
  unfold Junction.setBank; split <;> rfl

theorem Junction.enterService_withMail (j : Junction) (l : List Mailbox) (st cause : Nat) : (j.withMail l).enterService st cause = (j.enterService st cause).withMail l := by
  have hif : ∀ (c : Prop) [Decidable c] (a b : Junction), (if c then a.withMail l else b.withMail l) = (if c then a else b).withMail l := fun c _ a b => by split <;> rfl
  unfold Junction.enterService
  dsimp only
  rw [show ({ j.withMail l with boot := { (j.withMail l).boot with service := st, cause := if st = 3 then cause else 0 } } : Junction)
    = ({ j with boot := { j.boot with service := st, cause := if st = 3 then cause else 0 } } : Junction).withMail l from rfl]
  rw [Junction.logE_withMail, show (j.withMail l).boot = j.boot from rfl, show (j.withMail l).clk = j.clk from rfl]
  simp only [Junction.notice_withMail, hif]

theorem Junction.advertise_withMail (j : Junction) (l : List Mailbox) : (j.withMail l).advertise = j.advertise.withMail l := by
  have h : ∀ (ps : List Nat) (k : Junction), ps.foldl (fun k p => k.send p 3 1 0 k.advertisement) (k.withMail l) = (ps.foldl (fun k p => k.send p 3 1 0 k.advertisement) k).withMail l :=
    fun ps k => foldl_comm (fun j : Junction => j.withMail l) _ (fun a _ => Junction.send_withMail a l _ 3 1 0 a.advertisement) ps k
  exact h _ _

theorem Junction.lostSet_withMail (k : Junction) (l : List Mailbox) (p : Nat) : (k.withMail l).lostSet p = (k.lostSet p).withMail l := by
  have hs : ∀ (j : Junction) (b : List Nat), (if (j.withMail l).slotNames (p % 32) = b then j.withMail l else (j.withMail l).advertise)
      = (if j.slotNames (p % 32) = b then j else j.advertise).withMail l := fun j b => by
    rw [show (j.withMail l).slotNames = j.slotNames from rfl]
    split
    · rfl
    · exact Junction.advertise_withMail j l
  unfold Junction.lostSet
  rw [show (k.withMail l).tray = k.tray from rfl, show (k.withMail l).port = k.port from rfl, show (k.withMail l).subtree = k.subtree from rfl]
  split
  · dsimp only
    split
    · exact hs { k with subtree := [p % 32, 32 + p % 32, 64 + p % 32].foldl (fun t i => Tbl.put [] t i []) k.subtree } _
    · exact hs k _
  · rfl

theorem Junction.linkLost_withMail (j : Junction) (l : List Mailbox) (p : Nat) : (j.withMail l).linkLost p = (j.linkLost p).withMail l := by
  unfold Junction.linkLost
  dsimp only
  rw [← Junction.lostSet_withMail]
  congr 1
  by_cases h : ({ j with txns := j.txns.filter (fun t => t.port != p) } : Junction).linesidePort p = true
  · refine (if_pos h).trans ?_
    rw [if_pos h]; rfl
  · refine (if_neg h).trans ?_
    rw [if_neg h]; rfl

theorem Junction.bulkBytes_withMail (j : Junction) (l : List Mailbox) (p sub_ : Nat) (b : Bytes) (d g w : Bool) :
    (j.withMail l).bulkBytes p sub_ b d g w = (j.bulkBytes p sub_ b d g w).withMail l := by
  unfold Junction.bulkBytes
  rw [show (j.withMail l).viewers = j.viewers from rfl, show (j.withMail l).die = j.die from rfl]
  refine foldl_comm (fun j : Junction => j.withMail l) _ (fun a c => ?_) _ _
  dsimp only
  rw [show (a.withMail l).ctx = a.ctx from rfl, show (a.withMail l).exp = a.exp from rfl]
  split
  · rfl
  · rw [show (a.withMail l).share = a.share from rfl, show (a.withMail l).tickNow = a.tickNow from rfl,
      show (a.withMail l).twin = a.twin from rfl, show (a.withMail l).clk = a.clk from rfl]
    generalize a.exp.bulkStep (16 * (4 * p + sub_) + c) c (a.share c) a.tickNow a.exp.nextMsg a.twin.duty (a.twin.takeoverTick == some a.clk.markTick) b d g = x
    obtain ⟨e, lost⟩ := x
    cases lost <;> rfl

theorem Junction.portMoved_withMail (j : Junction) (l : List Mailbox) (p : Nat) (x : Port) : (j.withMail l).portMoved p x = (j.portMoved p x).withMail l := by
  unfold Junction.portMoved
  dsimp only
  rw [show (j.withMail l).port = j.port from rfl, show (j.withMail l).setPort p x = (j.setPort p x).withMail l from rfl]
  split
  · rw [show ((j.setPort p x).withMail l).linesidePort = (j.setPort p x).linesidePort from rfl]
    split
    · rw [foldl_comm (fun j : Junction => j.withMail l) _ (fun a m => Junction.bulkBytes_withMail a l _ _ _ _ _ _), Junction.linkLost_withMail]
    · rw [Junction.linkLost_withMail]
  · rfl

end Sys2Proof.Machine
end

