-- ==== Sys2Proof/Laws/Commands.lean ====
section
/-! SUPPORT. How a served mailbox request executes: one lemma for a command that ends with its reply, one for a reply that is owed (R448 to R452). -/

namespace Sys2Proof.Machine

@[simp] theorem Junction.setMbox_mbox (j : Junction) (m : Nat) (x : Mailbox) (h : m < j.mail.length) : (j.setMbox m x).mbox m = x := by
  simp [Junction.setMbox, Junction.mbox, List.getD_eq_getElem?_getD, h]

@[simp] theorem Junction.setMbox_length (j : Junction) (m : Nat) (x : Mailbox) : (j.setMbox m x).mail.length = j.mail.length := by
  simp [Junction.setMbox]

@[simp] theorem Junction.setMbox_setMbox (j : Junction) (m : Nat) (x y : Mailbox) : (j.setMbox m x).setMbox m y = j.setMbox m y := by
  simp [Junction.setMbox]

/-- Requests of defined opcodes at the head settle nothing. -/
theorem Junction.settle_known (j : Junction) (m : Nat) (h : ∀ n, (j.mbox m).taken.head? = some n → knownOps.contains n.req.opcode = true) :
    j.settle m = j := by
  have key : ∀ (l : List Nat), l.foldl (fun (j : Junction) _ =>
      match (j.mbox m).taken with
      | it :: _ => if knownOps.contains it.req.opcode then j else j.process m it (fun j => j) (fun j => j.answer m it (rc 0x11) [] true)
      | [] => j) j = j := by
    intro l
    induction l with
    | nil => rfl
    | cons a t ih =>
      rw [List.foldl_cons]
      have : (match (j.mbox m).taken with
        | it :: _ => if knownOps.contains it.req.opcode then j else j.process m it (fun j => j) (fun j => j.answer m it (rc 0x11) [] true)
        | [] => j) = j := by
        split
        · rename_i it rest heq
          rw [if_pos (h it (by rw [heq]; rfl))]
        · rfl
      rw [this]; exact ih
  exact key _

/-- The Junction once a served request has left the queue and its SEQ is noted. -/
def Junction.accept (j : Junction) (m : Nat) (it : Taken) (rest : List Taken) : Junction :=
  match (j.mbox m).session with
  | some ss => j.setMbox m { j.mbox m with taken := rest, session := some { ss with seq := it.req.seq, stored := none } }
  | none => j

theorem session_live {x : Option Session} {q : Request}
    (h : x.any (fun ss => !ss.expired && ss.closing.isNone && q.seq == (ss.seq + 1) % 2 ^ 64 && q.ctx == ss.ctx) = true) :
    ∃ ss, x = some ss ∧ ss.expired = false ∧ ss.closing = none ∧ q.seq = (ss.seq + 1) % 2 ^ 64 ∧ q.ctx = ss.ctx := by
  cases x with
  | none => simp at h
  | some ss =>
    simp only [Option.any_some, Bool.and_eq_true, Bool.not_eq_true', Option.isNone_iff_eq_none, beq_iff_eq] at h
    exact ⟨ss, rfl, h.1.1.1, h.1.1.2, h.1.2, h.2⟩

theorem succ_mod_ne (a : Nat) : (a + 1) % 2 ^ 64 ≠ a := by omega

/-- A served request executes as its command. -/
theorem Junction.command_run {j : Junction} {m : Nat} {it : Taken} {rest : List Taken} {c : Cmd} {mg rec st : Bool}
    (hs : Served j m it rest c.op mg rec st) (hw : it.req.ctx = 0 ∨ c.who = .any ∨ (c.who = .mRead ∧ j.sec.open_ = true)) (hr : c.recovery = rec ∨ c.op = 7) (hst : c.status = st)
    (hop : c.op ≠ 1) (hb : c.shape it.req.body = true) :
    j.command c m = (match c.run (j.accept m it rest) m it.req with
      | (k, .done r b) => (let k := k.notePrivilege r.code it.req.opcode; k.giveReply m it (k.reply m it.req j.execTick r b) true)
      | (k, .wait w) => k.setMbox m { k.mbox m with owed := (k.mbox m).owed ++ [⟨it, k.clk.up, j.execTick, w⟩] } : Junction).settle m := by
  obtain ⟨hp, hm, hl, ht, hk, ho, hj, hx, hrem, hss, hmg, hrec, hstop⟩ := hs
  obtain ⟨ss, h1, h2, h3, h4, h5⟩ := session_live hss
  have hne : it.req.seq ≠ ss.seq := by rw [h4]; exact succ_mod_ne _
  have hg : (it.req.opcode ≠ c.op || (j.flush.stopped && !c.status) || decide (16 < m)) = false := by
    have : ¬ 16 < m := by omega
    cases st
    · simp [ho, hstop rfl, this]
    · simp [ho, hst, this]
  have hadm : j.admission m it.req = .exec := by
    unfold Junction.admission
    rw [if_neg (by omega : ¬ m = 16), h1]
    simp [h3, hne, hj, hx, h5, ho, hop] <;> exact h4
  have hpop : (j.popTaken m).setMbox m (((j.popTaken m).mbox m).execute it.req) = j.accept m it rest := by
    unfold Junction.popTaken Junction.accept
    rw [h1]
    simp [hl, ht, Mailbox.countDown, Mailbox.execute, h1, h3]
  have hperf : (j.accept m it rest).perform c m it = (match c.run (j.accept m it rest) m it.req with
      | (k, .done r b) => (let k := k.notePrivilege r.code it.req.opcode; k.giveReply m it (k.reply m it.req j.execTick r b) true)
      | (k, .wait w) => k.setMbox m { k.mbox m with owed := (k.mbox m).owed ++ [⟨it, k.clk.up, j.execTick, w⟩] } : Junction) := by
    have e1 : (j.accept m it rest).boot = j.boot := by unfold Junction.accept; rw [h1]; rfl
    have e2 : (j.accept m it rest).confirmed = j.confirmed := by unfold Junction.accept; rw [h1]; rfl
    have e3 : (j.accept m it rest).remote it.req = j.remote it.req := by unfold Junction.accept; rw [h1]; rfl
    have e4 : (j.accept m it rest).sec = j.sec := by unfold Junction.accept; rw [h1]; rfl
    have e5 : (j.accept m it rest).execTick = j.execTick := by unfold Junction.accept; rw [h1]; rfl
    unfold Junction.perform
    simp only [e1, e2, e3, e4, e5, hrem, hb]
    have hrel : (j.boot.service == 3 && !c.recovery && it.req.opcode != 7) = false := by
      cases rec
      · simp [(hrec rfl).1]
      · rcases hr with hr | hr <;> simp [hr, ho]
    have hcon : (!j.confirmed && !c.recovery && it.req.opcode != 7) = false := by
      cases rec
      · simp [(hrec rfl).2]
      · rcases hr with hr | hr <;> simp [hr, ho]
    obtain ⟨cop, cwho, crec, cst, cshape, crun⟩ := c
    dsimp only at hw hrel hcon ⊢
    have h' := trivial
    rcases hw with h | h | ⟨h, h'⟩
    all_goals simp only [h, h', hrel, hcon, bne_self_eq_false, Bool.false_and, Bool.and_false, Bool.not_true, Bool.false_eq_true, if_false]
    all_goals rcases crun (j.accept m it rest) m it.req with ⟨k, o⟩
    all_goals cases o <;> rfl
  unfold Junction.command
  rw [ht]
  simp only [hg]
  unfold Junction.process
  rw [hadm]
  dsimp only
  rw [if_neg (by omega : ¬ m = 16), hpop, hperf]
  simp


/-- Mailbox m of k stands as a served request leaves it while its command runs. -/
def Junction.Holds (j k : Junction) (m : Nat) (it : Taken) (rest : List Taken) : Prop :=
  m < k.mail.length ∧ (k.mbox m).taken = rest ∧ (k.mbox m).rplTail = (j.mbox m).rplTail ∧ (k.mbox m).replies = (j.mbox m).replies
  ∧ ∃ ss, (k.mbox m).session = some ss ∧ ss.seq = it.req.seq ∧ ss.expired = false ∧ ss.closing = none ∧ ss.stored = none

theorem Junction.accept_holds {j : Junction} {m : Nat} {it : Taken} {rest : List Taken} {op : Nat} {mg rec st : Bool} (hs : Served j m it rest op mg rec st) :
    j.Holds (j.accept m it rest) m it rest := by
  obtain ⟨hp, hm, hl, ht, hk, ho, hj, hx, hrem, hss, hmg, hrec, hstop⟩ := hs
  obtain ⟨ss, h1, h2, h3, h4, h5⟩ := session_live hss
  unfold Junction.accept
  rw [h1]
  refine ⟨by simpa using hl, ?_⟩
  rw [Junction.setMbox_mbox _ _ _ hl]
  exact ⟨rfl, rfl, rfl, _, rfl, rfl, h2, h3, rfl⟩

theorem Junction.secEvent_mail (j : Junction) (c d : Nat) : (j.secEvent c d).mail = j.mail := by
  unfold Junction.secEvent; simp

theorem Junction.sendProtected_mail (j : Junction) (p : Nat) (l : List Bytes) : (j.sendProtected p l).mail = j.mail := by
  unfold Junction.sendProtected
  split
  · rfl
  · dsimp only; split
    · exact Junction.secEvent_mail j 10 p
    · rfl

theorem Junction.giveReply_replied {j k : Junction} {m : Nat} {it : Taken} {rest : List Taken} (hm : m < 16) (hk : j.Holds k m it rest) (r : Reply)
    (h1 : r.opcode = it.req.opcode) (h2 : r.tag = it.req.tag) (h3 : r.seq = it.req.seq) (h4 : r.responder = k.id) (h5 : r.execTick = j.clk.tickWord.toNat) :
    Replied j (k.giveReply m it r true) m it rest r.result r.body := by
  obtain ⟨hl, ht, hq, hr, ss, e1, e2, e3, e4, e5⟩ := hk
  have hid : (k.giveReply m it r true).id = k.id := by
    have h := Junction.giveReply_still k m it r true
    have a : (k.giveReply m it r true).straps = k.straps := by
      have a := congrArg Junction.straps h; rwa [Junction.still_straps, Junction.still_straps] at a
    have b : (k.giveReply m it r true).index = k.index := by
      have a := congrArg Junction.index h; rwa [Junction.still_index, Junction.still_index] at a
    simp only [Junction.id, Junction.role, a, b]
  have hx : (k.giveReply m it r true).mbox m
      = (if m < 8 then { k.mbox m with session := some { ss with stored := some r }, replies := (k.mbox m).replies ++ [r], rplTail := ((k.mbox m).rplTail + 1) % 65536 }
         else { k.mbox m with session := some { ss with stored := some r } } : Mailbox) := by
    unfold Junction.giveReply
    have hst : (k.mbox m).store r = { k.mbox m with session := some { ss with stored := some r } } := by
      unfold Mailbox.store; rw [e1]; simp [e2, h3]
    simp only [e1, e3, hst, if_true]
    unfold Junction.deliver
    rw [if_neg (by omega : ¬ m = 16)]
    by_cases h8 : m < 8
    · simp only [h8, if_true]
      simp [hl, Mailbox.settleSession, e4]
    · simp only [h8, if_false]
      have : ∀ (a : Junction) p l, (a.sendProtected p l).mbox m = a.mbox m := fun a p l => by unfold Junction.mbox; rw [Junction.sendProtected_mail]
      rw [if_neg (by simp)]
      rw [Junction.setMbox_mbox _ _ _ (by rw [Junction.sendProtected_mail]; simpa using hl), this, Junction.setMbox_mbox _ _ _ hl]
      simp [Mailbox.settleSession, e4]
  refine ⟨{ ss with stored := some r }, r, ?_, e2, rfl, h1, h2, h3, ?_, h5, rfl, rfl, ?_, ?_⟩
  · rw [hx]; split <;> rfl
  · rw [hid]; exact h4
  · rw [hx]; split <;> exact ht
  · intro h8
    rw [hx, if_pos h8]
    exact ⟨by rw [← hq], by rw [← hr]⟩

theorem leaves_mail {m : Nat} {j k : Junction} {l : List Mailbox} (h : Leaves m j { k with mail := l }) : Leaves m j k := h

/-- The Junction without its mailboxes. -/
def Junction.noMail (j : Junction) : Junction := { j with mail := [] }

theorem Junction.giveReply_leaves {j : Junction} {m : Nat} (it : Taken) (r : Reply) : Leaves m (j.giveReply m it r true) j := by
  refine ⟨?_, Junction.giveReply_still _ _ _ _ _⟩
  intro h8
  have hset : ∀ (k : Junction) (x : Mailbox), Junction.noMail (k.setMbox m x) = Junction.noMail k := fun _ _ => rfl
  have hd : ∀ k : Junction, Junction.noMail (k.deliver m it r) = Junction.noMail k := by
    intro k; unfold Junction.deliver; rw [if_neg (by omega : ¬ m = 16), if_pos h8]; rfl
  show Junction.noMail (j.giveReply m it r true) = Junction.noMail j
  unfold Junction.giveReply
  dsimp only
  rw [hset]
  repeat' split
  all_goals first | (rw [hd, hset]) | (rw [hset])

/-- A served request of a command that ends at once: its reply is given, and apart from what replies change the Junction is as the
command's effect `k` leaves it. -/
theorem Junction.command_done {j k : Junction} {m : Nat} {it : Taken} {rest : List Taken} {c : Cmd} {mg rec st : Bool} {r : Rc} {b : Bytes}
    (hs : Served j m it rest c.op mg rec st) (hw : it.req.ctx = 0 ∨ c.who = .any ∨ (c.who = .mRead ∧ j.sec.open_ = true)) (hr : c.recovery = rec ∨ c.op = 7) (hst : c.status = st)
    (hop : c.op ≠ 1) (hb : c.shape it.req.body = true) (hrun : c.run (j.accept m it rest) m it.req = (k, .done r b)) (hcode : r.code ≠ 0x13)
    (hk : j.Holds k m it rest) :
    Replied j (j.command c m) m it rest r.code b ∧ Leaves m (j.command c m) k := by
  have hc : j.command c m = (k.giveReply m it (k.reply m it.req j.execTick r b) true).settle m := by
    rw [Junction.command_run hs hw hr hst hop hb, hrun]
    simp [Junction.notePrivilege, hcode]
  have hrep := Junction.giveReply_replied (j := j) hs.2.1 hk (k.reply m it.req j.execTick r b) rfl rfl rfl rfl rfl
  have hset : j.command c m = k.giveReply m it (k.reply m it.req j.execTick r b) true := by
    rw [hc, Junction.settle_known]
    intro n hn
    obtain ⟨_, _, _, _, _, _, _, _, _, _, _, _, ht, _⟩ := hrep
    rw [ht] at hn
    have h := hs.2.2.2.2.1
    rw [hn] at h
    simpa using h
  rw [hset]
  exact ⟨hrep, Junction.giveReply_leaves _ _⟩

theorem Junction.accept_eq {j : Junction} {m : Nat} {it : Taken} {rest : List Taken} {op : Nat} {mg rec st : Bool} (hs : Served j m it rest op mg rec st) :
    ∃ l, j.accept m it rest = j.withMail l := by
  obtain ⟨hp, hm, hl, ht, hk, ho, hj, hx, hrem, hss, hmg, hrec, hstop⟩ := hs
  obtain ⟨ss, h1, -⟩ := session_live hss
  unfold Junction.accept
  rw [h1]
  exact ⟨_, rfl⟩

/-- A served request whose command neither looks at the mailboxes nor changes them. -/
theorem Junction.command_plain {j k : Junction} {m : Nat} {it : Taken} {rest : List Taken} {c : Cmd} {mg rec st : Bool} {r : Rc} {b : Bytes}
    (hs : Served j m it rest c.op mg rec st) (hw : it.req.ctx = 0 ∨ c.who = .any ∨ (c.who = .mRead ∧ j.sec.open_ = true)) (hr : c.recovery = rec ∨ c.op = 7) (hst : c.status = st)
    (hop : c.op ≠ 1) (hb : c.shape it.req.body = true) (hcode : r.code ≠ 0x13)
    (hrun : ∀ l, c.run (j.withMail l) m it.req = (k.withMail l, .done r b)) :
    Replied j (j.command c m) m it rest r.code b ∧ Leaves m (j.command c m) k := by
  obtain ⟨l, hl⟩ := Junction.accept_eq hs
  have hh := Junction.accept_holds hs
  rw [hl] at hh
  have h := Junction.command_done (k := k.withMail l) hs hw hr hst hop hb (by rw [hl]; exact hrun l) hcode hh
  exact ⟨h.1, leaves_mail h.2⟩

/-- A served request of a command that neither looks at the mailboxes nor changes them, and whose reply comes later. -/
theorem Junction.command_later {j k : Junction} {m : Nat} {it : Taken} {rest : List Taken} {c : Cmd} {mg rec st : Bool} {w : Waits}
    (hs : Served j m it rest c.op mg rec st) (hw : it.req.ctx = 0 ∨ c.who = .any ∨ (c.who = .mRead ∧ j.sec.open_ = true)) (hr : c.recovery = rec ∨ c.op = 7) (hst : c.status = st)
    (hop : c.op ≠ 1) (hb : c.shape it.req.body = true) (hrun : ∀ l, c.run (j.withMail l) m it.req = (k.withMail l, .wait w)) :
    Owing (j.command c m) m it rest w ∧ Junction.noMail (j.command c m) = Junction.noMail k := by
  obtain ⟨l, hl⟩ := Junction.accept_eq hs
  have hh := Junction.accept_holds hs
  rw [hl] at hh
  obtain ⟨h1, h2, h3, h4, ss, e1, e2, e3, e4, e5⟩ := hh
  have hm : (k.withMail l).mbox m = (j.withMail l).mbox m := rfl
  have hk : m < (k.withMail l).mail.length := h1
  have hc : j.command c m = ((k.withMail l).setMbox m { (j.withMail l).mbox m with owed := ((j.withMail l).mbox m).owed ++ [⟨it, k.clk.up, j.execTick, w⟩] }).settle m := by
    rw [Junction.command_run hs hw hr hst hop hb, hl, hrun l]
    rfl
  have hset : j.command c m = (k.withMail l).setMbox m { (j.withMail l).mbox m with owed := ((j.withMail l).mbox m).owed ++ [⟨it, k.clk.up, j.execTick, w⟩] } := by
    rw [hc, Junction.settle_known]
    intro n hn
    rw [Junction.setMbox_mbox _ _ _ hk] at hn
    have h := hs.2.2.2.2.1
    rw [show (((j.withMail l).mbox m).taken) = rest from h2] at hn
    rw [hn] at h
    simpa using h
  rw [hset]
  refine ⟨?_, rfl⟩
  unfold Owing
  rw [Junction.setMbox_mbox _ _ _ hk]
  refine ⟨?_, h2, ?_⟩
  · rw [e1]; simp [e2, e5]
  · simp

/-- A command row whose effect is `k` with an immediate reply completes its served request. -/
theorem completes_plain {x : Res} {s : State} {k : Junction} {m : Nat} {it : Taken} {rest : List Taken} {c : Cmd} {mg rec st : Bool} {code : Nat} {r : Rc} {b : Bytes}
    (hx : x = onJn (·.command c m) s) (hs : Served s.jn m it rest c.op mg rec st) (hc : r.code = code)
    (hw : it.req.ctx = 0 ∨ c.who = .any ∨ (c.who = .mRead ∧ s.jn.sec.open_ = true)) (hr : c.recovery = rec)
    (hst : c.status = st) (hop : c.op ≠ 1) (hb : c.shape it.req.body = true) (hcode : code ≠ 0x13)
    (hrun : ∀ l, c.run (s.jn.withMail l) m it.req = (k.withMail l, .done r b)) : CompletesWith x s m it rest code b k := by
  subst hc
  exact ⟨_, hx.trans (onJn_next _ _ hs.1), Junction.command_plain hs hw (.inl hr) hst hop hb hcode hrun⟩

/-- A command row whose reply comes later. -/
theorem defers_plain {x : Res} {s : State} {k : Junction} {m : Nat} {it : Taken} {rest : List Taken} {c : Cmd} {mg rec st : Bool} {w : Waits}
    (hx : x = onJn (·.command c m) s) (hs : Served s.jn m it rest c.op mg rec st)
    (hw : it.req.ctx = 0 ∨ c.who = .any ∨ (c.who = .mRead ∧ s.jn.sec.open_ = true)) (hr : c.recovery = rec)
    (hst : c.status = st) (hop : c.op ≠ 1) (hb : c.shape it.req.body = true)
    (hrun : ∀ l, c.run (s.jn.withMail l) m it.req = (k.withMail l, .wait w)) : DefersTo x s m it rest w k := by
  have h := Junction.command_later hs hw (.inl hr) hst hop hb hrun
  exact ⟨_, hx.trans (onJn_next _ _ hs.1), h.1, h.2⟩

/-- The management context of a served request of a command that is its alone. -/
theorem served_ctx {j : Junction} {m : Nat} {it : Taken} {rest : List Taken} {op : Nat} {rec st : Bool} (h : Served j m it rest op true rec st) : it.req.ctx = 0 :=
  h.2.2.2.2.2.2.2.2.2.2.1 rfl

/-- With no reply of a Lineside owed, settling the links changes nothing. -/
theorem Junction.settleLinks_settled (j : Junction) (h : j.settled) : j.settleLinks = j := by
  have key : ∀ (pick : Owed → Bool) (hp : ∀ o, pick o = true → ∃ p k, o.waits = .lineside p k) (r : Request → Nat → Reply) (m : Nat), j.payMailbox m pick r = j := by
    intro pick hp r m
    have : (j.mbox m).owed.filter pick = [] := by
      rw [List.filter_eq_nil_iff]
      intro o ho hpo
      obtain ⟨p, k, hw⟩ := hp o hpo
      by_cases hm : m < j.mail.length
      · have : j.mbox m ∈ j.mail := by
          unfold Junction.mbox
          rw [List.getD_eq_getElem?_getD, List.getElem?_eq_getElem hm]
          exact List.getElem_mem hm
        exact h _ this o ho p k hw
      · have : j.mbox m = Mailbox.init := by
          unfold Junction.mbox
          rw [List.getD_eq_getElem?_getD, List.getElem?_eq_none (by omega)]; rfl
        rw [this] at ho
        simp [Mailbox.init] at ho
    unfold Junction.payMailbox
    rw [this]; rfl
  unfold Junction.settleLinks Junction.pay
  have fold : ∀ (l : List Nat) (pick : Owed → Bool) (_ : ∀ o, pick o = true → ∃ p k, o.waits = .lineside p k),
      l.foldl (fun j m => j.payMailbox m pick (fun q e => j.reply m q e (rc 0xF0) [])) j = j := by
    intro l pick hp
    induction l with
    | nil => rfl
    | cons a t ih => rw [List.foldl_cons, key pick hp]; exact ih
  apply fold
  intro o ho
  revert ho
  cases o.waits with
  | lineside p k => intro; exact ⟨p, k, rfl⟩
  | relay p => intro h; simp at h
  | ballast u k => intro h; simp at h

/-- Accepting a request leaves what the mailboxes owe alone. -/
theorem Junction.accept_settled {j : Junction} {m : Nat} {it : Taken} {rest : List Taken} {op : Nat} {mg rec st : Bool} (hs : Served j m it rest op mg rec st)
    (h : j.settled) : ∃ l, j.accept m it rest = j.withMail l ∧ ∀ x ∈ l, ∀ o ∈ x.owed, ∀ p k, o.waits ≠ .lineside p k := by
  obtain ⟨hp, hm, hl, ht, hk, ho, hj, hx, hrem, hss, hmg, hrec, hstop⟩ := hs
  obtain ⟨ss, h1, -⟩ := session_live hss
  unfold Junction.accept
  rw [h1]
  refine ⟨_, rfl, ?_⟩
  intro x hx o ho
  rcases List.mem_or_eq_of_mem_set hx with hx | hx
  · exact h x hx o ho
  · subst hx
    have : j.mbox m ∈ j.mail := by
      unfold Junction.mbox
      rw [List.getD_eq_getElem?_getD, List.getElem?_eq_getElem hl]
      exact List.getElem_mem hl
    exact h _ this o ho

/-- A served request whose command may take a link out of service, while no reply of a Lineside is owed. -/
theorem completes_settled {x : Res} {s : State} {k : Junction} {m : Nat} {it : Taken} {rest : List Taken} {c : Cmd} {mg rec st : Bool} {code : Nat} {r : Rc} {b : Bytes}
    (hx : x = onJn (·.command c m) s) (hs : Served s.jn m it rest c.op mg rec st) (hset : s.jn.settled) (hc : r.code = code)
    (hw : it.req.ctx = 0 ∨ c.who = .any ∨ (c.who = .mRead ∧ s.jn.sec.open_ = true)) (hr : c.recovery = rec)
    (hst : c.status = st) (hop : c.op ≠ 1) (hb : c.shape it.req.body = true) (hcode : code ≠ 0x13)
    (hrun : ∀ l, (∀ y ∈ l, ∀ o ∈ y.owed, ∀ p k, o.waits ≠ .lineside p k) → c.run (s.jn.withMail l) m it.req = (k.withMail l, .done r b)) :
    CompletesWith x s m it rest code b k := by
  subst hc
  obtain ⟨l, hl, ho⟩ := Junction.accept_settled hs hset
  have hh := Junction.accept_holds hs
  rw [hl] at hh
  have h := Junction.command_done (k := k.withMail l) hs hw (.inl hr) hst hop hb (by rw [hl]; exact hrun l ho) hcode hh
  exact ⟨_, hx.trans (onJn_next _ _ hs.1), h.1, leaves_mail h.2⟩

end Sys2Proof.Machine
end

