-- ==== Sys2Proof/Laws/Memory.lean ====
section
/-! SUPPORT. Tables in canonical form, and the near tier: a read after a write, the bytes a write leaves, the form every write keeps (R346, R353). -/

namespace Sys2Proof

/-- No key below the first is listed. -/
theorem Tbl.get_below {α : Type} [DecidableEq α] (d : α) : ∀ (t : Tbl α) (lo k : Nat), Tbl.okFrom d lo t = true → k < lo → Tbl.get d t k = d
  | [], _, _, _, _ => rfl
  | (j, v) :: t, lo, k, h, hk => by
    simp only [Tbl.okFrom, Bool.and_eq_true, decide_eq_true_eq] at h
    simp only [Tbl.get]
    rw [if_neg (by omega), if_pos (by omega)]

/-- A table stays canonical from a lower key. -/
theorem Tbl.okFrom_mono {α : Type} [DecidableEq α] (d : α) (t : Tbl α) (a b : Nat) (h : a ≤ b) (ht : Tbl.okFrom d b t = true) : Tbl.okFrom d a t = true := by
  cases t with
  | nil => rfl
  | cons x t =>
    obtain ⟨j, v⟩ := x
    simp only [Tbl.okFrom, Bool.and_eq_true, decide_eq_true_eq] at ht ⊢
    exact ⟨⟨by omega, ht.1.2⟩, ht.2⟩

theorem Tbl.okFrom_del {α : Type} [DecidableEq α] (d : α) : ∀ (t : Tbl α) (lo k : Nat), Tbl.okFrom d lo t = true → Tbl.okFrom d lo (Tbl.del t k) = true
  | [], _, _, _ => rfl
  | (j, v) :: t, lo, k, h => by
    have h' := h
    simp only [Tbl.okFrom, Bool.and_eq_true, decide_eq_true_eq] at h
    simp only [Tbl.del]
    split
    · exact Tbl.okFrom_mono d t lo (j + 1) (by omega) h.2
    · split
      · exact h'
      · simp only [Tbl.okFrom, Bool.and_eq_true, decide_eq_true_eq]
        exact ⟨h.1, Tbl.okFrom_del d t (j + 1) k h.2⟩

theorem Tbl.okFrom_ins {α : Type} [DecidableEq α] (d : α) (v : α) (hv : v ≠ d) :
    ∀ (t : Tbl α) (lo k : Nat), lo ≤ k → Tbl.okFrom d lo t = true → Tbl.okFrom d lo (Tbl.ins t k v) = true
  | [], lo, k, hk, _ => by simp [Tbl.ins, Tbl.okFrom, hk, hv]
  | (j, w) :: t, lo, k, hk, h => by
    simp only [Tbl.okFrom, Bool.and_eq_true, decide_eq_true_eq] at h
    simp only [Tbl.ins]
    split
    · rename_i e
      subst e
      simp only [Tbl.okFrom, Bool.and_eq_true, decide_eq_true_eq]
      exact ⟨⟨hk, hv⟩, h.2⟩
    · split
      · simp only [Tbl.okFrom, Bool.and_eq_true, decide_eq_true_eq]
        exact ⟨⟨hk, hv⟩, ⟨by omega, h.1.2⟩, h.2⟩
      · simp only [Tbl.okFrom, Bool.and_eq_true, decide_eq_true_eq]
        exact ⟨h.1, Tbl.okFrom_ins d v hv t (j + 1) k (by omega) h.2⟩

/-- A write keeps the canonical form. -/
theorem Tbl.ok_put {α : Type} [DecidableEq α] (d : α) (t : Tbl α) (k : Nat) (v : α) (h : Tbl.ok d t = true) : Tbl.ok d (Tbl.put d t k v) = true := by
  unfold Tbl.put
  split
  · exact Tbl.okFrom_del d t 0 k h
  · rename_i hv
    exact Tbl.okFrom_ins d v hv t 0 k (by omega) h

theorem Tbl.get_del {α : Type} [DecidableEq α] (d : α) : ∀ (t : Tbl α) (lo k x : Nat), Tbl.okFrom d lo t = true →
    Tbl.get d (Tbl.del t k) x = if x = k then d else Tbl.get d t x
  | [], _, _, _, _ => by simp [Tbl.del, Tbl.get]
  | (j, v) :: t, lo, k, x, h => by
    simp only [Tbl.okFrom, Bool.and_eq_true, decide_eq_true_eq] at h
    have below := Tbl.get_below d t (j + 1) x h.2
    have ih := Tbl.get_del d t (j + 1) k x h.2
    simp only [Tbl.del]
    by_cases h1 : k = j
    · rw [if_pos h1]
      simp only [Tbl.get]
      by_cases h2 : x = k
      · rw [if_pos h2]; exact below (by omega)
      · rw [if_neg h2, if_neg (by omega)]
        split
        · exact below (by omega)
        · rfl
    · rw [if_neg h1]
      by_cases h2 : k < j
      · rw [if_pos h2]
        simp only [Tbl.get]
        by_cases h3 : x = k
        · rw [if_pos h3, if_neg (by omega), if_pos (by omega)]
        · rw [if_neg h3]
      · rw [if_neg h2]
        simp only [Tbl.get, ih]
        by_cases h3 : x = k
        · rw [if_pos h3, if_neg (by omega : ¬ x = j), if_neg (by omega : ¬ x < j)]; exact (if_pos h3).symm
        · simp only [if_neg h3]

theorem Tbl.get_ins {α : Type} [DecidableEq α] (d v : α) : ∀ (t : Tbl α) (k x : Nat),
    Tbl.get d (Tbl.ins t k v) x = if x = k then v else Tbl.get d t x
  | [], k, x => by
    simp only [Tbl.ins, Tbl.get]
    split
    · rfl
    · split <;> rfl
  | (j, w) :: t, k, x => by
    have ih := Tbl.get_ins d v t k x
    simp only [Tbl.ins]
    by_cases h1 : k = j
    · rw [if_pos h1]
      simp only [Tbl.get, h1]
      by_cases h2 : x = j
      · rw [if_pos h2, if_pos h2]
      · rw [if_neg h2, if_neg h2, if_neg h2]
    · rw [if_neg h1]
      by_cases h2 : k < j
      · rw [if_pos h2]
        simp only [Tbl.get]
        by_cases h3 : x = k
        · rw [if_pos h3, if_pos h3]
        · rw [if_neg h3, if_neg h3]
          by_cases h4 : x < k
          · rw [if_pos h4, if_neg (by omega), if_pos (by omega)]
          · rw [if_neg h4]
      · rw [if_neg h2]
        simp only [Tbl.get, ih]
        by_cases h3 : x = k
        · rw [if_pos h3, if_neg (by omega : ¬ x = j), if_neg (by omega : ¬ x < j)]; exact (if_pos h3).symm
        · simp only [if_neg h3]

/-- A read after a write: the value written there, the old value elsewhere. -/
theorem Tbl.get_put {α : Type} [DecidableEq α] (d : α) (t : Tbl α) (k x : Nat) (v : α) (h : Tbl.ok d t = true) :
    Tbl.get d (Tbl.put d t k v) x = if x = k then v else Tbl.get d t x := by
  unfold Tbl.put
  split
  · rename_i e
    rw [Tbl.get_del d t 0 k x h, e]
  · exact Tbl.get_ins d v t k x

end Sys2Proof

namespace Sys2Proof.Machine

/-- The bytes of a write, one after the other, over a near tier. -/
theorem writes_ok (a : Nat) : ∀ (l : List (Nat × Byte)) (m : List Host.Cell), Memory.wf m = true →
    Memory.wf (l.foldl (fun m x => Tbl.put (0 : Byte) m (a + x.1) x.2) m) = true
  | [], _, h => h
  | x :: l, m, h => writes_ok a l _ (Tbl.ok_put (0 : Byte) m (a + x.1) x.2 h)

/-- A write to the near tier keeps its canonical form. -/
theorem Junction.write_wf (j : Junction) (a : Nat) (b : Bytes) (h : Memory.wf j.mem = true) : Memory.wf (j.write a b).mem = true := by
  exact writes_ok a _ _ h

/-- The near tier after reset lists nothing. -/
theorem reset_wf : Memory.wf State.reset.jn.mem = true := by decide

end Sys2Proof.Machine
end

