-- ==== Sys2Proof/WellFormed.lean ====
section
/-! DEFINITION. Which operands a command may carry (log 8): port, slot, mailbox, context and engine numbers in the ranges their tables have. -/

namespace Sys2Proof

open Sys2Proof.Machine

/-- A port of the Junction is L0 to L31 or T0 to T35, numbered 0 to 67 (R53). -/
def Machine.End.ok : End → Bool
  | .ls _ => true
  | .jn p => decide (p < 68)

/-- A configuration request has a 16-bit TXN (R519). -/
def Machine.LsVia.ok : LsVia → Bool
  | .vc3 _ txn => decide (txn < 65536)
  | .debug => true

def Machine.RegVia.ok : RegVia → Bool
  | .ls v => v.ok
  | .bar _ => true

/-- A path to the Lineside. -/
def Machine.RegVia.toLs : RegVia → Bool
  | .ls _ => true
  | .bar _ => false

/-- Accesses of the Junction's BAR are 4 or 8 bytes (R527). -/
def accessSize (n : Nat) : Bool := decide (n = 4 ∨ n = 8)

/-- Known-answer runs name a row and an instance of the known-answer table (R489). -/
def Machine.BootIn.ok (b : BootIn) : Bool := b.katFail.all (fun (x : Nat × Nat × Nat) => decide (x.1 < 7 ∧ x.2.1 < 68))

/-- Readings name each of the sensors once, in rising order (R514). -/
def sensorsOk : List (Nat × Int) → Bool
  | [] => true
  | [_] => true
  | x :: y :: t => decide (x.1 < y.1) && sensorsOk (y :: t)

/-- The operands of a command lie in the ranges its rule gives them. -/
def Instr.wellFormed : Instr → Bool
  | .coldReset boot => boot.ok
  | .porstNAssert _ => true
  | .supplyLoss => true
  | .refclkLoss _ => true
  | .refclkRestored boot => boot.ok
  | .perstAssert => true
  | .watchdogExpiry _ boot => boot.ok
  | .flushWaitExpiry boot => boot.ok
  | .powerFail _ => true
  | .powerFailFlushComplete => true
  | .powerFailClear => true
  | .roleConfirm m => decide (m < 17)
  | .twinJudgingStart => true
  | .twinLost => true
  | .dutyTakeover => true
  | .dutyTransfer m => decide (m < 17)
  | .dutyTransferEffect => true
  | .sampleEdge temps => sensorsOk temps
  | .dFrameDeadline => true
  | .dTrayDeadline => true
  | .reductionDeadline phase => decide (phase ≤ 6)
  | .dBcastDeadline => true
  | .dScoreEndDeadline => true
  | .dPublishDeadline => true
  | .streamArrivalDeadline port _ _ => decide (port < 68)
  | .flitSlotTransmit e => e.ok
  | .blockDecoded e _ _ rx => e.ok && rx.all (fun x => decide (x < 1024))
  | .flitReceived e _ _ raw => e.ok && decide (raw.length = 256)
  | .timetableQuarantine port => decide (port < 68)
  | .quarantineEnd port => decide (port < 68)
  | .replayTimeout e => e.ok
  | .retireTimeout e => e.ok
  | .linkTrainStart e => e.ok
  | .trainingFrameReceived e _ _ => e.ok
  | .trainTimeout e => e.ok
  | .trainRetry e => e.ok
  | .identReceived e raw => e.ok && decide (raw.length = 256)
  | .linkActiveEntry e => e.ok
  | .subtreeAdvertisement port => decide (port < 68)
  | .signalAbortReceived e => e.ok
  | .signalFenceReceived _ => true
  | .signalStopReceived e => e.ok
  | .signalFlushReceived _ => true
  | .signalAlarmReceived e => e.ok
  | .signalTraceReceived _ => true
  | .tickMarkReceived e => e.ok
  | .delayEchoDue e => e.ok
  | .delayEchoReceived port => decide (port < 68)
  | .twinTimeMessageReceived port => decide (port < 68)
  | .sourceLoss _ => true
  | .sourceRevert _ => true
  | .holdoverLimitExceeded _ => true
  | .ptpMessageReceived _ => true
  | .ppsInEdge => true
  | .synceQualified _ => true
  | .synceDisqualified => true
  | .tsInEdge k _ _ => decide (k < 8)
  | .trigOutEdge k => decide (k < 4)
  | .ppsOutEdge => true
  | .frameReceived port => decide (port < 68)
  | .presenceWordReceived port => decide (port < 68)
  | .partialReceived port => decide (port < 68)
  | .mergeBatchComplete => true
  | .twinDigestReceived port => decide (port < 68)
  | .statsFlitReceived port _ => decide (port < 68)
  | .statsStreamReceived port => decide (port < 68)
  | .detectorBatchReady _ ctx => decide (ctx < 16)
  | .featureDeadline _ ctx _ => decide (ctx < 16)
  | .waybillLookupComplete _ ctx _ _ => decide (ctx < 16)
  | .treeWalkComplete _ ctx _ _ _ _ => decide (ctx < 16)
  | .sidingPageFetchComplete _ ctx _ => decide (ctx < 16)
  | .residualPassComplete => true
  | .forecasterUpdateStart => true
  | .sequenceInstruction _ => true
  | .groupCommit => true
  | .runtimeSelfCheck row unit _ => decide (row < 4) && decide (unit < 64)
  | .relayOnlyEntry => true
  | .scrubAccess _ _ _ fate _ => decide (fate ≤ 2)
  | .staticWearMove _ => true
  | .historyFarCopy ctx => decide (ctx < 16)
  | .logbookMessageReceived port => decide (port < 68)
  | .logRecordCommit log => decide (log < 33)
  | .alarmRecordReceived port => decide (port < 68)
  | .bulkMessageReceived port subch => decide (port < 68) && decide (subch < 16)
  | .exportMessageClose ctx kind => decide (ctx < 16) && decide (kind < 16)
  | .exportQueueService eth => decide (eth < 2)
  | .exportFrameComplete eth => decide (eth < 2)
  | .mirrorAckReceived port => decide (port < 68)
  | .bundleChunkReceived port => decide (port < 68)
  | .bundleVerifyComplete _ => true
  | .bundleIncompleteTimeout _ => true
  | .bundleActivation ctx type => decide (ctx < 16) && decide (type < 16)
  | .contextConfigEffect ctx => decide (ctx < 16)
  | .contextDrainComplete ctx => decide (ctx < 16)
  | .waybillWriteEffect => true
  | .refTableActivate slot => decide (slot < 4)
  | .testResultCollect => true
  | .dieConfigEffect slot => decide (slot < 32)
  | .dieReadmitEffect slot => decide (slot < 32)
  | .twinStateExchange port => decide (port < 68)
  | .membershipEffect slot => decide (slot < 256)
  | .junctionAbortInstant slot => decide (slot < 256)
  | .linesideAbortInstant slot => decide (slot < 256)
  | .ballastJobStart unit => decide (unit < 2)
  | .ballastJobComplete unit => decide (unit < 2)
  | .mailboxRequestTake m slot => decide (m < 8) && decide (slot.length = 131072)
  | .mailboxDatagramReceived eth _ an _ _ _ => decide (eth < 2) && decide (an < 4)
  | .mailboxSegmentTimeout m => decide (m < 17)
  | .relayedRequestReceived port => decide (port < 68)
  | .relayedReplyReceived port => decide (port < 68)
  | .relayTimeout => true
  | .sessionExpiry m => decide (m < 17)
  | .fwVerifyComplete => true
  | .fwActivation => true
  | .fwResume => true
  | .fwRevert => true
  | .modeSetEffect => true
  | .sessionOpen m => decide (m < 17)
  | .sessionClose m => decide (m < 17)
  | .heartbeat m => decide (m < 17)
  | .noticeRead m => decide (m < 17)
  | .alarmRead m => decide (m < 17)
  | .counterRead m => decide (m < 17)
  | .reset m => decide (m < 17)
  | .portMap m => decide (m < 17)
  | .ttLoad m => decide (m < 17)
  | .ttArm m => decide (m < 17)
  | .ttCancel m => decide (m < 17)
  | .ttStatus m => decide (m < 17)
  | .planLoad m => decide (m < 17)
  | .bankSwitch => true
  | .bankPreviousRelease => true
  | .linkControl m => decide (m < 17)
  | .contextConfig m => decide (m < 17)
  | .contextStatus m => decide (m < 17)
  | .bundleTransfer m => decide (m < 17)
  | .bundleStatus m => decide (m < 17)
  | .waybillWrite m => decide (m < 17)
  | .refTableLoad m => decide (m < 17)
  | .historyRead m => decide (m < 17)
  | .logConfig m => decide (m < 17)
  | .logRead m => decide (m < 17)
  | .logRelease m => decide (m < 17)
  | .testPackRead m => decide (m < 17)
  | .testResult m => decide (m < 17)
  | .dieConfig m => decide (m < 17)
  | .dieReadmit m => decide (m < 17)
  | .membershipLoad m => decide (m < 17)
  | .groupRearm m => decide (m < 17)
  | .membershipStatus m => decide (m < 17)
  | .traceSignal m => decide (m < 17)
  | .timeConfig m => decide (m < 17)
  | .timestampRead m => decide (m < 17)
  | .timingIoConfig m => decide (m < 17)
  | .fleetStop m => decide (m < 17)
  | .lsRead m => decide (m < 17)
  | .lsWrite m => decide (m < 17)
  | .exportConfig m => decide (m < 17)
  | .bufferWrite m => decide (m < 17)
  | .bufferRead m => decide (m < 17)
  | .ballast m => decide (m < 17)
  | .crcEngine m => decide (m < 17)
  | .crcData m => decide (m < 17)
  | .crcValueRead m => decide (m < 17)
  | .crcValueWrite m => decide (m < 17)
  | .fwLoad m => decide (m < 17)
  | .fwStatus m => decide (m < 17)
  | .fwActivate m => decide (m < 17)
  | .deviceId m => decide (m < 17)
  | .ownerProvision m => decide (m < 17)
  | .keyInstall m => decide (m < 17)
  | .keyRemove m => decide (m < 17)
  | .keyList m => decide (m < 17)
  | .macsecSa m => decide (m < 17)
  | .modeSet m => decide (m < 17)
  | .fuseLock m => decide (m < 17)
  | .rollbackAdvance m => decide (m < 17)
  | .secEventRead m => decide (m < 17)
  | .dbgResponse level _ _ _ => decide (level = 1 ∨ level = 2)
  | .dbgChallenge => true
  | .mailboxReqTailWrite _ m _ => decide (m < 8)
  | .mailboxRplHeadWrite _ m _ => decide (m < 8)
  | .mailboxCtrlWrite _ m _ _ => decide (m < 8)
  | .jnRegLowHalfRead _ _ size => accessSize size
  | .jnErrCaptureClear _ _ => true
  | .registerWrite via _ size _ _ => via.ok && (via.toLs || accessSize size)
  | .configMessageReceived _ => true
  | .crcEnableApply _ i => decide (i < 8)
  | .debugSegmentUpdate _ op _ => decide (op = 1 ∨ op = 2)
  | .debugUnlockExpiry => true
  | .lsColdReset => true
  | .lsWarmReset => true
  | .lsRefclkLoss => true
  | .mainIslandServiceEntry _ => true
  | .lsSelftestComplete _ => true
  | .lsSelftestStart via => via.ok
  | .pwrOffReq => true
  | .pwrOffAck => true
  | .mainPowerOff => true
  | .aonCmpCrossing => true
  | .lsSampleEdge => true
  | .lagAnchorEffect => true
  | .frameMapSwitch => true
  | .counterIncrement _ => true
  | .selectSend => true
  | .sensorBeat _ => true
  | .regionStretchPulse region => decide (region < 16)
  | .bundleIssue _ => true
  | .traceSamplePoint => true
  | .tracePostComplete => true
  | .traceReadoutComplete => true
  | .qsnapAck _ => true
  | .qsnapReadTimeout => true
  | .qsnapComplete => true
  | .qsnapReadoutComplete => true
  | .stopSnapshotDelay => true
  | .drainDoneRise => true
  | .drainTimeout => true
  | .drainDoneFall => true
  | .hostResetRise => true
  | .armedStopInstant => true
  | .armedReleaseInstant => true
  | .scanShiftComplete _ => true
  | .scanResume => true
  | .tapPacketStart tap _ _ _ => decide (tap < 2)
  | .egressPacketEnd _ _ _ _ => true
  | .ingressPacketEnd _ _ _ _ => true
  | .witnessExpiry => true
  | .witnessSuspendEnd => true
  | .tabEnableApply g => decide (g < 256)
  | .testWindowEnd => true
  | .poisonAccept _ => true
  | .lsLinkEnable via _ => via.ok
  | .lsLinkRetrain via _ => via.ok
  | .lsLinkHoldDown via _ => via.ok
  | .lsTtValidate via => via.ok
  | .lsTtArm via => via.ok
  | .lsTtCancel via => via.ok
  | .lsFrameValidate via => via.ok
  | .lsFrameArmSwitch via => via.ok
  | .lsFrameCancelSwitch via => via.ok
  | .lsTraceArm via => via.ok
  | .lsTraceDisarm via => via.ok
  | .lsTraceTrigger via => via.ok
  | .lsTraceReadout via => via.ok
  | .lsTraceCapturedRead via => via.ok
  | .lsQsnapTake via => via.ok
  | .lsQsnapReadout via => via.ok
  | .lsQsnapStatusRead via => via.ok
  | .lsScanStart via => via.ok
  | .lsScanRestore via => via.ok
  | .lsHaltDrain via => via.ok
  | .lsHaltReleaseDrain via => via.ok
  | .lsHaltStopNow via => via.ok
  | .lsHaltArmStop via => via.ok
  | .lsHaltDisarmStop via => via.ok
  | .lsHaltReleaseStop via => via.ok
  | .lsHaltArmRelease via => via.ok
  | .lsHaltDisarmRelease via => via.ok
  | .lsLogMark via => via.ok
  | .lsLagArm via => via.ok
  | .lsCtrSelWrite via k _ => via.ok && decide (k < 4096)
  | .lsCtrValueWrite via k _ => via.ok && decide (k < 4096)
  | .lsLogCommitSeqWrite via _ => via.ok
  | .lsFenceEpochWrite via _ => via.ok
  | .lsFenceStatusRead via => via.ok
  | .lsTabGroupWrite via g _ => via.ok && decide (g < 256)
  | .lsDebugCtrlWrite via _ => via.ok
  | .lsCrcCfgWrite via i r _ => via.ok && decide (i < 4) && decide (r < 4)
  | .lsCrcFeedWrite via i _ => via.ok && decide (i < 4)
  | .lsCrcValueWrite via i _ => via.ok && decide (i < 4)
  | .lsCrcStatusRead via i => via.ok && decide (i < 4)
  | .lsTimeLoRead via => via.ok
  | .linesideConfigReplyReceived port => decide (port < 68)
  | .markerMissing e => e.ok
  | .ethernetLinkStateChange eth _ => decide (eth < 2)
  | .ethernetControlFrameReceived eth => decide (eth < 2)
  | .ptpDelayReqDue => true
  | .leapAtReached _ => true
  | .nearTierStackError => true

end Sys2Proof
end

