-- ==== Sys2Proof/Tests/Slice0.lean ====
section
/-! SUPPORT. Tests: states that meet the hypotheses of the statements, clause by clause, ill-formed commands that the check of operands
refuses, and values that the spec's examples give. -/

namespace Sys2Proof.Tests

-- One proof after another: in parallel the kernel evaluations wait for each other in threads of their own, which costs memory only.
set_option Elab.async false

open Sys2Proof Sys2Proof.Machine

/-! ## Witnesses: states that meet the hypotheses of the statements -/

/-- A clock that is LOCKED in tick 1,000. -/
def clk : Clock := { Clock.init with st := .locked, tick := some 1000, time := 1000000 * uNs, up := 1000000 * uNs }

/-- A tray Twin A in service with its role confirmed and every port in ACTIVE. -/
def tray : Junction :=
  { Junction.init with
    boot := { JnBoot.init with service := 2, phase := 4, porst := false, pin := false, engines := List.range 64 }, confirmed := true,
    twin := { JnTwin.init with duty := true }, clk := clk, ports := List.replicate 68 { Port.init false true with st := .active } }

/-- The root's Twin A. -/
def root : Junction := { tray with straps := 3 }

/-- A request with SEQ 1 to mailbox 0 in the management context, for this Junction. -/
def item (op : Nat) (b : Bytes) : Taken := ⟨⟨op, 0, 0, 7, 1, 2 ^ 31, false, b⟩, 0, 0⟩

/-- A mailbox with a session of the management context whose last SEQ was 0, and one request taken. -/
def box (op : Nat) (b : Bytes) : Mailbox :=
  { Mailbox.init with enable := true, session := some ⟨0, 0, [], 0, none, 0, none, 0, none, false⟩, taken := [item op b] }

/-- The Junction with that mailbox 0. -/
def asked (j : Junction) (op : Nat) (b : Bytes) : Junction := { j with mail := j.mail.set 0 (box op b) }

/-- The block with a Junction. -/
def withJn (j : Junction) : State := { State.reset with jn := j }

/-- A Junction with a port changed. -/
def atPort (j : Junction) (p : Nat) (f : Port → Port) : Junction := { j with ports := j.ports.set p (f (j.port p)) }
/-- A message received whole and not yet taken. -/
def msg (vc subch : Nat) (b : Bytes) : RxMsg := { vc := vc, subch := subch, bytes := b, crc := false, arrived := 0, replayed := false, fed := none }

/-- A Lineside in service. -/
def line : Ls := { Ls.init with inService := true, mainOn := true, clk := clk, portA := { Port.init true false with st := .active }, portB := { Port.init true false with st := .active } }

/-- The same with every unit of its boundary enabled. -/
def wired : Ls := line.setReg 3 0xFF

/-- The block with a Lineside. -/
def withLs (x : Ls) : Machine.State := { State.reset with ls := x }

/-- Both parts, and both with one end changed. -/
def both : Machine.State := { State.reset with jn := tray, ls := line }
def endAt (e : End) (f : Port → Port) : Machine.State := both.withPort e (f (both.portAt e))

/-- A Timetable image of streams. -/
def imageOf (ss : List Stream) : TtImage := ⟨7, 12, false, [2000, 2300, 2600, 2900, 3200, 4000, 5000, 9000], ss, []⟩

/-- The Lineside with its debug segment unlocked, for writes where `w`, and with link A down. -/
def unlocked (x : Ls) (w : Bool) : Ls := { x with dbgUnlock := true, dbgWrite := w }
def downA (x : Ls) : Ls := { x with portA := { x.portA with st := .down } }

/-- A Junction with the work of tick 1,000, an image ACTIVE, and a plan ACTIVE where one is given. -/
def working (j : Junction) (ss : List Stream) (p : Option Plan) (w : TickWork) : Junction :=
  { j with ticks := [w], b0 := { JnBank.empty with tt := .active, image := some (imageOf ss), plan := if p.isSome then .active else .empty, planv := p } }

/-- The empty work of tick 1,000. -/
def work1000 : TickWork := TickWork.empty 1000

/-- No mailbox of the tray waits for a Lineside. -/
theorem tray_settled : tray.settled := by
  intro x hx o ho
  have h : x = Mailbox.init := by simpa [tray, Junction.init] using hx
  simp [h, Mailbox.init] at ho

/-- Such a request is served. -/
theorem asked_served (j : Junction) (op : Nat) (b : Bytes) (mg rec st : Bool) (h1 : j.boot.porst = false) (h2 : 0 < j.mail.length)
    (h3 : rec = false → j.boot.service ≠ 3 ∧ j.confirmed = true) (h4 : st = false → j.flush.stopped = false) :
    Served (asked j op b) 0 (item op b) [] op mg rec st := by
  have h : (asked j op b).mbox 0 = box op b := by
    simp [asked, Junction.mbox, List.getD_eq_getElem?_getD, h2]
  unfold Served
  rw [h]
  exact ⟨h1, by decide, by simpa [asked] using h2, rfl, rfl, rfl, rfl, rfl, by simp [Junction.remote, item, show bit (2 ^ 31) 31 = true from by decide, show bit 2147483648 31 = true from by decide], rfl, fun _ => rfl, h3, h4⟩

/-! ### SessionCommands -/

/-- A mailbox without a session, and a SESSION_OPEN of context 15 with a credential under key slot 0. -/
def openBody : Bytes := le 4 15 ++ le 4 112 ++ zeros 112
def opened : Junction := { tray with mail := tray.mail.set 0 { Mailbox.init with taken := [item 1 openBody] } }
set_option maxRecDepth 4000 in
theorem witness_SessionCommands_open : opened.boot.porst = false ∧ 0 < opened.mail.length ∧ (opened.mbox 0).taken = [item 1 openBody] ∧ opened.remote (item 1 openBody).req = false
    ∧ opened.flush.stopped = false ∧ (opened.mbox 0).session = none ∧ sessionShape openBody = true ∧ rd openBody 0 1 = 15 := by
  refine ⟨by decide, by decide, by decide, by decide, by decide, by decide, by decide, by decide⟩
theorem witness_SessionCommands_close : Served (asked tray 2 []) 0 (item 2 []) [] 2 false true false := asked_served _ _ _ _ _ _ rfl (by decide) (by decide) (by decide)
theorem witness_SessionCommands_heartbeat : Served (asked tray 3 []) 0 (item 3 []) [] 3 false true true ∧ ((asked tray 3 []).mbox 0).session.isSome = true :=
  ⟨asked_served _ _ _ _ _ _ rfl (by decide) (by decide) (by decide), by decide⟩

/-! ### AttentionReads -/

theorem witness_AttentionReads_notice : Served (asked tray 4 (le 8 1)) 0 (item 4 (le 8 1)) [] 4 false true true ∧ body 8 [(2, 6)] (le 8 1) = true
    ∧ rd (le 8 1) 0 2 = 1 := ⟨asked_served _ _ _ _ _ _ rfl (by decide) (by decide) (by decide), by decide, by decide⟩
theorem witness_AttentionReads_notice_most : Served (asked tray 4 (le 8 65)) 0 (item 4 (le 8 65)) [] 4 false true true ∧ body 8 [(2, 6)] (le 8 65) = true
    ∧ 64 < rd (le 8 65) 0 2 := ⟨asked_served _ _ _ _ _ _ rfl (by decide) (by decide) (by decide), by decide, by decide⟩
theorem witness_AttentionReads_alarm : Served (asked tray 5 (le 8 255)) 0 (item 5 (le 8 255)) [] 5 false true true ∧ body 8 [(2, 6)] (le 8 255) = true
    ∧ rd (le 8 255) 0 2 = 255 := ⟨asked_served _ _ _ _ _ _ rfl (by decide) (by decide) (by decide), by decide, by decide⟩
theorem witness_AttentionReads_counter : Served (asked tray 6 (le 8 5)) 0 (item 6 (le 8 5)) [] 6 false true true
    ∧ body 8 [(1, 1), (4, 4)] (le 8 5) = true ∧ ((asked tray 6 (le 8 5)).counters 5 0).isSome = true ∧ (asked tray 6 (le 8 5)).sees 0 0 = true :=
  ⟨asked_served _ _ _ _ _ _ rfl (by decide) (by decide) (by decide), by decide, by decide, by decide⟩

/-! ### RoleCommands -/

/-- A tray whose role is not confirmed, ready. -/
def unconfirmed : Junction := { tray with confirmed := false, boot := { tray.boot with service := 1 }, ports := Junction.init.ports }
theorem witness_RoleCommands_confirm : Served (asked unconfirmed 7 (le 4 0x3FFF0000)) 0 (item 7 (le 4 0x3FFF0000)) [] 7 true true false ∧ (le 4 0x3FFF0000).length = 4
    ∧ unconfirmed.boot.service ≠ 3 ∧ rd (le 4 0x3FFF0000) 0 1 = unconfirmed.role.level ∧ rd (le 4 0x3FFF0000) 1 1 = b2n unconfirmed.role.twinB
    ∧ rd (le 4 0x3FFF0000) 2 2 < 2 ^ 14 ∧ unconfirmed.confirmed = false :=
  ⟨asked_served _ _ _ _ _ _ rfl (by decide) (by decide) (by decide), by decide, by decide, by decide, by decide, by decide, by decide⟩
theorem witness_RoleCommands_again : Served (asked tray 7 (le 4 0)) 0 (item 7 (le 4 0)) [] 7 true true false ∧ tray.confirmed = true ∧ rd (le 4 0) 2 2 = tray.index :=
  ⟨asked_served _ _ _ _ _ _ rfl (by decide) (by decide) (by decide), by decide, by decide⟩
theorem witness_RoleCommands_duty : Served (asked tray 8 (le 8 1001)) 0 (item 8 (le 8 1001)) [] 8 true false false ∧ (le 8 1001).length = 8 ∧ tray.twin.lost = false
    ∧ tray.clk.tick.isSome = true ∧ (tray.clk.time : Int) < tray.clk.tickAt (rd (le 8 1001) 0 8) :=
  ⟨asked_served _ _ _ _ _ _ rfl (by decide) (by decide) (by decide), by decide, by decide, by decide, by decide⟩
theorem witness_RoleCommands_reset : Served (asked tray 9 (le 8 1)) 0 (item 9 (le 8 1)) [] 9 true true false ∧ body 8 [(1, 7)] (le 8 1) = true ∧ rd (le 8 1) 0 1 = 1 :=
  ⟨asked_served _ _ _ _ _ _ rfl (by decide) (by decide) (by decide), by decide, by decide⟩
theorem witness_RoleCommands_portMap : Served (asked { tray with ports := Junction.init.ports } 10 (le 8 0x1FFFF0000001F)) 0 (item 10 (le 8 0x1FFFF0000001F)) [] 10 true false false
    ∧ body 8 [(1, 3)] (le 8 0x1FFFF0000001F) = true ∧ rd (le 8 0x1FFFF0000001F) 0 1 = 31 ∧ rd (le 8 0x1FFFF0000001F) 4 4 = 2 ^ 17 - 1
    ∧ (({ tray with ports := Junction.init.ports } : Junction).port 31).st ≠ .active :=
  ⟨asked_served _ _ _ _ _ _ rfl (by decide) (by decide) (by decide), by decide, by decide, by decide, by decide⟩

/-! ### BankCommands -/

/-- A Timetable of the root with a digest stream alone, and its plan. -/
def bareImage : TtImage := ⟨5, 12, true, List.replicate 8 8000, [⟨1, 4, true, 0, 66, 16, 0, 0, 0⟩], []⟩
def barePlan : Plan := ⟨5, 0, 0xFFFF, 1, [], []⟩
def armable : Junction := { root with b1 := { JnBank.empty with tt := .valid, image := some bareImage, plan := .valid, planv := some barePlan } }
def armed : Junction := { root with b1 := { armable.b1 with tt := .armed, plan := .armed, arm := some 2000 } }
def loadBody : Bytes := le 1 1 ++ zeros 7 ++ le 8 0x40000000
def armBody : Bytes := le 8 1 ++ le 8 2000
theorem witness_BankCommands_load : Served (asked tray 0x101 loadBody) 0 (item 0x101 loadBody) [] 0x101 true false false ∧ body 16 [(1, 3)] loadBody = true
    ∧ rd loadBody 0 1 = 1 ∧ tray.buffer 0 (rd loadBody 8 8) (rd loadBody 4 4) = .inr [] ∧ (tray.bank 1).tt = .empty ∧ (tray.bank 1).leaving = false :=
  ⟨asked_served _ _ _ _ _ _ rfl (by decide) (by decide) (by decide), by decide, by decide, by decide, by decide, by decide⟩
theorem witness_BankCommands_plan : Served (asked tray 0x105 loadBody) 0 (item 0x105 loadBody) [] 0x105 true false false ∧ (tray.bank 1).plan = .empty :=
  ⟨asked_served _ _ _ _ _ _ rfl (by decide) (by decide) (by decide), by decide⟩
theorem witness_BankCommands_arm : Served (asked armable 0x102 armBody) 0 (item 0x102 armBody) [] 0x102 true false false ∧ body 16 [(1, 7)] armBody = true
    ∧ rd armBody 0 1 = 1 ∧ (armable.bank 1).tt = .valid ∧ armable.ahead (rd armBody 8 8) = true ∧ (armable.bank 1).plan = .valid
    ∧ armCheck armable.role (rd (armable.bank 1).imageBytes 0x20 4) bareImage barePlan = none ∧ armable.armWalks (armable.bank 1) = true
    ∧ armable.armGroups bareImage barePlan = true
    ∧ (List.range 32).all (fun q => !(armable.linesidePort q && (armable.port q).st == .active && !(armable.linesideReady bareImage q))) = true :=
  ⟨asked_served _ _ _ _ _ _ rfl (by decide) (by decide) (by decide), by decide, by decide, by decide, by decide, by decide, by decide, by decide, by decide, by decide⟩
theorem witness_BankCommands_cancel : Served (asked armed 0x103 (le 8 1)) 0 (item 0x103 (le 8 1)) [] 0x103 true false false ∧ body 8 [(1, 7)] (le 8 1) = true
    ∧ (armed.bank 1).tt = .armed ∧ (armed.bank 1).arm = some 2000 ∧ armed.reached 2000 = false :=
  ⟨asked_served _ _ _ _ _ _ rfl (by decide) (by decide) (by decide), by decide, by decide, by decide, by decide⟩
theorem witness_BankCommands_status : Served (asked tray 0x104 []) 0 (item 0x104 []) [] 0x104 false false true :=
  asked_served _ _ _ _ _ _ rfl (by decide) (by decide) (by decide)
theorem asked_settled (op : Nat) (b : Bytes) : (asked tray op b).settled := by
  intro x hx o ho
  rcases List.mem_or_eq_of_mem_set hx with hx | hx
  · have : x = Mailbox.init := List.eq_of_mem_replicate hx
    rw [this] at ho; simp [Mailbox.init] at ho
  · rw [hx] at ho; simp [box, Mailbox.init] at ho
theorem witness_BankCommands_link : Served (asked tray 0x106 (le 8 0x143)) 0 (item 0x106 (le 8 0x143)) [] 0x106 true true false ∧ (asked tray 0x106 (le 8 0x143)).settled
    ∧ body 8 [(2, 6)] (le 8 0x143) = true ∧ rd (le 8 0x143) 0 1 = 67 ∧ tray.role.unused 67 = false ∧ rd (le 8 0x143) 1 1 ≤ 2 :=
  ⟨asked_served _ _ _ _ _ _ rfl (by decide) (by decide) (by decide), asked_settled _ _, by decide, by decide, by decide, by decide⟩

/-! ### ContextAndModelCommands -/

/-- A record that enables context 15 from tick 2000 with a Waybill partition of 8 entries. -/
def ctxBody : Bytes := le 8 0x10F ++ le 8 (8 * 2 ^ 32) ++ zeros 20 ++ le 8 2000 ++ zeros 20
/-- The tray with context 15 draining. -/
def draining : Junction := tray.setCtx 15 { Ctx.init with st := .draining }
theorem witness_ContextAndModelCommands_config : Served (asked tray 0x201 ctxBody) 0 (item 0x201 ctxBody) [] 0x201 true false false ∧ ctxShape ctxBody = true
    ∧ (CtxRec.decode ctxBody).bad = none ∧ (CtxRec.decode ctxBody).enable = true ∧ tray.overQuota 15 (CtxRec.decode ctxBody) = false
    ∧ tray.holdsMore 15 (CtxRec.decode ctxBody) = false ∧ tray.ahead 2000 = true ∧ (tray.ctx 15).st ≠ .draining ∧ (tray.ctx 15).latched = none :=
  ⟨asked_served _ _ _ _ _ _ rfl (by decide) (by decide) (by decide), by decide, by decide, by decide, by decide, by decide, by decide, by decide, by decide⟩
theorem witness_ContextAndModelCommands_draining : Served (asked draining 0x201 ctxBody) 0 (item 0x201 ctxBody) [] 0x201 true false false
    ∧ draining.overQuota 15 (CtxRec.decode ctxBody) = false ∧ draining.holdsMore 15 (CtxRec.decode ctxBody) = false ∧ (draining.ctx 15).st = .draining :=
  ⟨asked_served _ _ _ _ _ _ rfl (by decide) (by decide) (by decide), by decide, by decide, by decide⟩
/-- The same record without ENABLE. -/
def ctxOff : Bytes := le 8 0xF ++ zeros 28 ++ le 8 2000 ++ zeros 20
theorem witness_ContextAndModelCommands_off : Served (asked draining 0x201 ctxOff) 0 (item 0x201 ctxOff) [] 0x201 true false false ∧ ctxShape ctxOff = true
    ∧ (CtxRec.decode ctxOff).bad = none ∧ (CtxRec.decode ctxOff).enable = false ∧ draining.ahead (CtxRec.decode ctxOff).effective = true :=
  ⟨asked_served _ _ _ _ _ _ rfl (by decide) (by decide) (by decide), by decide, by decide, by decide, by decide⟩
theorem witness_ContextAndModelCommands_status : Served (asked tray 0x202 (le 8 15)) 0 (item 0x202 (le 8 15)) [] 0x202 false false true
    ∧ body 8 [(1, 7)] (le 8 15) = true ∧ rd (le 8 15) 0 1 = 15 ∧ tray.sees 0 15 = true :=
  ⟨asked_served _ _ _ _ _ _ rfl (by decide) (by decide) (by decide), by decide, by decide, by decide⟩
/-- A last chunk of a bundle of context 0, and the bundle that waits for it. -/
def chunkBody : Bytes := (⟨9, 1, 2, [0]⟩ : Chunk).bytes
def receiving : Junction :=
  { tray with bundles := [{ id := 9, ctx := 0, type := 0, st := .receiving, chunks := 2, got := 1, data := [], plain := [], effective := 0, result := 0, check := 0, offset := 0, lastAt := 0, placing := none, lost := [] }] }
theorem witness_ContextAndModelCommands_chunk : Served (asked receiving 0x203 chunkBody) 0 (item 0x203 chunkBody) [] 0x203 false false false
    ∧ Chunk.decode chunkBody = some ⟨9, 1, 2, [0]⟩ ∧ ((receiving.bundle? 9).map (fun b => (b.ctx, b.type))).any (fun w => owns 0 w.1 && (w.2 != 1 || true)) = true
    ∧ (receiving.chunk ⟨9, 1, 2, [0]⟩).2.code = 0 :=
  ⟨asked_served _ _ _ _ _ _ rfl (by decide) (by decide) (by decide), by decide, by decide, by decide⟩
theorem witness_ContextAndModelCommands_bundleStatus : Served (asked receiving 0x204 (le 8 9)) 0 (item 0x204 (le 8 9)) [] 0x204 false false true ∧ (le 8 9).length = 8
    ∧ (receiving.bundle? (rd (le 8 9) 0 8)).isSome = true ∧ receiving.sees 0 0 = true :=
  ⟨asked_served _ _ _ _ _ _ rfl (by decide) (by decide) (by decide), by decide, by decide, by decide⟩
/-- A Waybill write of job 1, and the tray with a Waybill partition for context 0. -/
def wayBody : Bytes := le 8 0x50000001 ++ le 8 2000 ++ zeros 248
def waybill : Junction := tray.setCtx 0 { Ctx.init with rec_ := { CtxRec.zero with wbSize := 8 } }
set_option maxRecDepth 4000 in
theorem witness_ContextAndModelCommands_waybill : Served (asked waybill 0x205 wayBody) 0 (item 0x205 wayBody) [] 0x205 false false false ∧ wayShape wayBody = true
    ∧ entityOk (rd wayBody 0 4) = true ∧ rd wayBody 0 4 ≠ 0 ∧ rd wayBody 4 1 ≤ 1 ∧ (waybill.recAt 0 (rd wayBody 8 8)).wbSize ≠ 0 ∧ waybill.ahead (rd wayBody 8 8) = true :=
  ⟨asked_served _ _ _ _ _ _ rfl (by decide) (by decide) (by decide), by decide, by decide, by decide, by decide, by decide, by decide⟩
/-- A reference table of one entry for slot 3, in software area 0. -/
def refTable : Bytes :=
  let b := le 4 0x54525344 ++ le 2 1 ++ le 1 0 ++ le 1 3 ++ le 4 1 ++ le 4 0 ++ zeros 8 ++ le 8 2000 ++ zeros 32 ++ (zeros 8 ++ le 4 1 ++ zeros 4)
  b ++ le 4 (crcOf crc32 b)
def refBody : Bytes := le 8 84 ++ le 8 0x40000000
def withRef : Junction := { tray with mem := (List.zip (List.range 84) refTable).foldl (fun m x => Tbl.put (0 : Byte) m (0x40000000 + x.1) x.2) [] }
set_option maxRecDepth 8000 in
theorem witness_ContextAndModelCommands_reference : Served (asked withRef 0x206 refBody) 0 (item 0x206 refBody) [] 0x206 false false false ∧ body 16 [(4, 4)] refBody = true
    ∧ withRef.tray = true ∧ rd refTable 7 1 = 3 ∧ owns 0 (rd refTable 6 1) = true ∧ withRef.ahead (rd refTable 0x18 8) = true :=
  ⟨asked_served _ _ _ _ _ _ rfl (by decide) (by decide) (by decide), by decide, by decide, by decide, by decide, by decide⟩

set_option maxRecDepth 200000 in
theorem witness_ContextAndModelCommands_table : refTableBad refTable = none := by decide +kernel

set_option maxRecDepth 200000 in
theorem witness_ContextAndModelCommands_buffer : withRef.buffer 0 (rd refBody 8 8) (rd refBody 0 4) = .inr refTable := by decide +kernel

/-! ### HistoryAndLogCommands -/

/-- A context with one near block of tick 7. -/
def block : Bytes := le 8 7 ++ zeros 24
def withHist : Junction := tray.setHist 15 { Hist.init with near := [(block, false)], lostNear := true }
def histBody : Bytes := le 8 (15 + 0x10000) ++ le 8 7
theorem witness_HistoryAndLogCommands_history : Served (asked withHist 0x207 histBody) 0 (item 0x207 histBody) [] 0x207 false false false ∧ body 16 [(4, 4)] histBody = true
    ∧ rd histBody 0 1 = 15 ∧ rd histBody 1 1 ≤ 1 ∧ withHist.sees 0 15 = true
    ∧ takeBlocks (rd histBody 2 2) (65568 - 16) (((withHist.histOf 15).near.map (·.1)).filter (fun x => decide (rd histBody 8 8 ≤ rd x 0 8))) ≠ [] :=
  ⟨asked_served _ _ _ _ _ _ rfl (by decide) (by decide) (by decide), by decide, by decide, by decide, by decide, by decide⟩
theorem witness_HistoryAndLogCommands_config : Served (asked tray 0x208 (le 8 (0x3F + 0x7FFF00000000))) 0 (item 0x208 (le 8 (0x3F + 0x7FFF00000000))) [] 0x208 true false false
    ∧ body 8 [(1, 3)] (le 8 (0x3F + 0x7FFF00000000)) = true ∧ rd (le 8 (0x3F + 0x7FFF00000000)) 0 1 = 0x3F ∧ rd (le 8 (0x3F + 0x7FFF00000000)) 4 4 = 2 ^ 15 - 1 :=
  ⟨asked_served _ _ _ _ _ _ rfl (by decide) (by decide) (by decide), by decide, by decide, by decide⟩
theorem witness_HistoryAndLogCommands_read : Served (asked tray 0x209 (le 16 32)) 0 (item 0x209 (le 16 32)) [] 0x209 false true false ∧ body 16 [(1, 3), (10, 6)] (le 16 32) = true
    ∧ tray.logOwner (rd (le 16 32) 0 1) = some 0 ∧ tray.sees 0 0 = true :=
  ⟨asked_served _ _ _ _ _ _ rfl (by decide) (by decide) (by decide), by decide, by decide, by decide⟩
theorem witness_HistoryAndLogCommands_release : Served (asked tray 0x20A (le 8 32)) 0 (item 0x20A (le 8 32)) [] 0x20A true true false ∧ body 8 [(1, 3)] (le 8 32) = true :=
  ⟨asked_served _ _ _ _ _ _ rfl (by decide) (by decide) (by decide), by decide⟩
/-- An active test pack with a payload of one byte. -/
def packSection : Bytes := zeros 0x14 ++ le 4 0x1C ++ le 4 1 ++ [5]
def tested : Junction := { tray with tests := { Tests.init with active := some ⟨9, packSection, 0⟩ } }
theorem witness_HistoryAndLogCommands_pack : Served (asked tested 0x20B (le 8 0x100000000)) 0 (item 0x20B (le 8 0x100000000)) [] 0x20B false false false
    ∧ rd (le 8 0x100000000) 4 4 = 1 ∧ rd (le 8 0x100000000) 0 4 + 1 ≤ rd packSection 0x18 4 :=
  ⟨asked_served _ _ _ _ _ _ rfl (by decide) (by decide) (by decide), by decide, by decide⟩
theorem witness_HistoryAndLogCommands_result : Served (asked tray 0x20C (le 8 31)) 0 (item 0x20C (le 8 31)) [] 0x20C false false false ∧ body 8 [(1, 7)] (le 8 31) = true
    ∧ rd (le 8 31) 0 1 = 31 ∧ tray.sees 0 (tray.die 31).owner = true :=
  ⟨asked_served _ _ _ _ _ _ rfl (by decide) (by decide) (by decide), by decide, by decide, by decide⟩

/-! ### DieAndMembershipCommands -/

def dieBody : Bytes := le 8 0xF10011F ++ le 8 2000
theorem witness_DieAndMembershipCommands_config : Served (asked tray 0x301 dieBody) 0 (item 0x301 dieBody) [] 0x301 true false false ∧ dieBody.length = 16 ∧ tray.tray = true
    ∧ rd dieBody 0 1 = 31 ∧ rd dieBody 1 1 = 1 ∧ rd dieBody 2 1 = 16 ∧ rd dieBody 3 1 = 15 ∧ (tray.die 31).st ≠ .dead ∧ tray.ahead (rd dieBody 8 8) = true :=
  ⟨asked_served _ _ _ _ _ _ rfl (by decide) (by decide) (by decide), by decide, by decide, by decide, by decide, by decide, by decide, by decide, by decide⟩
/-- Die slot 31 is DEAD and sends its stale epoch. -/
def deadDie : Junction := tray.setDie 31 { DieSlot.init 5 with st := .dead, evaluated := some 999, stale := [999, 998, 997, 996] }
def readmitBody : Bytes := le 8 31 ++ le 8 2000
theorem witness_DieAndMembershipCommands_readmit : Served (asked deadDie 0x302 readmitBody) 0 (item 0x302 readmitBody) [] 0x302 true false false
    ∧ body 16 [(1, 7)] readmitBody = true ∧ rd readmitBody 0 1 = 31 ∧ (deadDie.die 31).st = .dead ∧ (deadDie.die 31).heard = true ∧ deadDie.ahead (rd readmitBody 8 8) = true :=
  ⟨asked_served _ _ _ _ _ _ rfl (by decide) (by decide) (by decide), by decide, by decide, by decide, by decide, by decide⟩
/-- A valid entry of slot 255 with ABORT set, and a slot that holds an abort. -/
def entry : MemEntry := ⟨0x60000001, 255, 3, 700, 1, 1, 0, 0, 0, 2000⟩
def holding : Junction := tray.setSlot 255 { MemSlot.init 255 with st := .pending }
theorem witness_DieAndMembershipCommands_load : Served (asked tray 0x303 entry.bytes) 0 (item 0x303 entry.bytes) [] 0x303 false false false ∧ entry.bytes.length = 64
    ∧ MemEntry.decode entry.bytes = entry ∧ owns 0 (fld entry.group 24 4) = true ∧ tray.entryBad entry.bytes = none ∧ tray.maskDead entry = false
    ∧ tray.ahead entry.effective = true ∧ (tray.slot 255).st ≠ .pending ∧ (tray.slot 255).latched = none :=
  ⟨asked_served _ _ _ _ _ _ rfl (by decide) (by decide) (by decide), by decide, by decide, by decide, by decide, by decide, by decide, by decide, by decide⟩
theorem witness_DieAndMembershipCommands_rearm : Served (asked holding 0x304 entry.bytes) 0 (item 0x304 entry.bytes) [] 0x304 false false false ∧ holding.entryBad entry.bytes = none
    ∧ holding.maskDead entry = false ∧ after entry.epoch (holding.slot 255).entry.epoch = true ∧ (holding.slot 255).st = .pending ∧ entry.valid = true ∧ entry.abort = true :=
  ⟨asked_served _ _ _ _ _ _ rfl (by decide) (by decide) (by decide), by decide, by decide, by decide, by decide, by decide, by decide⟩
theorem witness_DieAndMembershipCommands_status : Served (asked tray 0x305 (le 8 255)) 0 (item 0x305 (le 8 255)) [] 0x305 false false true ∧ body 8 [(1, 7)] (le 8 255) = true
    ∧ tray.sees 0 (fld (tray.slot 255).entry.group 24 4) = true :=
  ⟨asked_served _ _ _ _ _ _ rfl (by decide) (by decide) (by decide), by decide, by decide⟩
theorem witness_DieAndMembershipCommands_trace : Served (asked tray 0x306 (le 8 31)) 0 (item 0x306 (le 8 31)) [] 0x306 false false false ∧ body 8 [(1, 7)] (le 8 31) = true
    ∧ owns 0 (tray.die 31).owner = true ∧ (tray.port 31).st = .active :=
  ⟨asked_served _ _ _ _ _ _ rfl (by decide) (by decide) (by decide), by decide, by decide, by decide⟩

/-! ### TimeCommands -/

/-- A timing pin whose number and value a body spells: the root's Twin A LOCKED in tick 1,000 without a fleet epoch. -/
theorem witness_TimeCommands_epoch : Served (asked root 0x401 (le 20 0)) 0 (item 0x401 (le 20 0)) [] 0x401 true true false ∧ timeShape (le 20 0) = true
    ∧ root.role.level = 3 ∧ root.role.twinB = false ∧ unpackTime (rd (le 20 0) 8 12) = some 0 ∧ 0 % uNs = 0 ∧ 0 ≤ root.clk.time ∧ root.clk.epoch = none ∧ root.fleetEpoch = none :=
  ⟨asked_served _ _ _ _ _ _ rfl (by decide) (by decide) (by decide), by decide, by decide, by decide, by decide, by decide, by decide, by decide, by decide⟩
theorem witness_TimeCommands_again : ({ root with clk := { clk with epoch := some 0 } } : Junction).clk.epoch = some 0
    ∧ Served (asked { root with clk := { clk with epoch := some 0 } } 0x401 (le 20 0)) 0 (item 0x401 (le 20 0)) [] 0x401 true true false :=
  ⟨by decide, asked_served _ _ _ _ _ _ rfl (by decide) (by decide) (by decide)⟩
theorem witness_TimeCommands_reference : Served (asked root 0x401 (le 28 (1 + 2 * 2 ^ 64 + 127 * 2 ^ 72))) 0 (item 0x401 (le 28 (1 + 2 * 2 ^ 64 + 127 * 2 ^ 72))) [] 0x401 true true false
    ∧ timeShape (le 28 (1 + 2 * 2 ^ 64 + 127 * 2 ^ 72)) = true ∧ rd (le 28 (1 + 2 * 2 ^ 64 + 127 * 2 ^ 72)) 0 1 = 1 ∧ rd (le 28 (1 + 2 * 2 ^ 64 + 127 * 2 ^ 72)) 8 1 = 2
    ∧ rd (le 28 (1 + 2 * 2 ^ 64 + 127 * 2 ^ 72)) 9 1 = 127 ∧ unpackTime (rd (le 28 (1 + 2 * 2 ^ 64 + 127 * 2 ^ 72)) 16 12) = some 0 :=
  ⟨asked_served _ _ _ _ _ _ rfl (by decide) (by decide) (by decide), by decide, by decide, by decide, by decide, by decide⟩
/-- A TIME_CONFIG body with OP 2 and every servo parameter at an end of its range. -/
def servoBody (src : Nat) : Bytes := le 8 2 ++ [BitVec.ofNat 8 src, 15, 31, 1, 1, 4, 0, 1] ++ le 4 100 ++ le 4 100000 ++ [2] ++ le 2 0 ++ le 4 1000000 ++ [10]
theorem witness_TimeCommands_servo : Served (asked tray 0x401 (servoBody 0)) 0 (item 0x401 (servoBody 0)) [] 0x401 true true false ∧ timeShape (servoBody 0) = true
    ∧ rd (servoBody 0) 0 1 = 2 ∧ rd (servoBody 0) 8 1 ≤ 1 ∧ (Servo.decode (servoBody 0)).bad false = none ∧ (Servo.decode (servoBody 1)).bad true = none :=
  ⟨asked_served _ _ _ _ _ _ rfl (by decide) (by decide) (by decide), by decide, by decide, by decide, by decide, by decide⟩
theorem witness_TimeCommands_utc : Served (asked root 0x401 (le 20 (3 + 37 * 2 ^ 64 + 3 * 2 ^ 80))) 0 (item 0x401 (le 20 (3 + 37 * 2 ^ 64 + 3 * 2 ^ 80))) [] 0x401 true true false
    ∧ timeShape (le 20 (3 + 37 * 2 ^ 64 + 3 * 2 ^ 80)) = true ∧ rd (le 20 (3 + 37 * 2 ^ 64 + 3 * 2 ^ 80)) 0 1 = 3 ∧ rd (le 20 (3 + 37 * 2 ^ 64 + 3 * 2 ^ 80)) 10 1 = 3 ∧ root.sourceCode root.clk.source ≤ 1
    ∧ 1 < tray.sourceCode 1 :=
  ⟨asked_served _ _ _ _ _ _ rfl (by decide) (by decide) (by decide), by decide, by decide, by decide, by decide, by decide⟩
/-- A TIME_CONFIG body with OP 4 for a delay of a kind of pin. -/
def delayBody (kind i : Nat) : Bytes := le 16 (4 + kind * 2 ^ 64 + i * 2 ^ 72 + 2 ^ 127)
theorem witness_TimeCommands_delay : Served (asked tray 0x401 (delayBody 0 67)) 0 (item 0x401 (delayBody 0 67)) [] 0x401 true true false ∧ timeShape (delayBody 0 67) = true
    ∧ rd (delayBody 0 67) 0 1 = 4 ∧ rd (delayBody 0 67) 8 1 = 0 ∧ rd (delayBody 0 67) 9 1 = 67 ∧ rd (delayBody 1 7) 8 1 = 1 ∧ rd (delayBody 1 7) 9 1 = 7
    ∧ tray.tsIn[7]?.isSome = true ∧ rd (delayBody 2 3) 8 1 = 2 ∧ rd (delayBody 2 3) 9 1 = 3 ∧ tray.trig[3]?.isSome = true
    ∧ rd (delayBody 3 0) 8 1 = 3 ∧ rd (delayBody 4 0) 8 1 = 4 ∧ rd (delayBody 3 0) 9 1 = 0 ∧ rd (delayBody 4 0) 9 1 = 0 :=
  ⟨asked_served _ _ _ _ _ _ rfl (by decide) (by decide) (by decide), by decide, by decide, by decide, by decide, by decide, by decide, by decide, by decide, by decide,
    by decide, by decide, by decide, by decide, by decide⟩
theorem witness_TimeCommands_read : Served (asked tray 0x402 (le 8 (7 + 64 * 2 ^ 16))) 0 (item 0x402 (le 8 (7 + 64 * 2 ^ 16))) [] 0x402 false true false
    ∧ body 8 [(1, 1), (4, 4)] (le 8 (7 + 64 * 2 ^ 16)) = true ∧ tray.tsIn[rd (le 8 (7 + 64 * 2 ^ 16)) 0 1]?.isSome = true ∧ rd (le 8 (7 + 64 * 2 ^ 16)) 2 2 = 64
    ∧ tray.sees 0 0 = true :=
  ⟨asked_served _ _ _ _ _ _ rfl (by decide) (by decide) (by decide), by decide, by decide, by decide, by decide⟩
/-- A TIMING_IO_CONFIG body of a pin, with START at 0. -/
def ioBody (kind i flags per w : Nat) : Bytes := le 1 kind ++ le 1 i ++ le 2 flags ++ zeros 20 ++ le 4 per ++ le 4 w
theorem witness_TimeCommands_input : Served (asked tray 0x403 (ioBody 0 7 0xF3 0 0)) 0 (item 0x403 (ioBody 0 7 0xF3 0 0)) [] 0x403 true false false ∧ ioShape (ioBody 0 7 0xF3 0 0) = true
    ∧ rd (ioBody 0 7 0xF3 0 0) 0 1 = 0 ∧ tray.tsIn[rd (ioBody 0 7 0xF3 0 0) 1 1]?.isSome = true :=
  ⟨asked_served _ _ _ _ _ _ rfl (by decide) (by decide) (by decide), by decide, by decide, by decide⟩
theorem witness_TimeCommands_trigger : Served (asked tray 0x403 (ioBody 1 3 14 100 90)) 0 (item 0x403 (ioBody 1 3 14 100 90)) [] 0x403 true false false ∧ ioShape (ioBody 1 3 14 100 90) = true
    ∧ rd (ioBody 1 3 14 100 90) 0 1 = 1 ∧ tray.trig[rd (ioBody 1 3 14 100 90) 1 1]?.isSome = true ∧ rd (ioBody 1 3 14 100 90) 2 2 % 4 = 2
    ∧ rd (ioBody 1 3 14 100 90) 24 4 = 100 ∧ rd (ioBody 1 3 14 100 90) 28 4 + 10 = 100 ∧ unpackTime (rd (ioBody 1 3 14 100 90) 8 12) = some 0 :=
  ⟨asked_served _ _ _ _ _ _ rfl (by decide) (by decide) (by decide), by decide, by decide, by decide, by decide, by decide, by decide, by decide⟩
theorem witness_TimeCommands_pps : Served (asked tray 0x403 (ioBody 2 0 0 0 500000000)) 0 (item 0x403 (ioBody 2 0 0 0 500000000)) [] 0x403 true false false
    ∧ ioShape (ioBody 2 0 0 0 500000000) = true ∧ rd (ioBody 2 0 0 0 500000000) 0 1 = 2 ∧ rd (ioBody 2 0 0 0 500000000) 1 1 = 0
    ∧ rd (ioBody 2 0 0 0 500000000) 28 4 = 500000000 :=
  ⟨asked_served _ _ _ _ _ _ rfl (by decide) (by decide) (by decide), by decide, by decide, by decide, by decide⟩
/-- A FLEET_STOP body: OP 1 at TAI second 2^16. -/
def stopBody : Bytes := le 16 (1 + 2 ^ 96)
theorem witness_TimeCommands_stop : Served (asked tray 0x404 stopBody) 0 (item 0x404 stopBody) [] 0x404 true true false ∧ body 16 [(1, 3)] stopBody = true
    ∧ rd stopBody 0 1 = 1 ∧ unpackTime (rd stopBody 4 12) = some (2 ^ 16 * uSec) ∧ tray.clk.time + 100000 * uNs ≤ 2 ^ 16 * uSec :=
  ⟨asked_served _ _ _ _ _ _ rfl (by decide) (by decide) (by decide), by decide, by decide, by decide, by decide⟩

/-! ### RegisterAndBufferCommands -/

theorem witness_RegisterAndBufferCommands_lsRead : Served (asked tray 0x501 (le 8 (31 + 128 * 2 ^ 16 + 65408 * 2 ^ 32))) 0 (item 0x501 (le 8 (31 + 128 * 2 ^ 16 + 65408 * 2 ^ 32))) [] 0x501 false false false
    ∧ body 8 [(1, 1)] (le 8 (31 + 128 * 2 ^ 16 + 65408 * 2 ^ 32)) = true ∧ tray.tray = true ∧ rd (le 8 (31 + 128 * 2 ^ 16 + 65408 * 2 ^ 32)) 0 1 = 31
    ∧ rd (le 8 (31 + 128 * 2 ^ 16 + 65408 * 2 ^ 32)) 2 2 = 128 ∧ rd (le 8 (31 + 128 * 2 ^ 16 + 65408 * 2 ^ 32)) 4 4 + 128 = 65536 ∧ (tray.port 31).st = .active :=
  ⟨asked_served _ _ _ _ _ _ rfl (by decide) (by decide) (by decide), by decide, by decide, by decide, by decide, by decide, by decide⟩
/-- An LS_WRITE body for the Lineside on L31. -/
def lsWriteBody (a : Nat) : Bytes := le 4 31 ++ le 4 a ++ le 8 1 ++ le 8 1
theorem witness_RegisterAndBufferCommands_lsWrite : Served (asked tray 0x502 (lsWriteBody 0x12)) 0 (item 0x502 (lsWriteBody 0x12)) [] 0x502 false false false
    ∧ body 24 [(1, 3)] (lsWriteBody 0x12) = true ∧ rd (lsWriteBody 0x12) 0 1 = 31 ∧ rd (lsWriteBody 65535) 4 4 = 65535 ∧ ownerMay 0x40 (Nat.land 3 3) = true :=
  ⟨asked_served _ _ _ _ _ _ rfl (by decide) (by decide) (by decide), by decide, by decide, by decide, by decide⟩
/-- EXPORT_CONFIG bodies at the ends of their ranges. -/
def destBody : Bytes := le 4 0 ++ [15, 1, 1, 3] ++ zeros 28
def streamBody : Bytes := le 4 1 ++ [15, 7, 3, 0]
def fieldBody : Bytes := le 4 2 ++ [15, 0] ++ le 2 8191 ++ le 4 0x8F
def policerBody : Bytes := le 4 3 ++ [1, 7, 0, 0] ++ le 8 47000000000 ++ le 8 50000000000 ++ le 4 9216 ++ le 4 16777216 ++ [3, 63, 63, 0, 0, 0, 0, 0]
theorem witness_RegisterAndBufferCommands_dest : Served (asked tray 0x601 destBody) 0 (item 0x601 destBody) [] 0x601 false false false ∧ exportShape destBody = true
    ∧ rd destBody 0 1 = 0 ∧ rd destBody 4 1 = 15 ∧ owns 0 15 = true ∧ rd destBody 5 1 = 1 ∧ rd destBody 6 1 = 1 :=
  ⟨asked_served _ _ _ _ _ _ rfl (by decide) (by decide) (by decide), by decide, by decide, by decide, by decide, by decide, by decide⟩
theorem witness_RegisterAndBufferCommands_stream : Served (asked tray 0x601 streamBody) 0 (item 0x601 streamBody) [] 0x601 false false false ∧ exportShape streamBody = true
    ∧ rd streamBody 0 1 = 1 ∧ rd streamBody 4 1 = 15 ∧ rd streamBody 5 1 = 7 :=
  ⟨asked_served _ _ _ _ _ _ rfl (by decide) (by decide) (by decide), by decide, by decide, by decide, by decide⟩
theorem witness_RegisterAndBufferCommands_field : Served (asked tray 0x601 fieldBody) 0 (item 0x601 fieldBody) [] 0x601 false false false ∧ exportShape fieldBody = true
    ∧ rd fieldBody 0 1 = 2 ∧ rd fieldBody 4 1 = 15 ∧ rd fieldBody 6 2 = 8191 :=
  ⟨asked_served _ _ _ _ _ _ rfl (by decide) (by decide) (by decide), by decide, by decide, by decide, by decide⟩
theorem witness_RegisterAndBufferCommands_policer : Served (asked tray 0x601 policerBody) 0 (item 0x601 policerBody) [] 0x601 false false false ∧ exportShape policerBody = true
    ∧ rd policerBody 0 1 = 3 ∧ rd policerBody 4 1 = 1 ∧ rd policerBody 5 1 = 7 ∧ policerBad (policerBody.drop 8) = none
    ∧ (List.range 7).foldl (fun a i => a + (if i + 1 = 7 then (PolicerCfg.decode (policerBody.drop 8)).cir else ((tray.exp.eth 1).pol.getD i (Policer.init (i + 1))).cfg.cir)) 0 = 47000000000 :=
  ⟨asked_served _ _ _ _ _ _ rfl (by decide) (by decide) (by decide), by decide, by decide, by decide, by decide, by decide, by decide⟩
/-- A BUFFER_WRITE body: one byte at the last address of the last software area. -/
def writeBody : Bytes := le 8 0x7FFFFFFF ++ [7]
theorem witness_RegisterAndBufferCommands_write : Served (asked tray 0x602 writeBody) 0 (item 0x602 writeBody) [] 0x602 false false false ∧ writeBody.length = 9
    ∧ bufferOk 0 (rd writeBody 0 8) (writeBody.drop 8).length = true :=
  ⟨asked_served _ _ _ _ _ _ rfl (by decide) (by decide) (by decide), by decide, by decide⟩
theorem witness_RegisterAndBufferCommands_memory : Memory.wf tray.mem = true := by decide
theorem witness_RegisterAndBufferCommands_read : Served (asked tray 0x603 (le 8 0x7FFFFFFF ++ le 8 1)) 0 (item 0x603 (le 8 0x7FFFFFFF ++ le 8 1)) [] 0x603 false false false
    ∧ body 16 [(12, 4)] (le 8 0x7FFFFFFF ++ le 8 1) = true ∧ rd (le 8 0x7FFFFFFF ++ le 8 1) 8 4 = 1 ∧ bufferOk 0 (rd (le 8 0x7FFFFFFF ++ le 8 1) 0 8) 1 = true
    ∧ tray.poisonAt 0x7FFFFFFF 1 = none ∧ ({ tray with poisoned := [(2, 0x7FFFFFC0)] } : Junction).poisonAt 0x7FFFFFFF 1 ≠ none :=
  ⟨asked_served _ _ _ _ _ _ rfl (by decide) (by decide) (by decide), by decide, by decide, by decide, by decide, by decide⟩

/-! ### BallastAndCrcCommands -/

/-- A compression job of no input into 1 KiB of the first software area. -/
def jobBody (cap : Nat) : Bytes := le 4 0 ++ le 4 0 ++ le 8 0x40000000 ++ le 8 0x40000000 ++ le 4 cap ++ le 4 9
theorem witness_BallastAndCrcCommands_job : Served (asked tray 0x604 (jobBody 1024)) 0 (item 0x604 (jobBody 1024)) [] 0x604 false false false ∧ (jobBody 1024).length = 32
    ∧ (BallastJob.decode (jobBody 1024)).refusal = 0 ∧ bufferOk 0 0x40000000 0 = true ∧ bufferOk 0 0x40000000 1024 = true
    ∧ (BallastJob.decode (jobBody 0)).refusal ≠ 0 ∧ bit tray.boot.ballastFailed.toNat 0 = false :=
  ⟨asked_served _ _ _ _ _ _ rfl (by decide) (by decide) (by decide), by decide, by decide, by decide, by decide, by decide, by decide⟩
/-- A CRC_ENGINE body for engine 7: enabled, VC 1, the reset value's width and polynomial. -/
def engineBody (bind : Nat) : Bytes := [7, 67, 0, 0] ++ le 4 (1 + bind * 2 + 8 + 32 * 2 ^ 7) ++ le 8 0x04C11DB7 ++ le 8 0xFFFFFFFF ++ le 8 0xFFFFFFFF ++ le 8 0xFFFFFFFF
def engineCfg (bind : Nat) : CrcCfg :=
  let b := engineBody bind
  { (((CrcCfg.reset.withReg 0 (rd b 4 4)).withReg 1 (rd b 8 8)).withReg 2 (rd b 16 8)).withReg 3 (rd b 24 8) with port := rd b 1 1 }
theorem witness_BallastAndCrcCommands_engine : Served (asked tray 0x605 (engineBody 1)) 0 (item 0x605 (engineBody 1)) [] 0x605 false false false
    ∧ body 40 [(2, 2)] (engineBody 1) = true ∧ rd (engineBody 1) 4 4 < 2 ^ 20 ∧ rd (engineBody 1) 0 1 = 7 ∧ (tray.engine 7).heldFrom 0 = false ∧ (engineCfg 1).bind = 1
    ∧ (engineCfg 1).port = 67 ∧ tray.role.unused 67 = false ∧ (engineCfg 1).enable = true ∧ (engineCfg 1).width = 32 ∧ (engineCfg 1).vc ≠ 0
    ∧ crcConflict tray.crc 7 (engineCfg 1) = false ∧ (tray.engine 7).jobUnit = none
    ∧ (tray.engine 7).busyAt (tray.engine 7).act.port (tray.port (tray.engine 7).act.port) = false ∧ (engineCfg 0).bind = 0 :=
  ⟨asked_served _ _ _ _ _ _ rfl (by decide) (by decide) (by decide), by decide, by decide, by decide, by decide, by decide, by decide, by decide, by decide,
    by decide, by decide, by decide, by decide, by decide, by decide⟩
/-- A tray whose CRC engine 7 is software-fed and owned by the management context. -/
def feeding : Junction := tray.setEngine 7 { CrcEng.init with cfg := { CrcCfg.reset with enable := true }, act := { CrcCfg.reset with enable := true }, owner := some 0 }
theorem witness_BallastAndCrcCommands_data : Served (asked feeding 0x606 (le 4 7 ++ le 4 1 ++ le 8 0x40000000)) 0 (item 0x606 (le 4 7 ++ le 4 1 ++ le 8 0x40000000)) [] 0x606 false false false
    ∧ body 16 [(1, 3)] (le 4 7 ++ le 4 1 ++ le 8 0x40000000) = true ∧ (feeding.engine 7).owner = some 0 ∧ (feeding.engine 7).act.enable = true
    ∧ (feeding.engine 7).act.bind = 0 ∧ feeding.buffer 0 0x40000000 1 = .inr [0] :=
  ⟨asked_served _ _ _ _ _ _ rfl (by decide) (by decide) (by decide), by decide, by decide, by decide, by decide, rfl⟩
theorem witness_BallastAndCrcCommands_value : Served (asked tray 0x607 (le 8 7)) 0 (item 0x607 (le 8 7)) [] 0x607 false false false ∧ body 8 [(1, 7)] (le 8 7) = true
    ∧ Served (asked tray 0x608 (le 16 (7 + 2 ^ 127))) 0 (item 0x608 (le 16 (7 + 2 ^ 127))) [] 0x608 false false false ∧ body 16 [(1, 7)] (le 16 (7 + 2 ^ 127)) = true
    ∧ (tray.engine 7).heldFrom 0 = false :=
  ⟨asked_served _ _ _ _ _ _ rfl (by decide) (by decide) (by decide), by decide, asked_served _ _ _ _ _ _ rfl (by decide) (by decide) (by decide), by decide, by decide⟩

/-! ### SecurityCommands -/

theorem witness_SecurityCommands_id : Served (asked tray 0x701 []) 0 (item 0x701 []) [] 0x701 false true false ∧ (item 0x701 []).req.body = [] :=
  ⟨asked_served _ _ _ _ _ _ rfl (by decide) (by decide) (by decide), rfl⟩
/-- A tray asked in a session that slot 0xFF opened. -/
def provisioning : Junction :=
  { tray with mail := tray.mail.set 0 { box 0x702 (le 8 0x4B434F4C) with session := some ⟨0, 0xFF, zeros 48, 0, none, 0, none, 0, none, false⟩ } }
theorem witness_SecurityCommands_owner : Served provisioning 0 (item 0x702 (le 8 0x4B434F4C)) [] 0x702 true true false ∧ body 8 [(4, 4)] (le 8 0x4B434F4C) = true
    ∧ (provisioning.mbox 0).session = some ⟨0, 0xFF, zeros 48, 0, none, 0, none, 0, none, false⟩ ∧ rd (le 8 0x4B434F4C) 0 4 = 0x4B434F4C
    ∧ allZero provisioning.sec.ownerHash = true ∧ allZero ({ provisioning with sec := { provisioning.sec with ownerHash := [1] } } : Junction).sec.ownerHash = false := by
  refine ⟨?_, by decide, by rfl, by decide, by decide, by decide⟩
  have h : provisioning.mbox 0 = { box 0x702 (le 8 0x4B434F4C) with session := some ⟨0, 0xFF, zeros 48, 0, none, 0, none, 0, none, false⟩ } := by
    simp [provisioning, Junction.mbox, List.getD_eq_getElem?_getD, show 0 < tray.mail.length from by decide]
  unfold Served
  rw [h]
  exact ⟨rfl, by decide, by simp [provisioning, show 0 < tray.mail.length from by decide], rfl, rfl, rfl, rfl, rfl, by decide, rfl, fun _ => rfl, by decide, by decide⟩
/-- KEY_INSTALL of slot 63 for context 15, with a key of zeros. -/
def keyBody : Bytes := [63, 1, 15, 2] ++ zeros 100
theorem witness_SecurityCommands_install : Served (asked tray 0x703 keyBody) 0 (item 0x703 keyBody) [] 0x703 true true false ∧ Cmd.keyInstall.shape keyBody = true
    ∧ rd keyBody 0 1 = 63 ∧ rd keyBody 1 1 = 1 ∧ rd keyBody 2 1 = 15 ∧ Tbl.get none tray.sec.keys 63 = none :=
  ⟨asked_served _ _ _ _ _ _ rfl (by decide) (by decide) (by decide), by decide, by decide, by decide, by decide, by decide⟩
/-- A tray with a key in slot 63, and a session of mailbox 1 opened with it. -/
def keyed : Junction :=
  { tray with sec := { tray.sec with keys := [(63, some ⟨0, 0, false, false, [], []⟩)] },
              mail := tray.mail.set 1 { Mailbox.init with session := some ⟨0, 63, [], 0, none, 0, none, 0, none, false⟩ } }
theorem witness_SecurityCommands_remove : Served (asked keyed 0x704 (le 8 63)) 0 (item 0x704 (le 8 63)) [] 0x704 true true false ∧ body 8 [(1, 7)] (le 8 63) = true
    ∧ ((asked keyed 0x704 (le 8 63)).mbox 0).session = some ⟨0, 0, [], 0, none, 0, none, 0, none, false⟩ ∧ rd (le 8 63) 0 1 = 63
    ∧ Tbl.get none (asked keyed 0x704 (le 8 63)).sec.keys 63 = some ⟨0, 0, false, false, [], []⟩
    ∧ (asked keyed 0x704 (le 8 63)).mail[1]? = some { Mailbox.init with session := some ⟨0, 63, [], 0, none, 0, none, 0, none, false⟩ }
    ∧ (asked keyed 0x704 (le 8 63)).mail[2]? = some Mailbox.init :=
  ⟨asked_served _ _ _ _ _ _ rfl (by decide) (by decide) (by decide), by decide, by rfl, by decide, by rfl, by rfl, by rfl⟩
theorem witness_SecurityCommands_list : Served (asked tray 0x705 []) 0 (item 0x705 []) [] 0x705 true true false :=
  asked_served _ _ _ _ _ _ rfl (by decide) (by decide) (by decide)
theorem witness_SecurityCommands_mode : Served (asked tray 0x707 (le 16 (1 + 2 ^ 80))) 0 (item 0x707 (le 16 (1 + 2 ^ 80))) [] 0x707 true true false
    ∧ body 16 [(1, 7)] (le 16 (1 + 2 ^ 80)) = true ∧ rd (le 16 (1 + 2 ^ 80)) 0 1 = 1 ∧ tray.sec.lockPart = false ∧ tray.sec.lockOpen = false
    ∧ tray.ahead (rd (le 16 (1 + 2 ^ 80)) 8 8) = true :=
  ⟨asked_served _ _ _ _ _ _ rfl (by decide) (by decide) (by decide), by decide, by decide, by decide, by decide, by decide⟩
theorem witness_SecurityCommands_fuse : Served (asked tray 0x708 (le 8 (1 + 0x4B434F4C * 2 ^ 32))) 0 (item 0x708 (le 8 (1 + 0x4B434F4C * 2 ^ 32))) [] 0x708 true true false
    ∧ body 8 [(1, 3)] (le 8 (1 + 0x4B434F4C * 2 ^ 32)) = true ∧ rd (le 8 (1 + 0x4B434F4C * 2 ^ 32)) 0 1 = 1 ∧ rd (le 8 (1 + 0x4B434F4C * 2 ^ 32)) 4 4 = 0x4B434F4C :=
  ⟨asked_served _ _ _ _ _ _ rfl (by decide) (by decide) (by decide), by decide, by decide, by decide⟩
/-- A tray that runs an image of security version 255, so that the floor may rise. -/
def runs255 : Junction := { tray with sec := { tray.sec with fw := { (tray.sec.fw.setSlot tray.sec.fw.running (List.replicate 256 255)) with rom := false, fallback := false } } }
set_option maxRecDepth 4000 in
theorem witness_SecurityCommands_rollback : Served (asked runs255 0x709 (le 8 (255 + 0x4B434F4C * 2 ^ 32))) 0 (item 0x709 (le 8 (255 + 0x4B434F4C * 2 ^ 32))) [] 0x709 true true false
    ∧ body 8 [(1, 3)] (le 8 (255 + 0x4B434F4C * 2 ^ 32)) = true ∧ rd (le 8 (255 + 0x4B434F4C * 2 ^ 32)) 4 4 = 0x4B434F4C
    ∧ rd (le 8 (255 + 0x4B434F4C * 2 ^ 32)) 0 1 = 255 ∧ runs255.sec.floor = 0 ∧ 255 ≤ fwSvn (runs255.sec.fw.slot runs255.sec.fw.running)
    ∧ runs255.sec.fw.rom = false ∧ runs255.sec.fw.fallback = false :=
  ⟨asked_served _ _ _ _ _ _ rfl (by decide) (by decide) (by decide), by decide, by decide, by decide, by decide, by decide, by decide, by decide⟩
theorem witness_SecurityCommands_events : Served (asked tray 0x70A (le 8 64)) 0 (item 0x70A (le 8 64)) [] 0x70A true true false ∧ body 8 [(2, 6)] (le 8 64) = true
    ∧ rd (le 8 64) 0 2 = 64 := ⟨asked_served _ _ _ _ _ _ rfl (by decide) (by decide) (by decide), by decide, by decide⟩
/-- MACSEC_SA of port 1, number 3, transmit, active. -/
def saBody : Bytes := [1, 3, 1, 1] ++ zeros 164
set_option maxRecDepth 4000 in
theorem witness_SecurityCommands_sa : Served (asked tray 0x706 saBody) 0 (item 0x706 saBody) [] 0x706 true true false ∧ body 168 [(125, 3)] saBody = true ∧ rd saBody 3 1 = 1
    ∧ rd saBody 0 1 = 1 ∧ rd saBody 1 1 = 3 ∧ rd saBody 2 1 = 1 ∧ tray.sec.sas = [] ∧ tray.sec.zeroised = false :=
  ⟨asked_served _ _ _ _ _ _ rfl (by decide) (by decide) (by decide), by decide, by decide, by decide, by decide, by decide, by decide, by decide⟩

/-! ### FirmwareCommands -/

/-- A tray with 2 of 3 bytes of an image loaded, or one verified. -/
def loading (st : FwSt) : Junction := { tray with sec := { tray.sec with fw := { tray.sec.fw with st := st, got := 2, total := 3 } } }
/-- The last byte of the image. -/
def lastChunk : Bytes := le 4 2 ++ le 4 3 ++ [9]
theorem witness_FirmwareCommands_load : Served (asked (loading .loading) 0x801 lastChunk) 0 (item 0x801 lastChunk) [] 0x801 true true false ∧ lastChunk.length = 9
    ∧ rd lastChunk 0 4 = (loading .loading).sec.fw.got ∧ rd lastChunk 4 4 = (loading .loading).sec.fw.total ∧ (loading .loading).sec.fw.st = .loading
    ∧ rd lastChunk 0 4 + (lastChunk.drop 8).length = 3 :=
  ⟨asked_served _ _ _ _ _ _ rfl (by decide) (by decide) (by decide), by decide, by decide, by decide, by decide, by decide⟩
theorem witness_FirmwareCommands_status : Served (asked tray 0x802 []) 0 (item 0x802 []) [] 0x802 false true true ∧ (item 0x802 []).req.ctx = 0 :=
  ⟨asked_served _ _ _ _ _ _ rfl (by decide) (by decide) (by decide), rfl⟩
theorem witness_FirmwareCommands_activate : Served (asked (loading .verified) 0x803 (le 8 65536)) 0 (item 0x803 (le 8 65536)) [] 0x803 true true false ∧ (le 8 65536).length = 8
    ∧ (loading .verified).sec.fw.st = .verified ∧ (loading .verified).ahead (rd (le 8 65536) 0 8) = true ∧ (loading .verified).ahead (rd (le 8 0) 0 8) = false
    ∧ tray.sec.fw.st ≠ .verified ∧ tray.sec.fw.st ≠ .armed :=
  ⟨asked_served _ _ _ _ _ _ rfl (by decide) (by decide) (by decide), by decide, by decide, by decide, by decide, by decide, by decide⟩

/-! ### RequestRefusals -/

/-- The tray asked from context 5, by a session of that context. -/
def asked5 (j : Junction) (op : Nat) (b : Bytes) : Junction :=
  { j with mail := j.mail.set 0 { box op b with session := some ⟨5, 0, [], 0, none, 0, none, 0, none, false⟩, taken := [⟨{ (item op b).req with ctx := 5 }, 0, 0⟩] } }
theorem witness_RequestRefusals_privilege : Served (asked5 tray 0x707 []) 0 ⟨{ (item 0x707 []).req with ctx := 5 }, 0, 0⟩ [] 0x707 false true false
    ∧ (⟨{ (item 0x707 []).req with ctx := 5 }, 0, 0⟩ : Taken).req.ctx ≠ 0 := by
  have h : (asked5 tray 0x707 []).mbox 0 = { box 0x707 [] with session := some ⟨5, 0, [], 0, none, 0, none, 0, none, false⟩, taken := [⟨{ (item 0x707 []).req with ctx := 5 }, 0, 0⟩] } := by
    simp [asked5, Junction.mbox, List.getD_eq_getElem?_getD, show 0 < tray.mail.length from by decide]
  refine ⟨?_, by decide⟩
  unfold Served
  rw [h]
  exact ⟨rfl, by decide, by simp [asked5, show 0 < tray.mail.length from by decide], rfl, rfl, rfl, rfl, rfl, by decide, rfl, by decide, by decide, by decide⟩
theorem witness_RequestRefusals_unconfirmed : Served (asked { tray with confirmed := false } 0x101 []) 0 (item 0x101 []) [] 0x101 true true false
    ∧ ({ tray with confirmed := false } : Junction).boot.service ≠ 3 := ⟨asked_served _ _ _ _ _ _ rfl (by decide) (by decide) (by decide), by decide⟩
theorem witness_RequestRefusals_relayOnly : Served (asked { tray with boot := { tray.boot with service := 3 } } 0x101 []) 0 (item 0x101 []) [] 0x101 true true false :=
  asked_served _ _ _ _ _ _ rfl (by decide) (by decide) (by decide)
theorem witness_RequestRefusals_form : Served (asked tray 3 [0]) 0 (item 3 [0]) [] 3 false true false ∧ [(0 : Byte)].length ≠ 0 :=
  ⟨asked_served _ _ _ _ _ _ rfl (by decide) (by decide) (by decide), by decide⟩
/-- A mailbox whose request with SEQ 1 has had its reply and is sent again. -/
def again : Junction :=
  { tray with mail := tray.mail.set 0 { box 3 [] with session := some ⟨0, 0, [], 1, some ⟨3, 0, 0, 7, 1, 0, false, 0, 0, 0, []⟩, 0, none, 0, none, false⟩ } }
theorem witness_RequestRefusals_again : again.boot.porst = false ∧ 0 < again.mail.length ∧ (again.mbox 0).taken = [item 3 []] ∧ (item 3 []).req.seq = 1
    ∧ (again.mbox 0).session = some ⟨0, 0, [], 1, some ⟨3, 0, 0, 7, 1, 0, false, 0, 0, 0, []⟩, 0, none, 0, none, false⟩ :=
  ⟨rfl, by decide, by rfl, rfl, by rfl⟩
/-- A tray with a request relayed to it on the twin link. -/
def relayed : Junction := { tray with mail := tray.mail.set 16 { Mailbox.init with taken := [⟨⟨0x104, 0, 0, 7, 1, 0, false, []⟩, 9, 66⟩] } }
theorem witness_RequestRefusals_relayed : relayed.boot.porst = false ∧ 16 < relayed.mail.length ∧ (relayed.mbox 16).taken = [⟨⟨0x104, 0, 0, 7, 1, 0, false, []⟩, 9, 66⟩]
    ∧ (relayed.mbox 16).session = none ∧ relayed.boot.service ≠ 3 ∧ relayed.confirmed = true := ⟨rfl, by decide, by decide, by rfl, by decide, by decide⟩
theorem witness_RequestRefusals_none : (tray.mbox 0).taken.head?.all (fun it => it.req.opcode != 3) = true := by decide

/-! ### ColdResets -/

/-- A Junction whose PORST_N is low, and one that waits for REFCLK. -/
def inReset (waitRefclk pin : Bool) : Machine.State := withJn { Junction.init with boot := { JnBoot.init with waitRefclk := waitRefclk, pin := pin } }
theorem witness_ColdResets : (inReset false true).jn.boot.porst = true ∧ (inReset false true).jn.boot.waitRefclk = false ∧ (inReset false true).jn.boot.waitPorst = false
    ∧ (inReset true false).jn.boot.porst = true ∧ (inReset true false).jn.boot.waitRefclk = true ∧ (inReset true false).jn.boot.pin = false
    ∧ (inReset true false).jn.boot.waitPorst = false := by decide

/-! ### WarmResetsAndFlushes -/

/-- A tray with a flush running, before a reset of a kind or none. -/
def flushing (reset : Nat) (pwr run : Bool) : Machine.State := withJn { tray with flush := { pwrfail := pwr, running := run, reset := reset, stopped := true } }
theorem witness_WarmResetsAndFlushes : (flushing 1 true true).jn.boot.porst = false ∧ (flushing 1 true true).jn.boot.phase = 4 ∧ (flushing 1 true true).jn.flush.reset ≠ 0
    ∧ (flushing 1 true true).jn.flush.running = true ∧ (flushing 1 true true).jn.mayRevert = false ∧ (flushing 0 true true).jn.flush.pwrfail = true
    ∧ (flushing 0 true false).jn.flush.running = false ∧ (flushing 0 true false).jn.flush.pwrfail = true ∧ (withJn tray).jn.flush.running = false ∧ tray.tray = true
    ∧ (tray.port 31).st = .active ∧ 31 < tray.ports.length := by decide

/-! ### TwinAndService -/

/-- A tray Twin B, with its twin in a condition. -/
def twinB (t : JnTwin) : Machine.State := withJn { tray with straps := 4, twin := t }
theorem witness_TwinAndService_twin : (twinB ⟨false, false, true, 2, false, none, none, false, none, none⟩).jn.boot.porst = false ∧ (twinB ⟨false, false, true, 2, false, none, none, false, none, none⟩).jn.twin.missing = 2
    ∧ (twinB ⟨false, false, true, 2, false, none, none, false, none, none⟩).jn.role.twinB = true ∧ (twinB ⟨false, true, true, 2, false, none, some 1000, false, none, none⟩).jn.twin.takeoverTick = some 1000
    ∧ 1000 ≤ (twinB ⟨false, true, true, 2, false, none, some 1000, false, none, none⟩).jn.clk.markTick ∧ (withJn tray).jn.role.twinB = false ∧ (withJn tray).jn.confirmed = true
    ∧ (twinB ⟨true, false, true, 0, false, some 0, none, false, none, none⟩).jn.reached 0 = true ∧ (twinB ⟨true, false, true, 0, false, some 5000, none, false, none, none⟩).jn.reached 5000 = false := by decide
theorem witness_TwinAndService_checks : (withJn tray).jn.boot.porst = false ∧ 63 < tray.boot.engines.length ∧ bit tray.boot.retired.toNat 63 = false ∧ tray.boot.retiring = []
    ∧ ({ tray with boot := { tray.boot with relayNext := some 4 } } : Junction).boot.service = 2 ∧ tray.boot.relayNext = none ∧ tray.notices = [] := by decide

/-! ### JunctionRegisters -/

/-- A tray whose mailbox 0 is in use, or has ERR set. -/
def boxed (e err : Bool) : Machine.State := withJn { tray with mail := tray.mail.set 0 { Mailbox.init with enable := e, err := err } }
theorem witness_JunctionRegisters : tray.reaches false true = true ∧ tray.reaches false false = true ∧ tray.reaches true true = false
    ∧ Tbl.get 0 ({ tray with latch := [(0x100, 6)] } : Junction).latch 0x100 = 5 + 1 ∧ ((boxed true false).jn.mbox 0).enable = true ∧ ((boxed false false).jn.mbox 0).enable = false
    ∧ ((boxed true true).jn.mbox 0).err = true ∧ bit 0x10 4 = true ∧ bit 0 4 = false ∧ fld 0x0D 1 3 ≠ 7 ∧ fld 0x1D 1 3 ≠ 7 ∧ (0x1000 + 16 * 67) % 16 = 0 := by decide

/-! ### MailboxTransports -/

/-- An enabled mailbox with one request posted. -/
def posted : Machine.State := withJn { tray with mail := tray.mail.set 0 { Mailbox.init with enable := true, reqTail := 1 } }
/-- A request header of a HEARTBEAT. -/
def reqBytes : Bytes := le 2 3 ++ zeros 30
theorem witness_MailboxTransports_request : (Request.decode (fit (32 + min (rd reqBytes 0x10 4) 65568) reqBytes)).map (fun q => q.opcode) = some 3 ∧ knownOps.contains 3 = true
    ∧ posted.jn.takes = true ∧ 0 < posted.jn.mail.length ∧ (posted.jn.mbox 0).enable = true ∧ (posted.jn.mbox 0).live = true ∧ (posted.jn.mbox 0).err = false
    ∧ (posted.jn.mbox 0).reqHead ≠ (posted.jn.mbox 0).reqTail ∧ (posted.jn.mbox 0).reqHead < (posted.jn.mbox 0).slots := by decide
/-- Associations of Ethernet port 1, one each way. -/
def sa (dir : Nat) : Sa := { port := 1, an := 3, dir := dir, active := true, ssci := 0, salt := [], nextPn := 0, sak := [], lowPn := 0, stopped := false }
def secured : Junction := { tray with sec := { tray.sec with sas := [sa 0, sa 1] } }
/-- A datagram to mailbox 15 that holds a whole request. -/
def dgram : Bytes := le 4 0x58424D44 ++ [15, 0, 0, 1] ++ le 8 7 ++ reqBytes
theorem witness_MailboxTransports_datagram : secured.sec.txSa 1 = some (sa 1) ∧ secured.sec.rxSa 1 3 = some (sa 0) ∧ rd dgram 4 1 = 15 ∧ rd dgram 0 4 = 0x58424D44 ∧ rd dgram 7 1 = 1
    ∧ (Request.decode (dgram.drop 16)).map (fun q => q.opcode) = some 3 ∧ (secured.mbox 15).session = none ∧ (secured.mbox 15).live = true ∧ (secured.mbox 15).segs = []
    ∧ tray.sec.txSa 1 = none := by decide
/-- A relayed request that came on T34 for this Junction, for none in reach, and a reply on its way to another. -/
def relayMsg (target : Nat) (reply : Bool) (b : Bytes) : Junction := atPort tray 66 (fun x => { x with inbox := [msg 3 1 (relayHead 9 target 0 reply ++ b)] })
theorem witness_MailboxTransports_relay : (((relayMsg tray.id false reqBytes).port 66).takeInbox 3 1 (fun b => isRelayed false b && (tray.takes || rd b 4 4 % 2 ^ 17 != tray.id))).1.isSome = true
    ∧ (((relayMsg 5 true (le 32 0)).port 66).takeInbox 3 1 (isRelayed true)).1.isSome = true ∧ 9 ≠ tray.id ∧ (relayMsg 4 false reqBytes).nextHop 4 = some 64 := by decide
/-- A tray whose clock has run 1 s, with a relayed command owed and a session in mailbox 0. -/
def late : Machine.State :=
  withJn { tray with clk := { clk with up := uSec }, mail := tray.mail.set 0 { (box 3 []) with taken := [], owed := [⟨⟨(item 3 []).req, 0, 0⟩, 0, 4, .relay 64⟩] } }
theorem witness_MailboxTransports_timeout : (late.jn.mbox 0).owed = [⟨⟨(item 3 []).req, 0, 0⟩, 0, 4, .relay 64⟩] ∧ 0 + 100000000 * uNs ≤ late.jn.clk.up
    ∧ (late.jn.mbox 0).session = some ⟨0, 0, [], 0, none, 0, none, 0, none, false⟩ ∧ 0 + 4000000 * uNs ≤ late.jn.clk.up ∧ (withJn tray).jn.clk.up < 0 + 4000000 * uNs := by decide

/-! ### FirmwareModeAndTap -/

/-- A tray with firmware in a state. -/
def withFw (f : Fw) : Machine.State := withJn { tray with sec := { tray.sec with fw := f } }
theorem witness_FirmwareModeAndTap_firmware : (withFw { Fw.init with st := .verifying }).jn.sec.fw.st = .verifying ∧ (withFw { Fw.init with st := .armed, at_ := some 1000 }).jn.reached 1000 = true
    ∧ (withFw { Fw.init with paused := true }).jn.sec.fw.paused = true ∧ (withFw { Fw.init with paused := true, fallback := true }).jn.sec.fw.fallback = true
    ∧ (withFw Fw.init).jn.sec.fw.reverting = false ∧ (withFw Fw.init).jn.sec.fw.st ≠ .verifying ∧ (withFw Fw.init).jn.boot.porst = false := by decide
/-- A tray with the TAP in a state, or a mode change due. -/
def withTap (t : Tap) : Machine.State := withJn { tray with sec := { tray.sec with tap := t, modeAt := some (1000, true) } }
theorem witness_FirmwareModeAndTap_tap : (withTap ⟨0, none, 0, 2⟩).jn.sec.tap.failures < 3 ∧ 3 ≤ (withTap ⟨0, none, 0, 3⟩).jn.sec.tap.failures ∧ (withTap ⟨0, some 4, 5, 2⟩).jn.sec.tap.challenge = some 4
    ∧ (withTap ⟨0, none, 0, 2⟩).jn.sec.modeAt = some (1000, true) ∧ (withTap ⟨0, none, 0, 2⟩).jn.reached 1000 = true := by decide
/-- A tray that owes an LS_READ (or LS_WRITE) of LS_TRACE_CTRL on L31, whose reply has come. -/
def answered (w : List (Nat × Word)) : Machine.State :=
  let j : Junction := { tray with txns := [⟨31, 5, .mailbox 8, w⟩], mail := tray.mail.set 0 { (box 0x501 []) with taken := [], owed := [⟨item 0x501 [], 0, 4, .lineside 31 8⟩] } }
  withJn (atPort j 31 (fun x => { x with inbox := [msg 3 0 (le 2 0x11 ++ le 2 1 ++ le 4 5 ++ le 2 1 ++ le 2 0x101 ++ le 4 0 ++ le 8 77 ++ zeros 8)] }))
theorem witness_FirmwareModeAndTap_reply : (((answered []).jn.port 31).takeInbox 3 0 (fun b => rd b 0 2 == 0x11)).1.map (fun g => (rd g.bytes 2 2, rd g.bytes 4 4, rd g.bytes 10 2)) = some (1, 5, 0x101)
    ∧ (answered []).jn.txns = [⟨31, 5, .mailbox 8, []⟩] ∧ ((answered []).jn.mbox 0).owed = [⟨item 0x501 [], 0, 4, .lineside 31 8⟩] ∧ (answered []).jn.tray = true
    ∧ (answered [(0x101, 1)]).jn.txns = [⟨31, 5, .mailbox 8, [(0x101, 1)]⟩] ∧ inRange 0x101 0x3200 256 = false := by decide

/-! ### BundleEvents -/

/-- A bundle of context 0 in a state, with its header. -/
def bundle (id : Nat) (st : BundleSt) (head : Bytes) : Bundle := ⟨id, 0, 0, st, 3, 2, head, [], 1000, 0, 0, 0, 0, none, []⟩
/-- A tray with bundles. -/
def holdingBundle (l : List Bundle) : Machine.State := withJn { tray with bundles := l }
/-- The last chunk of bundle 7, arrived on T32. -/
def chunked : Machine.State := withJn { atPort tray 64 (fun x => { x with inbox := [msg 2 3 (Chunk.bytes ⟨7, 2, 3, [1]⟩)] }) with bundles := [bundle 7 .receiving [9]] }
theorem witness_BundleEvents_chunk : ((chunked.jn.port 64).takeInbox 2 3 (fun b => rd b 0 2 == 5)).1.map (fun g => Chunk.decode g.bytes) = some (some ⟨7, 2, 3, [1]⟩)
    ∧ chunked.jn.bundles = [bundle 7 .receiving [9]] ∧ chunked.jn.tray = true ∧ ((withJn tray).jn.port 64).inbox = [] := by decide
/-- A bundle header for every level whose recipient is this Junction. -/
def head : Bytes := zeros 0x18 ++ le 4 15 ++ le 4 1 ++ zeros 224 ++ le 4 tray.id ++ zeros 44
theorem witness_BundleEvents_check : (bundle 7 .checking head).st = .checking ∧ bit (rd (bundle 7 .checking head).data 0x18 4) tray.role.level = true
    ∧ (bundleEntry (bundle 7 .checking head).data tray.id).isSome = true ∧ bundleSigOk tray.sec (bundle 7 .checking head).data = false
    ∧ bit (rd (bundle 7 .checking []).data 0x18 4) tray.role.level = false := by decide
theorem witness_BundleEvents_active : (holdingBundle [bundle 6 .active [], bundle 7 .staged []]).jn.reached 1000 = true ∧ (holdingBundle [bundle 6 .active [], bundle 7 .staged []]).jn.boot.porst = false := by decide
/-- A pack, staged or active. -/
def packed (a st : Option TestPack) : Machine.State := withJn { root with tests := { root.tests with active := a, staged := st } }
theorem witness_BundleEvents_pack : (packed none (some ⟨5, [], 1000⟩)).jn.reached 1000 = true ∧ (packed none (some ⟨5, [], 1000⟩)).jn.tray = false ∧ (packed none (some ⟨5, [], 1000⟩)).jn.bundles = [] := by decide
theorem witness_BundleEvents_refs : 3 < tray.refs.length ∧ (({ tray with refs := tray.refs.set 3 ⟨none, some []⟩ } : Junction).refs.getD 3 ⟨none, none⟩).staged = some [] := by decide
theorem witness_BundleEvents_results : tray.reached (rd ([] : Bytes) 8 8 + rd ([] : Bytes) 0x10 4) = true ∧ (tray.port 31).st = .active ∧ tray.tests.active = none := by decide

/-! ### ContextAndTickEvents -/

/-- A tray with context 15 as given. -/
def inCtx (x : Ctx) : Machine.State := withJn { tray with ctxs := tray.ctxs.set 15 x }
theorem witness_ContextAndTickEvents_context : (inCtx { Ctx.init with next := some { CtxRec.zero with enable := true } }).jn.reached 0 = true
    ∧ ((inCtx { Ctx.init with next := some { CtxRec.zero with enable := true } }).jn.ctx 15).next = some { CtxRec.zero with enable := true }
    ∧ ((inCtx { Ctx.init with st := .enabled, next := some CtxRec.zero }).jn.ctx 15).st = .enabled ∧ ((inCtx { Ctx.init with st := .draining }).jn.ctx 15).st = .draining
    ∧ (inCtx { Ctx.init with st := .draining }).jn.exp.queued 15 = 0 ∧ (inCtx { Ctx.init with next := some { CtxRec.zero with effective := 5000 } }).jn.reached 5000 = false
    ∧ (tray.work (0 - 1)).all (fun w => w.scoreClosed) = true ∧ 15 < tray.ctxs.length := by decide
/-- A tray that has a Waybill write due, in a partition of 16 entries. -/
def writing (remove : Bool) (tick : Nat) : Machine.State :=
  withJn { tray with wayOps := [⟨tick, 0, 5, remove, zeros 248⟩], ctxs := tray.ctxs.set 0 { Ctx.init with rec_ := { CtxRec.zero with wbSize := 16 } } }
theorem witness_ContextAndTickEvents_waybill : (writing false 1000).jn.reached 1000 = true ∧ (waybillPlace 5 ((writing false 1000).jn.probes 0 5)).isSome = true
    ∧ waybillFind 5 ((writing true 1000).jn.probes 0 5) = none ∧ (writing true 5000).jn.reached 5000 = false := by decide +kernel
/-- A Timetable image with nothing in it. -/
def anImage : TtImage := ⟨7, 12, false, [], [], []⟩
/-- A tray whose bank 0 is ACTIVE and whose bank 1 is armed, or leaving one. -/
def switching : Machine.State := withJn { tray with b0 := { JnBank.empty with tt := .active, plan := .active }, b1 := { JnBank.empty with tt := .armed, plan := .armed, arm := some 1000, image := some anImage } }
def leavingBank : Machine.State := withJn { tray with b0 := { JnBank.empty with tt := .valid, plan := .valid, leaving := true }, b1 := { JnBank.empty with tt := .active, plan := .active, since := 999 } }
theorem witness_ContextAndTickEvents_banks : switching.jn.reached 1000 = true ∧ switching.jn.b1.arm = some 1000 ∧ switching.jn.b0.tt = .active ∧ leavingBank.jn.b0.leaving = true
    ∧ leavingBank.jn.reached (leavingBank.jn.b1.since + 1) = true ∧ leavingBank.jn.b1.tt = .active ∧ tray.b0.leaving = false ∧ tray.b1.tt ≠ .armed := by decide
/-- A compression job of 4 bytes, queued or running. -/
def job : BallastJob := ⟨false, 0, 0, 4, 0x40000000, 0x40000040, 1024, 9, false, 3⟩
def queued : Machine.State := withJn { tray with ballast := { tray.ballast with software := [job] } }
def running : Machine.State :=
  withJn { tray with ballast := { tray.ballast with run0 := some (job, false) }, mail := tray.mail.set 0 { (box 0x604 []) with taken := [], owed := [⟨item 0x604 [], 0, 4, .ballast 0 3⟩] } }
theorem witness_ContextAndTickEvents_ballast : queued.jn.ballast.software = [job] ∧ queued.jn.ballast.run0 = none ∧ bit queued.jn.boot.ballastFailed.toNat 0 = false
    ∧ running.jn.ballast.run0 = some (job, false) ∧ running.jn.poisonAt job.inAddr job.inLen = none ∧ (running.jn.mbox 0).owed = [⟨item 0x604 [], 0, 4, .ballast 0 3⟩]
    ∧ (running.jn.mbox 0).session = some ⟨0, 0, [], 0, none, 0, none, 0, none, false⟩ := by decide

/-! ### DieAndSlotEvents -/

/-- A tray whose die slot 3, mapped to die 9, is as given. -/
def dieAt (d : DieSlot) : Machine.State := withJn { tray with portMap := Tbl.put none tray.portMap 3 (some 9), dies := tray.dies.set 3 d }
def aDieCfg : DieCfg := ⟨true, 4, 2, 5, 900⟩
theorem witness_DieAndSlotEvents_dies : aDieCfg.tick ≤ tray.tickNow ∧ after aDieCfg.epoch 5 = false ∧ 3 < tray.dies.length ∧ tray.dies.length = 32
    ∧ ((dieAt { DieSlot.init 5 with next := some aDieCfg }).jn.die 3).st = .off ∧ (Tbl.get none (dieAt (DieSlot.init 5)).jn.portMap 3).isSome = true
    ∧ ((dieAt { DieSlot.init 5 with st := .dead, readmit := some 1000 }).jn.die 3).readmit = some 1000 ∧ tray.tickNow < 1001 := by decide
/-- A tray whose twin has sent its die states: die 1 DEAD in epoch 7. -/
def stateMsg : Bytes := le 2 0x34 ++ zeros 14 ++ le 4 7 ++ le 4 3 ++ zeros 240
def stateSent : Machine.State := withJn (atPort tray 66 (fun x => { x with inbox := [msg 3 2 stateMsg] }))
set_option maxRecDepth 4000 in
theorem witness_DieAndSlotEvents_twin : (stateSent.jn.port 66).takeInbox 3 2 (fun x => rd x 0 2 == 0x34) = (some (msg 3 2 stateMsg), tray.port 66)
    ∧ 66 < stateSent.jn.ports.length := by decide
/-- A membership entry of slot 4 for the dies 0 and 1, and a Junction whose slot 4 is as given. -/
def anEntry : MemEntry := ⟨0x60000001, 4, 3, 200, 9, 3, 0, 0, 0, 900⟩
def slotAt (j : Junction) (x : MemSlot) : Machine.State := withJn { j with slots := [(4, x)] }
theorem witness_DieAndSlotEvents_slots : anEntry.valid = true ∧ anEntry.abort = true ∧ anEntry.effective ≤ tray.tickNow ∧ anEntry.slot = 4 ∧ tray.tray = true ∧ root.tray = false
    ∧ ((slotAt root { MemSlot.init 4 with next := some (anEntry, true), st := .aborted }).jn.slot 4).st = .aborted ∧ after anEntry.epoch 0 = true ∧ after anEntry.epoch 9 = false
    ∧ ((slotAt root { MemSlot.init 4 with latched := some (anEntry, true), st := .aborted }).jn.slot 4).latched = some (anEntry, true)
    ∧ ((slotAt root { MemSlot.init 4 with st := .pending }).jn.slot 4).latched = none := by decide
theorem witness_DieAndSlotEvents_lineside : (withLs (line.setSlot 4 ⟨2, false, false, 0, 1000000 * uNs⟩)).ls.inService = true
    ∧ ((line.setSlot 4 ⟨2, false, false, 0, 1000000 * uNs⟩).slot 4).st = 2 ∧ (line.slot 4).st ≠ 2 := by decide

/-! ### SignalEvents -/

/-- A Lineside whose link A, and a tray whose port p, has received one signal. -/
def lineGot (x : Ls) (code arg : Nat) : Machine.State := withLs { x with portA := { x.portA with sigIn := [mkSignal code arg] } }
def trayGot (j : Junction) (p code arg : Nat) : Machine.State := withJn (atPort j p (fun x => { x with sigIn := [mkSignal code arg] }))
theorem witness_SignalEvents : ((lineGot line 1 (put 5 4 + 3)).ls.port false).takeSigIn 1 = (some (put 5 4 + 3), line.portA) ∧ ((trayGot tray 64 3 0).jn.port 64).takeSigIn 3 = (some 0, tray.port 64)
    ∧ (line.port false).takeSigIn 6 = (none, line.portA) ∧ (tray.port 5).takeSigIn 5 = (none, tray.port 5) ∧ tray.role.unused 5 = false ∧ line.halt.stopGate = false
    ∧ line.trace.cfg = 0 ∧ line.trace.st ≠ .running := by decide
theorem witness_SignalEvents_instant : line.clk.time ≤ gridOf line.clk.gridEpoch line.clk.time 3 ∧ tray.clk.time ≤ gridOf tray.clk.gridEpoch tray.clk.time 3 := by decide

/-! ### SampleEdges -/

theorem witness_SampleEdges : tray.clk.tick = some 1000 ∧ tray.boot.porst = false ∧ ({ tray with clk := { clk with tick := none } } : Junction).clk.tick = none
    ∧ ([(0, 7680)] : List (Nat × Int)).any (fun (x : Nat × Int) => decide (tripAt x.1 ≤ x.2)) = true ∧ Junction.init.boot.porst = true
    ∧ (List.range 16).all (fun c => decide ((tray.ctx c).rec_.wbSize = 0)) = true := by decide

/-! ### TickDeadlines -/

/-- A presence stream, a frame stream of L0 and a statistics stream of an uplink. -/
def presenceTx : Stream := ⟨9, 4, true, 0, 66, 1, 1, 2000, 0⟩
def frameRx : Stream := ⟨5, 0, false, 0, 0, 2, 0, 1500, 0⟩
def aPlan : Plan := ⟨7, 0xABCD, 1, 2, [], []⟩
/-- Statistics with no entry, of tick 1,000. -/
def aStats : Bytes := le 8 1000 ++ le 4 0 ++ le 4 0xABCD ++ le 4 0 ++ le 8 (crcOf crc64Ecma []) ++ zeros 4
theorem witness_TickDeadlines_open : (working tray [frameRx, presenceTx] none work1000).openTick (·.frameClosed) = some work1000 ∧ (working root [] none work1000).openTick (·.frameClosed) = some work1000
    ∧ tray.tray = true ∧ root.tray = false ∧ (working tray [] none work1000).planOf 1000 = none ∧ (working root [] (some aPlan) work1000).planOf 1000 = some aPlan
    ∧ ((working tray [frameRx] none work1000).rxStreams 1000 0 (fun x => x.kind == 0)).length = 1 ∧ frameRx.kind ≠ 1
    ∧ ((working tray [frameRx, presenceTx] none work1000).imageOf 1000).map (fun t => t.streams.filter (fun y => y.tx && (y.presence && decide (66 ≤ y.port)))) = some [presenceTx] := by decide
theorem witness_TickDeadlines_compare : (working tray [] none { work1000 with reduceClosed := true, digest := some 5 }).openTick (fun w => w.compared || !w.reduceClosed)
      = some { work1000 with reduceClosed := true, digest := some 5 } ∧ rd (digestBytes 1000 5 0 false false 0) 0 8 = 1000 ∧ rd (digestBytes 1000 5 0 false false 0) 8 8 = 5
    ∧ rd (digestBytes 1000 5 0 false false 0) 0x14 4 % 4 = 0 ∧ rd (digestBytes 1000 5 0 true false 0) 0x14 4 % 4 ≠ 0 ∧ rd (digestBytes 1000 6 0 false false 0) 8 8 ≠ 5 ∧ root.role.level = 3
    ∧ tray.role.level ≠ 3 ∧ rd (zeros 48) 0xD 1 = 0 ∧ rd (zeros 48) 0xC 1 % 16 = 0 ∧ tray.ticks = [] := by decide
set_option maxRecDepth 200000 in
theorem witness_TickDeadlines_stats : statsOk aPlan.digest 1000 aStats = true ∧ statsOk aPlan.digest 1001 aStats = false ∧ statsCore aStats ≠ statsCore (zeros 32)
    ∧ statsCore aStats = statsCore (aStats.take 8 ++ le 4 1 ++ aStats.drop 12) := by decide +kernel

/-! ### LinkStates -/

/-- A training frame's header with LOCKED set. -/
def goodFrame : Word := let v := put 13 1 + 0x35A; BitVec.ofNat 64 (v + put 48 (crcOf crc16 (le 6 v)))
/-- The IDENT flit of an end. -/
def identFlitOf (b : Bytes) : Bytes := ({ Flit.idle with kind := 0, vc := 3, start := true, fin := true, lastLen := 32, payload := fit 240 b } : Flit).encode
theorem witness_LinkStates_states : Running (endAt (.jn 5) (fun p => { p with st := .down })) (.jn 5) ∧ Running both (.ls true) ∧ Free both (.ls true) ∧ both.ls.linkMayTrain true = true ∧ both.jn.mayTrain 5 = true
    ∧ (both.portAt (.jn 5)).st = .active ∧ (both.portAt (.ls true)).st = .active ∧ both.jn.mayTrain 40 = false := by
  refine ⟨⟨by decide, by decide, ?_⟩, rfl, ⟨by decide, by decide, .inl (by decide)⟩, by decide, by decide, by decide, by decide, by decide⟩
  exact tray_settled
set_option maxRecDepth 200000 in
theorem witness_LinkStates_frames : trainCheckOk goodFrame.toNat = true ∧ bit goodFrame.toNat 13 = true ∧ trainCheckOk 0 = false := by decide +kernel
set_option maxRecDepth 200000 in
theorem witness_LinkStates_ident : identMessage (identFlitOf (identBytes ⟨0, true, false, false, false, 0⟩ false 0x20201)) = some (identBytes ⟨0, true, false, false, false, 0⟩ false 0x20201)
    ∧ identMessage Flit.idle.encode = none ∧ tray.neighbourOk 5 (identBytes ⟨0, true, false, false, false, 0⟩ false 0x20201) = true := by decide +kernel
theorem witness_LinkStates_train : both.jn.leads 5 = true ∧ (∃ p : Port, p.slot < 80 ∧ p.slot % 5 = 0 ∧ p.tr.extra = some 1) := by
  exact ⟨by decide, { both.portAt (.jn 5) with slot := 0, tr := { Training.fresh with extra := some 1 } }, by decide, by decide, rfl⟩
theorem witness_LinkStates_blocks : (decodeBlock 0 []).1 = .clean := decodeBlock_nil

/-! ### LinkTraffic -/

/-- A flit with a whole message of VC3, as link end p expects it next. -/
def controlFlit : Flit := { Flit.idle with kind := 0, vc := 3, start := true, fin := true, lastLen := 4, ackSeq := 4095, payload := fit 240 [1, 2, 3, 4] }
set_option maxRecDepth 200000 in
theorem witness_LinkTraffic_flit : Flit.decode controlFlit.encode = controlFlit ∧ flitCrcOk controlFlit.encode = true ∧ flitHparOk controlFlit.encode = true
    ∧ flitCrcOk (zeros 256) = false ∧ (both.portAt (.jn 5)).ackSeq = (controlFlit.ackSeq.toNat + 1) % 4096 ∧ (both.portAt (.jn 5)).expect = controlFlit.seq.toNat := by decide +kernel
theorem witness_LinkTraffic_checks : tray.rxCheck 5 0 1000 = none ∧ line.rxEntry 0 1000 = none ∧ (crcKeysOf tray.crc 5 tray.crcHeld).contains 12 = false ∧ (crcKeysOf line.crc 0 line.crcHeld).contains 12 = false
    ∧ (both.portAt (.jn 5)).partials = [] ∧ (both.portAt (.ls true)).partials = [] ∧ ingressOf line.crc 0 ⟨3, 0, [], false, 0, false, none⟩ = none
    ∧ (both.portAt (.jn 5)).badBlock ≠ some 0 ∧ (both.portAt (.jn 5)).slot < tray.slotCount 5 ∧ (both.portAt (.jn 5)).unacked < 1024 ∧ (both.portAt (.ls true)).slot < line.slotCount
    ∧ tray.linesidePort 5 = true ∧ tray.linesidePort 66 = false ∧ line.linkDefer = none := by decide
/-- An advertisement of the pair 7 of level 0, received on port p of a root. -/
def advert : Bytes := le 2 0x20 ++ le 2 1 ++ le 4 0 ++ le 2 7
def advertised (p : Nat) : Machine.State := withJn (atPort root p (fun x => { x with inbox := [msg 3 1 advert] }))
theorem witness_LinkTraffic_advert : ((advertised 40).jn.port 40).takeInbox 3 1 isAdvert = (some (msg 3 1 advert), root.port 40) ∧ root.tray = false
    ∧ (root.port 40).takeInbox 3 1 isAdvert = (none, root.port 40) ∧ ((atPort tray 5 (fun x => { x with mmRun := 2 })).port 5).mmRun = 2 := by decide

/-! ### ClockEvents -/

/-- A tick mark that announces LOCKED, received as a bootstrap stream of tick 1,000. -/
def aMark : TimeMark := { clk.blankMark with t1 := BitVec.ofNat 96 (packTime clk.time), echoT4 := 0, gmClass := 6 }
def markStream (bad : Bool) : RxStream := ⟨0xFFFF, 1000, [(0, aMark.encode)], false, bad, false, clk.time, false⟩
def marked (e : End) (bad : Bool) : Machine.State := endAt e (fun p => { p with streams := [markStream bad] })
/-- A port that has received a delay echo, and one with a mark that an echo can answer. -/
def echoMsg : RxMsg := msg 3 2 (le 2 0x31 ++ le 2 7 ++ zeros 28)
def twinTimeMsg : RxMsg := msg 3 2 (le 2 0x32 ++ zeros 2 ++ aMark.encode)
def withMark (e : End) : Machine.State := endAt e (fun p => { p with time := { p.time with mark := some (1000, 5, 9) } })
theorem witness_ClockEvents_streams : ((marked (.jn 64) true).jn.port 64).streams.find? (fun y => !y.taken && y.id == 0xFFFF) = some (markStream true) ∧ tray.image = none ∧ line.banks.tActive = none
    ∧ ((marked (.ls true) false).ls.port true).streams.find? (fun y => y.id == 0xFFFF && !y.taken) = some (markStream false)
    ∧ ((withMark (.jn 64)).portAt (.jn 64)).time.mark = some (1000, 5, 9) ∧ (tray.port 5).streams = [] ∧ (tray.port 5).inbox = [] := by decide
set_option maxRecDepth 4000 in
theorem witness_ClockEvents_messages : ((atPort tray 64 (fun p => { p with inbox := [echoMsg] })).port 64).takeInbox 3 2 (fun b => rd b 0 2 == 0x31) = (some echoMsg, tray.port 64)
    ∧ ((atPort tray 66 (fun p => { p with inbox := [twinTimeMsg] })).port 66).takeInbox 3 2 (fun b => rd b 0 2 == 0x32) = (some twinTimeMsg, tray.port 66) := by decide
/-- A source that has been selectable for long. -/
def aSource : Source := ⟨{ aMark with state := 2 }, 100, true, 2000, false⟩
/-- A Lineside whose link A is such a source while it follows source 2, and a tray whose primary uplink is while it follows source 3. -/
def lineSrc (n : Nat) : Ls := { line with clk := { clk with source := n }, portA := { line.portA with time := { line.portA.time with source := some aSource } } }
def traySrc : Junction := { atPort tray 64 (fun p => { p with time := { p.time with source := some aSource } }) with clk := { clk with source := 3 } }
/-- A clock in HOLDOVER past its limit, and one with a leap second to come. -/
def lateClk : Clock := { clk with st := .holdover, holdFrom := (clk.up, 2000) }
def leapClk : Clock := { clk with leap := 1, leapAt := 5, utcOffset := 37 }
theorem witness_ClockEvents_clocks : tray.cands.all (fun c => !c.ok) = true ∧ line.cands.all (fun c => !c.ok) = true ∧ tray.clk.st = .locked ∧ bit leapClk.leap.toNat 0 = true
    ∧ ((lineSrc 2).cands.find? (fun x => x.ok && x.st == .locked && decide (x.prio < (lineSrc 2).clk.source) && decide ((lineSrc 2).clk.servo.revertTicks ≤ x.run))).isSome = true
    ∧ (traySrc.cands.find? (fun x => x.ok && x.st == .locked && decide (x.prio < traySrc.clk.source) && decide (traySrc.clk.servo.revertTicks ≤ x.run))).isSome = true
    ∧ ((lineSrc 1).cands.find? (fun c => c.prio == (lineSrc 1).clk.source && c.ok)).any (fun c => c.st == .locked) = true
    ∧ lateClk.servo.holdoverLimit * uSec ≤ lateClk.holdFrom.2 * uSec + 50 * (lateClk.up - lateClk.holdFrom.1)
    ∧ (lineSrc 2).cands.find? (fun c => c.prio == 3 && c.ok) = none ∧ bestSource (lineSrc 3).cands = some 1 ∧ bestSource traySrc.cands = some 1 ∧ tray.timeRoot = false ∧ root.timeRoot = true := by decide

/-! ### ReferencesAndPins -/

/-- A PTP master, a root that uses PTP or PPS, and messages to it. -/
def aMaster : Master := ⟨5, 128, 6, 0x21, 0, 128, 0, 0, 0, 0, false, false, false, 0, 0, 0⟩
def ptpRoot : Junction := { root with ref := { root.ref with ref := some 0, gm := some 5, ms := some 10, delayReq := (3, some 100) }, exp := { root.exp with e0 := { root.exp.e0 with up := true } } }
def ppsRoot (next : Nat) : Machine.State := withJn { root with clk := { clk with time := 1000001 * uNs }, ref := { root.ref with ref := some 1, ppsNext := some next, newGm := true } }
def ptpMsg (kind : Nat) (two : Bool) : PtpMsg := ⟨kind, root.ref.domain, 3, two, 500, 0, true, aMaster⟩
/-- A tray with a timestamp input that takes rising edges, and with a trigger output. -/
def stamping (x : TsIn) : Machine.State := withJn { tray with tsIn := [x] }
def firing (x : Trig) : Machine.State := withJn { tray with trig := [x] }
def aTsIn : TsIn := ⟨1, 0, 0, [], 0, none⟩
def aTrig : Trig := ⟨{ TrigCfg.off with mode := 2, period := 1000, width := 100 }, none, 0, some (clk.time + 5), none, false, 0⟩
theorem witness_ReferencesAndPins_root : ptpRoot.role.level = 3 ∧ ptpRoot.ref.gm = some (ptpMsg 0 true).master.identity ∧ (ptpMsg 0 true).domain = ptpRoot.ref.domain ∧ ptpRoot.exp.e0.up = true
    ∧ (1000000 * 65536 : Int) < (capture ((ppsRoot 0).jn.clk.time - (ppsRoot 0).jn.ref.ppsDelay * 1024 : Int).toNat : Int) ∧ (ppsRoot 0).jn.ref.ppsLast = none ∧ (ppsRoot 0).jn.clk.tick.isSome = true
    ∧ ptpRoot.dropMasters = ptpRoot ∧ root.ref.gm = none ∧ root.sourceCode root.clk.source ≤ 1 ∧ root.clk.st = .locked ∧ tray.role.level ≠ 3 ∧ root.ref.masters = [] ∧ root.ref.ref ≠ some 1
    ∧ (ptpMsg 9 false).toUs = true ∧ ptpRoot.ref.delayReq = ((ptpMsg 9 false).seq, some 100) := by decide
theorem witness_ReferencesAndPins_pins : (stamping aTsIn).jn.tsIn[0]? = some aTsIn ∧ bit aTsIn.edges 0 = true ∧ bit aTsIn.edges 1 = false ∧ (firing aTrig).jn.trig[0]? = some aTrig ∧ aTrig.cfg.squelch = false
    ∧ tray.pps.high = none ∧ tray.clk.untimed = false ∧ (stamping { aTsIn with last := some clk.time }).jn.tsIn[0]? = some { aTsIn with last := some clk.time } := by decide

/-! ### StreamsReceived -/

/-- Junction j with one whole stream x of data d received for tick 1,000, under a plan. -/
def streamed (j : Junction) (x : Stream) (d : Bytes) (others : List Stream) (p : Option Plan) (w : TickWork) : Junction :=
  let n := (d.length + 235) / 236
  let k := working j ({ x with flits := n } :: others) p w
  atPort { k with portMap := Tbl.put none k.portMap 0 (some 9) } x.port
    (fun q => { q with streams := [⟨x.id, 1000, (List.range n).map (fun i => (i, fit 236 (sub d (236 * i) 236))), false, false, false, 1000000, false⟩] })
/-- A frame of die 9 in epoch e for tick 1,000. -/
def aFrame (die e : Nat) : Bytes := let b := le 8 1000 ++ le 4 die ++ le 4 e ++ zeros 236; b ++ le 4 (crcOf crc32 b)
def rxFrame : Stream := ⟨5, 0, false, 0, 0, 2, 0, 1500, 0⟩
def rxWord : Stream := ⟨6, 4, false, 0, 66, 1, 1, 1500, 0⟩
def rxPart (port : Nat) : Stream := ⟨7, 1, false, 0, port, 1, 3, 1500, 0⟩
def rxDigest : Stream := ⟨8, 4, false, 0, 66, 1, 2, 1500, 0⟩
def rxStats : Stream := ⟨9, 2, false, 0, 64, 1, 5, 1500, 0⟩
def twinWord : Bytes := le 8 1000 ++ le 4 1 ++ le 4 3
def aPart (digest : Nat) : Bytes := zeros 0xC ++ le 4 digest ++ zeros 16
/-- What `takeStream` gives there. -/
def takes (j : Junction) (x : Stream) (ok : Stream → Bool) : Bool := (j.takeStream x.port ok).1.any (fun y => y.2.1 == 1000)
set_option maxRecDepth 200000 in
theorem witness_StreamsReceived_take : takes (streamed tray rxFrame (aFrame 9 0) [] none work1000) rxFrame (fun y => y.kind == 0) = true
    ∧ takes (streamed tray rxWord twinWord [] none work1000) rxWord (fun y => y.presence) = true ∧ takes (streamed root (rxPart 40) (aPart 0xABCD) [] (some ⟨7, 0xABCD, 1, 2, [], []⟩) work1000) (rxPart 40) (fun y => y.kind == 1) = true
    ∧ takes (streamed tray rxDigest (digestBytes 1000 5 0 false false 0) [] none work1000) rxDigest (fun y => y.digest 0 && decide (66 ≤ y.port)) = true
    ∧ takes (streamed tray rxStats (zeros 32) [] none work1000) rxStats (fun y => y.kind == 2) = true := by decide +kernel
set_option maxRecDepth 200000 in
theorem witness_StreamsReceived_frame : crcOf crc32 ((aFrame 9 0).take 252) = rd (aFrame 9 0) 252 4 ∧ (aFrame 9 0).length = 256 ∧ rd (aFrame 9 0) 0 8 = 1000 ∧ rd (aFrame 9 0) 8 4 = 9 := by decide +kernel
/-- A rack with a statistics flit to relay: two slots of the downlink of slot 8 carry the stream. -/
def rack : Junction := { tray with straps := 1 }
def txStats : Stream := ⟨12, 2, true, 0, 40, 1, 5, 0, 0⟩
def relaying : Junction :=
  let k := working rack [rxStats, txStats] none work1000
  atPort { k with b0 := { k.b0 with image := some { imageOf [rxStats, txStats] with maps := [(40, true, [⟨0, 0, 0⟩, ⟨0, 0, 0⟩, ⟨1, 12, 0⟩])] } } } 64
    (fun q => { q with streams := [⟨9, 1001, [(0, [1, 2])], false, false, false, 0, false⟩] })
set_option maxRecDepth 4000 in
theorem witness_StreamsReceived_relay : relaying.tray = false ∧ relaying.boot.service = 2 ∧ (relaying.port relaying.role.primaryUp).st = .active
    ∧ (relaying.port 64).streams.find? (fun r => (relaying.rxStreams r.tick 64 (fun y => y.kind == 2 && y.id == r.id)).length != 0 && !r.bad && r.got.any (fun g => g.1 == 0))
      = some ⟨9, 1001, [(0, [1, 2])], false, false, false, 0, false⟩ ∧ (relaying.imageOf 1001).map (fun t => t.streams.filter (fun y => y.tx && y.kind == 2)) = some [txStats] := by decide

/-! ### ScoringEvents -/

/-- A detector of a form and scope, a table of it, an ensemble of one leaf and a group of one row, as the sections of a bundle. -/
def aDet (scope input : Nat) : Bytes := le 1 0 ++ le 1 1 ++ le 1 scope ++ le 1 0 ++ le 2 input ++ le 1 0 ++ le 1 0 ++ le 4 0x3F800000 ++ le 4 0x40000000 ++ zeros 12 ++ le 1 128 ++ zeros 3
def aTable (scope job : Nat) : Bytes := zeros 1 ++ le 1 1 ++ zeros 2 ++ le 4 job ++ zeros 8 ++ aDet scope 0
def anEns : Bytes :=
  zeros 12 ++ le 2 1 ++ zeros 2 ++ le 4 1 ++ le 4 1 ++ zeros 8 ++ le 4 0x40 ++ le 4 0x48 ++ le 4 0x60 ++ le 4 0x50 ++ zeros 16
  ++ (le 1 9 ++ zeros 3 ++ le 4 0x3F800000) ++ (le 4 0 ++ le 2 1 ++ zeros 2) ++ (le 4 2 ++ le 4 0x40400000 ++ zeros 8)
def aGroup (prog : List Nat) : Bytes :=
  let b := zeros 8 ++ le 1 1 ++ le 1 1 ++ zeros 1 ++ le 1 1 ++ le 2 prog.length ++ le 1 1 ++ zeros 1 ++ le 4 0x3F800000 ++ le 4 64 ++ zeros 8
    ++ (le 4 0 ++ le 4 4 ++ le 4 8 ++ le 4 12 ++ le 4 16 ++ le 4 20 ++ le 4 24) ++ le 4 (100 + 16 * prog.length) ++ zeros 8 ++ zeros 8 ++ zeros 4 ++ zeros 12 ++ (prog.map (le 16)).flatten
  b ++ le 4 (crcOf crc32 b)
def aBundle (table : Bytes) (prog : List Nat) : Bundle :=
  let g := aGroup prog
  let plain := (le 4 0 ++ le 4 48 ++ le 4 table.length ++ zeros 4) ++ (le 4 1 ++ le 4 (48 + table.length) ++ le 4 anEns.length ++ zeros 4)
    ++ (le 4 2 ++ le 4 (48 + table.length + anEns.length) ++ le 4 g.length ++ zeros 4) ++ table ++ anEns ++ g
  { id := 1, ctx := 0, type := 0, st := .active, chunks := 0, got := 0, data := zeros 0x28 ++ le 4 3, plain := plain, effective := 0, result := 0, check := 0, offset := 0, lastAt := 0,
    placing := some ⟨[], [], [], [⟨0, 0, 3, none⟩], [(5, 0, [])]⟩, lost := [] }
/-- A Junction that scores context 0 with a bundle in tick 1,000, die 9 of slot 0 in scope. -/
def scoring (j : Junction) (b : Bundle) (fields : List Field) (w : TickWork) : Junction :=
  let k := working j [] (some ⟨7, 0xABCD, 1, 2, [(1, [1])], fields⟩) w
  { k with bundles := [b], ctxs := k.ctxs.set 0 { Ctx.init with st := .enabled }, portMap := Tbl.put none k.portMap 0 (some 9) }
def model : Bundle := aBundle (aTable 0 0) [0x3F]
def jobModel : Bundle := aBundle (aTable 4 0x50000001) [0x3F]
def reduced : TickWork := { work1000 with frameClosed := true, reduceClosed := true, bcastClosed := true }
/-- A plan field published as fp64, and its result 1.5. -/
def aField : Field := { Field.decode (zeros 16) with op := 1, out := 1 }
def withResult : TickWork := { reduced with results := [(0, le 8 0x3FF8000000000000 ++ le 4 0 ++ le 4 1 ++ zeros 8)] }
set_option maxRecDepth 200000 in
theorem witness_ScoringEvents_table : ((scoring root jobModel [aField] withResult).tableOf 1000 0).map (fun t => (t.dets.length, t.job)) = some (1, 0x50000001)
    ∧ (scoring root jobModel [aField] withResult).entities 1000 0 4 0x50000001 = [(0x50000001, 0)] ∧ (scoring tray model [] work1000).entities 1000 0 0 0 = [(put 28 1 + 9, 0)]
    ∧ ((scoring tray model [] work1000).ensOf 1000 0).map (fun e => (e.index, e.features.length, e.trees.length)) = [(0, 1, 1)] ∧ (scoring tray model [] work1000).scores 1000 0 = true
    ∧ tray.tableOf 1000 0 = none := by decide +kernel
/-- The walk set of die 9 with its vector fixed. -/
def aWalk : WalkSet := ⟨0, 0, put 28 1 + 9, some [Feat.of (some (.fin false 1))], [], ⟨0, 0, false, false, false⟩, false⟩
/-- A tray with that walk in flight on engine 3. -/
def wlk : Junction := { scoring tray model [] { work1000 with walks := [aWalk] } with flights := [⟨0, 3, 1000, 0, put 28 1 + 9, 0⟩] }
set_option maxRecDepth 200000 in
theorem witness_ScoringEvents_walk : ((scoring tray model [] { work1000 with walks := [aWalk] }).ensOf 1000 0).map (fun e => e.walk 0 [Feat.of (some (.fin false 1))] 2 0) = [some 0x40400000]
    ∧ (scoring tray model [] work1000).placeOf 1000 0 0 0 = some ⟨0, 0, 3, none⟩ ∧ bit tray.boot.retired.toNat 3 = false ∧ wlk.flights = [⟨0, 3, 1000, 0, put 28 1 + 9, 0⟩] ∧ ((scoring tray model [] work1000).bundleOf 1000 0).isSome = true := by decide +kernel

/-! ### ForecastAndStorageEvents -/

/-- A tray with the update of group 0 of context 0 in progress. -/
def run0 (resets : List Nat) : SeqRun := ⟨0, 0, 1000, 0, [], resets⟩
def updating (prog : List Nat) (w : TickWork) (resets : List Nat) : Junction := { scoring tray (aBundle (aTable 0 0) prog) [] w with seqRun := some (run0 resets) }
def framesIn : TickWork := { work1000 with frameClosed := true }
set_option maxRecDepth 200000 in
theorem witness_ForecastAndStorageEvents_groups : (updating [0x3F] framesIn []).runGroup (run0 []) = ((updating [0x3F] framesIn []).groupsOf 1000).head?
    ∧ ((updating [0x3F] framesIn []).groupsOf 1000).map (fun g => (g.ctx, g.group, g.rows, g.prog)) = [(0, 0, 1, [0x3F])] ∧ (scoring tray model [] framesIn).seqRun = none
    ∧ ((scoring tray model [] framesIn).openTick (fun w => w.residDone || !w.frameClosed)).isSome = true ∧ (SeqInstr.decode 0x3F).op = 0x3F ∧ (SeqInstr.decode 0).op ≠ 0x3F := by decide +kernel
/-- A tray whose block 0 has been erased 3,000 times, and one with a history block that the far tier lacks. -/
def worn : Junction := { tray with store := { tray.store with erase := [(0, 3000)] } }
def withRing (far : Nat) : Junction := ({ tray with ctxs := tray.ctxs.set 0 { Ctx.init with rec_ := { CtxRec.zero with histFar := far } } } : Junction).setHist 0 { Hist.init with near := [([1, 2], false)] }
theorem witness_ForecastAndStorageEvents_stores : worn.store.lastMove = none ∧ worn.store.writes = [] ∧ Tbl.get 0 worn.store.erase (worn.store.phys 0) = 3000 ∧ Tbl.get 0 worn.store.erase (worn.store.phys 1) = 0
    ∧ (withRing 1).histOf 0 = { Hist.init with near := [([1, 2], false)] } ∧ 0 < ((withRing 1).ctx 0).rec_.histFar ∧ ((withRing 0).ctx 0).rec_.histFar = 0 := by decide

/-! ### LogAndAlarmEvents -/

/-- A record of a Lineside with a CODE and a SEQ, and its Logbook message. -/
def recOf (code seq : Nat) : Bytes := recordBytes clk.time 0 code false true false (2 ^ 28 + 5) seq 0 []
def logMessage (b : Bytes) : Bytes := fit 16 (le 2 4 ++ le 2 1) ++ b
/-- A tray whose port 5 holds one message, with KIND 7 enabled in context 0. -/
def holdingMsg (m : RxMsg) : Junction :=
  let k := atPort tray 5 (fun p => { p with inbox := [m] })
  { k with exp := k.exp.setStream 0 7 { ExpStream.init with enable := true } }
def plain7 : Junction := holdingMsg (msg 0 3 [])
/-- Die 5's log with one record that waits, after those given. -/
def logged (b : Bytes) (recs : List LogEntry) (e : Option Nat) : Junction := tray.setLog 6 { JnLog.init with waiting := [b], recs := recs, expected := e }
/-- A read-out that is cut short, a scan's, and one that has only in part arrived. -/
def shortTrace : Bytes := le 2 1 ++ zeros 6 ++ le 4 9 ++ zeros 4
def partOf (n : Nat) : Junction := let k := atPort tray 5 (fun p => { p with partials := [msg 2 2 (zeros n)] }); { k with exp := k.exp.setStream 0 7 { ExpStream.init with enable := true } }
set_option maxRecDepth 200000 in
theorem witness_LogAndAlarmEvents_messages : ((holdingMsg (msg 2 0 (logMessage (recOf 0x10 7)))).port 5).takeInbox 2 0 (fun b => rd b 0 2 == 4) = (some (msg 2 0 (logMessage (recOf 0x10 7))), tray.port 5)
    ∧ tray.logs.length = 33 ∧ tray.tray = true ∧ tray.viewers (tray.die 5).owner = [0] ∧ (tray.ctx 0).st ≠ .draining ∧ tray.twin.duty = true ∧ tray.sees 0 0 = true
    ∧ ((plain7.exp.stream 0 7).enable, (plain7.exp.stream 0 7).compress) = (true, false) ∧ (logged (recOf 0x10 7) [] none).log 6 = { JnLog.init with waiting := [recOf 0x10 7] }
    ∧ rd shortTrace 0 2 = 1 ∧ shortTrace.length < 48 * (rd shortTrace 8 4 + 1) ∧ atOrAfter 7 9 = false ∧ rd (recOf 0x10 7) 0x14 4 = 7 ∧ foldable ⟨recOf 0x10 7, false⟩ (recOf 0x10 8) = true := by decide +kernel

/-! ### ExportEvents -/

/-- A tray with one stream of KIND 2 of context 0 that holds records of tick 999, one message of it queuedMsg, port 0 up. -/
def rec1 (n : Nat) : ExpRec := ⟨999, 1, zeros n⟩
def stream2 (n : Nat) (z : Bool) : ExpStream := { ExpStream.init with enable := true, compress := z, held := [rec1 n] }
def exporting (n : Nat) (z : Bool) : Junction := { tray with exp := tray.exp.setStream 0 2 (stream2 n z) }
def msg2 : ExpMsg := ⟨0, 0, 2, 1, 0, (999, 1), zeros 100, none, false, false, false, true, 0, 0, 0, false⟩
def aDest : Dest := ⟨0, false, none, 4000, zeros 6, zeros 4⟩
def aPol (cir pir : Nat) (defer : Bool) : Policer := { Policer.init 2 with cfg := ⟨0, 0, 9216, 9216, true, defer, 0, 0⟩, tc := cir * 65536, tp := pir * 65536 }
def queuedMsg (p : Policer) : Junction :=
  let x := { EthPort.init with up := true, pol := EthPort.init.pol.set 1 p }
  { tray with exp := { (tray.exp.setStream 0 2 { stream2 100 false with closed := 1, nextSeq := 1 }) with dests := [(0, some aDest)], queue := [msg2], nextMsg := 1, e0 := x } }
def sendingNow (m : ExpMsg) : Junction := let q := queuedMsg (Policer.init 2); { q with exp := { q.exp with queue := [], e0 := { q.exp.e0 with sending := some (some ⟨m, aDest, 0, m.bytes q.id false⟩) } } }
/-- The mirror acknowledgement of that message, on twin port 66. -/
def mirrored (j : Junction) : Junction := atPort { j with exp := j.exp.setStream 0 2 (stream2 100 false) } 66 (fun p => { p with inbox := [msg 3 3 (mirrorAck msg2)] })
set_option maxRecDepth 200000 in
theorem witness_ExportEvents : (exporting 100 false).exp.stream 0 2 = stream2 100 false ∧ tray.boot.service = 2 ∧ tray.twin.duty = true ∧ (tray.ctx 0).st ≠ .draining ∧ tray.clk.tick ≠ some 999
    ∧ (exporting 100 true).compresses 0 2 = true ∧ (exporting 100 false).compresses 0 2 = false ∧ ((queuedMsg (Policer.init 2)).exp.head 0 2).map (fun x => (x.1.id, x.2)) = some (0, aDest) ∧ ((queuedMsg (Policer.init 2)).exp.head 0 1).isNone = true
    ∧ ((mirrored tray).port 66).takeInbox 3 3 (fun b => rd b 0 2 == 0x33) = (some (msg 3 3 (mirrorAck msg2)), tray.port 66) ∧ (EthPort.init.pol.length = 7) := by decide +kernel
theorem witness_ExportEvents_twin : ({ tray.twin with taking := some (1000, [2]) } : JnTwin).exports 2 5 = false ∧ ({ JnTwin.init with handing := some (1000, [2]) } : JnTwin).exports 2 5 = true
    ∧ tray.role.twinB = false ∧ tray.twin.handing = none ∧ rd (mirrorAck msg2) 0x10 8 = 999 ∧ tray.full = true := by decide

/-! ### LogbookRecording -/

def rated (burst tok : Nat) : Ls := { line with log := { line.log with rateAct := Tbl.put 8 [] 8 (w64 burst), tokens := Tbl.put 8 [] 8 tok } }
theorem witness_LogbookRecording : line.inService = true ∧ (line.port true).up = true ∧ (unlocked line true).dbgUnlock = true ∧ ((downA line).port false).up = false ∧ logReserved 8 = false ∧ logReserved 0 = true
    ∧ fld (Tbl.get 8 line.log.rateAct 8).toNat 0 8 = 8 ∧ fld (Tbl.get 8 (rated 0 8).log.rateAct 8).toNat 0 8 = 0 ∧ Tbl.get 8 (rated 8 0).log.tokens 8 = 0 ∧ Tbl.get 8 line.log.tokens 8 = 8
    ∧ line.log.unflushed = 0 ∧ ({ line with log := { line.log with nextSeq := 256 } } : Ls).log.unflushed = 256 ∧ atOrAfter 0xFFFFFFFF line.log.commitSeq = true ∧ atOrAfter 5 line.log.commitSeq = true := by decide

/-! ### LinesidePower -/

/-- A Lineside whose power is on and whose island is not in service, and one whose self-test runs. -/
def asleep : Ls := { Ls.init with mainOn := true, clk := clk, aon := { Ls.init.aon with beyond := 0 } }
def testing : Ls := { line with self := { line.self with st := 1 } }
def goodSelf : SelfResult := ⟨0, 0, 0, 3⟩
/-- One that has asked for power off, with a residue or none. -/
def leaving (n : Nat) : Ls := { line with aon := { line.aon with pwrReqAt := some line.clk.time }, log := { line.log with nextSeq := n }, scan := { line.scan with st := 2 } }
def crossed (x : Ls) : Ls := { x with aon := { x.aon with crossing := [(2, 5), (3, 6)] } }
theorem witness_LinesidePower : asleep.inService = false ∧ asleep.aon.held = [] ∧ testing.self.st = 1 ∧ (leaving 0).log.unflushed = 0 ∧ (leaving 3).log.unflushed = 3 ∧ (crossed line).aon.crossing = (2, 5) :: [(3, 6)]
    ∧ line.aon.beyond = 0 ∧ line.halt.stopArmed = none ∧ line.slots = [] ∧ ({ line with pins := { line.pins with pwrOffAck := true } } : Ls).pins.pwrOffAck = true ∧ line.reg 0x13 ≤ line.tickW
    ∧ line.trace.st = .idle ∧ line.qsnap.st = 0 ∧ (List.range 256).all (fun g => !(bit (line.reg (0x3000 + g)) 28)) = true ∧ line.clk.untimed = false := by decide +kernel

/-! ### LinesideSampleEdge -/

/-- A Lineside with selects sent, a counter, an armed anchor, a witness and a suspension. -/
def edging : Ls :=
  { line with smp := { line.smp with sent := [(3, 0x10005)], ctr := [(2, 7), (3, 9)], staged := [(5, 1)], sawReset := true, firstEdge := false }, lag := { line.lag with armed := some (1001, 77) },
              tab := { line.tab with wits := [⟨1, 2, 3, 1, 0, 2⟩], suspended := [(4, 2)] } }
/-- One with a Timetable bank and a frame map ACTIVE, ready to ship. -/
def shipping : Ls :=
  let x := { line with configured := true, self := { line.self with st := 2 }, smp := { line.smp with firstEdge := false }, banks := { line.banks with t0 := .active, f0 := .active, fActive := some false } }
  (x.setReg 0x204 (7 + put 18 1)).setReg 0x400 0x10
def mapArmed (ok : Bool) : Ls := { (shipping.setReg 0x218 (put 16 1)).setReg 0x219 (put 16 1) with banks := { shipping.banks with f1 := if ok then .valid else .invalid, fArm := some 1000 } }
theorem witness_LinesideSampleEdge : edging.mainOn = true ∧ edging.cfgWait = none ∧ edging.banks.tArm = none ∧ edging.banks.tPrev = none ∧ edging.banks.fArm = none ∧ shipping.banks.tActive = some false ∧ shipping.shipsFrame = true
    ∧ (mapArmed true).tickW = 1000 ∧ (mapArmed true).banks.fStandby = true ∧ (mapArmed true).frameSizeOk = true ∧ shipping.frameSizeOk = false ∧ edging.lag.armed = some (1001, 77) ∧ Ls.init.mainOn = false ∧ edging.host.inReset = false := by decide

/-! ### LinesideInputs -/

/-- Selects staged, a comparator on channel 5 above 100, a breakpoint on a bundle address. -/
def staged : Ls := { line with smp := { line.smp with staged := [(2, 5), (7, 6)], pass := 3 } }
def compared : Ls := ({ Ls.init with clk := clk }).setReg 0x30 (1 + put 2 5 + put 16 100)
def watched : Ls := (line.setReg 0x80 1).setReg 0xC0 0xFFFF
def incs : LclkIn := { inc := [(3, 4), (4095, 17)], stall := 5, stopped := 6, inReset := false, present := 3, chains := [7] }
theorem witness_LinesideInputs : wired.boundary 0 = true ∧ wired.boundary 1 = true ∧ wired.bpOf 0 = [] ∧ wired.bpOf 1 = [] ∧ wired.bpOf 2 = [] ∧ staged.smp.staged.find? (fun x => decide (3 ≤ x.1)) = some (7, 6)
    ∧ fld (compared.reg 0x30) 2 8 = 5 ∧ bit (compared.reg 0x30) 0 = true ∧ sensorNum 5 (fld (compared.reg 0x30) 16 16) < sensorNum 5 101 ∧ compared.mainOn = false ∧ watched.bpOf 0 = [0]
    ∧ (line.setReg 0x130 1002).reg 0x130 = 1002 ∧ line.reg 0x130 = 0 ∧ line.reg 0x130 = 0 := by decide +kernel

/-! ### LinesideTrace -/

/-- A Lineside with its trace in a state, holding records. -/
def tracing (st : TraceSt) (n : Nat) (cfg : Nat) : Ls := { line with trace := { LsTrace.init with st := st, cfg := cfg, recs := List.replicate n (zeros 48), k := 1, trigPos := some 0 } }
def readingOut (pending : Bool) : Ls := { line with trace := { LsTrace.init with st := .frozen, reading := some true, pending := pending } }
theorem witness_LinesideTrace : (tracing .running 3 0).trace.st = .running ∧ (tracing .post 3 0).trace.postLeft = 0 ∧ (tracing .post 3 0).trace.trigNext = false ∧ (readingOut true).trace.reading = some true
    ∧ ((readingOut true).port true).q = [] ∧ line.trace.reading = none ∧ line.readoutLink = some false ∧ fld (line.reg 0x100) 1 4 = 0 ∧ fld ((line.setReg 0x100 (put 1 11)).reg 0x100) 1 4 = 11 := by decide
theorem witness_LinesideTrace_full : (tracing .running 21845 1).trace.recs.length = 21845 ∧ bit (tracing .running 21845 1).trace.cfg 0 = true ∧ bit (tracing .running 21845 0).trace.cfg 0 = false :=
  ⟨List.length_replicate, by decide, by decide⟩

/-! ### LinesideSnapshot -/

/-- A Lineside with a snapshot of two descriptors in a state. -/
def snapping (st : Nat) (ds : List (Option (BitVec 128))) (rdg : Option Bool) (p : Option (Nat × Nat)) : Ls := { wired with qsnap := { LsQsnap.init with st := st, descs := ds, count := 2, cause := 1, reading := rdg, pending := p } }
theorem witness_LinesideSnapshot : wired.boundary 4 = true ∧ bit wired.self.bist.toNat 2 = false ∧ line.boundary 4 = false ∧ (snapping 1 [] none none).qsnap.descs.length < (snapping 1 [] none none).qsnap.count
    ∧ (snapping 1 [some 5, none] none none).qsnap.descs.length = (snapping 1 [] none none).qsnap.count ∧ (snapping 2 [] (some false) (some (2, 0))).qsnap.reading = some false ∧ ((snapping 2 [] (some false) none).port false).q = []
    ∧ ({ wired with halt := { line.halt with snapDue := true } } : Ls).halt.snapDue = true := by decide

/-! ### LinesideHalting -/

/-- A wired Lineside with a halt state. -/
def halted (h : LsHalt) : Ls := { wired with halt := h }
def h0 : LsHalt := LsHalt.init
theorem witness_LinesideHalting : wired.boundary 7 = true ∧ line.boundary 7 = false ∧ h0.stopGate = false ∧ h0.drain = 0 ∧ (halted { h0 with drain := 3, drainReq := true }).halt.drainReq = true ∧ (halted { h0 with stopGate := true }).scan.st = 0
    ∧ ({ halted { h0 with stopGate := true } with scan := { wired.scan with st := 1 } } : Ls).scan.st = 1 ∧ wired.instantAt 0x42 < wired.clk.time + 1000 * uNs ∧ wired.instantAt 0x44 ≤ wired.clk.time
    ∧ ¬((wired.setReg 0x42 500000000).instantAt 0x42 < wired.clk.time + 1000 * uNs) ∧ ¬((wired.setReg 0x44 500000000).instantAt 0x44 ≤ wired.clk.time) := by decide

/-! ### LinesideScan -/

/-- A Lineside under a stop gate, with a scan in a state, its message queued on link B. -/
def scanOf (st shifted : Nat) : Ls :=
  let x := { halted { h0 with stopGate := true } with scan := ⟨st, false, shifted, 3, 0, wired.clk.time, 1000, true, []⟩, smp := { wired.smp with lclk := 100 }, host := { wired.host with chains := [7, 8, 9] } }
  if st = 1 then { x with portB := { x.portB with q := [⟨2, 2, false, zeros 32, false, 3, true⟩] } } else x
def scannable : Ls := (scanOf 0 0).setReg 0x121 3
theorem witness_LinesideScan : scannable.boundary 6 = true ∧ fld (scannable.reg 0x121) 0 25 = 3 ∧ scannable.halt.stopGate = true ∧ scannable.halt.stopAt + 16 ≤ scannable.smp.lclk ∧ scannable.readoutLink = some false
    ∧ (scanOf 1 1).scan.st = 1 ∧ (scanOf 2 1).readoutLink = some false ∧ (scanOf 1 1).scan.link = true ∧ ((scanOf 1 1).port true).q.any (fun m => m.tag == 3) = true ∧ (scanOf 5 0).halt.relPending = none
    ∧ ((scanOf 1 1).reach (((scanOf 1 1).scan.startTime + 2 * uNs : Nat) : Int)).scanAdvance.scan.shifted = 3 ∧ ({ scanOf 3 3 with scan := { (scanOf 3 3).scan with kept := [1] } } : Ls).scan.kept ≠ [] := by decide

/-! ### TabletPackets -/

/-- A wired Lineside with Tablet entry 5, enabled for group 7 in a mode, and a packet of it open at a tap. -/
def tablet (linear : Bool) : Ls := (wired.setReg 0x3005 (7 + put 28 1 + put 29 (b2n linear))).setReg 0x3105 (put 18 3)
def openAt (linear digested : Bool) (tap : Nat) (tag : BitVec 16) (e : Bool) : Ls :=
  let x := tablet linear
  { x with tab := { x.tab with pkts := [⟨tap, 1, tag, 7, if e then some (x.tabEntry 5) else none, digested, 1000⟩] } }
def shardAt (tap : Nat) : Ls := { wired with tab := { wired.tab with shards := [⟨tap, 9, crc64Xz.init, 0⟩] } }
/-- A payload with the transit digest it is sent with. -/
def carriedBy (tag : Nat) (b : Bytes) : Bytes := b ++ le 8 (transitDigest 7 tag 0 b)
set_option maxRecDepth 200000 in
theorem witness_TabletPackets : wired.boundary 2 = true ∧ wired.boundary 3 = true ∧ wired.tapOn 0 = true ∧ wired.tapFailed 0 = false ∧ ((tablet true).tabMatch 7).map (fun e => (e.g, e.linear, e.fanIn, e.elem)) = some (5, true, 1, 0)
    ∧ ((openAt false true 1 0 true).takePkt 1 0 7).1.map (fun p => p.digested) = some true ∧ (shardAt 1).tab.shards.find? (fun x => x.tap == 1 && x.ref == 9#28) = some ⟨1, 9, crc64Xz.init, 0⟩
    ∧ linearDigest ((tablet true).tabEntry 5) [3] = some 6 ∧ linearDigest ({ (tablet true).tabEntry 5 with elem := 1 }) [3] = none ∧ (tablet false).tabMatch 8 = none := by decide +kernel

/-! ### TabletUpkeep -/

/-- One with witnesses of entry 5 and a suspension of entry 6, and entry 5 armed for poison of job 4. -/
def witnessing (n : Nat) : Ls := let x := tablet true; { x with tab := { x.tab with wits := List.replicate n ⟨5, 2, 6, 1, 3, 3⟩, suspended := [(6, 0), (8, 1)], pend := [5] } }
def poisoned : Ls := { ((tablet true).setReg 0x3105 (put 17 1 + put 18 3)).setReg 0x3405 4 with slots := [(5, ⟨1, false, false, 0, 0⟩)] }
def windowed : Ls := { ((wired.setReg 0x239 4).setReg 0x3603 (put 42 1)).setReg 0x3607 (put 42 1) with tab := { wired.tab with results := [(7, 2)] } }
set_option maxRecDepth 200000 in
theorem witness_TabletUpkeep : (witnessing 1).isSuspended 6 = false ∧ (witnessing 1).isSuspended 8 = true ∧ (witnessing 1).isSuspended 5 = false ∧ (witnessing 1).tab.wits.any (fun w => w.g == 5 && w.chunk == 2) = true
    ∧ (witnessing 64).tab.wits.length = 64 ∧ (witnessing 1).tab.pend.contains 5 = true ∧ windowed.reg 0x238 + windowed.reg 0x239 ≤ windowed.tickW ∧ bit (windowed.reg 0x3603) 42 = true
    ∧ poisoned.boundary 5 = true ∧ poisoned.poison = [] ∧ poisoned.jobEntries 4 = [5] ∧ poisoned.jobEntries 5 = [] ∧ fld (put 4 2 + put 52 4) 52 28 = 4 ∧ (tablet true).self.tablet = 0 := by decide +kernel

/-! ### LinesideConfiguration -/

/-- A request of operations received on link B, and a Lineside that holds it. -/
def requestOf (ops : List CfgOp) : Bytes := le 2 0x10 ++ le 2 ops.length ++ le 4 7 ++ (ops.map CfgOp.bytes).flatten
def configured (b : Bytes) : Ls := { wired with portB := { wired.portB with inbox := [msg 3 0 b] } }
def twoOps : List CfgOp := [⟨2, 0x301, 5, 0⟩, ⟨1, 0x301, 0, 0⟩]
set_option maxRecDepth 200000 in
theorem witness_LinesideConfiguration : cfgOps (requestOf twoOps) = some twoOps ∧ cfgOps [1, 2] = none ∧ wired.cfgWait = none ∧ twoOps.length < wired.lclkLeft ∧ ({ wired with clk := clk.reach (clk.tickAt 1001 - uNs) } : Ls).lclkLeft ≤ twoOps.length
    ∧ ((configured (requestOf twoOps)).port true).takeInbox 3 0 (fun _ => true) = (some (msg 3 0 (requestOf twoOps)), wired.portB) ∧ regAssigned 0x301 = true ∧ regAssigned 0xFFFE = false ∧ regInRange 0x121 16777217 = false
    ∧ popcount (cmdBits 0x40) 3 = 2 ∧ wired.fenceHold = false ∧ wired.reg 0x14 % 8192 = 0 := by decide +kernel

/-! ### LinesideBanks -/

/-- A Lineside whose frame map of bank 0 has one entry of 1 byte, with its banks as given. -/
def banked (b : LsBanks) : Ls := let x := (wired.setReg 0x204 (put 18 1)).setReg 0x400 0x00; { x with banks := b }
def b0 : LsBanks := wired.banks
theorem witness_LinesideBanks : (banked b0).banks.tStandby = false ∧ (banked b0).banks.fStandby = false ∧ (banked b0).frameCheck false = (0, 0) ∧ wired.frameCheck false = (1, 0) ∧ ((wired.setReg 0x204 (put 18 1)).setReg 0x400 0x0A).frameCheck false = (2, 0)
    ∧ ((banked { b0 with t0 := .valid }).setReg 0x212 1002).reg 0x212 = 1002 ∧ (banked { b0 with f0 := .active, fActive := some false }).banks.fActive = some false ∧ (banked b0).ownedFlits = none := by decide +kernel

/-! ### LinesideLinksAndCrc -/

/-- Engine 2 of the Lineside as CRC-32 over words fed to it, on or off. -/
def fed (on : Bool) : CrcEng := { CrcEng.init with cfg := { CrcEng.init.cfg with enable := on }, act := { CrcEng.init.cfg with enable := on } }
def withEngine (e : CrcEng) : Ls := { wired with crc := wired.crc.set 2 e }
theorem witness_LinesideLinksAndCrc : (withEngine (fed true)).crc.length = 4 ∧ ((withEngine (fed true)).crc.getD 2 CrcEng.init).act.enable = true ∧ (fed true).act.bind = 0 ∧ (withEngine (fed true)).crcBusy (fed true) = false
    ∧ wired.linkMayTrain true = true ∧ ({ fed false with pending := true } : CrcEng).pending = true ∧ (CrcEng.init.cfg.withReg 0 (put 7 32 + 1)).enable = true ∧ (CrcEng.init.cfg.withReg 0 (put 7 4 + 1)).width < 8 := by decide

/-! ### StepTakesTheFrontCommand -/

theorem witness_StepTakesTheFrontCommand : ({ both with pending := [.drainDoneRise, .hostResetRise] } : Machine.State).pending = .drainDoneRise :: [.hostResetRise] ∧ both.pending = [] ∧ both.jn.boot.porst = false
    ∧ Machine.State.reset.jn.boot.porst = true := ⟨rfl, rfl, rfl, rfl⟩

/-! ### OnlyTheReservedSlotCountStops -/

theorem witness_OnlyTheReservedSlotCountStops : tray.reservedSlots false 0 (put 1 7) = true ∧ tray.reservedSlots false 0 (put 1 6) = false ∧ tray.barReserved false 0x1000010 4 (put 1 7) = true := by decide

/-! ### QueueAndPartsStayApart -/

theorem witness_QueueAndPartsStayApart : exec .drainDoneRise both = .next { both with ls := line.drainDoneRise } ∧ exec .drainDoneRise (withLs line) = .next { withLs line with ls := line.drainDoneRise }
    ∧ both.free = (withLs line).free ∧ both.ls = (withLs line).ls := ⟨rfl, rfl, rfl, rfl⟩

/-! ### NearTierMemoryStaysCanonical -/

/-- A state whose memory holds a byte and whose next command clears it. -/
def remembering : Machine.State := { withJn { tray with mem := [(5, 7)] } with pending := [.drainDoneRise] }
theorem witness_NearTierMemoryStaysCanonical : Memory.wf remembering.jn.mem = true ∧ Machine.step remembering = .next { remembering with pending := [], ls := remembering.ls.drainDoneRise } := ⟨by decide, rfl⟩

/-! ### DebugAndIdentityOfTheLineside -/

theorem witness_DebugAndIdentityOfTheLineside : (let s : Machine.State := { withLs { line with dbgUnlock := true, dbgWrite := true, dieValid := true } with pending := [.drainDoneRise] }
    (s.ls.dbgWrite = true → s.ls.dbgUnlock = true) ∧ s.ls.dieValid = true ∧ s.pending.head? ≠ some .lsColdReset ∧ Machine.step s = .next { s with pending := [], ls := s.ls.drainDoneRise }) :=
  ⟨fun _ => rfl, rfl, by simp, rfl⟩

/-! ### StopGateFallsOnlyOnRelease -/

theorem witness_StopGateFallsOnlyOnRelease_stop : (let s := withLs { line with halt := { line.halt with stopGate := true, relArmed := some 0 } }
    s.ls.halt.stopGate = true ∧ ∃ t, exec .armedReleaseInstant s = .next t ∧ t.ls.halt.stopGate = false) := ⟨rfl, _, rfl, rfl⟩
theorem witness_StopGateFallsOnlyOnRelease_fence : (let s := withLs { line with fenceHold := true, fenceLow := 5 }
    s.ls.fenceHold = true ∧ ∃ t, exec (.lsFenceEpochWrite (.vc3 false 0) 5) s = .next t ∧ t.ls.fenceHold = false) := by
  refine ⟨rfl, _, rfl, ?_⟩
  decide +kernel

/-! ### LoadsByBankState -/

/-- A tray whose bank 1 is in a state, asked to load into it. -/
def loadInto (op : Nat) (k : JnBank) : Junction := asked { tray with b1 := k } op loadBody
theorem witness_LoadsByBankState : Served (loadInto 0x101 { JnBank.empty with tt := .active }) 0 (item 0x101 loadBody) [] 0x101 true false false ∧ Served (loadInto 0x105 { JnBank.empty with plan := .armed }) 0 (item 0x105 loadBody) [] 0x105 true false false
    ∧ ((loadInto 0x101 { JnBank.empty with tt := .active }).bank 1).tt = .active ∧ ((loadInto 0x105 { JnBank.empty with plan := .armed }).bank 1).leaving = false ∧ (loadInto 0x101 JnBank.empty).buffer 0 (rd loadBody 8 8) (rd loadBody 4 4) = .inr [] :=
  ⟨asked_served _ _ _ _ _ _ rfl (by decide) (by decide) (by decide), asked_served _ _ _ _ _ _ rfl (by decide) (by decide) (by decide), rfl, rfl, by decide⟩

/-! ### AbsDetectors -/

theorem witness_AbsDetectors : (Det.decode (le 1 0 ++ le 1 1 ++ zeros 42)).form = 1 ∧ (Fp.fin true (3 / 2)).isNan = false ∧ (Det.decode (le 1 0 ++ le 1 9 ++ zeros 42)).side = 2 ∧ (Det.decode (le 1 0 ++ le 1 9 ++ zeros 42)).form = 1
    ∧ (Fp.fin true (3 / 2)).neg = .fin false (3 / 2) ∧ (Fp.fin true (3 / 2)).abs = .fin false (3 / 2) := by decide +kernel

/-! ### ShardWords -/

/-- A map entry of SHARD_ENTITY for slot 63. -/
def shardEntry : MapEntry := mapEntry (7 + 2 * 2 ^ 4 + 63 * 2 ^ 6)
theorem witness_ShardWords : line.tab.queue.length < 64 ∧ shardEntry.kind = 7 ∧ ((line.queueShard 1 (2 ^ 28 - 1) 2 0).tab.queue)[0]? = some (0xEFFFFFFF, 0) := by decide

/-! ### Commands whose operands the check of operands refuses -/

theorem illformed_boot : (Instr.coldReset { BootIn.clean with katFail := [(7, 0, 0)] }).wellFormed = false
    ∧ (Instr.watchdogExpiry false { BootIn.clean with katFail := [(0, 68, 0)] }).wellFormed = false ∧ (Instr.coldReset BootIn.clean).wellFormed = true := by decide

theorem illformed_port : (Instr.frameReceived 68).wellFormed = false ∧ (Instr.linkActiveEntry (.jn 68)).wellFormed = false
    ∧ (Instr.streamArrivalDeadline 68 0 0).wellFormed = false ∧ (Instr.frameReceived 67).wellFormed = true := by decide

theorem illformed_raw : (Instr.flitReceived (.ls true) 0 0 []).wellFormed = false ∧ (Instr.identReceived (.jn 0) [0]).wellFormed = false
    ∧ (Instr.blockDecoded (.ls true) 0 0 [1024]).wellFormed = false ∧ (Instr.blockDecoded (.ls true) 0 0 [1023]).wellFormed = true := by decide

theorem illformed_number : (Instr.roleConfirm 17).wellFormed = false ∧ (Instr.mailboxReqTailWrite false 8 0).wellFormed = false
    ∧ (Instr.reductionDeadline 7).wellFormed = false ∧ (Instr.featureDeadline 0 16 0).wellFormed = false ∧ (Instr.tsInEdge 8 false false).wellFormed = false
    ∧ (Instr.trigOutEdge 4).wellFormed = false ∧ (Instr.logRecordCommit 33).wellFormed = false ∧ (Instr.dieConfigEffect 32).wellFormed = false
    ∧ (Instr.membershipEffect 256).wellFormed = false ∧ (Instr.ballastJobStart 2).wellFormed = false ∧ (Instr.refTableActivate 4).wellFormed = false
    ∧ (Instr.bulkMessageReceived 0 16).wellFormed = false ∧ (Instr.exportQueueService 2).wellFormed = false ∧ (Instr.runtimeSelfCheck 4 0 true).wellFormed = false
    ∧ (Instr.scrubAccess .jn 0 0 3 .byAddress).wellFormed = false := by decide

theorem illformed_temps : (Instr.sampleEdge [(1, 0), (1, 0)]).wellFormed = false ∧ (Instr.sampleEdge [(1, 0), (2, 0)]).wellFormed = true := by decide

theorem illformed_request : (Instr.mailboxRequestTake 0 []).wellFormed = false ∧ (Instr.mailboxDatagramReceived 2 false 0 0 0 []).wellFormed = false
    ∧ (Instr.dbgResponse 3 0 [] []).wellFormed = false := by decide

theorem illformed_register : (Instr.jnRegLowHalfRead false 0 2).wellFormed = false ∧ (Instr.registerWrite (.bar false) 0 2 0 0).wellFormed = false
    ∧ (Instr.registerWrite (.ls (.vc3 false 65536)) 0 8 0 0).wellFormed = false ∧ (Instr.debugSegmentUpdate 0 3 0).wellFormed = false
    ∧ (Instr.crcEnableApply .ls 8).wellFormed = false ∧ (Instr.registerWrite (.ls .debug) 0 0 0 0).wellFormed = true := by decide

theorem illformed_lineside : (Instr.regionStretchPulse 16).wellFormed = false ∧ (Instr.tapPacketStart 2 0 0 0).wellFormed = false ∧ (Instr.lsScanStart (.vc3 true 65536)).wellFormed = false
    ∧ (Instr.lsCtrSelWrite .debug 4096 0).wellFormed = false ∧ (Instr.lsTabGroupWrite .debug 256 0).wellFormed = false
    ∧ (Instr.lsCrcCfgWrite .debug 4 0 0).wellFormed = false ∧ (Instr.lsCrcCfgWrite .debug 0 4 0).wellFormed = false ∧ (Instr.lsTimeLoRead (.vc3 true 65536)).wellFormed = false
    ∧ (Instr.ethernetLinkStateChange 2 true).wellFormed = false := by decide

/-! ### Values that the spec's examples give -/

/-- The example of R409: eight bytes 0x61, and an empty input. -/
theorem test_deflate : deflate (List.replicate 8 0x61) = [0x4B, 0x84, 0x02, 0x00] ∧ deflate [] = [0x03, 0x00] := by decide +kernel

/-- And back (R410). -/
theorem test_inflate : inflate 8 false [0x4B, 0x84, 0x02, 0x00] = (0, 0, 4, false, List.replicate 8 0x61) := by decide +kernel

/-- The nine ASCII bytes of R415. -/
def digits : Bytes := [0x31, 0x32, 0x33, 0x34, 0x35, 0x36, 0x37, 0x38, 0x39]

theorem test_crc : crcOf crc32 digits = 0xCBF43926 ∧ crcOf crcFlit digits = 0xE3069283 ∧ crcOf crc64Ecma digits = 0x6C40DF5F0B497347
    ∧ crcOf crc64Xz digits = 0x995DC9BBDF1939FA ∧ crcOf crc16 digits = 0x29B1 := by decide +kernel

/-- The timestamp of the example of R166. -/
theorem test_stationTime : unle [0x00, 0x80, 0x15, 0xCD, 0x5B, 0x07, 0xA5, 0xE1, 0x4E, 0x68, 0x00, 0x00] = packTime ((1750000037 * 1000000000 + 123456789) * 65536 + 32768) := by decide +kernel

/-- The example of R240: 2^100, 1.0 and −2^100 publish as 1.0. -/
theorem test_exactSum :
    (((Acc.of (Fp.decode fp32 0x71800000)).merge (Acc.of (Fp.decode fp32 0x3F800000))).merge (Acc.of (Fp.decode fp32 0xF1800000))).a = 2 ^ 149
    ∧ (((Acc.of (Fp.decode fp32 0x71800000)).merge (Acc.of (Fp.decode fp32 0x3F800000))).merge (Acc.of (Fp.decode fp32 0xF1800000))).publish 0 = (0x3F800000, false, false) := by
  decide +kernel

/-- The example after R243: ties to even. -/
theorem test_tiesToEven : ((Acc.of (Fp.decode fp32 0x3F800000)).merge (Acc.of (Fp.decode fp32 0x33800000))).publish 0 = (0x3F800000, false, true)
    ∧ ((((Acc.of (Fp.decode fp32 0x3F800000)).merge (Acc.of (Fp.decode fp32 0x33800000))).merge (Acc.of (Fp.decode fp32 0x33800000))).merge (Acc.of (Fp.decode fp32 0x33800000))).publish 0
      = (0x3F800002, false, true) := by decide +kernel

/-- Buckets of the lag sketch of chapter 9 (R244): SCALE 4. -/
theorem test_sketch : [52, 398, 400, 405, 410, 2000].map (fun (a : Rat) => sketchBucket 4 a) = [108, 296, 297, 298, 299, 445] := by decide +kernel

/-- The witness of chunk 0x021 (R361, R369): K = 10. -/
theorem test_witness : linearKey 5 3 = 10 ∧ linearSum 10 10 [3, -1, 7] 0 = 6930 ∧ linearSum 10 10 [2, 4, -5] 0 = mers61 - 4580
    ∧ (6930 + (mers61 - 4580)) % mers61 = linearSum 10 10 [5, 3, 2] 0 := by decide +kernel

/-- The three trees of chapter 11 and the walks of dies A and B (R285, R295, R296). -/
def threeTrees : Ens :=
  { index := 0, ctx := 3, kind := 0, link := 1, scope := 0, base := 0, deadline := 0, features := [], trees := [(0, 5, 3), (5, 3, 2), (8, 3, 2)], cats := [(0x26, 0x20)], nodes := [0x00000000000200014040000000000004, 0x0000000000040003_3F80000000010000, 0x00000000000000003F80000000000002, 0x0000000000000000BE80000000000002, 0x00000000000000003E80000000000002, 0x00000000000200010000000000020005, 0x0000000000000000BF00000000000002, 0x00000000000000003F00000000000002, 0x00000000000200014020000000010008, 0x0000000000000000BE80000000000002, 0x00000000000000003F00000000000002] }
/-- F0 = 5.645, F1 = 2.5, F2 = 5; and F0 = 3.0, F1 missing, F2 = 9. -/
def dieA : List Feat := [⟨0x40B4A3D7, false⟩, ⟨0x40200000, false⟩, ⟨0x40A00000, false⟩]
def dieB : List Feat := [⟨0x40400000, false⟩, Feat.absent, ⟨0x41100000, false⟩]

theorem test_walks : [0, 5, 8].map (fun (t : Nat) => threeTrees.walk t dieA 65 0) = [some 0x3F800000, some 0x3F000000, some 0x3F000000]
    ∧ [0, 5, 8].map (fun (t : Nat) => threeTrees.walk t dieB 65 0) = [some 0xBE800000, some 0x3F000000, some 0xBE800000] := by decide +kernel

/-- Margin 2.0 gives LOGISTIC 0x3F617BEB, margin 0 gives 0.5 (R287, R296). -/
theorem test_logistic : (threeTrees.output (Acc.of (Fp.decode fp32 0x40000000))).encode fp32 = 0x3F617BEB
    ∧ (threeTrees.output (Acc.of (Fp.decode fp32 0))).encode fp32 = 0x3F000000 := by decide +kernel

/-- Entries of the frame map of R526's example: COUNTER_DELTA of 32 bits, SENSOR of channel 0, SHARD_DIGEST of slot 0 (R112). -/
theorem test_mapEntries : (mapEntry 0x21).kind = 1 ∧ (mapEntry 0x21).bytes = 4 ∧ (mapEntry 0x22).kind = 2 ∧ (mapEntry 0x38).kind = 8 ∧ (mapEntry 0x38).bytes = 8 := by decide

/-- Headway step 21 is 12.5 us (R36); the identity of rack Twin A 156 and the Junctions of tray pair 5,000 (R19). -/
theorem test_headway : hNs 21 = 12500 ∧ hNs 12 = 8000 ∧ (Role.id ⟨1, false⟩ 156) = 0x8138 := by decide

end Sys2Proof.Tests
end

/-! # What the passing of LCLK and the recording of events leave alone at the Lineside -/

namespace Sys2Proof.Machine

/-- A link end without what the Lineside queues on it by itself: frames, messages, signals, and the statistics of them (R119, R156, R207). -/
def Port.unqueued (p : Port) : Port := { p with vc0 := [], q := [], sigq := [], stats := [] }

/-- The Lineside without what the passing of LCLK changes: its clock and samples, the capture with its frame, the trace, the snapshot, the
breakpoints with the drain they ask for, the Logbook, the poison events of the LCLK, and what the links have queued (R94, R119, R124, R136). -/
def Ls.offClock (s : Ls) : Ls :=
  { s with
    clk := Clock.init, smp := LsSample.init, regs := [], trace := LsTrace.init, qsnap := LsQsnap.init, bp := ⟨0, 0, 0⟩, log := LsLog.init, poison := []
    pins := { s.pins with qsnapReq := none }, lag := { s.lag with last := none }, banks := { s.banks with frame := none }
    halt := { s.halt with drain := 0, drainReq := false, drainAt := 0, drainPending := false, drainHeld := false }
    portA := s.portA.unqueued, portB := s.portB.unqueued }

/-! ### What recording an event leaves alone -/

theorem Ls.sendAll_unlogged (s : Ls) (tag vc subch : Nat) (b : Bytes) : (s.sendAll tag vc subch b).unlogged = s.unlogged := by
  unfold Ls.sendAll Ls.onPorts
  dsimp only
  split <;> split <;> rfl

theorem Ls.storeRecord_unlogged (s : Ls) (code : Nat) (ws : List Word) : (s.storeRecord code ws).1.unlogged = s.unlogged := by
  rw [Ls.storeRecord, Ls.sendAll_unlogged]
  simp only [Ls.unlogged]

theorem Ls.logEvent_unlogged (s : Ls) (code : Nat) (ws : List Word) : (s.logEvent code ws).1.unlogged = s.unlogged := by
  unfold Ls.logEvent
  dsimp only
  split
  · rfl
  · split
    · rfl
    · split
      · rfl
      · exact Ls.storeRecord_unlogged _ _ _

theorem Ls.offClock_of_unlogged {s z : Ls} (h : s.unlogged = z.unlogged) : s.offClock = z.offClock :=
  show s.unlogged.offClock = z.unlogged.offClock by rw [h]

theorem Ls.logE_offClock (s : Ls) (code : Nat) (ws : List Word) : (s.logE code ws).offClock = s.offClock :=
  Ls.offClock_of_unlogged (Ls.logEvent_unlogged s code ws)

/-! ### What the passing of LCLK leaves alone -/

theorem Ls.drainCause_offClock (s : Ls) : s.drainCause.offClock = s.offClock := by
  unfold Ls.drainCause
  split
  · rfl
  · split
    · split <;> rfl
    · split
      · rfl
      · split <;> rfl

theorem Ls.traceTrigger_offClock (s : Ls) : s.traceTrigger.offClock = s.offClock := by
  unfold Ls.traceTrigger
  dsimp only
  split
  · rfl
  · split <;> rfl

theorem Ls.qsnapCause_offClock (s : Ls) (cause bp : Nat) : (s.qsnapCause cause bp).offClock = s.offClock := by
  unfold Ls.qsnapCause
  dsimp only
  split
  · rfl
  · split
    · rfl
    · split
      · rfl
      · split
        · split <;> rfl
        · split <;> rfl

theorem Ls.bpFire_offClock (s : Ls) (i : Nat) : (s.bpFire i).offClock = s.offClock := by
  unfold Ls.bpFire
  dsimp only
  split <;> rfl

theorem Ls.bpActions_offClock (s : Ls) (fired : List Nat) : (s.bpActions fired).offClock = s.offClock := by
  have hfire := foldl_keeps Ls.offClock Ls.bpFire Ls.bpFire_offClock fired s
  unfold Ls.bpActions
  dsimp only
  refine (foldl_keeps Ls.offClock _ (fun x c => Ls.logE_offClock x 3 _) _ _).trans ?_
  split
  · simp only [Ls.qsnapCause_offClock, apply_ite Ls.offClock, Ls.traceTrigger_offClock, Ls.drainCause_offClock, ite_self, hfire]
  · simp only [apply_ite Ls.offClock, Ls.traceTrigger_offClock, Ls.drainCause_offClock, ite_self, hfire]

theorem Ls.bpCounts_offClock (s : Ls) : s.bpCounts.offClock = s.offClock := by
  unfold Ls.bpCounts
  exact (Ls.bpActions_offClock _ _).trans rfl

theorem Ls.lagTrigger_offClock (s : Ls) (c : LsCap) (lag : Int × Bool × Bool) : (s.lagTrigger c lag).offClock = s.offClock := by
  unfold Ls.lagTrigger
  dsimp only
  split
  · rfl
  · split
    · split
      · split <;> rfl
      · exact Ls.traceTrigger_offClock s
    · exact Ls.traceTrigger_offClock s

theorem Ls.assemble_offClock (s : Ls) (c : LsCap) : (s.assemble c).offClock = s.offClock := by
  unfold Ls.assemble
  refine (Ls.lagTrigger_offClock _ _ _).trans ?_
  cases c.ships <;> rfl

theorem Ls.captureCounters_offClock (s : Ls) (c : LsCap) : (s.captureCounters c).offClock = s.offClock := by
  unfold Ls.captureCounters
  exact (Ls.bpCounts_offClock _).trans rfl

/-- A part of a capture, taken where one is open and its LCLK has come, leaves alone what its own action leaves alone. -/
theorem Ls.offClock_onCap (s : Ls) (due : LsCap → Prop) [DecidablePred due] (f : Ls → LsCap → Ls) (hf : ∀ c, (f s c).offClock = s.offClock) :
    (match s.smp.cap with | some c => if due c then f s c else s | none => s).offClock = s.offClock := by
  split
  · split
    · exact hf _
    · rfl
  · rfl

theorem Ls.capStep_offClock (s : Ls) : s.capStep.offClock = s.offClock := by
  unfold Ls.capStep
  dsimp only
  refine (Ls.offClock_onCap _ _ Ls.assemble (Ls.assemble_offClock _)).trans ?_
  refine (Ls.offClock_onCap _ _ Ls.captureSchedule (fun _ => rfl)).trans ?_
  refine (Ls.offClock_onCap _ _ Ls.captureCounters (Ls.captureCounters_offClock _)).trans ?_
  refine (Ls.offClock_onCap _ _ Ls.captureRegions (fun _ => rfl)).trans ?_
  split <;> rfl

theorem Ls.cycles_offClock (s : Ls) (n : Nat) : (s.cycles n).offClock = s.offClock := by
  unfold Ls.cycles
  split <;> rfl

theorem Ls.lclks_offClock (k : Nat) (s : Ls) (n : Nat) : (Ls.lclks k s n).offClock = s.offClock := by
  induction k generalizing s n with
  | zero => exact Ls.cycles_offClock s n
  | succ k ih =>
    unfold Ls.lclks
    split
    · exact Ls.cycles_offClock s n
    · rw [ih, Ls.capStep_offClock, Ls.cycles_offClock]

theorem Ls.pass_offClock (s : Ls) (d : Nat) : (s.pass d).offClock = s.offClock := by
  unfold Ls.pass
  dsimp only
  split
  · exact Ls.lclks_offClock 16 s _
  · rfl

theorem Ls.toLclk_offClock (s : Ls) (n : Nat) : (s.toLclk n).offClock = s.offClock := by
  unfold Ls.toLclk
  split
  · rfl
  · exact Ls.pass_offClock s _

@[simp] theorem Ls.toLclk_dbgUnlock (s : Ls) (n : Nat) : (s.toLclk n).dbgUnlock = s.dbgUnlock :=
  show (s.toLclk n).offClock.dbgUnlock = s.offClock.dbgUnlock by rw [Ls.toLclk_offClock]
@[simp] theorem Ls.toLclk_dbgWrite (s : Ls) (n : Nat) : (s.toLclk n).dbgWrite = s.dbgWrite :=
  show (s.toLclk n).offClock.dbgWrite = s.offClock.dbgWrite by rw [Ls.toLclk_offClock]

end Sys2Proof.Machine

/-! # Registers, configuration messages and the debug segment of the Lineside -/

namespace Sys2Proof.Machine

/-! ### Operations of the debug segment (R87, R480, R521) -/

theorem Ls.debugUpdate_locked (s : Ls) (a op : Nat) (v : Word) (h : s.dbgUnlock = false) :
    s.debugUpdate a op v = { s.toLclk (s.smp.lclk + 1) with dbgCapture := 0 } := by
  simp [Ls.debugUpdate, h]

theorem Ls.debugUpdate_read (s : Ls) (a : Nat) (v : Word) (h : s.dbgUnlock = true) :
    s.debugUpdate a 1 v = ({ s.toLclk (s.smp.lclk + 1) with dbgCapture := (s.toLclk (s.smp.lclk + 1)).readReg a } : Ls).readEffect a := by
  simp [Ls.debugUpdate, h]

theorem Ls.debugUpdate_write (s : Ls) (a : Nat) (v : Word) (h : s.dbgUnlock = true) (hw : s.dbgWrite = true) :
    s.debugUpdate a 2 v
      = if a = 0x300 then ((s.toLclk (s.smp.lclk + 1)).logDebug s.vc3Last s.smp.lclk a v).writeReg none a v.toNat (2 ^ 64 - 1)
        else ((s.toLclk (s.smp.lclk + 1)).writeReg none a v.toNat (2 ^ 64 - 1)).logDebug s.vc3Last s.smp.lclk a v := by
  simp [Ls.debugUpdate, h, hw]

theorem Ls.debugUpdate_readOnly (s : Ls) (a : Nat) (v : Word) (h : s.dbgUnlock = true) (hw : s.dbgWrite = false) :
    s.debugUpdate a 2 v = s.toLclk (s.smp.lclk + 1) := by
  simp [Ls.debugUpdate, h, hw]

/-! ### Configuration transactions over VC3 (R519) -/

theorem Ls.cfgApply_read (y : Ls) (l : Bool) (o : CfgOp) (h : o.op = 1) : y.cfgApply l o = (y.readEffect o.addr, (y.readReg o.addr).toNat) := by
  simp [Ls.cfgApply, h]

/-- A write, whole or under its mask, is noted as the latest over VC3, and its reply has the register after it. -/
theorem Ls.cfgApply_write (y : Ls) (l : Bool) (o : CfgOp) (mask : Nat) (h : o.op = 2 ∧ mask = 2 ^ 64 - 1 ∨ o.op = 3 ∧ mask = o.mask) :
    y.cfgApply l o = (let w := y.writeReg (some l) o.addr o.value mask
      ({ w with vc3Last := some (w.smp.lclk, o.addr, o.value) }, (w.readReg o.addr).toNat)) := by
  obtain ⟨hop, rfl⟩ | ⟨hop, rfl⟩ := h <;> simp [Ls.cfgApply, hop]

/-- A request with one operation is answered with what the operation gave. -/
theorem Ls.access_vc3_up (s : Ls) (l : Bool) (txn op a v mask : Nat) (hup : (s.port l).up = true) {z : Ls} {x : Word}
    (hz : (s.toLclk (s.smp.lclk + 1)).cfgApply l ⟨op, a, v, mask⟩ = (z, x.toNat)) :
    s.access (.vc3 l txn) op a v mask = z.answered l txn ⟨op, a, v, mask⟩ x := by
  have hhead : sub (cfgRequest txn [⟨op, a, v, mask⟩]) 2 6 = le 2 1 ++ le 4 txn := rfl
  simp [Ls.access, hup, Ls.cfgRun, Ls.cfgRunAt, hz, hhead, Ls.answered]

theorem Ls.access_vc3_down (s : Ls) (l : Bool) (txn op a v mask : Nat) (hdown : (s.port l).up = false) : s.access (.vc3 l txn) op a v mask = s := by
  simp [Ls.access, hdown]

theorem Ls.access_debug (s : Ls) (op a mask : Nat) (v : Word) : s.access .debug op a v.toNat mask = s.debugUpdate a op v := by
  simp [Ls.access, w64]

/-! ### A register written or read whole, by either path (R13, R517, R519, R521) -/

/-- A command that writes a register whole has the effect the register gives its writes. -/
theorem takes_of_writeReg {c : LsVia → Instr} {s : State} {a : Nat} {v : Word} {f : Option Bool → Ls → Ls}
    (hc : ∀ via, exec (c via) s = onReg via 2 a v s) (hf : ∀ via y, Ls.writeReg y via a v.toNat (2 ^ 64 - 1) = f via y) : Takes c s a v f := by
  intro hs
  simp only [hc, onReg, onMain_next _ s hs, Ls.access_debug]
  refine ⟨fun l txn hup => ?_, fun l txn hdown => ?_, fun hu hw => ?_, fun hu hw => ?_, fun hu => ?_⟩
  · rw [Ls.access_vc3_up _ _ _ _ _ _ _ hup (Ls.cfgApply_write _ l _ (2 ^ 64 - 1) (.inl ⟨rfl, rfl⟩))]
    simp only [hf]
  · rw [Ls.access_vc3_down _ _ _ _ _ _ _ hdown]
  · rw [Ls.debugUpdate_write _ _ _ hu hw, hf, hf]
  · rw [Ls.debugUpdate_readOnly _ _ _ hu hw]
  · rw [Ls.debugUpdate_locked _ _ _ _ hu]

/-- A command that reads a register has the effect the register gives its reads. -/
theorem reads_of_readEffect {c : LsVia → Instr} {s : State} {a : Nat} {f : Ls → Ls}
    (hc : ∀ via, exec (c via) s = onReg via 1 a 0 s) (hf : ∀ y, Ls.readEffect y a = f y) : Reads c s a f := by
  intro hs
  simp only [hc, onReg, onMain_next _ s hs, Ls.access_debug]
  refine ⟨fun l txn hup => ?_, fun l txn hdown => ?_, fun hu => ?_, fun hu => ?_⟩
  · rw [Ls.access_vc3_up _ _ _ _ _ _ _ hup (Ls.cfgApply_read _ l _ rfl)]
    simp only [hf]
    rfl
  · rw [Ls.access_vc3_down _ _ _ _ _ _ _ hdown]
  · rw [Ls.debugUpdate_read _ _ _ hu, hf]
  · rw [Ls.debugUpdate_locked _ _ _ _ hu]

/-! ### What a write of a register does (R13, R516 to R518) -/

/-- The value a write of v under a mask gives a register. -/
def Ls.writeValue (y : Ls) (a v mask : Nat) : Nat := Nat.xor (y.writeBase a) (Nat.land (Nat.xor (y.writeBase a) v) mask) % 2 ^ 64

/-- A write of every bit gives the value written. -/
theorem Ls.writeValue_whole (y : Ls) (a : Nat) (v : Word) : y.writeValue a v.toNat (2 ^ 64 - 1) = v.toNat := by
  change (y.writeBase a ^^^ ((y.writeBase a ^^^ v.toNat) &&& (2 ^ 64 - 1))) % 2 ^ 64 = v.toNat
  rw [Nat.and_two_pow_sub_one_eq_mod, Nat.xor_mod_two_pow, Nat.mod_mod, ← Nat.xor_mod_two_pow, ← Nat.xor_assoc, Nat.xor_self, Nat.zero_xor]
  exact Nat.mod_eq_of_lt v.isLt

theorem Ls.writeReg_noRegister (y : Ls) (via : Option Bool) (a v mask : Nat) (h : a = 0xFFFF ∨ regAssigned a = false) :
    y.writeReg via a v mask = y.checkFail a 1 := by
  rw [Ls.writeReg, if_pos (by simpa using h)]

theorem Ls.writeReg_notByDebug (y : Ls) (a v mask : Nat) (h : a = 0x12 ∨ a = 0x13) : y.writeReg none a v mask = y.checkFail a 4 := by
  obtain rfl | rfl := h <;> rfl

section
variable {a v mask : Nat} (hreg : regAssigned a = true) (hend : a ≠ 0xFFFF) (h12 : a ≠ 0x12) (h13 : a ≠ 0x13)
include hreg hend h12 h13

theorem Ls.writeReg_commands (y : Ls) (via : Option Bool) (hcmd : 1 < popcount (cmdBits a) (Nat.land v mask)) :
    y.writeReg via a v mask = y.checkFail a 3 := by
  rw [Ls.writeReg, if_neg (by simp [hreg, hend]), if_neg (by simp [h12, h13]), if_pos hcmd]

theorem Ls.writeReg_outOfRange (y : Ls) (via : Option Bool) (hcmd : popcount (cmdBits a) (Nat.land v mask) ≤ 1)
    (hrange : regInRange a (y.writeValue a v mask) = false) : y.writeReg via a v mask = y.checkFail a 2 := by
  rw [Ls.writeReg, if_neg (by simp [hreg, hend]), if_neg (by simp [h12, h13]), if_neg (Nat.not_lt.mpr hcmd)]
  exact if_pos (by change (!(regInRange a (y.writeValue a v mask)) || _) = true; simp [hrange])

/-- A register of stored bits alone, other than an abort slot's, takes the value. -/
theorem Ls.writeReg_stored (y : Ls) (via : Option Bool) (hcmd : cmdBits a = 0) (hrange : regInRange a (y.writeValue a v mask) = true)
    (hmask : regMask a ≠ 0) (hslot : inRange a 0x3500 256 = false) : y.writeReg via a v mask = y.plainWrite via.isSome a (y.writeValue a v mask) := by
  rw [Ls.writeReg, if_neg (by simp [hreg, hend]), if_neg (by simp [h12, h13]), if_neg (by simp [hcmd, popcount]),
    if_neg (by change ¬(!(regInRange a (y.writeValue a v mask)) || _) = true; simp [hrange, hslot]), if_pos hmask, if_neg (by simp [hslot])]
  rfl

end

/-- Four registers of stored bits with no effect of their own: boundary, stop instant, trace and Logbook (R523). -/
theorem Ls.writeReg_plain (y : Ls) (via : Option Bool) (a v mask : Nat) (ha : a = 0x3 ∨ a = 0x42 ∨ a = 0x100 ∨ a = 0x301)
    (hrange : regInRange a (y.writeValue a v mask) = true) : y.writeReg via a v mask = y.setReg a (y.writeValue a v mask) := by
  obtain rfl | rfl | rfl | rfl := ha <;>
    exact Ls.writeReg_stored (by decide) (by decide) (by decide) (by decide) y via rfl hrange (by decide) rfl

/-- The fence epoch takes any value whole (R390). -/
theorem Ls.writeReg_fenceEpoch (y : Ls) (via : Option Bool) (v : Word) : y.writeReg via 0x14 v.toNat (2 ^ 64 - 1) = y.fenceWrite v.toNat := by
  have h := Ls.writeReg_stored (a := 0x14) (v := v.toNat) (mask := 2 ^ 64 - 1) (by decide) (by decide) (by decide) (by decide) y via rfl rfl (by decide) rfl
  rwa [Ls.writeValue_whole] at h

/-! ### Configuration messages (R519) -/

theorem Ls.cfgReceived_waiting (s : Ls) (l : Bool) (h : s.cfgWait ≠ none) : s.cfgReceived l = s :=
  if_pos (Option.isSome_iff_ne_none.mpr h)

theorem Ls.cfgReceived_noMessage (s : Ls) (l : Bool) {p : Port} (hbox : (s.port l).takeInbox 3 0 (fun _ => true) = (none, p)) :
    s.cfgReceived l = s := by
  simp only [Ls.cfgReceived, Ls.cfgMessage, hbox, ite_self]

section
variable {s : Ls} {l : Bool} {m : RxMsg} {p : Port} (hwait : s.cfgWait = none) (hbox : (s.port l).takeInbox 3 0 (fun _ => true) = (some m, p))
include hwait hbox

theorem Ls.cfgReceived_discard (hops : cfgOps m.bytes = none) : s.cfgReceived l = s.setPort l (p.count 14 1) := by
  simp [Ls.cfgReceived, Ls.cfgMessage, hwait, hbox, hops]

theorem Ls.cfgReceived_postpone {ops : List CfgOp} (hops : cfgOps m.bytes = some ops) (hleft : s.lclkLeft ≤ ops.length) :
    s.cfgReceived l = { s with cfgWait := some l } := by
  simp [Ls.cfgReceived, Ls.cfgMessage, hwait, hbox, hops, Nat.not_lt.mpr hleft]

theorem Ls.cfgReceived_run {ops : List CfgOp} (hops : cfgOps m.bytes = some ops) (hleft : ops.length < s.lclkLeft) :
    s.cfgReceived l = (s.setPort l p).cfgRunAt l m.bytes ops (s.smp.lclk + 1) := by
  have hclear : ({ s.setPort l p with cfgWait := none } : Ls) = s.setPort l p := by cases l <;> rw [← hwait] <;> rfl
  simp only [Ls.cfgReceived, Ls.cfgMessage, hwait, hbox, hops, hleft, Option.isSome_none, Bool.false_eq_true, if_false, if_true]
  rw [hclear, Ls.cfgRun, Ls.setPort_smp]

end

/-! ### What the debug segment records (R87) -/

theorem Ls.logDebug_alone (x : Ls) (lclk a : Nat) (v : Word) : x.logDebug none lclk a v = x.logE 0x17 [w64 a, v] := rfl

theorem Ls.logDebug_met (x : Ls) (n b w lclk a : Nat) (v : Word) :
    x.logDebug (some (n, b, w)) lclk a v = (if n = lclk ∧ b = a then x.logE 0x17 [w64 b, w64 w] else x).logE 0x17 [w64 a, v] := by
  simp [Ls.logDebug]

/-! ### The fence (R390) -/

section
variable {y : Ls} {arg : Nat}

theorem Ls.fenceSignal_again (hold : y.fenceHold = true) (hlow : y.fenceLow.toNat = arg) : y.fenceSignal arg = y := by
  simp [Ls.fenceSignal, hold, hlow]

/-- FENCE_HOLD is low, or was raised for another epoch. -/
theorem Ls.fence_notHeldYet (hnew : y.fenceHold = false ∨ y.fenceLow.toNat ≠ arg) : (y.fenceHold && decide (y.fenceLow.toNat = arg)) = false := by
  obtain hlow | hother := hnew
  · rw [hlow, Bool.false_and]
  · rw [decide_eq_false hother, Bool.and_false]

theorem Ls.fenceSignal_known (hnew : y.fenceHold = false ∨ y.fenceLow.toNat ≠ arg) (hepoch : y.reg 0x14 % 8192 = arg) :
    y.fenceSignal arg = { y with fenceIgnored := sat 8 (y.fenceIgnored + 1) } := by
  rw [Ls.fenceSignal, if_neg (Bool.eq_false_iff.mp (Ls.fence_notHeldYet hnew)), if_pos hepoch]

theorem Ls.fenceSignal_holds (hnew : y.fenceHold = false ∨ y.fenceLow.toNat ≠ arg) (hepoch : y.reg 0x14 % 8192 ≠ arg) :
    y.fenceSignal arg = ({ y with fenceHold := true, fenceLow := BitVec.ofNat 13 arg } : Ls).logE 0xF [w64 (y.reg 0x14)] := by
  rw [Ls.fenceSignal, if_neg (Bool.eq_false_iff.mp (Ls.fence_notHeldYet hnew)), if_neg hepoch]

end

/-! ### LinesideConfiguration -/

/-- Settles O46, clause by clause from what messages, the debug segment, writes, reads and FENCE do. -/
theorem linesideConfiguration : Obligations.LinesideConfiguration := by
  unfold Obligations.LinesideConfiguration
  refine ⟨fun s l m p hs hwait hbox => ?message, fun s l p hnone => ?noMessage, fun y l o => ?operation, fun s a v hs => ?debug,
    fun s l txn a size v k hs hup => ?masked, fun y via a v k => ?checks, fun s => ?reads, fun s v => ?fenceEpoch, fun y arg => ?fence⟩
  case message =>
    rw [exec_configMessageReceived, onMain_next _ s hs]
    refine ⟨fun hops => ?_, fun ops hops hleft => ?_, fun ops hops hleft => ?_⟩
    · rw [Ls.cfgReceived_discard hwait hbox hops]
    · rw [Ls.cfgReceived_postpone hwait hbox hops hleft]
    · intro done hup
      rw [Ls.cfgReceived_run hwait hbox hops hleft]
      have hserve : (done.1.port l).up = true := by simp [Port.up, hup]
      exact congrArg (fun z : Ls => Host.Outcome.next { s with ls := z }) (if_pos hserve)
  case noMessage =>
    have hkeep : s.ls.cfgReceived l = s.ls := hnone.elim (s.ls.cfgReceived_waiting l) (s.ls.cfgReceived_noMessage l)
    rw [exec_configMessageReceived, onMain, hkeep, ite_self]
  case operation =>
    exact ⟨y.cfgApply_read l o, fun h => y.cfgApply_write l o _ (.inl ⟨h, rfl⟩), fun h => y.cfgApply_write l o _ (.inr ⟨h, rfl⟩)⟩
  case debug =>
    intro y logged
    have hlogged : ∀ x : Ls, x.logDebug s.ls.vc3Last s.ls.smp.lclk a v = logged x := by
      intro x
      simp only [logged]
      cases s.ls.vc3Last with
      | none => exact x.logDebug_alone _ a v
      | some last => exact x.logDebug_met _ _ _ _ a v
    simp only [exec_debugSegmentUpdate, onMain_next _ s hs]
    refine ⟨fun hu op => ?_, fun hu => ?_, fun hu hw => ?_, fun hu hw => ?_⟩
    · rw [s.ls.debugUpdate_locked a op v hu]
    · rw [s.ls.debugUpdate_read a v hu]
    · rw [s.ls.debugUpdate_write a v hu hw, hlogged, hlogged]
    · rw [s.ls.debugUpdate_readOnly a v hu hw]
  case masked =>
    intro w
    have hserve : (s.ls.port l).up = true := by simp [Port.up, hup]
    change onMain (·.access (.vc3 l txn) 3 a v.toNat k.toNat) s = _
    rw [onMain_next _ s hs, s.ls.access_vc3_up l txn 3 a v.toNat k.toNat hserve (Ls.cfgApply_write _ l _ k.toNat (.inr ⟨rfl, rfl⟩))]
  case checks =>
    intro new
    exact ⟨y.writeReg_noRegister via a v k, fun _ _ hvia h => hvia ▸ y.writeReg_notByDebug a v k h,
      fun hreg hend h12 h13 => Ls.writeReg_commands hreg hend h12 h13 y via,
      fun hreg hend h12 h13 => Ls.writeReg_outOfRange hreg hend h12 h13 y via, y.writeReg_plain via a v k⟩
  case reads =>
    exact ⟨reads_of_readEffect (fun via => exec_lsTimeLoRead via s) (fun _ => rfl),
      reads_of_readEffect (fun via => exec_lsFenceStatusRead via s) (fun _ => rfl)⟩
  case fenceEpoch =>
    exact takes_of_writeReg (fun via => exec_lsFenceEpochWrite via v s) (fun via y => y.writeReg_fenceEpoch via v)
  case fence =>
    exact ⟨Ls.fenceSignal_again, Ls.fenceSignal_known, Ls.fenceSignal_holds⟩

end Sys2Proof.Machine

/-! # One step on an empty queue -/

namespace Sys2Proof.Machine

/-! ### One JCLK on an empty queue (log 1) -/

theorem step_idle {s : State} (h : s.pending = []) : step s = .next s.idle := by
  rw [step, h]

/-- The poison events of an LCLK are gone once it is over (R81, log 74). -/
theorem Ls.cycles_poison (s : Ls) {n : Nat} (h : n ≠ 0) : (s.cycles n).poison = [] := by
  rw [Ls.cycles, if_neg h]

/-- LCLK pass at once where no capture and no trace record is being completed. -/
theorem Ls.lclks_of_settled (k : Nat) (s : Ls) (n : Nat) (hcap : s.smp.cap = none) (hfill : s.trace.fill = none) : Ls.lclks k s n = s.cycles n := by
  cases k with
  | zero => rfl
  | succ k => simp [Ls.lclks, hcap, hfill]

/-- A JCLK that brings an LCLK edge empties the queue of poison events. -/
theorem Ls.idle_poison (s : Ls) (hon : s.mainOn = true) (hcap : s.smp.cap = none) (hfill : s.trace.fill = none)
    (hedge : 262144 ≤ s.smp.lclkAcc + 5 * (s.clk.advance.time - s.clk.time)) : s.idle.poison = [] := by
  have hpass : s.idle.poison = (s.cycles ((s.smp.lclkAcc + 5 * (s.clk.advance.time - s.clk.time)) / 262144)).poison := by
    simp only [Ls.idle, Ls.pass, hon, if_true, Ls.lclks_of_settled 16 s _ hcap hfill]
  rw [hpass]
  exact s.cycles_poison (by omega)

/-- At its nominal rate a clock counts 40,960 units a JCLK (R70, R166). -/
theorem Clock.advance_time_nominal (c : Clock) (href : c.refLost = false) (hrate : c.rate = 0) (hphase : c.phase = 0) :
    c.advance.time = c.time + 40960 := by
  have hunits : (40960 * (1 + c.rate) + c.phase).floor = 40960 := by
    rw [hrate, hphase, Rat.add_zero, Rat.add_zero, Rat.mul_one]
    rfl
  simp only [Clock.advance, href, hunits]
  rfl

/-- A block whose Lineside, with every unit of its boundary enabled, has a corrected poison event of the current LCLK queued, 204,800 of the
262,144 parts of an LCLK after its last edge: one JCLK, which is 204,800 parts, brings the next (R70, R81). -/
def poisonWaiting : State :=
  { State.reset with
    ls := { Ls.init.setReg 3 0xFF with mainOn := true, inService := true, smp := { LsSample.init with lclkAcc := 204800 }, poison := [16] } }

theorem poisonWaiting_idle_poison : poisonWaiting.idle.ls.poison = [] := by
  refine poisonWaiting.ls.idle_poison rfl rfl rfl ?_
  rw [poisonWaiting.ls.clk.advance_time_nominal rfl rfl rfl]
  decide

/-- Refutes O49: a poison event stands in the queue until its LCLK is over (log 74), so the JCLK of an empty queue that brings an LCLK edge
takes it out, and more than the counts of clock cycles has changed. -/
theorem not_stepTakesTheFrontCommand : ¬ Obligations.StepTakesTheFrontCommand := by
  unfold Obligations.StepTakesTheFrontCommand
  rintro ⟨-, -, hidle⟩
  obtain ⟨t, hstep, -, -, -, -, -, -, hls⟩ := hidle poisonWaiting rfl
  have ht : poisonWaiting.idle = t := Host.Outcome.next.inj ((step_idle rfl).symm.trans hstep)
  have hpoison : t.ls.poison = [16] := congrArg Ls.poison hls
  rw [← ht, poisonWaiting_idle_poison] at hpoison
  cases hpoison

end Sys2Proof.Machine

/-! # Byte strings and the frame of a tick -/

namespace Sys2Proof.Machine

/-! ### Bytes of a number, at their place in a byte string (R11) -/

@[simp] theorem le_length (n v : Nat) : (le n v).length = n := by
  induction n generalizing v with
  | zero => rfl
  | succ n ih => simp [le, ih]

@[simp] theorem zeros_length (n : Nat) : (zeros n).length = n := List.length_replicate

@[simp] theorem fit_length (n : Nat) (b : Bytes) : (fit n b).length = n := by
  simp only [fit, List.length_take, List.length_append, zeros_length]
  omega

/-- Little-endian bytes spell the number, as far as they hold it. -/
theorem unle_le (n v : Nat) : unle (le n v) = v % 2 ^ (8 * n) := by
  induction n generalizing v with
  | zero => simp [le, unle, Nat.mod_one]
  | succ n ih =>
    rw [le, unle, ih, BitVec.toNat_ofNat, Nat.mul_succ, Nat.add_comm (8 * n), Nat.pow_add, Nat.mod_mul]

theorem sub_all {b : Bytes} {n : Nat} (h : b.length = n) : sub b 0 n = b := by
  rw [sub, List.drop_zero, List.take_of_length_le (Nat.le_of_eq h)]

theorem sub_append_left {a b : Bytes} {off len : Nat} (h : off + len ≤ a.length) : sub (a ++ b) off len = sub a off len := by
  rw [sub, sub, List.drop_append_of_le_length (by omega), List.take_append_of_le_length (by rw [List.length_drop]; omega)]

theorem sub_append_right {a b : Bytes} {off len : Nat} (h : a.length ≤ off) : sub (a ++ b) off len = sub b (off - a.length) len := by
  rw [sub, sub, List.drop_append, List.drop_of_length_le h, List.nil_append]

/-- Bytes that fit stand before the padding. -/
theorem fit_append {n : Nat} {a b : Bytes} (h : a.length ≤ n) : fit n (a ++ b) = a ++ fit (n - a.length) b := by
  rw [fit, fit, List.append_assoc, List.take_append, List.take_of_length_le h, List.length_append, Nat.sub_add_eq]

/-- The bytes of a number stand in the string where those before them end. -/
theorem rd_append_le {a : Bytes} {off n : Nat} (v : Nat) (z : Bytes) (h : a.length = off) : rd (a ++ (le n v ++ z)) off n = v % 2 ^ (8 * n) := by
  rw [rd, sub_append_right (Nat.le_of_eq h), h, Nat.sub_self, sub_append_left (by simp), sub_all (le_length n v), unle_le]

/-! ### Numbers that fit their field -/

theorem fld_lt (v lo len : Nat) : fld v lo len < 2 ^ len := Nat.mod_lt _ (Nat.two_pow_pos len)

theorem b2n_lt (b : Bool) : b2n b < 2 := by cases b <;> decide

theorem unsigned_lt (w : Nat) (i : Int) : unsigned w i < 2 ^ w := by
  have hpos : (0 : Int) < (2 ^ w : Nat) := Int.natCast_pos.mpr (Nat.two_pow_pos w)
  rw [unsigned, Int.toNat_lt (Int.emod_nonneg i (Int.ne_of_gt hpos))]
  exact Int.emod_lt_of_pos i hpos

/-- One bit placed at each number below n makes a number of n bits. -/
theorem foldl_put_lt (p : Nat → Bool) (n : Nat) : (List.range n).foldl (fun a j => a + put j (b2n (p j))) 0 < 2 ^ n := by
  induction n with
  | zero => exact Nat.one_pos
  | succ n ih =>
    have hbit : put n (b2n (p n)) ≤ 2 ^ n := by
      rw [put, Nat.shiftLeft_eq]
      exact Nat.le_trans (Nat.mul_le_mul_right _ (Nat.le_of_lt_succ (b2n_lt _))) (Nat.le_of_eq (Nat.one_mul _))
    rw [List.range_succ, List.foldl_append, List.foldl_cons, List.foldl_nil, Nat.pow_succ]
    omega

theorem LsCap.stretched_lt (c : LsCap) : c.stretched < 2 ^ 16 := foldl_put_lt _ 16

theorem LsCap.frozenBits_lt (c : LsCap) : c.frozenBits < 2 ^ 16 := by
  rw [LsCap.frozenBits]
  split
  · decide
  · exact c.frozen.isLt

/-! ### The value of a CRC fits its width (R414) -/

theorem revBits_lt (n v : Nat) : revBits n v < 2 ^ n := by
  induction n generalizing v with
  | zero => exact Nat.one_pos
  | succ n ih =>
    have htop : v % 2 * 2 ^ n ≤ 2 ^ n := Nat.le_trans (Nat.mul_le_mul_right _ (Nat.le_of_lt_succ (Nat.mod_lt v Nat.two_pos))) (Nat.le_of_eq (Nat.one_mul _))
    have hlow := ih (v / 2)
    rw [revBits, Nat.pow_succ]
    omega

section
variable {w poly : Nat} (hpoly : poly < 2 ^ w)
include hpoly

theorem crcBit_lt (reg : Nat) (b : Bool) : crcBit w poly reg b < 2 ^ w := by
  have hshift : reg * 2 % 2 ^ w < 2 ^ w := Nat.mod_lt _ (Nat.two_pow_pos w)
  rw [crcBit]
  split
  · exact Nat.xor_lt_two_pow hshift hpoly
  · exact hshift

theorem crcBits8_lt {reg : Nat} (hreg : reg < 2 ^ w) (v n : Nat) : crcBits8 w poly reg v n < 2 ^ w := by
  induction n generalizing reg with
  | zero => exact hreg
  | succ n ih => exact ih (crcBit_lt hpoly reg _)

end

theorem crcFeed_lt {c : CrcParams} (hpoly : c.poly < 2 ^ c.width) {reg : Nat} (hreg : reg < 2 ^ c.width) (b : Bytes) : crcFeed c reg b < 2 ^ c.width := by
  induction b generalizing reg with
  | nil => exact hreg
  | cons x t ih => exact ih (crcBits8_lt hpoly hreg _ 8)

theorem crcOf_lt {c : CrcParams} (hpoly : c.poly < 2 ^ c.width) (hinit : c.init < 2 ^ c.width) (hxor : c.xorOut < 2 ^ c.width) (b : Bytes) :
    crcOf c b < 2 ^ c.width := by
  refine Nat.xor_lt_two_pow ?_ hxor
  split
  · exact revBits_lt _ _
  · exact crcFeed_lt hpoly hinit b

theorem crcOf_crc32_lt (b : Bytes) : crcOf crc32 b < 2 ^ 32 := crcOf_lt (c := crc32) (by decide) (by decide) (by decide) b

/-! ### The parts of a frame (R109, R111) -/

/-- A map has at most 480 entries (R112). -/
theorem Ls.mapEntries_length_le (s : Ls) (b : Bool) : (s.mapEntries b).length ≤ 480 := by
  rw [Ls.mapEntries, List.length_map, List.length_range]
  exact Nat.min_le_right _ _

/-- The least frame has 256 bytes (R109). -/
theorem sizeBytes_ge (c : Nat) : 256 ≤ sizeBytes c := Nat.le_mul_of_pos_right 256 (Nat.two_pow_pos c)

/-- A frame up to its trailer: the fixed part, the fields and zeros (R109, R113). -/
def Ls.frameBody (s : Ls) (c : LsCap) (b : Bool) (delta : Option Int) : Bytes :=
  fit (sizeBytes (s.frameSize b) - 8) (s.frameFixed c b delta ++ s.packFields c 0x60 (s.mapEntries b))

section
variable (s : Ls) (c : LsCap) (b : Bool) (delta : Option Int)

@[simp] theorem Ls.frameBody_length : (s.frameBody c b delta).length = sizeBytes (s.frameSize b) - 8 := fit_length _ _

/-- The bytes a frame's CRC covers: all before it (R111). -/
def Ls.frameCovered : Bytes := s.frameBody c b delta ++ (le 2 (s.mapEntries b).length ++ le 2 0)

theorem Ls.frameBytes_eq_covered : s.frameBytes c b delta = s.frameCovered c b delta ++ le 4 (crcOf crc32 (s.frameCovered c b delta)) := by
  rw [Ls.frameCovered, ← List.append_assoc]
  rfl

@[simp] theorem Ls.frameCovered_length : (s.frameCovered c b delta).length = sizeBytes (s.frameSize b) - 4 := by
  have hsize := sizeBytes_ge (s.frameSize b)
  simp only [Ls.frameCovered, List.length_append, Ls.frameBody_length, le_length]
  omega

theorem Ls.frameBytes_length : (s.frameBytes c b delta).length = sizeBytes (s.frameSize b) := by
  have hsize := sizeBytes_ge (s.frameSize b)
  simp only [Ls.frameBytes_eq_covered, List.length_append, Ls.frameCovered_length, le_length]
  omega

@[simp] theorem Ls.frameFixed_length : (s.frameFixed c b delta).length = 96 := by simp [Ls.frameFixed]

/-- A frame begins with its fixed part. -/
theorem Ls.sub_frameBytes_fixed {off len : Nat} (h : off + len ≤ 96) : sub (s.frameBytes c b delta) off len = sub (s.frameFixed c b delta) off len := by
  have hsize := sizeBytes_ge (s.frameSize b)
  have hbody : s.frameBody c b delta = s.frameFixed c b delta
      ++ fit (sizeBytes (s.frameSize b) - 8 - (s.frameFixed c b delta).length) (s.packFields c 0x60 (s.mapEntries b)) :=
    fit_append (by rw [Ls.frameFixed_length]; omega)
  rw [Ls.frameBytes_eq_covered, Ls.frameCovered, hbody]
  simp only [List.append_assoc]
  exact sub_append_left (by rwa [Ls.frameFixed_length])

end

/-! ### FrameTrailer -/

/-- Settles O58: the count stands where the body ends, the CRC where the bytes it covers end. -/
theorem frameTrailer : Obligations.FrameTrailer := by
  unfold Obligations.FrameTrailer
  refine ⟨fun s c b delta => ?_, rfl⟩
  intro f size
  have hsize : 256 ≤ size := sizeBytes_ge _
  have hbody : (s.frameBody c b delta).length = size - 8 := s.frameBody_length c b delta
  have hcovered : (s.frameCovered c b delta).length = size - 4 := s.frameCovered_length c b delta
  have hf : f = s.frameCovered c b delta ++ le 4 (crcOf crc32 (s.frameCovered c b delta)) := s.frameBytes_eq_covered c b delta
  have htake : f.take (size - 4) = s.frameCovered c b delta := by rw [hf, List.take_left' hcovered]
  refine ⟨s.frameBytes_length c b delta, ?count, ?reserved, ?crc⟩
  case count =>
    have hcount := s.mapEntries_length_le b
    rw [hf, Ls.frameCovered, List.append_assoc, List.append_assoc, rd_append_le _ _ hbody]
    exact Nat.mod_eq_of_lt (by omega)
  case reserved =>
    have hbefore : (s.frameBody c b delta ++ le 2 (s.mapEntries b).length).length = size - 6 := by
      rw [List.length_append, hbody, le_length]
      omega
    rw [hf, Ls.frameCovered, ← List.append_assoc (s.frameBody c b delta), List.append_assoc]
    exact rd_append_le 0 _ hbefore
  case crc =>
    rw [htake, hf, ← List.append_nil (le 4 _), rd_append_le _ _ hcovered]
    exact Nat.mod_eq_of_lt (crcOf_crc32_lt _)

/-! ### FrameBytes -/

/-- What the fixed part holds is no wider than its fields, but for the values that the layout cuts to their width (R109). -/
theorem Ls.frameFixed_fits (s : Ls) (c : LsCap) (b : Bool) (delta : Option Int) :
    s.die.toNat < 2 ^ 32 ∧ fld (s.reg (0x204 + b2n b)) 0 16 < 2 ^ 16 ∧ fld (s.reg (0x204 + b2n b)) 16 2 % 2 ^ 8 = s.frameSize b ∧ b2n b < 2 ^ 8
      ∧ unsigned 32 (if c.lag.2.2 then c.lag.1 else 0) < 2 ^ 32 ∧ unsigned 32 (delta.getD 0) < 2 ^ 32
      ∧ c.frozenBits % 2 ^ 16 = (if c.sawReset then 2 ^ 16 - 1 else c.frozen.toNat) ∧ c.stretched < 2 ^ 16 ∧ c.stall.toNat < 2 ^ 256 := by
  have hsize : s.frameSize b < 2 ^ 8 := Nat.lt_trans (fld_lt _ 16 2) (by decide)
  have hbank : b2n b < 2 ^ 8 := Nat.lt_trans (b2n_lt b) (by decide)
  exact ⟨Nat.lt_trans s.die.isLt (by decide), fld_lt _ _ _, Nat.mod_eq_of_lt hsize, hbank, unsigned_lt _ _, unsigned_lt _ _,
    Nat.mod_eq_of_lt c.frozenBits_lt, c.stretched_lt, c.stall.isLt⟩

/-- Settles O39: each field lies in the fixed part, where the fields before it end, and is wide enough for its value. -/
theorem frameBytes : Obligations.FrameBytes := by
  unfold Obligations.FrameBytes
  intro s c b delta f size
  have hfixed : ∀ off len, off + len ≤ 96 → sub f off len = sub (s.frameFixed c b delta) off len :=
    fun _ _ h => s.sub_frameBytes_fixed c b delta h
  have hfits := s.frameFixed_fits c b delta
  refine ⟨s.frameBytes_length c b delta, ?_⟩
  simpa [rd, hfixed, Ls.frameFixed, sub_append_left, sub_append_right, sub_all, unle_le] using hfits

end Sys2Proof.Machine

/-! # The root's references and the timing pins -/

namespace Sys2Proof.Machine

/-! ### What putting a clock in place leaves alone (R168, R193, R194) -/

/-- The Junction without what putting a clock in place changes: the clock, the trigger outputs and PPS_OUT. -/
def Junction.offClock (j : Junction) : Junction := { j with clk := Clock.init, trig := [], pps := ⟨0, 0, none⟩ }

@[simp] theorem Junction.setClk_offClock (j : Junction) (c : Clock) : (j.setClk c).offClock = j.offClock := by
  unfold Junction.setClk
  split <;> rfl

@[simp] theorem Junction.reselect_offClock (j : Junction) : j.reselect.offClock = j.offClock := by
  refine Eq.trans ?_ (j.setClk_offClock (j.clk.reselect j.cands j.synceRate))
  unfold Junction.reselect
  dsimp only
  split <;> rfl

/-- A clock in HOLDOVER squelches no output. -/
theorem Junction.setClk_holdover (j : Junction) {c : Clock} (h : c.st = .holdover) : j.setClk c = { j with clk := c } := by
  simp [Junction.setClk, Clock.untimed, h]

/-- Where two Junctions differ in the reference and in what putting a clock in place changes, they agree in all else. -/
theorem Junction.of_offClock {i j : Junction} {r : JnRef} (h : i.offClock = ({ j with ref := r } : Junction).offClock) :
    i.ref = r ∧ ({ i with ref := j.ref, clk := j.clk, trig := j.trig, pps := j.pps } : Junction) = j :=
  ⟨congrArg Junction.ref h, congrArg (fun k : Junction => { k with ref := j.ref, clk := j.clk, trig := j.trig, pps := j.pps }) h⟩

/-- Where two Junctions differ in the reference, the clock and what records and alarms change, they agree in all else. -/
theorem Junction.of_quiet {i j : Junction} {r : JnRef} {c : Clock} (h : i.quiet = ({ j with ref := r, clk := c } : Junction).quiet) :
    i.ref = r ∧ i.clk = c ∧ ({ i.quiet with ref := j.ref, clk := j.clk } : Junction) = j.quiet :=
  ⟨congrArg Junction.ref h, congrArg Junction.clk h, congrArg (fun k : Junction => { k with ref := j.ref, clk := j.clk }) h⟩

/-! ### A measurement against the external reference (R176, R177, R179) -/

/-- The Junction with a measurement noted: the reference is valid now, and its first measurement is over. -/
def Junction.measured (j : Junction) : Junction := { j with ref := { j.ref with lastValid := some j.clk.up, newGm := false } }

/-- The Junction with its reference parked: a root that had followed it is in HOLDOVER (R179). -/
def Junction.refParked (j : Junction) : Junction :=
  let k : Junction := { j with ref := { j.ref with parked := true }, clk := j.clk.enterHoldover j.synceRate }
  { k with clk := { k.clk with rootHoldover := k.timeRoot } }

/-- An offset of more than 1 ms either way (R179). -/
def beyondMs (offset : Int) : Prop := 1000000 * 65536 < offset ∨ offset < -65536000000

/-- The units of 1 ms, as the model writes them and as an integer. -/
theorem msUnits_eq : (1000000 * 65536 : Rat) = ((65536000000 : Int) : Rat) := (Rat.intCast_mul 1000000 65536).symm

theorem beyondMs_iff (offset : Int) :
    beyondMs offset ↔ (decide ((1000000 * 65536 : Rat) < (offset : Rat)) || decide ((offset : Rat) < -(1000000 * 65536 : Rat))) = true := by
  rw [Bool.or_eq_true, decide_eq_true_iff, decide_eq_true_iff, msUnits_eq, ← Rat.intCast_neg, Rat.intCast_lt_intCast, Rat.intCast_lt_intCast]
  exact Iff.rfl

section
variable (j : Junction) (offset : Int) (err : Nat)

/-- The first measurement of a new reference beyond 1 ms parks it: a LOCKED root enters HOLDOVER, with an alarm (R179). -/
theorem Junction.extMeasure_parks (hnew : j.ref.newGm = true) (htick : j.clk.tick.isSome = true) (hbig : beyondMs offset) (hst : j.clk.st = .locked) :
    j.extMeasure offset err = j.measured.refParked.bareAlarm 1 j.entity [0] := by
  have hfresh : (j.ref.newGm && j.clk.tick.isSome) = true := by rw [hnew, htick]; rfl
  unfold Junction.extMeasure
  simp only [hfresh, (beyondMs_iff offset).mp hbig, Bool.and_self, if_true, hst]
  rw [Junction.setClk_holdover _ rfl]
  rfl

/-- Any other measurement is followed or left aside: it changes the clock and the outputs that depend on it. -/
theorem Junction.extMeasure_follows (h : j.ref.newGm = false ∨ j.clk.tick = none ∨ ¬beyondMs offset) :
    (j.extMeasure offset err).offClock = j.measured.offClock := by
  have hpark : ((j.ref.newGm && j.clk.tick.isSome) && (decide ((1000000 * 65536 : Rat) < (offset : Rat)) || decide ((offset : Rat) < -(1000000 * 65536 : Rat)))) = false := by
    obtain hnew | htick | hsmall := h
    · rw [hnew]; rfl
    · rw [htick, Option.isSome_none, Bool.and_false, Bool.false_and]
    · rw [Bool.eq_false_iff.mpr (mt (beyondMs_iff offset).mpr hsmall), Bool.and_false]
  unfold Junction.extMeasure
  simp only [hpark, Bool.false_eq_true, if_false]
  split
  · exact Junction.reselect_offClock _
  · exact (Junction.setClk_offClock _ _).trans (Junction.reselect_offClock _)

end

/-! ### PPS_IN (R177) -/

/-- The instant at which an edge on PPS_IN now is captured. -/
def Junction.ppsInstant (j : Junction) : Nat := capture ((j.clk.time : Int) - j.ref.ppsDelay * 1024).toNat

/-- An instant less than 20 ns after the last edge captured (R192). -/
def nearLast (last : Option Nat) (t : Nat) : Prop := ∃ u, last = some u ∧ t < u + 20 * uNs

/-- The Junction with an edge on PPS_IN captured, where second t was awaited. -/
def Junction.ppsCaptured (j : Junction) (t : Nat) : Junction := { j with ref := { j.ref with ppsNext := some (t + uSec), ppsLast := some j.ppsInstant } }

/-- The reference once that edge has been measured as valid. -/
def Junction.ppsMeasured (j : Junction) (t : Nat) : JnRef := (j.ppsCaptured t).measured.ref

theorem Junction.ppsIn_unused (j : Junction) (err : Nat) (h : j.ref.ref ≠ some 1 ∨ j.ref.ppsNext = none) : j.ppsIn err = j := by
  unfold Junction.ppsIn
  split
  next href hnext => exact absurd (h.resolve_left (not_not_intro href)) (by rw [hnext]; exact Option.some_ne_none _)
  next => rfl

section
variable {j : Junction} {t : Nat} (err : Nat) (href : j.ref.ref = some 1) (hnext : j.ref.ppsNext = some t)
include href hnext

theorem Junction.ppsIn_near (h : nearLast j.ref.ppsLast j.ppsInstant) : j.ppsIn err = j := by
  obtain ⟨u, hlast, hu⟩ := h
  unfold Junction.ppsInstant at hu
  unfold Junction.ppsIn
  rw [href, hnext, hlast]
  simp only [hu, decide_true, if_true]

theorem Junction.ppsIn_apart (h : ¬nearLast j.ref.ppsLast j.ppsInstant) :
    j.ppsIn err = (j.ppsCaptured t).extMeasure (((j.ppsInstant : Int) - t : Int) : Rat) err := by
  unfold Junction.ppsIn Junction.ppsCaptured
  rw [href, hnext]
  cases hlast : j.ref.ppsLast with
  | none => simp only [Bool.false_eq_true, if_false, Junction.ppsInstant]
  | some u =>
    have hu : ¬j.ppsInstant < u + 20 * uNs := fun hu => h ⟨u, hlast, hu⟩
    unfold Junction.ppsInstant at hu
    simp only [hu, decide_false, Bool.false_eq_true, if_false, Junction.ppsInstant]

/-- The first edge of a new reference beyond 1 ms parks the reference. -/
theorem Junction.ppsIn_parks (h : ¬nearLast j.ref.ppsLast j.ppsInstant) (hnew : j.ref.newGm = true) (htick : j.clk.tick.isSome = true)
    (hbig : beyondMs ((j.ppsInstant : Int) - t)) (hst : j.clk.st = .locked) :
    ∃ c : Clock, c.st = .holdover ∧ c.source = 0 ∧ c.time = j.clk.time
      ∧ (j.ppsIn err).quiet = ({ j with ref := { j.ppsMeasured t with parked := true }, clk := c } : Junction).quiet := by
  rw [Junction.ppsIn_apart err href hnext h, Junction.extMeasure_parks (j.ppsCaptured t) _ err hnew htick hbig hst]
  exact ⟨(j.ppsCaptured t).measured.refParked.clk, rfl, rfl, rfl, Junction.bareAlarm_quiet _ _ _ _⟩

/-- Any other edge moves the next one a second on and is measured. -/
theorem Junction.ppsIn_follows (h : ¬nearLast j.ref.ppsLast j.ppsInstant)
    (hsmall : j.ref.newGm = false ∨ j.clk.tick = none ∨ ¬beyondMs ((j.ppsInstant : Int) - t)) :
    (j.ppsIn err).offClock = ({ j with ref := j.ppsMeasured t } : Junction).offClock := by
  rw [Junction.ppsIn_apart err href hnext h]
  exact Junction.extMeasure_follows (j.ppsCaptured t) _ err hsmall

end

/-! ### PTP messages at a root (R176) -/

theorem Junction.ptp_ignored (j : Junction) (m : PtpMsg) (err : Nat) (h : j.role.level ≠ 3 ∨ j.ref.ref ≠ some 0 ∨ m.domain ≠ j.ref.domain) :
    j.ptp m err = j := by
  unfold Junction.ptp
  rw [if_pos (by simpa [or_assoc] using h)]

/-- While no delay is known, the difference of a Sync is kept and not yet measured. -/
theorem Junction.syncDone_noDelay (j : Junction) (t1 : Int) (t2 err : Nat) (h : j.ref.delays = []) :
    j.syncDone t1 t2 err = { j with ref := { j.ref with sync := none, ms := some ((t2 : Int) - t1) } } := by
  simp [Junction.syncDone, h]

/-- The Junction with the difference of an answered Delay_Req among the last 8 delays. -/
def Junction.delayTaken (j : Junction) (seq : Nat) (back : Int) : Junction :=
  { j with ref := { j.ref with delayReq := (seq, none), delays := ((back : Rat) / 2 :: j.ref.delays).take 8 } }

section
variable {j : Junction} {m : PtpMsg} (err : Nat) (hlevel : j.role.level = 3) (href : j.ref.ref = some 0) (hdomain : m.domain = j.ref.domain)
  (hheard : j.dropMasters = j)
include hlevel href hdomain hheard

theorem Junction.ptp_announce (hkind : m.kind = 0xB) : j.ptp m err = j.announce m.master := by
  simp [Junction.ptp, hlevel, href, hdomain, hheard, hkind]

theorem Junction.ptp_sync (hkind : m.kind = 0) :
    j.ptp m err =
      if j.ref.gm = some m.master.identity then
        if m.twoStep = true then { j with ref := { j.ref with sync := some (m.seq, capture j.clk.time, m.correction) } }
        else j.syncDone (m.origin + m.correction) (capture j.clk.time) err
      else j := by
  by_cases hgm : j.ref.gm = some m.master.identity <;> simp [Junction.ptp, hlevel, href, hdomain, hheard, hkind, hgm]

theorem Junction.ptp_followUp {t2 : Nat} {cf : Int} (hkind : m.kind = 8) (hgm : j.ref.gm = some m.master.identity)
    (hsync : j.ref.sync = some (m.seq, t2, cf)) : j.ptp m err = j.syncDone (m.origin + cf + m.correction) t2 err := by
  simp [Junction.ptp, hlevel, href, hdomain, hheard, hkind, hgm, hsync]

theorem Junction.ptp_delayResp {t3 : Nat} {ms : Int} (hkind : m.kind = 9) (hgm : j.ref.gm = some m.master.identity) (hus : m.toUs = true)
    (hreq : j.ref.delayReq = (m.seq, some t3)) (hms : j.ref.ms = some ms) :
    j.ptp m err = j.delayTaken m.seq (ms + ((m.origin : Int) - t3 - m.correction)) := by
  simp [Junction.ptp, hlevel, href, hdomain, hheard, hkind, hgm, hus, hreq, hms, Junction.delayTaken]

end

/-- The first master heard becomes the grandmaster. -/
theorem Junction.setMasters_first (j : Junction) (m : Master) (hgm : j.ref.gm = none) :
    j.setMasters [m] = { j with ref := { j.ref with
      masters := [m], gm := some m.identity, sync := none, ms := none, delays := [], delayReq := (j.ref.delayReq.1, none) } } := by
  simp [Junction.setMasters, bestMaster, hgm]

/-- Without a valid offset of the grandmaster, the UTC offset and leap second that software configured hold. -/
theorem Junction.utcUpdate_configured (j : Junction) (hown : j.sourceCode j.clk.source ≤ 1)
    (hnone : j.ref.gm.bind (fun g => j.ref.masters.find? (fun m => m.identity == g && m.utcValid)) = none) :
    j.utcUpdate = { j with clk := { j.clk with utcOffset := j.ref.utcOffset, leap := j.ref.leap, leapAt := j.ref.leapAt } } := by
  unfold Junction.utcUpdate
  rw [if_neg (Nat.not_lt.mpr hown), hnone]

/-- The first Announce heard, of a master without a valid UTC offset. -/
theorem Junction.announce_first (j : Junction) (m : Master) (hnone : j.ref.masters = []) (hgm : j.ref.gm = none) (hutc : m.utcValid = false)
    (hown : j.sourceCode j.clk.source ≤ 1) :
    j.announce m = { j with
      clk := { j.clk with utcOffset := j.ref.utcOffset, leap := j.ref.leap, leapAt := j.ref.leapAt }
      ref := { j.ref with masters := [{ m with seenAt := j.clk.up }], gm := some m.identity, sync := none, ms := none, delays := [],
                          delayReq := (j.ref.delayReq.1, none) } } := by
  have hset := j.setMasters_first { m with seenAt := j.clk.up } hgm
  unfold Junction.announce
  simp only [hnone, List.filter_nil, List.length_nil, List.nil_append, Nat.zero_lt_succ, if_true, hset]
  exact Junction.utcUpdate_configured _ hown (by simp [hutc])

/-! ### Delay_Req and SyncE (R176, R178, R508) -/

/-- A root that follows a PTP master over Ethernet 0 asks for its delay. -/
def Junction.asksDelay (j : Junction) : Prop := j.role.level = 3 ∧ j.ref.ref = some 0 ∧ j.ref.gm.isSome = true ∧ j.exp.e0.up = true

theorem Junction.delayReqDue_sends {j : Junction} (h : j.asksDelay) :
    j.delayReqDue = (let q := (j.ref.delayReq.1 + 1) % 65536
      { j with ref := { j.ref with delayReq := (q, some (capture j.clk.time)) },
               exp := { j.exp with e0 := { j.exp.e0 with q0 := j.exp.e0.q0 ++ [le 1 1 ++ le 1 2 ++ le 2 44 ++ le 1 j.ref.domain ++ zeros 25 ++ le 2 q ++ zeros 12] } } }) := by
  unfold Junction.delayReqDue
  exact if_pos (by simpa [Junction.asksDelay, and_assoc] using h)

theorem Junction.delayReqDue_idle {j : Junction} (h : ¬j.asksDelay) : j.delayReqDue = j := by
  unfold Junction.delayReqDue
  exact if_neg (by simpa [Junction.asksDelay, and_assoc] using h)

theorem Junction.synceOn_eq (j : Junction) (ppt : Int) :
    j.synceOn ppt = { j with
      ref := { j.ref with synce := some ppt }
      clk := if j.role.level = 3 ∧ j.clk.st = .holdover then { j.clk with rate := (ppt : Rat) / 1000000000000 } else j.clk } := by
  have hrate : ({ j with ref := { j.ref with synce := some ppt } } : Junction).synceRate
      = if j.role.level = 3 then some ((ppt : Rat) / 1000000000000) else none := rfl
  unfold Junction.synceOn
  by_cases hlevel : j.role.level = 3
  · simp only [hrate, hlevel, if_true, true_and]
    split <;> rfl
  · simp only [hrate, hlevel, if_false, false_and]

theorem Junction.synceOff_eq (j : Junction) :
    j.synceOff = { j with
      ref := { j.ref with synce := none }
      clk := if j.ref.synce.isSome = true ∧ j.role.level = 3 ∧ j.clk.st = .holdover then { j.clk with rate := j.clk.lastRate } else j.clk } := by
  have hwas : j.synceRate.isSome = true ↔ j.ref.synce.isSome = true ∧ j.role.level = 3 := by
    by_cases hlevel : j.role.level = 3 <;> simp [Junction.synceRate, hlevel]
  unfold Junction.synceOff
  simp only [Bool.and_eq_true, hwas, decide_eq_true_iff, and_assoc]
  split <;> rfl

/-! ### Timestamp inputs (R192) -/

/-- The instant at which an edge on input x now is stamped. -/
def Junction.tsInstant (j : Junction) (x : TsIn) : Nat := ((j.clk.time : Int) - x.delay * 1024).toNat

/-- An edge on input x now is stamped within 1 us of a step of the clock. -/
def Junction.tsStepped (j : Junction) (x : TsIn) : Bool :=
  match j.clk.steppedAt with
  | some u => decide (u ≤ j.tsInstant x) && decide (j.tsInstant x ≤ u + 1000 * uNs)
  | none => false

/-- The record of an edge on input x, number k: its time, the input with its direction and the marks of the clock, and the edges dropped since the last. -/
def Junction.tsRecord (j : Junction) (k : Nat) (falling : Bool) (x : TsIn) : Bytes :=
  le 12 (packTime (capture (j.tsInstant x))) ++ le 1 (k + put 3 (b2n falling) + put 4 (b2n j.clk.untimed) + put 5 (b2n (j.tsStepped x))) ++ le 1 0 ++ le 2 x.dropped

section
variable {j : Junction} {k : Nat} {falling wide : Bool} {x : TsIn} (hx : j.tsIn[k]? = some x)
include hx

theorem Junction.tsEdge_ignored (h : wide = false ∨ bit x.edges (b2n falling) = false) : j.tsEdge k falling wide = j := by
  unfold Junction.tsEdge
  rw [hx]
  exact if_pos (by simpa using h)

section
variable (hwide : wide = true) (hedge : bit x.edges (b2n falling) = true)
include hwide hedge

theorem Junction.tsEdge_near (hnear : nearLast x.last (j.tsInstant x)) :
    j.tsEdge k falling wide = { j with tsIn := j.tsIn.set k { x with dropped := sat 16 (x.dropped + 1) } } := by
  obtain ⟨u, hlast, hu⟩ := hnear
  unfold Junction.tsInstant at hu
  unfold Junction.tsEdge
  simp only [hx, hwide, hedge, hlast, hu, Bool.not_true, Bool.or_self, Bool.false_eq_true, if_false, decide_true, Bool.true_or, if_true]

/-- An edge away from the last one is stamped while the queue has room, else dropped and counted. -/
theorem Junction.tsEdge_apart (hapart : ¬nearLast x.last (j.tsInstant x)) :
    j.tsEdge k falling wide =
      if 64 ≤ x.queue.length then { j with tsIn := j.tsIn.set k { x with dropped := sat 16 (x.dropped + 1), last := some (j.tsInstant x) } }
      else
        let i : Junction := { j with tsIn := j.tsIn.set k { x with queue := x.queue ++ [j.tsRecord k falling x], dropped := 0, last := some (j.tsInstant x) } }
        i.exportTo x.owner 3 i.tickNow i.exp.nextMsg (j.tsRecord k falling x) := by
  have hlast : ∀ u, x.last = some u → ¬((j.clk.time : Int) - x.delay * 1024).toNat < u + 20 * uNs := fun u hu hlt => hapart ⟨u, hu, hlt⟩
  unfold Junction.tsEdge Junction.tsRecord Junction.tsStepped Junction.tsInstant
  simp only [hx, hwide, hedge, Bool.not_true, Bool.or_self, Bool.false_eq_true, if_false]
  cases hu : x.last with
  | none => cases j.clk.steppedAt <;> simp only [Bool.false_or, decide_eq_true_iff, Bool.false_eq_true, if_false]
  | some u => cases j.clk.steppedAt <;> simp only [hlast u hu, decide_false, Bool.false_or, decide_eq_true_iff, Bool.false_eq_true, if_false]

/-- A stamped edge enters the queue of its input, and the records of the contexts that see it; nothing else changes. -/
theorem Junction.tsEdge_stamped (hapart : ¬nearLast x.last (j.tsInstant x)) (hroom : x.queue.length < 64) :
    (j.tsEdge k falling wide).unlogged = { j.unlogged with
      tsIn := j.tsIn.set k { x with queue := x.queue ++ [j.tsRecord k falling x], dropped := 0, last := some (j.tsInstant x) } } := by
  rw [Junction.tsEdge_apart hx hwide hedge hapart, if_neg (Nat.not_le.mpr hroom)]
  exact Junction.exportTo_unlogged _ _ _ _ _ _

end

end

/-! ### Trigger outputs and PPS_OUT (R193, R194) -/

theorem Trig.pulseEnd_nothingLatched (x : Trig) (now : Nat) (h : x.pending = none) : x.pulseEnd now = { x with high := none } := by
  simp [Trig.pulseEnd, h]

section
variable {j : Junction} {k : Nat} {x : Trig} (hx : j.trig[k]? = some x)
include hx

theorem Junction.trigEdge_falls {t : Nat} (hhigh : x.high = some t) :
    j.trigEdge k = (let c := j.clk.reach ((t + x.cfg.width * uNs : Nat) : Int)
      { j with clk := c, trig := j.trig.set k (x.pulseEnd c.time) }) := by
  unfold Junction.trigEdge
  simp only [hx, hhigh]

theorem Junction.trigEdge_rises {t : Nat} (hlow : x.high = none) (hnext : x.next = some t) :
    j.trigEdge k = (let c := j.clk.reach (t : Int)
      { j with clk := c, trig := j.trig.set k { x with
        next := if x.cfg.mode = 2 then some (t + x.cfg.period * uNs) else none
        high := if x.cfg.squelch && c.untimed then none else some (max t c.time)
        late := x.late + b2n (decide (t < j.clk.time)) } }) := by
  unfold Junction.trigEdge
  simp only [hx, hlow, hnext]

theorem Junction.trigEdge_idle (hlow : x.high = none) (hnext : x.next = none) : j.trigEdge k = j := by
  unfold Junction.trigEdge
  simp only [hx, hlow, hnext]

end

theorem Junction.ppsOut_falls (j : Junction) {t : Nat} (hhigh : j.pps.high = some t) :
    j.ppsOut = { j with clk := j.clk.reach ((t + j.pps.width * uNs : Nat) : Int), pps := { j.pps with high := none } } := by
  unfold Junction.ppsOut
  simp only [hhigh]

theorem Junction.ppsOut_untimed (j : Junction) (hlow : j.pps.high = none) (h : j.clk.untimed = true) : j.ppsOut = j := by
  unfold Junction.ppsOut
  simp only [hlow, h, if_true]

theorem Junction.ppsOut_rises (j : Junction) (hlow : j.pps.high = none) (h : j.clk.untimed = false) :
    j.ppsOut = (let t := cdiv j.clk.time uSec * uSec
      { j with clk := j.clk.reach (t : Int), pps := { j.pps with high := some t } }) := by
  unfold Junction.ppsOut
  simp only [hlow, h, Bool.false_eq_true, if_false]

/-! ### ReferencesAndPins -/

section
variable {x : Res} {s : State} {k : Junction}

/-- A command of the Junction out of cold reset. -/
theorem next_of_onJn {f : Junction → Junction} (hx : x = onJn f s) (hs : s.jn.boot.porst = false) (h : f s.jn = k) : x = .next { s with jn := k } := by
  rw [hx, onJn_next f s hs, h]

/-- A command of the Junction that takes a free value and makes the same of every value (log 2). -/
theorem next_of_takeWord {f : Word → Junction → Junction} (hx : x = takeWord (fun w => onJn (f w)) s) (hs : s.jn.boot.porst = false) (h : ∀ w, f w s.jn = k) :
    x = .next { s with jn := k, free := s.free + 1 } :=
  hx.trans (next_of_onJn (s := { s with free := s.free + 1 }) rfl hs (h _))

/-- A command of the Junction that takes a free value and leaves the Junction alone, in cold reset too. -/
theorem next_of_takeWord_same {f : Word → Junction → Junction} (hx : x = takeWord (fun w => onJn (f w)) s) (h : ∀ w, f w s.jn = s.jn) :
    x = .next { s with free := s.free + 1 } := by
  rw [hx, takeWord, onJn, h, ite_self]

end

/-- Settles O29, input by input and output by output, from what each does to the Junction. -/
theorem referencesAndPins : Obligations.ReferencesAndPins := by
  unfold Obligations.ReferencesAndPins
  refine ⟨?ptp, ?ppsUnused, ?ppsIn, ?synceOn, ?synceOff, ?delayReq, ?tsIn, ?trig, ?ppsOut⟩
  case ptp =>
    intro s m hs r c f
    have hptp {k : Junction} (h : ∀ err, s.jn.ptp m err = k) : exec (.ptpMessageReceived m) s = .next { f with jn := k } :=
      next_of_takeWord (exec_ptpMessageReceived m s) hs fun _ => h _
    refine ⟨fun h => hptp fun err => s.jn.ptp_ignored m err h, fun hlevel href hdomain hheard => ⟨?twoStep, ?oneStep, ?followUp, ?otherMaster, ?delayResp, ?announce⟩⟩
    case twoStep =>
      intro hkind hgm htwo
      exact hptp fun err => (Junction.ptp_sync err hlevel href hdomain hheard hkind).trans ((if_pos hgm).trans (if_pos htwo))
    case oneStep =>
      intro hkind hgm htwo hdelays
      exact hptp fun err =>
        (Junction.ptp_sync err hlevel href hdomain hheard hkind).trans
          ((if_pos hgm).trans ((if_neg (ne_true_of_eq_false htwo)).trans (Junction.syncDone_noDelay _ _ _ _ hdelays)))
    case followUp =>
      intro t2 cf hkind hgm hsync hdelays
      exact hptp fun err =>
        (Junction.ptp_followUp err hlevel href hdomain hheard hkind hgm hsync).trans (Junction.syncDone_noDelay _ _ _ _ hdelays)
    case otherMaster =>
      intro hkind hgm
      exact hptp fun err => (Junction.ptp_sync err hlevel href hdomain hheard hkind).trans (if_neg hgm)
    case delayResp =>
      intro t3 ms hkind hgm hus hreq hms
      exact hptp fun err => Junction.ptp_delayResp err hlevel href hdomain hheard hkind hgm hus hreq hms
    case announce =>
      intro hkind hnone hgm hutc hown
      exact hptp fun err =>
        (Junction.ptp_announce err hlevel href hdomain hheard hkind).trans (Junction.announce_first _ _ hnone hgm hutc hown)
  case ppsUnused =>
    intro s h
    exact next_of_takeWord_same (exec_ppsInEdge s) fun _ => s.jn.ppsIn_unused _ h
  case ppsIn =>
    intro s t hs href hnext c at_ off close big r
    let err := (Config.freeValue s.free).toNat % 2 ^ 32
    let j := s.jn.ppsIn err
    have hexec : exec .ppsInEdge s = .next { s with jn := j, free := s.free + 1 } :=
      (exec_ppsInEdge s).trans (onJn_next (·.ppsIn err) { s with free := s.free + 1 } hs)
    refine ⟨fun hclose => ?_, fun hapart hnew htick hbig hst => ⟨j, hexec, ?_⟩, fun hapart hsmall => ⟨j, hexec, ?_⟩⟩
    · exact next_of_takeWord_same (exec_ppsInEdge s) fun _ => Junction.ppsIn_near _ href hnext hclose
    · obtain ⟨k, hholdover, hsource, htime, hquiet⟩ := Junction.ppsIn_parks err href hnext hapart hnew htick hbig hst
      obtain ⟨hr, hclk, hrest⟩ := Junction.of_quiet hquiet
      rw [hclk]
      exact ⟨hr, hholdover, hsource, htime, hrest⟩
    · exact Junction.of_offClock (Junction.ppsIn_follows err href hnext hapart hsmall)
  case synceOn =>
    intro s ppt hs
    exact next_of_onJn (exec_synceQualified ppt s) hs (s.jn.synceOn_eq ppt)
  case synceOff =>
    intro s hs
    exact next_of_onJn (exec_synceDisqualified s) hs s.jn.synceOff_eq
  case delayReq =>
    intro s hs q m due
    exact ⟨fun h => next_of_onJn (exec_ptpDelayReqDue s) hs (Junction.delayReqDue_sends h), fun h => next_of_onJn (exec_ptpDelayReqDue s) hs (Junction.delayReqDue_idle h)⟩
  case tsIn =>
    intro s k falling wide x hs hx t close stepped r
    refine ⟨fun h => next_of_onJn (exec_tsInEdge k falling wide s) hs (Junction.tsEdge_ignored hx h), ?near, ?full, ?stamped⟩
    case near => exact fun hwide hedge hnear => next_of_onJn (exec_tsInEdge k falling wide s) hs (Junction.tsEdge_near hx hwide hedge hnear)
    case full => exact fun hwide hedge hapart hfull => next_of_onJn (exec_tsInEdge k falling wide s) hs ((Junction.tsEdge_apart hx hwide hedge hapart).trans (if_pos hfull))
    case stamped =>
      intro hwide hedge hapart hroom
      have hr : r = s.jn.tsRecord k falling x := rfl
      have hj := Junction.tsEdge_stamped hx hwide hedge hapart hroom
      rw [hr]
      exact ⟨_, next_of_onJn (exec_tsInEdge k falling wide s) hs rfl, congrArg Junction.tsIn hj, congrArg (fun i : Junction => { i with tsIn := s.jn.tsIn }) hj⟩
  case trig =>
    intro s k x hs hx
    refine ⟨fun t hhigh => ⟨next_of_onJn (exec_trigOutEdge k s) hs (Junction.trigEdge_falls hx hhigh), Trig.pulseEnd_nothingLatched x _⟩, ?_, ?_⟩
    · exact fun t hlow hnext => next_of_onJn (exec_trigOutEdge k s) hs (Junction.trigEdge_rises hx hlow hnext)
    · exact fun hlow hnext => next_of_onJn (exec_trigOutEdge k s) hs (Junction.trigEdge_idle hx hlow hnext)
  case ppsOut =>
    intro s hs
    exact ⟨fun t hhigh => next_of_onJn (exec_ppsOutEdge s) hs (s.jn.ppsOut_falls hhigh), fun hlow h => next_of_onJn (exec_ppsOutEdge s) hs (s.jn.ppsOut_untimed hlow h),
      fun hlow h => next_of_onJn (exec_ppsOutEdge s) hs (s.jn.ppsOut_rises hlow h)⟩

end Sys2Proof.Machine

/-! # What a new state of a link end changes -/

namespace Sys2Proof.Machine

/-! ### What a link that leaves service changes at the Junction (R222, R430, R446) -/

/-- What Junction `k` still has of `j` after port p has left service: that port, the state of every other port, the transactions but for some
that ended, the logs but for the commits written, and all that no link carries. -/
structure Junction.LinkEffects (p : Nat) (j k : Junction) : Prop where
  port_eq : k.port p = j.port p
  st_eq : ∀ d, (k.port d).st = (j.port d).st
  txns_sub : ∀ t ∈ k.txns, t ∈ j.txns
  logs_eq : k.logs.map (fun g => { g with commitSent := none }) = j.logs.map (fun g => { g with commitSent := none })
  rest_eq : ({ k with ports := [], txns := [], exp := Exp.init, ctxs := [], subtree := [], logs := [] } : Junction)
    = { j with ports := [], txns := [], exp := Exp.init, ctxs := [], subtree := [], logs := [] }

namespace Junction.LinkEffects

variable {p : Nat} {i j k : Junction}

theorem refl (p : Nat) (j : Junction) : j.LinkEffects p j := ⟨rfl, fun _ => rfl, fun _ h => h, rfl, rfl⟩

theorem trans (hij : i.LinkEffects p j) (hjk : j.LinkEffects p k) : i.LinkEffects p k where
  port_eq := hjk.port_eq.trans hij.port_eq
  st_eq d := (hjk.st_eq d).trans (hij.st_eq d)
  txns_sub t h := hij.txns_sub t (hjk.txns_sub t h)
  logs_eq := hjk.logs_eq.trans hij.logs_eq
  rest_eq := hjk.rest_eq.trans hij.rest_eq

theorem ite {c : Prop} [Decidable c] (hj : c → i.LinkEffects p j) (hk : ¬c → i.LinkEffects p k) : i.LinkEffects p (if c then j else k) := by
  split
  · exact hj ‹_›
  · exact hk ‹_›

theorem foldl {β : Type} {f : Junction → β → Junction} {l : List β} (h : ∀ b ∈ l, ∀ j : Junction, j.LinkEffects p (f j b)) (j : Junction) :
    j.LinkEffects p (l.foldl f j) := by
  induction l generalizing j with
  | nil => exact refl p j
  | cons b t ih =>
    exact (h b List.mem_cons_self j).trans (ih (fun c hc => h c (List.mem_cons_of_mem b hc)) (f j b))

end Junction.LinkEffects

theorem Junction.setPort_port_ne (j : Junction) {p d : Nat} (x : Port) (h : d ≠ p) : (j.setPort p x).port d = j.port d := by
  simp [Junction.setPort, Junction.port, List.getD_eq_getElem?_getD, List.getElem?_set_ne (Ne.symm h)]

theorem Junction.setPort_port_same (j : Junction) {p : Nat} (x : Port) (h : p < j.ports.length) : (j.setPort p x).port p = x := by
  simp [Junction.setPort, Junction.port, List.getD_eq_getElem?_getD, h]

theorem Junction.setPort_out (j : Junction) {p : Nat} (x : Port) (h : j.ports.length ≤ p) : j.setPort p x = j := by
  simp [Junction.setPort, List.set_eq_of_length_le h]

theorem Junction.setPort_port_self (j : Junction) {p : Nat} (h : p < j.ports.length) : j.setPort p (j.port p) = j := by
  simp [Junction.setPort, Junction.port, List.getD_eq_getElem?_getD, h]

/-- A port that takes a new value has its state; every other keeps its own. -/
theorem Junction.setPort_st (j : Junction) {p : Nat} (x : Port) (h : p < j.ports.length) (d : Nat) :
    ((j.setPort p x).port d).st = if d = p then x.st else (j.port d).st := by
  split
  · next hd => rw [hd, j.setPort_port_same x h]
  · next hd => rw [j.setPort_port_ne x hd]

/-- A message is queued on its own port alone. -/
theorem Junction.send_linkEffects (j : Junction) {p q : Nat} (h : p ≠ q) (vc subch tag : Nat) (b : Bytes) : j.LinkEffects p (j.send q vc subch tag b) := by
  unfold Junction.send
  refine .ite (fun _ => ⟨j.setPort_port_ne _ h, fun d => ?_, fun _ ht => ht, rfl, rfl⟩) (fun _ => .refl p j)
  unfold Junction.onPort
  obtain hq | hq := Nat.lt_or_ge q j.ports.length
  · rw [j.setPort_st _ hq]
    split
    · next hd => rw [hd]
    · rfl
  · rw [j.setPort_out _ hq]

/-- An advertisement leaves on the uplinks alone. -/
theorem Junction.advertise_linkEffects (j : Junction) {p : Nat} (h : p < 64) : j.LinkEffects p j.advertise := by
  unfold Junction.advertise Junction.uplinks
  refine .foldl (fun q hq k => k.send_linkEffects ?_ 3 1 0 _) j
  split at hq <;> simp at hq
  omega

theorem Junction.lostSet_linkEffects (j : Junction) (p : Nat) : j.LinkEffects p (j.lostSet p) := by
  unfold Junction.lostSet
  refine .ite (fun h => ?_) (fun _ => .refl p j)
  have hp : p < 64 := by simpa using (Bool.and_eq_true_iff.mp h).1
  have hout : ∀ {c : Prop} [Decidable c] (t : Tbl (List Nat)), j.LinkEffects p (if c then { j with subtree := t } else j) :=
    fun t => .ite (fun _ => ⟨rfl, fun _ => rfl, fun _ ht => ht, rfl, rfl⟩) (fun _ => .refl p j)
  exact .ite (fun _ => hout _) (fun _ => (hout _).trans (Junction.advertise_linkEffects _ hp))

theorem Junction.linkLost_linkEffects (j : Junction) (p : Nat) : j.LinkEffects p (j.linkLost p) := by
  let i : Junction := { j with txns := j.txns.filter (fun t => t.port != p) }
  have hended : j.LinkEffects p i := ⟨rfl, fun _ => rfl, fun t ht => (List.mem_filter.mp ht).1, rfl, rfl⟩
  have hcommit : i.LinkEffects p (if i.linesidePort p then i.setLog (p + 1) { i.log (p + 1) with commitSent := none } else i) :=
    .ite (fun _ => ⟨rfl, fun _ => rfl, fun _ ht => ht, map_set_same _ JnLog.init _ _ _ rfl, rfl⟩) (fun _ => .refl p i)
  exact hended.trans (hcommit.trans (Junction.lostSet_linkEffects _ p))

/-- The bytes of a Bulk message go to the contexts that see it. -/
theorem Junction.bulkBytes_linkEffects (j : Junction) (p q subch : Nat) (b : Bytes) (done gone short : Bool) :
    j.LinkEffects p (j.bulkBytes q subch b done gone short) := by
  unfold Junction.bulkBytes
  refine .foldl (fun c _ k => .ite (fun _ => .refl p k) (fun _ => ?_)) j
  exact .ite (fun _ => ⟨rfl, fun _ => rfl, fun _ ht => ht, rfl, rfl⟩) (fun _ => ⟨rfl, fun _ => rfl, fun _ ht => ht, rfl, rfl⟩)

theorem Junction.portMoved_linkEffects (j : Junction) (p : Nat) (x : Port) : (j.setPort p x).LinkEffects p (j.portMoved p x) := by
  unfold Junction.portMoved
  refine .ite (fun _ => ?_) (fun _ => .refl p _)
  exact .trans (.ite (fun _ => .foldl (fun m _ k => k.bulkBytes_linkEffects p p m.subch m.seen false true false) _) (fun _ => .refl p _)) (Junction.linkLost_linkEffects _ p)

/-- A port that is not ACTIVE, or stays so, takes no other part along. -/
theorem Junction.portMoved_eq_setPort (j : Junction) (p : Nat) {x : Port} (h : x.st = (j.port p).st) : j.portMoved p x = j.setPort p x := by
  unfold Junction.portMoved
  refine if_neg ?_
  rw [h]
  simp

theorem Junction.portMoved_mail (j : Junction) (p : Nat) (x : Port) : (j.portMoved p x).mail = j.mail := by
  have h : j.portMoved p x = (j.portMoved p x).withMail j.mail := j.portMoved_withMail j.mail p x
  rw [h]
  rfl

/-- A port's new state settles no reply where no reply of a Lineside is owed. -/
theorem Junction.portMoved_settleLinks {j : Junction} (h : j.settled) (p : Nat) (x : Port) : (j.portMoved p x).settleLinks = j.portMoved p x :=
  Junction.settleLinks_settled _ (by unfold Junction.settled; rwa [j.portMoved_mail])

/-! ### What a link that changes state changes at the Lineside (R131, R134, R146, R151) -/

theorem Ls.setPort_port_self (s : Ls) (l : Bool) : s.setPort l (s.port l) = s := by cases l <;> rfl

/-- Only the messages that a link has queued differ. -/
theorem Ls.setPort_queue_unlogged (s : Ls) (l : Bool) (q : List TxMsg) : (s.setPort l { s.port l with q := q }).unlogged = s.unlogged := by cases l <;> rfl

theorem Ls.logE_unlogged (s : Ls) (code : Nat) (ws : List Word) : (s.logE code ws).unlogged = s.unlogged := s.logEvent_unlogged code ws

theorem Ls.scanUnlink_free (s : Ls) (l : Bool) (h : s.scan.link ≠ l ∨ (s.port l).q.any (fun m => m.tag == 3) = false) : s.scanUnlink l = s := by
  unfold Ls.scanUnlink
  refine if_neg ?_
  obtain h | h := h <;> simp [h]

/-- A link that no read-out uses abandons none. -/
theorem Ls.linkLost_free (s : Ls) (l : Bool) (htrace : s.trace.reading ≠ some l) (hsnap : s.qsnap.reading ≠ some l) :
    (s.linkLost l).unlogged = s.unlogged := by
  unfold Ls.linkLost
  simp only [if_neg htrace, if_neg hsnap]
  exact s.setPort_queue_unlogged l _

theorem Ls.linkMoved_eq_setPort (s : Ls) (l : Bool) {p : Port} (h : p.st = (s.port l).st) : s.linkMoved l p = s.setPort l p := by
  unfold Ls.linkMoved
  simp [h]

theorem Ls.linkMoved_unlogged (s : Ls) (l : Bool) (p : Port)
    (hscan : (s.port l).st = .active → s.scan.link ≠ l ∨ (s.port l).q.any (fun m => m.tag == 3) = false)
    (htrace : (s.port l).st = .active → s.trace.reading ≠ some l) (hsnap : (s.port l).st = .active → s.qsnap.reading ≠ some l) :
    (s.linkMoved l p).unlogged = (s.setPort l p).unlogged := by
  have hunlink : (if ((s.port l).st = .active && p.st ≠ (s.port l).st) = true then s.scanUnlink l else s) = s := by
    split
    · next h => exact s.scanUnlink_free l (hscan (by simpa using (Bool.and_eq_true_iff.mp h).1))
    · rfl
  have hlost : (if (s.port l).st = .active then (s.setPort l p).linkLost l else s.setPort l p).unlogged = (s.setPort l p).unlogged := by
    split
    · next h => exact Ls.linkLost_free _ l (by simpa using htrace h) (by simpa using hsnap h)
    · rfl
  unfold Ls.linkMoved
  dsimp only
  rw [hunlink]
  split
  · rfl
  · split <;> simp only [Ls.logE_unlogged, hlost]

/-! ### A link end in a new state -/

/-- End e is put in a state. -/
def State.moveEnd (s : State) (e : End) (p : Port) : Res := onEnd e (fun l x => x.linkMoved l p) (fun q j => j.portMoved q p) s

/-- The time run of the part an end belongs to. -/
def State.runAt (s : State) : End → Nat
  | .ls _ => s.ls.clk.up
  | .jn _ => s.jn.clk.up

/-- End e leads its link (R220). -/
def State.leadsAt (s : State) : End → Bool
  | .ls _ => false
  | .jn q => s.jn.leads q

/-- End e may leave DOWN (R16, R22, R497). -/
def State.mayTrainAt (s : State) : End → Bool
  | .ls l => s.ls.linkMayTrain l
  | .jn q => s.jn.mayTrain q

/-- What link l makes of what a flit received in IDENT brings (R227). -/
def Ls.identTaken (s : Ls) (l : Bool) : Option Bytes → Ls
  | some b => s.linkMoved l ((s.port l).identReceived true false true b)
  | none => s

theorem Ls.identFlit_eq (s : Ls) (l : Bool) (raw : Bytes) : s.identFlit l raw = s.identTaken l (identMessage raw) := rfl

/-- What port p makes of what a flit received in IDENT brings (R227). -/
def Junction.identTaken (j : Junction) (p : Nat) : Option Bytes → Junction
  | some b => j.identReceived p b
  | none => j

theorem Junction.identFlit_eq (j : Junction) (p : Nat) (raw : Bytes) : j.identFlit p raw = j.identTaken p (identMessage raw) := rfl

/-- What end e makes of the IDENT message of its far end (R227). -/
def State.identAt (s : State) (b : Bytes) : End → Port
  | .ls l => (s.ls.port l).identReceived true false true b
  | .jn q => (s.jn.port q).identReceived false (s.jn.farLineside q) (s.jn.neighbourOk q b) b

theorem State.moveEnd_ls (s : State) (l : Bool) (p : Port) : s.moveEnd (.ls l) p = onMain (·.linkMoved l p) s := rfl

theorem State.moveEnd_jn (s : State) (q : Nat) (p : Port) : s.moveEnd (.jn q) p = onJn (fun j => (j.portMoved q p).settleLinks) s := rfl

theorem onPort_eq_moveEnd (e : End) (f : Nat → Port → Port) (s : State) : onPort e f s = s.moveEnd e (f (s.runAt e) (s.portAt e)) := by
  cases e <;> simp only [onPort, State.moveEnd, onEnd, onMain, onJn, State.runAt, State.portAt]

section
variable {s : State} {e : End} (hrun : Running s e)
include hrun

theorem withPort_portAt : s.withPort e (s.portAt e) = s := by
  cases e with
  | ls l => simp [State.withPort, State.portAt, Ls.setPort_port_self]
  | jn q => simp [State.withPort, State.portAt, Junction.setPort_port_self _ hrun.2.1]

/-- An end that keeps its link state changes nothing else. -/
theorem moveEnd_next {p : Port} (h : p.st = (s.portAt e).st) : s.moveEnd e p = .next (s.withPort e p) := by
  cases e with
  | ls l =>
    rw [s.moveEnd_ls, onMain_next _ s hrun, s.ls.linkMoved_eq_setPort l h]
    rfl
  | jn q =>
    obtain ⟨hup, -, hsettled⟩ := hrun
    rw [s.moveEnd_jn, onJn_next _ s hup, Junction.portMoved_settleLinks hsettled, s.jn.portMoved_eq_setPort q h]
    rfl

theorem moveEnd_same : s.moveEnd e (s.portAt e) = .next s := by
  rw [moveEnd_next hrun rfl, withPort_portAt hrun]

/-- An end that changes its link state changes nothing else but what leaving service ends and what is recorded of it. -/
theorem moveEnd_moves (p : Port) (hfree : (s.portAt e).st = .active → Free s e) : Moves (s.moveEnd e p) s e p := by
  cases e with
  | ls l =>
    rw [s.moveEnd_ls, onMain_next _ s hrun]
    exact ⟨_, rfl, s.ls.linkMoved_unlogged l p (fun h => (hfree h).2.2) (fun h => (hfree h).1) (fun h => (hfree h).2.1)⟩
  | jn q =>
    obtain ⟨hup, hq, hsettled⟩ := hrun
    have heffects := s.jn.portMoved_linkEffects q p
    rw [s.moveEnd_jn, onJn_next _ s hup, Junction.portMoved_settleLinks hsettled]
    refine ⟨s.jn.portMoved q p, rfl, ?_, heffects.txns_sub, fun d => ?_, heffects.logs_eq, ?_⟩
    · rw [heffects.port_eq, s.jn.setPort_port_same p hq]
    · rw [heffects.st_eq, s.jn.setPort_st p hq]
    · exact congrArg (fun k : Junction => { k with exp := s.jn.exp }) heffects.rest_eq

/-- An end out of service that changes its link state ends nothing. -/
theorem moveEnd_moves_idle (p : Port) (h : (s.portAt e).st ≠ .active) : Moves (s.moveEnd e p) s e p :=
  moveEnd_moves hrun p (fun hactive => absurd hactive h)

theorem mayTrain_may {f : Port → Port} (h : s.mayTrainAt e = true) : mayTrain e f s = s.moveEnd e (f (s.portAt e)) := by
  cases e with
  | ls l =>
    have hmay : s.ls.linkMayTrain l = true := h
    simp only [mayTrain, State.moveEnd, onEnd, onMain, State.portAt, hmay, if_true]
  | jn q =>
    have hmay : s.jn.mayTrain q = true := h
    simp only [mayTrain, State.moveEnd, onEnd, onJn, State.portAt, hmay, if_true]

theorem mayTrain_mayNot {f : Port → Port} (h : s.mayTrainAt e = false) : mayTrain e f s = .next s := by
  cases e with
  | ls l =>
    have hnot : s.ls.linkMayTrain l = false := h
    simp only [mayTrain, onEnd, onMain, hnot, Bool.false_eq_true, if_false, ite_self]
  | jn q =>
    have hnot : s.jn.mayTrain q = false := h
    simp only [mayTrain, onEnd, onJn, hnot, Bool.false_eq_true, if_false, Junction.settleLinks_settled _ hrun.2.2, ite_self]

theorem exec_identReceived_none {raw : Bytes} (h : identMessage raw = none) : exec (.identReceived e raw) s = .next s := by
  cases e with
  | ls l =>
    refine (onMain_next (·.identFlit l raw) s hrun).trans ?_
    rw [Ls.identFlit_eq, h]
    rfl
  | jn q =>
    obtain ⟨hup, -, hsettled⟩ := hrun
    refine (onJn_next (fun j => (j.identFlit q raw).settleLinks) s hup).trans ?_
    rw [Junction.identFlit_eq, h, Junction.identTaken, Junction.settleLinks_settled _ hsettled]

theorem exec_identReceived_some {raw b : Bytes} (h : identMessage raw = some b) : exec (.identReceived e raw) s = s.moveEnd e (s.identAt b e) := by
  cases e with
  | ls l =>
    refine (onMain_next (·.identFlit l raw) s hrun).trans ?_
    rw [s.moveEnd_ls, onMain_next _ s hrun, Ls.identFlit_eq, h]
    rfl
  | jn q =>
    refine (onJn_next (fun j => (j.identFlit q raw).settleLinks) s hrun.1).trans ?_
    rw [s.moveEnd_jn, onJn_next _ s hrun.1, Junction.identFlit_eq, h]
    rfl

end

theorem exec_trainingFrameReceived_eq (s : State) (e : End) (same : Bool) (h : Word) :
    exec (.trainingFrameReceived e same h) s = s.moveEnd e ((s.portAt e).trainFrame (s.leadsAt e) same h.toNat (s.runAt e)) := by
  rw [exec_trainingFrameReceived]
  cases e <;> simp only [State.moveEnd, onEnd, onMain, onJn, State.portAt, State.leadsAt, State.runAt, Ls.trainFrame, Junction.trainFrame]

end Sys2Proof.Machine

/-! # Blocks, replay, retirement, training and identification at a link end -/

namespace Sys2Proof.Machine

/-! ### A decoded block (R201, R221, R223) -/

section
variable {p : Port} {idx now : Nat}

theorem Port.blockDecoded_idle {fate : BlockFate} (h : p.st ≠ .active) : p.blockDecoded idx fate now = { p with badBlock := none } := if_pos h

section
variable (h : p.st = .active)
include h

theorem Port.blockDecoded_clean : p.blockDecoded idx .clean now = { p with badBlock := none } := if_neg (not_not_intro h)

theorem Port.blockDecoded_corrected (n : Nat) :
    p.blockDecoded idx (.corrected n) now = { (p.count 4 1).count 6 n with badBlock := none, corrected := p.corrected + n } :=
  if_neg (not_not_intro h)

theorem Port.blockDecoded_uncorrectable :
    p.blockDecoded idx .uncorrectable now =
      (let q : Port := { p.count 5 1 with badBlock := some idx, uncorr := p.uncorr + 1 }
       if 16 < q.uncorr then { q.retrain false with badBlock := some idx } else q) :=
  if_neg (not_not_intro h)

/-- A lane parity error retires the end, with the retirements of the last second kept (R223). -/
theorem Port.blockDecoded_laneParity (n : Nat) :
    p.blockDecoded idx (.laneParity n) now =
      { ({ (p.count 7 1).count 12 1 with paritySeen := true } : Port).leave .retired with
        retired := (now :: p.retired).filter (fun t => decide (now < t + uSec)), badBlock := some idx } :=
  if_neg (not_not_intro h)

end

end

/-! ### Retraining (R221, R222) -/

theorem Port.retrain_active {p : Port} (h : p.st = .active) (r : Bool) :
    p.retrain r = { (p.count 11 1).leave .train with tr := { Training.fresh with responder := r } } := if_pos h

theorem Port.retrain_idle {p : Port} (h : p.st ≠ .active) (r : Bool) : p.retrain r = p := if_neg h

/-! ### Replay (R218) -/

section
variable {p : Port}

theorem Port.replayTimeout_empty (h : p.replay = []) : p.replayTimeout = p := by
  unfold Port.replayTimeout
  rw [h]

section
variable {k : Kept} {t : List Kept} (hreplay : p.replay = k :: t)
include hreplay

theorem Port.replayTimeout_early (h : p.st ≠ .active ∨ k.slots < 256 ∨ k.pending = true) : p.replayTimeout = p := by
  unfold Port.replayTimeout
  rw [hreplay]
  refine if_neg ?_
  simp only [Bool.and_eq_true, decide_eq_true_iff, Bool.not_eq_true']
  rintro ⟨⟨hactive, hslots⟩, hpending⟩
  obtain h | h | h := h
  · exact h hactive
  · omega
  · rw [h] at hpending
    cases hpending

theorem Port.replayTimeout_due (hactive : p.st = .active) (hslots : 256 ≤ k.slots) (hpending : k.pending = false) :
    p.replayTimeout = if 8 ≤ k.replays then (p.count 13 1).retrain false else { p with replay := { k with pending := true } :: t } := by
  unfold Port.replayTimeout
  rw [hreplay]
  exact if_pos (by simp [hactive, hslots, hpending])

end

end

/-! ### Retirement and training timers (R220, R223) -/

theorem Port.retireTimeout_retired {p : Port} (h : p.st = .retired) :
    p.retireTimeout = { p with st := if 3 ≤ p.retired.length then .held else .train, tr := Training.fresh } := if_pos h

theorem Port.retireTimeout_other {p : Port} (h : p.st ≠ .retired) : p.retireTimeout = p := if_neg h

theorem Port.trainTimeout_train {p : Port} (h : p.st = .train) : p.trainTimeout = { p with st := .down, tr := { p.tr with retry := true } } := if_pos h

theorem Port.trainTimeout_other {p : Port} (h : p.st ≠ .train) : p.trainTimeout = p := if_neg h

theorem Port.startTrain_down {p : Port} (hdown : p.st = .down) (hhold : p.hold = false) (hused : p.unused = false) :
    p.startTrain = { p with st := .train, tr := Training.fresh, identSent := false } := if_pos (by simp [hdown, hhold, hused])

theorem Port.startTrain_stays {p : Port} (h : p.st ≠ .down ∨ p.hold = true ∨ p.unused = true) : p.startTrain = p := by
  refine if_neg ?_
  obtain h | h | h := h <;> simp [h]

theorem Port.trainRetry_set {p : Port} (h : p.tr.retry = true) : p.trainRetry = p.startTrain := if_pos h

theorem Port.trainRetry_clear {p : Port} (h : p.tr.retry = false) : p.trainRetry = p := if_neg (ne_true_of_eq_false h)

/-- A retry that starts no training changes nothing. -/
theorem Port.trainRetry_stays {p : Port} (h : p.startTrain = p) : p.trainRetry = p := by
  unfold Port.trainRetry
  rw [h, ite_self]

/-! ### Training frames (R221, R224, R226) -/

/-- A good training frame that is the leader's first a follower sees. -/
def Training.firstLeader (t : Training) (ok leader : Bool) (h : Nat) : Bool := ok && bit h 12 && !leader && !t.sawLeader

/-- No training frame has been sent for more than 50 us (R226). -/
def Training.justBegun (t : Training) (now : Nat) : Bool := match t.since with | some u => decide (now ≤ u + 50000 * uNs) | none => true

/-- The leader's first frame, of its own pattern, just after the entry into TRAIN starts a follower's search again (R226, log 90). -/
def Training.restarts (t : Training) (leader : Bool) (h now : Nat) : Bool :=
  t.firstLeader true leader h && !(bit h 14) && !t.responder && t.justBegun now

/-- The training of an end that meets a frame, before the frame is counted: the leader's first is noted, and may start the search again (R226). -/
def Training.met (t : Training) (ok leader : Bool) (h now : Nat) : Training :=
  let first := t.firstLeader ok leader h
  let u := if first then { t with sawLeader := true } else t
  if first && t.justBegun now && !(bit h 14) && !u.responder then { u with good := 0, bad := 0, lock := false, lockedRun := 0, extra := none } else u

/-- The training after a frame of header h, good or bad, counted from `t` (R224, R226). -/
def Training.counted (t : Training) (ok same : Bool) (h : Nat) : Training :=
  let good := if ok && same then t.good + 1 else if ok then 1 else 0
  let bad := if ok then 0 else t.bad + 1
  let lock := if 8 ≤ good then true else if 4 ≤ bad then false else t.lock
  let run := if lock && ok && bit h 13 then t.lockedRun + 1 else 0
  { t with good := good, bad := bad, lock := lock, lockedRun := run, extra := if t.extra.isNone && 1000 ≤ run then some 16 else t.extra }

/-- A good frame in TRAIN, with the leader's first noted. -/
def Training.seen (t : Training) (leader : Bool) (h : Nat) : Training := { t with sawLeader := t.sawLeader || t.firstLeader true leader h }

/-- A search that starts again has found nothing yet. -/
def Training.restarted (t : Training) : Training := { t with good := 0, bad := 0, lock := false, lockedRun := 0, sawLeader := true, extra := none }

/-- An end in TRAIN with its training in a new state. -/
def Port.trained (p : Port) (t : Training) : Port := { p with tr := t, blockLock := t.lock }

theorem Training.met_bad (t : Training) (leader : Bool) (h now : Nat) : t.met false leader h now = t := by
  simp [Training.met, Training.firstLeader]

theorem Training.met_good (t : Training) (leader : Bool) (h now : Nat) :
    t.met true leader h now = if t.restarts leader h now then t.restarted else t.seen leader h := by
  cases hfirst : t.firstLeader true leader h with
  | false => simp [Training.met, Training.restarts, Training.seen, hfirst]
  | true => cases hbegun : t.justBegun now <;> simp [Training.met, Training.restarts, Training.restarted, Training.seen, hfirst, hbegun]

theorem Training.counted_bad (t : Training) (same : Bool) (h : Nat) :
    t.counted false same h = { t with good := 0, bad := t.bad + 1, lock := t.lock && !decide (4 ≤ t.bad + 1), lockedRun := 0 } := by
  by_cases hlost : 4 ≤ t.bad + 1 <;> simp [Training.counted, hlost]

theorem Training.counted_good (t : Training) (same : Bool) (h : Nat) :
    t.counted true same h =
      (let good := if same then t.good + 1 else 1
       let lock := t.lock || decide (8 ≤ good)
       let run := if lock && bit h 13 then t.lockedRun + 1 else 0
       { t with good := good, bad := 0, lock := lock, lockedRun := run, extra := if t.extra.isNone && decide (1000 ≤ run) then some 16 else t.extra }) := by
  have hlock : ∀ good, (if 8 ≤ good then true else if 4 ≤ 0 then false else t.lock) = (t.lock || decide (8 ≤ good)) := by
    intro good
    by_cases hgood : 8 ≤ good <;> simp [hgood]
  simp only [Training.counted, Bool.true_and, Bool.and_true, if_true, hlock]

/-- The first frame of a search is one of 8 for lock. -/
theorem Training.counted_restarted (t : Training) (same : Bool) (h : Nat) :
    t.restarted.counted true same h = { t with good := 1, bad := 0, lock := false, lockedRun := 0, sawLeader := true, extra := none } := by
  cases same <;> simp [Training.counted, Training.restarted]

section
variable {p : Port} {leader same : Bool} {h now : Nat}

theorem Port.trainFrame_active (hst : p.st = .active) (hok : trainCheckOk h = true) : p.trainFrame leader same h now = p.retrain true := by
  unfold Port.trainFrame
  simp only [hst, hok, if_true]

theorem Port.trainFrame_other (hst : p.st ≠ .train) (hidle : p.st ≠ .active ∨ trainCheckOk h = false) : p.trainFrame leader same h now = p := by
  unfold Port.trainFrame
  split
  · next hactive => rw [if_neg (ne_true_of_eq_false (hidle.resolve_left (absurd hactive)))]
  · next htrain => exact absurd htrain hst
  · rfl

theorem Port.trainFrame_train (hst : p.st = .train) :
    p.trainFrame leader same h now = p.trained ((p.tr.met (trainCheckOk h) leader h now).counted (trainCheckOk h) same h) := by
  unfold Port.trainFrame
  split
  · next hactive => rw [hst] at hactive; cases hactive
  · rfl
  · next hother => exact absurd hst hother

end

/-- One training frame a block is sent, and the 16th after the 1,000th with LOCKED leads to IDENT (R226). -/
theorem Port.transmitTrain_block (p : Port) (v : TxEnv) (hslot : p.slot < v.slots) (hblock : p.slot % 5 = 0) :
    p.transmitTrain v = { p with
      slot := p.slot + 1, wire := trainWire (trainHeader v.who v.leader (p.tr.lock || p.tr.extra.isSome) p.tr.responder)
      tr := { p.tr with since := some (p.tr.since.getD v.run), extra := p.tr.extra.map (· - 1) }
      st := if p.tr.extra = some 1 then .ident else p.st, identSent := if p.tr.extra = some 1 then false else p.identSent } := by
  unfold Port.transmitTrain
  rw [if_neg (Nat.not_le.mpr hslot), if_neg (not_not_intro hblock)]
  by_cases hlast : p.tr.extra = some 1 <;> simp only [hlast, if_true, if_false]

/-! ### Identification (R227) -/

/-- An IDENT message of the right format and rate, from the neighbour expected (R26, R227, R498). -/
def Port.identGood (p : Port) (known : Bool) (b : Bytes) : Prop := rd b 0 2 = 0x30 ∧ rd b 2 2 = 1 ∧ rd b 9 1 = b2n p.rate400 ∧ known = true

section
variable {p : Port} {lineside far known : Bool} {b : Bytes}

theorem Port.identReceived_other (h : p.st ≠ .ident) : p.identReceived lineside far known b = p := if_pos h

section
variable (hst : p.st = .ident)
include hst

theorem Port.identReceived_good (hgood : p.identGood known b) :
    p.identReceived lineside far known b =
      (let q : Port := { p with far := some (identOf b) }
       if q.identSent then { q.resetBooks lineside far with st := .align } else { q with tr := { q.tr with identOk := true } }) := by
  obtain ⟨hformat, hversion, hrate, hknown⟩ := hgood
  unfold Port.identReceived
  rw [if_neg (not_not_intro hst)]
  exact if_neg (by simp [hformat, hversion, hrate, hknown])

theorem Port.identReceived_bad (hbad : ¬p.identGood known b) :
    p.identReceived lineside far known b = { p.count 26 1 with st := .held, cablingErr := true, far := some (identOf b) } := by
  unfold Port.identReceived
  rw [if_neg (not_not_intro hst)]
  refine if_pos ?_
  rw [Bool.not_eq_true', Bool.eq_false_iff]
  exact mt (fun h => by simpa [Port.identGood, and_assoc] using h) hbad

end

end

/-! ### LinkStates -/

/-- Settles O26, clause by clause from what a new state of an end changes and what each event makes of the end. -/
theorem linkStates : Obligations.LinkStates := by
  unfold Obligations.LinkStates
  refine ⟨fun s e idx n rx hrun => ?block, fun s e k t hrun => ?replay, fun s e hrun => ?timers, fun s e hrun => ?train, fun s e same h hrun => ?frame,
    fun p v hslot hblock => p.transmitTrain_block v hslot hblock, fun s e raw b hrun hident => ?ident,
    fun s e raw hrun hident => exec_identReceived_none hrun hident, fun p r hactive => ?retrain⟩
  case block =>
    intro p now
    have hnow : now = s.runAt e := by cases e <;> rfl
    have hexec : exec (.blockDecoded e idx n rx) s = s.moveEnd e (p.blockDecoded idx (decodeBlock n rx).1 now) := by
      rw [hnow, exec_blockDecoded, onPort_eq_moveEnd]
    rw [hexec]
    refine ⟨fun hidle => ?_, fun hactive hfate => ?_, fun k hactive hfate => ?_, fun hactive hfate hfew => ?_, fun hactive hfate hmany hfree => ?_,
      fun k hactive hfate hfree => ?_⟩
    · rw [Port.blockDecoded_idle hidle]
      exact moveEnd_next hrun rfl
    · rw [hfate, Port.blockDecoded_clean hactive]
      exact moveEnd_next hrun rfl
    · rw [hfate, Port.blockDecoded_corrected hactive]
      exact moveEnd_next hrun rfl
    · rw [hfate, Port.blockDecoded_uncorrectable hactive]
      dsimp only
      rw [if_neg (by omega)]
      exact moveEnd_next hrun rfl
    · rw [hfate, Port.blockDecoded_uncorrectable hactive]
      dsimp only
      rw [if_pos (by omega)]
      exact moveEnd_moves hrun _ (fun _ => hfree)
    · rw [hfate, Port.blockDecoded_laneParity hactive]
      exact ⟨_, moveEnd_moves hrun _ (fun _ => hfree), rfl, rfl, rfl, rfl, rfl⟩
  case replay =>
    intro p
    have hexec : exec (.replayTimeout e) s = s.moveEnd e p.replayTimeout := by rw [exec_replayTimeout, onPort_eq_moveEnd]
    rw [hexec]
    refine ⟨fun hreplay hactive hslots hpending hfew => ?_, fun hreplay hactive hslots hpending hmany hfree => ?_, fun hreplay hearly => ?_, fun hempty => ?_⟩
    · rw [Port.replayTimeout_due hreplay hactive hslots hpending, if_neg (by omega)]
      exact moveEnd_next hrun rfl
    · rw [Port.replayTimeout_due hreplay hactive hslots hpending, if_pos hmany]
      exact moveEnd_moves hrun _ (fun _ => hfree)
    · rw [Port.replayTimeout_early hreplay hearly]
      exact moveEnd_same hrun
    · rw [Port.replayTimeout_empty hempty]
      exact moveEnd_same hrun
  case timers =>
    intro p
    rw [exec_retireTimeout, exec_trainTimeout, exec_markerMissing, onPort_eq_moveEnd, onPort_eq_moveEnd, onPort_eq_moveEnd]
    refine ⟨fun hst => ?_, fun hst => ?_, fun hst => ?_, fun hst => ?_, fun hst hfree => moveEnd_moves hrun _ (fun _ => hfree), fun hst => ?_⟩
    · rw [Port.retireTimeout_retired hst]
      exact moveEnd_moves_idle hrun _ (by rw [hst]; decide)
    · rw [Port.retireTimeout_other hst]
      exact moveEnd_same hrun
    · rw [Port.trainTimeout_train hst]
      exact moveEnd_moves_idle hrun _ (by rw [hst]; decide)
    · rw [Port.trainTimeout_other hst]
      exact moveEnd_same hrun
    · rw [Port.retrain_idle hst]
      exact moveEnd_same hrun
  case train =>
    intro p may x
    have hmay : may = s.mayTrainAt e := by cases e <;> rfl
    rw [exec_linkTrainStart, exec_trainRetry]
    refine ⟨fun hyes hdown hhold hused => ⟨?_, fun hretry => ?_⟩, fun hstays => ?_, fun hretry => ?_⟩
    · rw [mayTrain_may hrun (hmay ▸ hyes), Port.startTrain_down hdown hhold hused]
      exact moveEnd_moves_idle hrun _ (by rw [hdown]; decide)
    · rw [mayTrain_may hrun (hmay ▸ hyes), Port.trainRetry_set hretry, Port.startTrain_down hdown hhold hused]
      exact moveEnd_moves_idle hrun _ (by rw [hdown]; decide)
    · cases hcan : s.mayTrainAt e with
      | false => exact ⟨mayTrain_mayNot hrun hcan, mayTrain_mayNot hrun hcan⟩
      | true =>
        have hstart : p.startTrain = p := Port.startTrain_stays (hstays.resolve_left (by rw [hmay, hcan]; decide))
        rw [mayTrain_may hrun hcan, mayTrain_may hrun hcan, hstart, Port.trainRetry_stays hstart]
        exact ⟨moveEnd_same hrun, moveEnd_same hrun⟩
    · cases hcan : s.mayTrainAt e with
      | false => exact mayTrain_mayNot hrun hcan
      | true =>
        rw [mayTrain_may hrun hcan, Port.trainRetry_clear hretry]
        exact moveEnd_same hrun
  case frame =>
    intro p t ok now leader first restart good lock run lost
    have hnow : now = s.runAt e := by cases e <;> rfl
    have hleader : leader = s.leadsAt e := by cases e <;> rfl
    have hrestart : restart = t.restarts leader h.toNat now := by
      simp only [restart, Training.restarts, Training.justBegun]
      cases t.since <;> rfl
    have hexec : exec (.trainingFrameReceived e same h) s = s.moveEnd e (p.trainFrame leader same h.toNat now) := by
      rw [hnow, hleader, exec_trainingFrameReceived_eq]
    rw [hexec]
    refine ⟨fun hst hok hfree => ?_, fun hst hidle => ?_, fun hst hok hstay => ?_, fun hst hok hagain => ?_, fun hst hbad => ?_⟩
    · rw [Port.trainFrame_active hst hok]
      exact moveEnd_moves hrun _ (fun _ => hfree)
    · rw [Port.trainFrame_other hst hidle]
      exact moveEnd_same hrun
    · rw [Port.trainFrame_train hst, show trainCheckOk h.toNat = true from hok, Training.met_good, ← hrestart, hstay, if_neg Bool.false_ne_true, Training.counted_good]
      exact moveEnd_next hrun rfl
    · rw [Port.trainFrame_train hst, show trainCheckOk h.toNat = true from hok, Training.met_good, ← hrestart, hagain, if_pos rfl, Training.counted_restarted]
      exact moveEnd_next hrun rfl
    · rw [Port.trainFrame_train hst, show trainCheckOk h.toNat = false from hbad, Training.met_bad, Training.counted_bad]
      exact moveEnd_next hrun rfl
  case ident =>
    intro p far known good side
    have hexec : exec (.identReceived e raw) s = s.moveEnd e (p.identReceived side far known b) := by
      rw [exec_identReceived_some hrun hident]
      cases e <;> rfl
    rw [hexec]
    refine ⟨fun hst hgood hsent => ?_, fun hst hgood hunsent => ?_, fun hst hbad => ?_, fun hst => ?_⟩
    · rw [Port.identReceived_good hst hgood]
      dsimp only
      rw [if_pos hsent]
      exact moveEnd_moves_idle hrun _ (by rw [hst]; decide)
    · rw [Port.identReceived_good hst hgood]
      dsimp only
      rw [if_neg (ne_true_of_eq_false hunsent)]
      exact moveEnd_next hrun rfl
    · rw [Port.identReceived_bad hst hbad]
      exact moveEnd_moves_idle hrun _ (by rw [hst]; decide)
    · rw [Port.identReceived_other hst]
      exact moveEnd_same hrun
  case retrain =>
    rw [Port.retrain_active hactive]
    exact ⟨rfl, rfl, rfl, rfl, rfl, rfl, rfl, rfl⟩

end Sys2Proof.Machine

/-! # A CRC engine of a Junction in cold reset -/

namespace Sys2Proof.Machine

/-- The block after reset, with PORST_N low, whose Junction has one CRC engine, free and with a configuration pending (R420, R484). -/
def pendingInColdReset : State := { State.reset with jn := { Junction.init with crc := [{ CrcEng.init with pending := true }] } }

/-- Engine 0 has a configuration pending and nothing in progress. -/
theorem pendingInColdReset_free :
    let k := pendingInColdReset.jn.crc.getD 0 CrcEng.init
    k.pending = true ∧ k.busyAt k.act.port (pendingInColdReset.jn.port k.act.port) = false ∧ k.jobUnit = none := ⟨rfl, rfl, rfl⟩

/-- A Junction held in cold reset takes no configuration up (R484). -/
theorem exec_crcEnableApply_held : exec (.crcEnableApply .jn 0) pendingInColdReset = .next pendingInColdReset :=
  onJn_held (·.crcEnableApply 0) pendingInColdReset rfl

/-- Refutes O48: the clause of a pending configuration at the Junction leaves out that the Junction runs; held in cold reset it does nothing
(R484), so the configuration of a free engine stays pending. -/
theorem not_linesideLinksAndCrc : ¬ Obligations.LinesideLinksAndCrc := by
  unfold Obligations.LinesideLinksAndCrc
  rintro ⟨-, -, -, -, -, hpending⟩
  obtain ⟨-, -, htakenUp, -⟩ := hpending pendingInColdReset 0
  obtain ⟨hset, hidle, hjob⟩ := pendingInColdReset_free
  have hnext := Host.Outcome.next.inj (exec_crcEnableApply_held.symm.trans (htakenUp hset ⟨hidle, hjob⟩))
  have hengine : true = false := congrArg (fun t : State => (t.jn.crc.getD 0 CrcEng.init).pending) hnext
  cases hengine

end Sys2Proof.Machine

/-! # Contexts, bundles, the Waybill and reference tables by command -/

namespace Sys2Proof.Machine

/-! ### Bundle chunks and Waybill writes with other mailboxes (R293, R344) -/

theorem Junction.countPort_withMail (j : Junction) (l : List Mailbox) (p k : Nat) : (j.withMail l).countPort p k = (j.countPort p k).withMail l := rfl

theorem Junction.forwardChunk_withMail (j : Junction) (l : List Mailbox) (h : Bytes) (c : Chunk) :
    (j.withMail l).forwardChunk h c = (j.forwardChunk h c).withMail l := by
  have hrole : (j.withMail l).role = j.role := rfl
  have htray : (j.withMail l).tray = j.tray := rfl
  unfold Junction.forwardChunk
  rw [htray, hrole]
  split
  · rfl
  · refine foldl_comm (fun j : Junction => j.withMail l) _ (fun a k => ?_) _ _
    have hport : (a.withMail l).port = a.port := rfl
    rw [hport, Junction.send_withMail, Junction.countPort_withMail]
    split <;> rfl

theorem Junction.setBundle_withMail (j : Junction) (l : List Mailbox) (b : Bundle) : (j.withMail l).setBundle b = (j.setBundle b).withMail l := rfl

theorem Junction.chunk_withMail (j : Junction) (l : List Mailbox) (c : Chunk) : (j.withMail l).chunk c = ((j.chunk c).1.withMail l, (j.chunk c).2) := by
  have hnamed : (j.withMail l).levelNamed = j.levelNamed := rfl
  have hhead : (j.withMail l).headCheck = j.headCheck := rfl
  have hclk : (j.withMail l).clk = j.clk := rfl
  have hheld : (j.withMail l).bundle? = j.bundle? := rfl
  unfold Junction.chunk
  simp -zeta only [hheld, hnamed, hhead, hclk, Junction.setBundle_withMail]
  by_cases hfirst : c.chunk = 0
  · rw [if_pos hfirst, if_pos hfirst]
    extract_lets busy _ _ bad _ _ _ new' _ new
    have hnew : new' = new.withMail l := rfl
    clear_value busy bad new new'
    simp only [hnew, Junction.forwardChunk_withMail]
    split <;> rfl
  · rw [if_neg hfirst, if_neg hfirst]
    cases j.bundle? c.id with
    | none => rfl
    | some b =>
      dsimp -zeta only
      split
      · rfl
      · extract_lets _ grown
        clear_value grown
        rw [Junction.forwardChunk_withMail]

theorem Junction.wayApply_withMail (j : Junction) (l : List Mailbox) (o : WayOp) : (j.withMail l).wayApply o = ((j.wayApply o).1.withMail l, (j.wayApply o).2) := by
  have hprobes : (j.withMail l).probes = j.probes := rfl
  have hread : (j.withMail l).read = j.read := rfl
  have hwrite : ∀ a b, (j.withMail l).write a b = (j.write a b).withMail l := fun _ _ => rfl
  simp only [Junction.wayApply, hprobes, hread, hwrite]
  split
  · rfl
  · split <;> rfl

theorem Junction.wayApplyAll_withMail (j : Junction) (l : List Mailbox) (os : List WayOp) :
    os.foldl (fun (k : Junction) w => (k.wayApply w).1) (j.withMail l) = (os.foldl (fun (k : Junction) w => (k.wayApply w).1) j).withMail l :=
  foldl_comm (fun j : Junction => j.withMail l) _ (fun a o => by rw [Junction.wayApply_withMail]) _ _

/-! ### Commands that neither look at the mailboxes nor change them -/

/-- The command neither looks at the mailboxes nor changes them: with other mailboxes it does and answers the same. -/
def Cmd.MailBlind (c : Cmd) : Prop :=
  ∀ (j : Junction) (l : List Mailbox) (m : Nat) (q : Request), c.run (j.withMail l) m q = ((c.run j m q).1.withMail l, (c.run j m q).2)

theorem completes_of_mailBlind {x : Res} {s : State} {k : Junction} {m : Nat} {it : Taken} {rest : List Taken} {c : Cmd} {mg : Bool} {r : Rc} {b : Bytes}
    (hblind : c.MailBlind) (hx : x = onJn (·.command c m) s) (hs : Served s.jn m it rest c.op mg c.recovery c.status)
    (hw : it.req.ctx = 0 ∨ c.who = .any) (hop : c.op ≠ 1) (hb : c.shape it.req.body = true) (hcode : r.code ≠ 0x13)
    (hrun : c.run s.jn m it.req = (k, .done r b)) : CompletesWith x s m it rest r.code b k :=
  completes_plain hx hs rfl (hw.imp_right .inl) rfl rfl hop hb hcode fun l => by rw [hblind, hrun]

theorem contextConfig_mailBlind : Cmd.contextConfig.MailBlind := by
  intro j l m q
  have hquota : (j.withMail l).overQuota = j.overQuota := rfl
  have hmore : (j.withMail l).holdsMore = j.holdsMore := rfl
  have hctx : (j.withMail l).ctx = j.ctx := rfl
  have hahead : (j.withMail l).ahead = j.ahead := rfl
  simp only [Cmd.contextConfig, hquota, hmore, hahead, hctx]
  split
  · rfl
  · repeat' split
    all_goals rfl

theorem contextStatus_mailBlind : Cmd.contextStatus.MailBlind := by
  intro j l m q
  have hactive : (j.withMail l).activeBundle = j.activeBundle := rfl
  have hstaged : (j.withMail l).stagedBundle = j.stagedBundle := rfl
  have hctx : (j.withMail l).ctx = j.ctx := rfl
  have hsees : (j.withMail l).sees = j.sees := rfl
  simp only [Cmd.contextStatus, hsees, hctx, hactive, hstaged]
  split
  · rfl
  · split <;> rfl

theorem bundleTransfer_mailBlind : Cmd.bundleTransfer.MailBlind := by
  intro j l m q
  have hheld : (j.withMail l).bundle? = j.bundle? := rfl
  simp only [Cmd.bundleTransfer, hheld, Junction.chunk_withMail]
  cases Chunk.decode q.body with
  | none => rfl
  | some c =>
    dsimp only
    split
    · split <;> rfl
    · rfl

theorem bundleStatus_mailBlind : Cmd.bundleStatus.MailBlind := by
  intro j l m q
  have hheld : (j.withMail l).bundle? = j.bundle? := rfl
  have hsees : (j.withMail l).sees = j.sees := rfl
  simp only [Cmd.bundleStatus, hheld, hsees]
  split
  · rfl
  · split <;> rfl

theorem waybillWrite_mailBlind : Cmd.waybillWrite.MailBlind := by
  intro j l m q
  have hrec : (j.withMail l).recAt = j.recAt := rfl
  have hops : (j.withMail l).wayOps = j.wayOps := rfl
  have hahead : (j.withMail l).ahead = j.ahead := rfl
  simp only [Cmd.waybillWrite, hrec, hahead, hops, Junction.wayApplyAll_withMail, Junction.wayApply_withMail]
  repeat' split
  all_goals rfl

theorem refTableLoad_mailBlind : Cmd.refTableLoad.MailBlind := by
  intro j l m q
  have hbuf : (j.withMail l).buffer = j.buffer := rfl
  have hrefs : (j.withMail l).refs = j.refs := rfl
  have htray : (j.withMail l).tray = j.tray := rfl
  have hahead : (j.withMail l).ahead = j.ahead := rfl
  simp only [Cmd.refTableLoad, htray, hbuf, hrefs, hahead]
  split
  · rfl
  · cases j.buffer q.ctx (rd q.body 8 8) (rd q.body 0 4) with
    | inl r => rfl
    | inr b =>
      dsimp only
      split
      · rfl
      · cases refTableBad b with
        | some o => rfl
        | none =>
          dsimp only
          split
          · rfl
          · split <;> rfl

/-! ### What each command does (R293, R335 to R337, R344, R374) -/

section
variable {j : Junction} {m : Nat} {q : Request}

section
variable {c : Nat} {r : CtxRec} (hc : rd q.body 0 1 = c) (hr : CtxRec.decode q.body = r) (hbad : r.bad = none)
  (hfits : r.enable = true → j.overQuota c r = false ∧ j.holdsMore c r = false) (hahead : j.ahead r.effective = true)
include hc hr hbad hfits hahead

theorem contextConfig_inRange : Cmd.contextConfig.run j m q =
    if (j.ctx c).st = .draining || (j.ctx c).latched.isSome then
      if r.enable then (j.setCtx c { j.ctx c with latched := some r }, .rc 1) else (j.setCtx c { j.ctx c with latched := none }, .rc 0)
    else (j.setCtx c { j.ctx c with next := some r }, .rc 0) := by
  have hquota : (r.enable && j.overQuota c r) = false := Bool.and_eq_false_imp.mpr fun h => (hfits h).1
  have hmore : (r.enable && j.holdsMore c r) = false := Bool.and_eq_false_imp.mpr fun h => (hfits h).2
  subst hc hr
  dsimp only [Cmd.contextConfig]
  rw [hbad]
  dsimp only
  rw [hquota, if_neg Bool.false_ne_true, hahead, hmore, if_neg (by decide)]

theorem contextConfig_waits (hst : (j.ctx c).st ≠ .draining) (hlatch : (j.ctx c).latched = none) :
    Cmd.contextConfig.run j m q = (j.setCtx c { j.ctx c with next := some r }, .rc 0) := by
  rw [contextConfig_inRange hc hr hbad hfits hahead, if_neg (by simp [hst, hlatch])]

theorem contextConfig_latches (hst : (j.ctx c).st = .draining) (hon : r.enable = true) :
    Cmd.contextConfig.run j m q = (j.setCtx c { j.ctx c with latched := some r }, .rc 1) := by
  rw [contextConfig_inRange hc hr hbad hfits hahead, if_pos (by simp [hst]), if_pos hon]

theorem contextConfig_unlatches (hst : (j.ctx c).st = .draining) (hoff : r.enable = false) :
    Cmd.contextConfig.run j m q = (j.setCtx c { j.ctx c with latched := none }, .rc 0) := by
  rw [contextConfig_inRange hc hr hbad hfits hahead, if_pos (by simp [hst]), if_neg (ne_true_of_eq_false hoff)]

end

theorem contextStatus_seen {c : Nat} (hc : rd q.body 0 1 = c) (hle : c ≤ 15) (hsees : j.sees q.ctx c = true) :
    Cmd.contextStatus.run j m q = (j, .done (rc 0)
      (le 1 (j.ctx c).st.code ++ le 1 (b2n (j.ctx c).latched.isSome) ++ zeros 6 ++ le 8 (((j.activeBundle c).map (·.id)).getD 0)
        ++ le 8 (((j.stagedBundle c).map (·.id)).getD 0) ++ le 8 (((j.ctx c).latched.map (·.effective)).getD 0))) := by
  have hid : ∀ o : Option Bundle, (o.map (·.id)).getD 0 = (match o with | some b => b.id | none => 0) := fun o => by cases o <;> rfl
  have hfrom : ∀ o : Option CtxRec, (o.map (·.effective)).getD 0 = (match o with | some r => r.effective | none => 0) := fun o => by cases o <;> rfl
  rw [hid, hid, hfrom]
  subst hc
  exact (if_neg (Nat.not_lt.mpr hle)).trans (if_neg (by simp [hsees]))

/-- The context and the type of the bundle that a chunk belongs to: what its header says, or what the Junction holds of it (R344). -/
def Junction.chunkOwner (j : Junction) (c : Chunk) : Option (Nat × Nat) :=
  if c.chunk = 0 then some (rd c.data 7 1 % 16, rd c.data 6 1) else (j.bundle? c.id).map (fun b => (b.ctx, b.type))

theorem bundleTransfer_owned {c : Chunk} (hc : Chunk.decode q.body = some c)
    (hown : (j.chunkOwner c).any (fun w => owns q.ctx w.1 && (w.2 != 1 || q.ctx == 0)) = true) :
    Cmd.bundleTransfer.run j m q = plain (j.chunk c) := by
  obtain ⟨⟨ctx, type⟩, hwho, hmay⟩ : ∃ w, j.chunkOwner c = some w ∧ (owns q.ctx w.1 && (w.2 != 1 || q.ctx == 0)) = true := by
    simpa [Option.any_eq_true] using hown
  have hmay : (!(owns q.ctx ctx) || (type = 1 && q.ctx ≠ 0)) = false := by
    simp only [Bool.and_eq_true, Bool.or_eq_true, bne_iff_ne, beq_iff_eq] at hmay
    obtain ⟨hwrites, htype | hmgmt⟩ := hmay
    · rw [hwrites, decide_eq_false htype]
      rfl
    · rw [hwrites, decide_eq_false (not_not_intro hmgmt), Bool.and_false]
      rfl
  unfold Junction.chunkOwner at hwho
  simp only [Cmd.bundleTransfer, hc, hwho, hmay]
  rfl

theorem bundleStatus_unknown (hb : j.bundle? (rd q.body 0 8) = none) : Cmd.bundleStatus.run j m q = (j, .done (rc 0) (zeros 24)) := by
  simp only [Cmd.bundleStatus, hb]

theorem bundleStatus_seen {b : Bundle} (hb : j.bundle? (rd q.body 0 8) = some b) (hsees : j.sees q.ctx b.ctx = true) :
    Cmd.bundleStatus.run j m q = (j, .done (rc 0)
      (le 1 b.st.code ++ le 1 b.result ++ le 2 b.check ++ le 4 b.offset ++ le 4 b.got ++ zeros 4 ++ le 8 b.effective)) := by
  simp [Cmd.bundleStatus, hb, hsees]

/-- The Junction as the Waybill writes that take effect by a tick leave it (R293). -/
def Junction.waybillBy (j : Junction) (n : Nat) : Junction :=
  (sortBy WayOp.tick (j.wayOps.filter (fun w => decide (w.tick ≤ n)))).foldl (fun (k : Junction) w => (k.wayApply w).1) j

/-- The Waybill write that a request asks for (R293). -/
def Request.wayOp (q : Request) : WayOp :=
  { tick := rd q.body 8 8, ctx := q.ctx, entity := rd q.body 0 4, remove := rd q.body 4 1 == 1, entry := q.body.drop 16 }

theorem waybillWrite_inRange (he : entityOk (rd q.body 0 4) = true) (hne : rd q.body 0 4 ≠ 0) (hrem : rd q.body 4 1 ≤ 1)
    (hsize : (j.recAt q.ctx (rd q.body 8 8)).wbSize ≠ 0) (hahead : j.ahead (rd q.body 8 8) = true) :
    Cmd.waybillWrite.run j m q =
      (if ((j.waybillBy (rd q.body 8 8)).wayApply q.wayOp).2 then { j with wayOps := j.wayOps ++ [q.wayOp] } else j,
       .rc (if ((j.waybillBy (rd q.body 8 8)).wayApply q.wayOp).2 then 0 else 0x33)) := by
  simp only [Cmd.waybillWrite, he, hne, hsize, hahead, if_neg (Nat.not_lt.mpr hrem)]
  change (if ((j.waybillBy (rd q.body 8 8)).wayApply q.wayOp).2 = true then _ else _) = _
  split <;> rfl

theorem refTableLoad_valid {b : Bytes} (htray : j.tray = true) (hbuf : j.buffer q.ctx (rd q.body 8 8) (rd q.body 0 4) = .inr b)
    (hown : owns q.ctx (rd b 6 1) = true) (hbad : refTableBad b = none)
    (hactive : (j.refs.getD (rd b 7 1 % 4) ⟨none, none⟩).active.all (fun y => rd y 6 1 == rd b 6 1) = true)
    (hstaged : (j.refs.getD (rd b 7 1 % 4) ⟨none, none⟩).staged.all (fun y => rd y 6 1 == rd b 6 1) = true)
    (hahead : j.ahead (rd b 0x18 8) = true) :
    Cmd.refTableLoad.run j m q =
      ({ j with refs := j.refs.set (rd b 7 1 % 4) { j.refs.getD (rd b 7 1 % 4) ⟨none, none⟩ with staged := some b } }, .rc 0) := by
  have hsame : ∀ t : Option Bytes, t.all (fun y => rd y 6 1 == rd b 6 1) = true → (match t with | some y => rd y 6 1 != rd b 6 1 | none => false) = false := by
    rintro (_ | y) h
    · rfl
    · simpa using h
  dsimp only [Cmd.refTableLoad]
  rw [htray, if_neg (by decide), hbuf]
  dsimp only
  rw [hown, if_neg (by decide), hbad]
  dsimp only
  rw [if_neg, hahead, if_neg (by decide)]
  rw [Bool.or_eq_true, not_or, Bool.not_eq_true, Bool.not_eq_true]
  exact ⟨hsame _ hactive, hsame _ hstaged⟩

end

/-- Settles O5: none of the six commands looks at the mailboxes, so each completes a served request as it runs on the Junction itself. -/
theorem contextAndModelCommands : Obligations.ContextAndModelCommands := by
  unfold Obligations.ContextAndModelCommands
  refine ⟨?config, ?status, ?transfer, ?bundle, ?waybill, ?table⟩
  case config =>
    intro s m it rest hs hshape c r x hbad hfits hahead
    have hcompletes {k : Junction} {code : Nat} (hcode : code ≠ 0x13) (hrun : Cmd.contextConfig.run s.jn m it.req = (k, .rc code)) :
        CompletesWith (exec (.contextConfig m) s) s m it rest code [] k :=
      completes_of_mailBlind contextConfig_mailBlind (exec_contextConfig m s) hs (.inl (served_ctx hs)) (by decide) hshape hcode hrun
    exact ⟨fun hst hlatch => hcompletes (by decide) (contextConfig_waits rfl rfl hbad hfits hahead hst hlatch),
      fun hst hon => hcompletes (by decide) (contextConfig_latches rfl rfl hbad hfits hahead hst hon),
      fun hst hoff => hcompletes (by decide) (contextConfig_unlatches rfl rfl hbad hfits hahead hst hoff)⟩
  case status =>
    intro s m it rest hs hshape c x hle hsees
    exact completes_of_mailBlind contextStatus_mailBlind (exec_contextStatus m s) hs (.inr rfl) (by decide) hshape (by decide) (contextStatus_seen rfl hle hsees)
  case transfer =>
    intro s m it rest c hs hdec who hown hcode
    have hshape : Cmd.bundleTransfer.shape it.req.body = true := Option.isSome_of_eq_some hdec
    exact completes_of_mailBlind bundleTransfer_mailBlind (exec_bundleTransfer m s) hs (.inr rfl) (by decide) hshape hcode (bundleTransfer_owned hdec hown)
  case bundle =>
    intro s m it rest hs hlen
    have hshape : Cmd.bundleStatus.shape it.req.body = true := by simp [Cmd.bundleStatus, body, hlen]
    have hcompletes {b : Bytes} (hrun : Cmd.bundleStatus.run s.jn m it.req = (s.jn, .done (rc 0) b)) :
        CompletesWith (exec (.bundleStatus m) s) s m it rest 0 b s.jn :=
      completes_of_mailBlind bundleStatus_mailBlind (exec_bundleStatus m s) hs (.inr rfl) (by decide) hshape (by decide) hrun
    cases hb : s.jn.bundle? (rd it.req.body 0 8) with
    | none => exact hcompletes (bundleStatus_unknown hb)
    | some b => exact fun hsees => hcompletes (bundleStatus_seen hb hsees)
  case waybill =>
    intro s m it rest hs hshape e n o he hne hrem hsize hahead
    refine completes_of_mailBlind waybillWrite_mailBlind (exec_waybillWrite m s) hs (.inr rfl) (by decide) hshape ?_
      (waybillWrite_inRange he hne hrem hsize hahead)
    dsimp only [rc]
    split <;> decide
  case table =>
    intro s m it rest b hs hshape htray hbuf hown hbad x hactive hstaged hahead
    exact completes_of_mailBlind refTableLoad_mailBlind (exec_refTableLoad m s) hs (.inr rfl) (by decide) hshape (by decide)
      (refTableLoad_valid htray hbuf hown hbad hactive hstaged hahead)

end Sys2Proof.Machine

/-! # Near-tier memory under every command -/

namespace Sys2Proof.Machine

/-! ## What leaves the near tier alone

One lemma an operation of the Junction, in the order of the model's files. The near tier is written by `Junction.write` alone, and cleared by a cold
reset and by level 2 of the TAP. -/

theorem Junction.mem_of_unlogged {j k : Junction} (h : j.unlogged = k.unlogged) : j.mem = k.mem := show j.unlogged.mem = k.unlogged.mem by rw [h]

theorem Junction.mem_of_quiet {j k : Junction} (h : j.quiet = k.quiet) : j.mem = k.mem := show j.quiet.mem = k.quiet.mem by rw [h]

theorem Junction.mem_of_still {j k : Junction} (h : j.still = k.still) : j.mem = k.mem := show j.still.mem = k.still.mem by rw [h]

@[simp] theorem Junction.foldl_mem {β : Type} {f : Junction → β → Junction} (h : ∀ j b, (f j b).mem = j.mem) (l : List β) (j : Junction) :
    (l.foldl f j).mem = j.mem := foldl_keeps Junction.mem f h l j


/-! JnState -/

@[simp] theorem Junction.onPort_mem (j : Junction) (p : Nat) (f : Port → Port) : (j.onPort p f).mem = j.mem :=
  Junction.mem_of_quiet (Junction.onPort_quiet _ _ _)

@[simp] theorem Junction.setBank_mem (j : Junction) (b : Nat) (x : JnBank) : (j.setBank b x).mem = j.mem := by
  unfold Junction.setBank
  split <;> rfl

@[simp] theorem Junction.countPort_mem (j : Junction) (p s : Nat) : (j.countPort p s).mem = j.mem := rfl

@[simp] theorem Junction.signal_mem (j : Junction) (p code arg : Nat) : (j.signal p code arg).mem = j.mem :=
  Junction.mem_of_quiet (Junction.signal_quiet _ _ _ _)

@[simp] theorem Junction.send_mem (j : Junction) (p vc subch tag : Nat) (b : Bytes) : (j.send p vc subch tag b).mem = j.mem :=
  Junction.mem_of_quiet (Junction.send_quiet _ _ _ _ _ _)

@[simp] theorem Junction.export_mem (j : Junction) (ctx kind tick key : Nat) (data : Bytes) : (j.export_ ctx kind tick key data).mem = j.mem := by
  simp [Junction.export_, apply_ite Junction.mem]

@[simp] theorem Junction.notice_mem (j : Junction) (code : Nat) : (j.notice code).mem = j.mem := Junction.mem_of_quiet (Junction.notice_quiet _ _)

/-! JnOps -/

@[simp] theorem Junction.exportTo_mem (j : Junction) (owner kind tick key : Nat) (data : Bytes) : (j.exportTo owner kind tick key data).mem = j.mem :=
  Junction.mem_of_unlogged (Junction.exportTo_unlogged _ _ _ _ _ _)

@[simp] theorem Junction.enterLog_mem (j : Junction) (l owner : Nat) (b : Bytes) : (j.enterLog l owner b).mem = j.mem :=
  Junction.mem_of_unlogged (Junction.enterLog_unlogged _ _ _ _)

@[simp] theorem Junction.commitRecord_mem (j : Junction) (l owner : Nat) (b : Bytes) : (j.commitRecord l owner b).mem = j.mem :=
  Junction.mem_of_unlogged (Junction.commitRecord_unlogged _ _ _ _)

@[simp] theorem Junction.event_mem (j : Junction) (code : Nat) (words : List Nat) : (j.event code words).1.mem = j.mem :=
  Junction.mem_of_unlogged (Junction.event_unlogged _ _ _)

@[simp] theorem Junction.addTokens_mem (j : Junction) (n : Nat) : (j.addTokens n).mem = j.mem := rfl

@[simp] theorem Junction.queueAlarm_mem (j : Junction) (entity : Nat) (b : Bytes) : (j.queueAlarm entity b).mem = j.mem :=
  Junction.mem_of_quiet (Junction.queueAlarm_quiet _ _ _)

@[simp] theorem Junction.sendAlarm_mem (j : Junction) (cls entity : Nat) (b : Bytes) : (j.sendAlarm cls entity b).mem = j.mem :=
  Junction.mem_of_quiet (Junction.sendAlarm_quiet _ _ _ _)

@[simp] theorem Junction.alarmEvent_mem (j : Junction) (code : Nat) (words : List Nat) (cls entity : Nat) : (j.alarmEvent code words cls entity).mem = j.mem :=
  Junction.mem_of_quiet (Junction.alarmEvent_quiet _ _ _ _ _)

@[simp] theorem Junction.bareAlarm_mem (j : Junction) (cls entity : Nat) (words : List Nat) : (j.bareAlarm cls entity words).mem = j.mem :=
  Junction.mem_of_quiet (Junction.bareAlarm_quiet _ _ _ _)

@[simp] theorem Junction.secEvent_mem (j : Junction) (code detail : Nat) : (j.secEvent code detail).mem = j.mem :=
  Junction.mem_of_quiet (Junction.secEvent_quiet _ _ _)

@[simp] theorem Junction.noteShadow_mem (j : Junction) (p a : Nat) (v : Word) : (j.noteShadow p a v).mem = j.mem := by
  unfold Junction.noteShadow
  dsimp only
  split <;> rfl

@[simp] theorem Junction.request_mem (j : Junction) (p : Nat) (use_ : TxnUse) (ops : List CfgOp) : (j.request p use_ ops).mem = j.mem := by
  simp [Junction.request]

@[simp] theorem Junction.writeLs_mem (j : Junction) (p : Nat) (use_ : TxnUse) (ws : List (Nat × Nat)) : (j.writeLs p use_ ws).mem = j.mem := by
  unfold Junction.writeLs
  split <;> simp

@[simp] theorem Junction.sendFlush_mem (j : Junction) : j.sendFlush.mem = j.mem := by
  unfold Junction.sendFlush
  split <;> simp

@[simp] theorem Junction.flushFor_mem (j : Junction) (reset : Nat) : (j.flushFor reset).mem = j.mem := by
  unfold Junction.flushFor
  split <;> simp

@[simp] theorem Junction.poison_mem (j : Junction) (memory addr : Nat) : (j.poison memory addr).mem = j.mem := by
  unfold Junction.poison
  dsimp only
  split <;> simp

/-! JnAbort -/

@[simp] theorem Junction.relayAbort_mem (j : Junction) (g low : Nat) (arrival : Option Nat) : (j.relayAbort g low arrival).mem = j.mem := by
  simp [Junction.relayAbort]

@[simp] theorem Junction.writeMembers_mem (j : Junction) (e : MemEntry) : (j.writeMembers e).mem = j.mem := by
  simp [Junction.writeMembers, apply_ite Junction.mem]

@[simp] theorem Junction.applyEntry_mem (j : Junction) (e : MemEntry) (rearm : Bool) : (j.applyEntry e rearm).mem = j.mem := by
  simp [Junction.applyEntry, apply_ite Junction.mem]

@[simp] theorem Junction.settleMembers_mem (j : Junction) (e : MemEntry) : (j.settleMembers e).mem = j.mem := by
  unfold Junction.settleMembers
  split <;> simp

@[simp] theorem Junction.latchedEffect_mem (j : Junction) (g : Nat) : (j.latchedEffect g).mem = j.mem := by
  unfold Junction.latchedEffect
  dsimp only
  repeat' split
  all_goals simp

@[simp] theorem Junction.membershipEffect_mem (j : Junction) (g : Nat) : (j.membershipEffect g).mem = j.mem := by
  unfold Junction.membershipEffect
  split <;> simp [apply_ite Junction.mem]

@[simp] theorem Junction.abortReached_mem (j : Junction) (g : Nat) (late : Bool) : (j.abortReached g late).mem = j.mem := by
  unfold Junction.abortReached
  dsimp only
  split <;> simp

@[simp] theorem Junction.abortInstant_mem (j : Junction) (g : Nat) : (j.abortInstant g).mem = j.mem := by
  unfold Junction.abortInstant
  dsimp only
  split <;> simp

@[simp] theorem Junction.originate_mem (j : Junction) (g : Nat) : (j.originate g).mem = j.mem := by
  unfold Junction.originate
  dsimp only
  repeat' split
  all_goals simp

@[simp] theorem Junction.abortReceived_mem (j : Junction) (p g low : Nat) : (j.abortReceived p g low).mem = j.mem := by
  simp [Junction.abortReceived, apply_ite Junction.mem]

@[simp] theorem Junction.writeEpochs_mem (j : Junction) : j.writeEpochs.mem = j.mem := by simp [Junction.writeEpochs, apply_ite Junction.mem]

@[simp] theorem Junction.stopReceived_mem (j : Junction) (p : Nat) : (j.stopReceived p).mem = j.mem := by
  simp [Junction.stopReceived, apply_ite Junction.mem]

@[simp] theorem Junction.dieTo_mem (j : Junction) (k : Nat) (st : DieSt) : (j.dieTo k st).mem = j.mem := by
  unfold Junction.dieTo
  dsimp only
  split <;> simp

@[simp] theorem Junction.saveEpochs_mem (j : Junction) : j.saveEpochs.mem = j.mem := rfl

@[simp] theorem Junction.fence_mem (j : Junction) (k : Nat) : (j.fence k).mem = j.mem := by simp [Junction.fence]

@[simp] theorem Junction.resetCusum_mem (j : Junction) (entity : Nat) : (j.resetCusum entity).mem = j.mem := rfl

@[simp] theorem Junction.dieDeath_mem (j : Junction) (k : Nat) : (j.dieDeath k).mem = j.mem := by simp [Junction.dieDeath, apply_ite Junction.mem]

@[simp] theorem Junction.evalDie_mem (j : Junction) (n k : Nat) (present stale : Bool) : (j.evalDie n k present stale).mem = j.mem := by
  unfold Junction.evalDie
  dsimp only
  repeat' split
  all_goals simp

@[simp] theorem Junction.dieConfigEffect_mem (j : Junction) (k : Nat) : (j.dieConfigEffect k).mem = j.mem := by
  unfold Junction.dieConfigEffect
  dsimp only
  repeat' split
  all_goals simp

@[simp] theorem Junction.readmitEffect_mem (j : Junction) (k : Nat) : (j.readmitEffect k).mem = j.mem := by
  unfold Junction.readmitEffect
  dsimp only
  repeat' split
  all_goals simp

@[simp] theorem Junction.twinStates_mem (j : Junction) (b : Bytes) : (j.twinStates b).mem = j.mem := by
  simp [Junction.twinStates, apply_ite Junction.mem]

/-! JnLink -/

@[simp] theorem Junction.advertise_mem (j : Junction) : j.advertise.mem = j.mem := by simp [Junction.advertise]

@[simp] theorem Junction.lostSet_mem (j : Junction) (p : Nat) : (j.lostSet p).mem = j.mem := by simp [Junction.lostSet, apply_ite Junction.mem]

@[simp] theorem Junction.linkLost_mem (j : Junction) (p : Nat) : (j.linkLost p).mem = j.mem := by
  unfold Junction.linkLost
  dsimp only
  split <;> simp

@[simp] theorem Junction.bulkBytes_mem (j : Junction) (p subch : Nat) (b : Bytes) (done gone short : Bool) : (j.bulkBytes p subch b done gone short).mem = j.mem := by
  simp [Junction.bulkBytes, apply_ite Junction.mem]

@[simp] theorem Junction.portMoved_mem (j : Junction) (p : Nat) (x : Port) : (j.portMoved p x).mem = j.mem := by
  simp [Junction.portMoved, apply_ite Junction.mem]

@[simp] theorem Junction.configureLineside_mem (j : Junction) (k : Nat) : (j.configureLineside k).mem = j.mem := by
  unfold Junction.configureLineside
  dsimp only
  repeat' split
  all_goals simp

@[simp] theorem Junction.linkActive_mem (j : Junction) (p : Nat) : (j.linkActive p).mem = j.mem := by
  simp [Junction.linkActive, apply_ite Junction.mem]

@[simp] theorem Junction.identReceived_mem (j : Junction) (p : Nat) (b : Bytes) : (j.identReceived p b).mem = j.mem := by
  simp [Junction.identReceived]

@[simp] theorem Junction.advertReceived_mem (j : Junction) (p : Nat) (b : Bytes) : (j.advertReceived p b).mem = j.mem := by
  simp [Junction.advertReceived, apply_ite Junction.mem]

@[simp] theorem Junction.txSlot_mem (j : Junction) (p : Nat) : (j.txSlot p).mem = j.mem := by
  unfold Junction.txSlot
  dsimp only
  repeat' split
  all_goals simp

@[simp] theorem Junction.rxFlit_mem (j : Junction) (p slot grid : Nat) (raw : Bytes) : (j.rxFlit p slot grid raw).mem = j.mem := by
  unfold Junction.rxFlit
  dsimp only
  split <;> simp

@[simp] theorem Junction.quarantine_mem (j : Junction) (p : Nat) : (j.quarantine p).mem = j.mem := by
  unfold Junction.quarantine
  dsimp only
  split <;> simp

@[simp] theorem Junction.quarantineEnd_mem (j : Junction) (p : Nat) : (j.quarantineEnd p).mem = j.mem := by
  unfold Junction.quarantineEnd
  dsimp only
  split <;> rfl

@[simp] theorem Junction.fleetStop_mem (j : Junction) (op t : Nat) : (j.fleetStop op t).1.mem = j.mem := by
  unfold Junction.fleetStop
  repeat' split
  all_goals simp

/-! JnTime -/

@[simp] theorem Junction.setClk_mem (j : Junction) (c : Clock) : (j.setClk c).mem = j.mem := by
  unfold Junction.setClk
  split <;> rfl

@[simp] theorem Junction.reselect_mem (j : Junction) : j.reselect.mem = j.mem := by
  unfold Junction.reselect
  dsimp only
  split <;> simp

@[simp] theorem Junction.sourceRevert_mem (j : Junction) : j.sourceRevert.mem = j.mem := by simp [Junction.sourceRevert]

@[simp] theorem Junction.epochAlarm_mem (j : Junction) (p : Nat) (was : Bool) : (j.epochAlarm p was).mem = j.mem := by
  unfold Junction.epochAlarm
  split <;> simp [apply_ite Junction.mem]

@[simp] theorem Junction.measure_mem (j : Junction) (p : Nat) (m : TimeMark) (t2 : Nat) (bad : Bool) : (j.measure p m t2 bad).mem = j.mem := by
  simp [Junction.measure, apply_ite Junction.mem]

@[simp] theorem Junction.tickMark_mem (j : Junction) (p : Nat) : (j.tickMark p).mem = j.mem := by
  unfold Junction.tickMark
  dsimp only
  repeat' split
  all_goals simp

@[simp] theorem Junction.validExchange_mem (j : Junction) : j.validExchange.mem = j.mem := rfl

@[simp] theorem Junction.twinTime_mem (j : Junction) (p : Nat) : (j.twinTime p).mem = j.mem := by
  unfold Junction.twinTime
  split <;> simp [apply_ite Junction.mem]

@[simp] theorem Junction.delayEcho_mem (j : Junction) (p : Nat) : (j.delayEcho p).mem = j.mem := by
  unfold Junction.delayEcho
  split <;> rfl

@[simp] theorem Junction.echoDue_mem (j : Junction) (p : Nat) : (j.echoDue p).mem = j.mem := by
  unfold Junction.echoDue
  dsimp only
  split <;> rfl

@[simp] theorem Junction.holdoverLimit_mem (j : Junction) : j.holdoverLimit.mem = j.mem := by
  unfold Junction.holdoverLimit
  split <;> rfl

@[simp] theorem Junction.extMeasure_mem (j : Junction) (offset : Rat) (err : Nat) : (j.extMeasure offset err).mem = j.mem := by
  simp [Junction.extMeasure, apply_ite Junction.mem]

@[simp] theorem Junction.ppsIn_mem (j : Junction) (err : Nat) : (j.ppsIn err).mem = j.mem := by
  unfold Junction.ppsIn
  split <;> simp [apply_ite Junction.mem]

@[simp] theorem Junction.utcUpdate_mem (j : Junction) : j.utcUpdate.mem = j.mem := by
  unfold Junction.utcUpdate
  repeat' split
  all_goals simp

@[simp] theorem Junction.setMasters_mem (j : Junction) (ms : List Master) : (j.setMasters ms).mem = j.mem := by
  unfold Junction.setMasters
  dsimp only
  split <;> rfl

@[simp] theorem Junction.dropMasters_mem (j : Junction) : j.dropMasters.mem = j.mem := by
  unfold Junction.dropMasters
  dsimp only
  split <;> simp

@[simp] theorem Junction.announce_mem (j : Junction) (m : Master) : (j.announce m).mem = j.mem := by simp [Junction.announce]

@[simp] theorem Junction.syncDone_mem (j : Junction) (t1 : Int) (t2 err : Nat) : (j.syncDone t1 t2 err).mem = j.mem := by
  unfold Junction.syncDone
  dsimp only
  split <;> simp

@[simp] theorem Junction.ptp_mem (j : Junction) (m : PtpMsg) (err : Nat) : (j.ptp m err).mem = j.mem := by
  unfold Junction.ptp
  dsimp only
  repeat' split
  all_goals simp

@[simp] theorem Junction.delayReqDue_mem (j : Junction) : j.delayReqDue.mem = j.mem := by
  unfold Junction.delayReqDue
  split <;> rfl

@[simp] theorem Junction.setDone_mem (j : Junction) : j.setDone.mem = j.mem := rfl

@[simp] theorem Junction.setTime_mem (j : Junction) (t : Nat) : (j.setTime t).mem = j.mem := by
  unfold Junction.setTime
  dsimp only
  split <;> simp

@[simp] theorem Junction.setEdge_mem (j : Junction) : j.setEdge.mem = j.mem := by
  unfold Junction.setEdge
  split <;> rfl

@[simp] theorem Junction.setEpoch_mem (j : Junction) (e : Nat) : (j.setEpoch e).mem = j.mem := rfl

@[simp] theorem Junction.leapReached_mem (j : Junction) : j.leapReached.mem = j.mem := by
  unfold Junction.leapReached
  split <;> rfl

@[simp] theorem Junction.synceOn_mem (j : Junction) (ppt : Int) : (j.synceOn ppt).mem = j.mem := by
  unfold Junction.synceOn
  dsimp only
  repeat' split
  all_goals rfl

@[simp] theorem Junction.synceOff_mem (j : Junction) : j.synceOff.mem = j.mem := by
  unfold Junction.synceOff
  dsimp only
  split <;> rfl

@[simp] theorem Junction.tsEdge_mem (j : Junction) (k : Nat) (falling wide : Bool) : (j.tsEdge k falling wide).mem = j.mem := by
  unfold Junction.tsEdge
  split <;> simp [apply_ite Junction.mem]

@[simp] theorem Junction.trigEdge_mem (j : Junction) (k : Nat) : (j.trigEdge k).mem = j.mem := by
  unfold Junction.trigEdge
  repeat' split
  all_goals simp

@[simp] theorem Junction.ppsOut_mem (j : Junction) : j.ppsOut.mem = j.mem := by
  unfold Junction.ppsOut
  split <;> simp [apply_ite Junction.mem]

/-! JnTick -/

@[simp] theorem Junction.reachDue_mem (j : Junction) (n i : Nat) : (j.reachDue n i).mem = j.mem := rfl

@[simp] theorem Junction.takeStream_mem (j : Junction) (p : Nat) (ok : Stream → Bool) : (j.takeStream p ok).2.mem = j.mem := by
  unfold Junction.takeStream
  dsimp only
  repeat' split
  all_goals rfl

theorem Junction.mem_of_takeStream {j k : Junction} {p : Nat} {ok : Stream → Bool} {x : Option (Stream × Nat × Bytes)} (h : j.takeStream p ok = (x, k)) :
    k.mem = j.mem := by
  rw [← Junction.takeStream_mem j p ok, h]

@[simp] theorem Junction.feed_mem (j : Junction) (n : Nat) (b : Bytes) (ok : Stream → Bool) : (j.feed n b ok).mem = j.mem := by
  unfold Junction.feed
  split <;> simp

@[simp] theorem Junction.frameReceived_mem (j : Junction) (k : Nat) : (j.frameReceived k).mem = j.mem := by
  unfold Junction.frameReceived
  split
  · rename_i h
    rw [← Junction.mem_of_takeStream h]
    split
    · dsimp only
      repeat' split
      all_goals simp
    · rfl
  · rfl

@[simp] theorem Junction.presenceReceived_mem (j : Junction) (p : Nat) : (j.presenceReceived p).mem = j.mem := by
  unfold Junction.presenceReceived
  split
  · rename_i h
    rw [← Junction.mem_of_takeStream h]
    dsimp only
    repeat' split
    all_goals simp
  · rfl

@[simp] theorem Junction.classify_mem (j : Junction) (k : Nat) (f : Bytes) : (j.classify k f).mem = j.mem := by
  unfold Junction.classify
  refine Junction.foldl_mem (fun j s => ?_) _ _
  extract_lets class_ key counted told
  have htold : told.mem = j.mem := Junction.alarmEvent_mem _ _ _ _ _
  have hcounted : counted.mem = j.mem := rfl
  clear_value counted told
  split
  · split
    · rw [Junction.originate_mem, htold]
    · exact htold
  · exact hcounted

@[simp] theorem Junction.dFrame_mem (j : Junction) : j.dFrame.mem = j.mem := by
  unfold Junction.dFrame
  split <;> simp [apply_ite Junction.mem]

@[simp] theorem Junction.trayMerge_mem (j : Junction) (w : TickWork) : (j.trayMerge w).mem = j.mem := by
  unfold Junction.trayMerge
  split <;> rfl

@[simp] theorem Junction.mergeBatch_mem (j : Junction) : j.mergeBatch.mem = j.mem := by
  unfold Junction.mergeBatch
  dsimp only
  repeat' split
  all_goals simp

@[simp] theorem Junction.resolveChild_mem (j : Junction) (w : TickWork) (k : Nat) : (j.resolveChild w k).mem = j.mem := by
  unfold Junction.resolveChild
  dsimp only
  repeat' split
  all_goals simp

@[simp] theorem Junction.partialReceived_mem (j : Junction) (q : Nat) : (j.partialReceived q).mem = j.mem := by
  unfold Junction.partialReceived
  split
  · rename_i h
    rw [← Junction.mem_of_takeStream h]
    split
    · dsimp only
      rw [apply_ite Junction.mem]
      simp only [Junction.resolveChild_mem, apply_ite Junction.mem, Junction.bareAlarm_mem, ite_self]
    · rfl
  · rfl

@[simp] theorem Junction.statsFlit_mem (j : Junction) (p i : Nat) : (j.statsFlit p i).mem = j.mem := by
  unfold Junction.statsFlit
  split
  · rfl
  · split
    · rfl
    · split
      · rfl
      · dsimp only
        split
        · rfl
        · refine Junction.foldl_mem (fun j c => ?_) _ _
          repeat' split
          all_goals simp

@[simp] theorem Junction.streamDeadline_mem (j : Junction) (p id n : Nat) : (j.streamDeadline p id n).mem = j.mem := by
  unfold Junction.streamDeadline
  split <;> simp [apply_ite Junction.mem]

@[simp] theorem Junction.publishField_mem (j : Junction) (n i : Nat) (f : Field) (b : Bytes) : (j.publishField n i f b).mem = j.mem := by
  simp [Junction.publishField, apply_ite Junction.mem]

@[simp] theorem Junction.output_mem (j : Junction) (w : TickWork) (p : Plan) : (j.output w p).mem = j.mem := by
  unfold Junction.output
  extract_lets n root void w' recs digest m boot bumped counted results stats worked fed stated sent
  have hbumped : bumped.mem = j.mem := rfl
  have hcounted : counted.mem = j.mem := by
    unfold counted
    split
    · rw [Junction.logE_mem, Junction.error_mem]; exact hbumped
    · rfl
  have hfed : fed.mem = worked.mem := by
    unfold fed
    split
    · rfl
    · rw [Junction.feed_mem]
  have hstated : stated.mem = fed.mem := by
    unfold stated
    cases stats with
    | some b => exact Junction.feed_mem _ _ _ _
    | none => rfl
  have hsent : sent.mem = j.mem := by
    rw [Junction.feed_mem, hstated, hfed, Junction.setWork_mem, hcounted]
  clear_value sent
  rw [← hsent]
  exact Junction.foldl_mem (fun i x => Junction.publishField_mem _ _ _ _ _) _ _

@[simp] theorem Junction.dTray_mem (j : Junction) : j.dTray.mem = j.mem := by
  unfold Junction.dTray
  split
  · rfl
  · extract_lets n reached w' put alone theirs
    have hreached : reached.mem = j.mem := Junction.reachDue_mem _ _ _
    have hput : put.mem = reached.mem := by
      unfold put
      split
      · exact Junction.output_mem _ _ _
      · exact Junction.setWork_mem _ _
    clear_value reached put
    split
    · rw [Junction.setWork_mem, hreached]
    · refine (Junction.foldl_mem (fun i k => ?_) _ _).trans (hput.trans hreached)
      split
      · exact Junction.evalDie_mem _ _ _ _ _
      · rfl

@[simp] theorem Junction.twinDigestReceived_mem (j : Junction) (p : Nat) : (j.twinDigestReceived p).mem = j.mem := by
  unfold Junction.twinDigestReceived
  split
  · rename_i h
    rw [← Junction.mem_of_takeStream h]
    dsimp only
    repeat' split
    all_goals simp
  · rfl

@[simp] theorem Junction.compareTwin_mem (j : Junction) (w : TickWork) : (j.compareTwin w).mem = j.mem := by
  unfold Junction.compareTwin
  dsimp only
  repeat' split
  all_goals simp

@[simp] theorem Junction.dReduce_mem (j : Junction) (phase : Nat) : (j.dReduce phase).mem = j.mem := by
  unfold Junction.dReduce
  dsimp only
  repeat' split
  all_goals simp

@[simp] theorem Junction.statsStream_mem (j : Junction) (p : Nat) : (j.statsStream p).mem = j.mem := by
  unfold Junction.statsStream
  split
  · rename_i h
    rw [← Junction.mem_of_takeStream h]
    split
    · dsimp only
      simp only [apply_ite Junction.mem, Junction.setWork_mem, Junction.logE_mem, ite_self]
    · rfl
  · rfl

@[simp] theorem Junction.dBcast_mem (j : Junction) : j.dBcast.mem = j.mem := by
  unfold Junction.dBcast
  dsimp only
  repeat' split
  all_goals simp

/-! JnScore -/

@[simp] theorem Junction.fixVectors_mem (j : Junction) (n c : Nat) (e : Ens) (force : Bool) : (j.fixVectors n c e force).mem = j.mem := by
  unfold Junction.fixVectors
  split
  · rfl
  · refine Junction.foldl_mem (fun j x => ?_) _ _
    dsimp only
    repeat' split
    all_goals simp

@[simp] theorem Junction.featureDeadline_mem (j : Junction) (n c ens : Nat) : (j.featureDeadline n c ens).mem = j.mem := by
  unfold Junction.featureDeadline
  split <;> simp

@[simp] theorem Junction.issueLookups_mem (j : Junction) (n : Nat) : (j.issueLookups n).mem = j.mem := by
  unfold Junction.issueLookups
  refine Junction.foldl_mem (fun j c => ?_) _ _
  split
  · rfl
  · refine Junction.foldl_mem (fun j x => ?_) _ _
    repeat' split
    all_goals simp

@[simp] theorem Junction.relook_mem (j : Junction) (m : Nat) : (j.relook m).mem = j.mem := by simp [Junction.relook]

@[simp] theorem Junction.lookupDone_mem (j : Junction) (n c entity : Nat) (error : Bool) : (j.lookupDone n c entity error).mem = j.mem := by
  unfold Junction.lookupDone
  repeat' split
  all_goals simp

@[simp] theorem Junction.freePages_mem (j : Junction) (n c : Nat) : (j.freePages n c).mem = j.mem := by
  unfold Junction.freePages
  split <;> rfl

@[simp] theorem Junction.serveCtx_mem (j : Junction) (c : Nat) : (j.serveCtx c).mem = j.mem := rfl

@[simp] theorem Junction.serve_mem (j : Junction) : j.serve.mem = j.mem := by
  unfold Junction.serve
  refine Junction.foldl_mem (fun i c => ?_) _ _
  simp

@[simp] theorem Junction.treeWalk_mem (j : Junction) (n c ens entity tree : Nat) (fault : Option (Nat × Nat)) : (j.treeWalk n c ens entity tree fault).mem = j.mem := by
  unfold Junction.treeWalk
  repeat' split
  all_goals simp

@[simp] theorem Junction.pageFetched_mem (j : Junction) (n c : Nat) (ok : Bool) : (j.pageFetched n c ok).mem = j.mem := by
  unfold Junction.pageFetched
  dsimp only
  repeat' split
  all_goals simp

@[simp] theorem Junction.detActions_mem (j : Junction) (n : Nat) (e : Det) (old new : Nat) (q : Fp) (entity k : Nat) :
    (j.detActions n e old new q entity k).mem = j.mem := by
  unfold Junction.detActions
  split
  · rfl
  · extract_lets words
    have hevent : (if bit e.action 0 = true then j.event 0x22 words else (j, j.ownRecord 0x22 0 true words)).1.mem = j.mem := by
      split
      · exact Junction.event_mem _ _ _
      · rfl
    generalize (if bit e.action 0 = true then j.event 0x22 words else (j, j.ownRecord 0x22 0 true words)) = x at hevent ⊢
    obtain ⟨i, b⟩ := x
    change i.mem = j.mem at hevent
    dsimp only
    rw [← hevent]
    split
    · refine (Junction.foldl_mem (fun j g => ?_) _ _).trans ?_
      · repeat' split
        all_goals simp
      · repeat' split
        all_goals simp
    · repeat' split
      all_goals simp

@[simp] theorem Junction.evalPair_mem (j : Junction) (n c : Nat) (t : DetTable) (e : Det) (entity k : Nat) : (j.evalPair n c t e entity k).mem = j.mem := by
  unfold Junction.evalPair
  dsimp only
  repeat' split
  all_goals simp

@[simp] theorem Junction.detBatch_mem (j : Junction) (n c : Nat) : (j.detBatch n c).mem = j.mem := by
  unfold Junction.detBatch
  split <;> simp

@[simp] theorem Junction.verdict_mem (j : Junction) (w : TickWork) (c : Nat) (t : DetTable) (scope entity k : Nat) :
    (j.verdict w c t scope entity k).mem = j.mem := by
  unfold Junction.verdict
  extract_lets dets evs done late extra undone kept level f die key age env
  have hundone : undone.mem = j.mem := by
    unfold undone
    split <;> rfl
  clear_value undone
  rw [← hundone]
  split
  extract_lets noted
  have hnoted : noted.mem = undone.mem := rfl
  clear_value noted
  split
  · rw [Junction.setWork_mem, hnoted]
  · exact hnoted

@[simp] theorem Junction.dScoreEnd_mem (j : Junction) : j.dScoreEnd.mem = j.mem := by
  unfold Junction.dScoreEnd
  split
  · rfl
  · extract_lets n reached judged ended
    have hjudged : judged.mem = j.mem := by
      refine (Junction.foldl_mem (fun i c => ?_) _ _).trans (Junction.reachDue_mem _ _ _)
      split
      · rfl
      · refine Junction.foldl_mem (fun i s => Junction.foldl_mem (fun i x => ?_) _ _) _ _
        split
        · exact Junction.verdict_mem _ _ _ _ _ _ _
        · rfl
    have hended : ended.mem = judged.mem := by
      unfold ended
      split
      · exact Junction.setWork_mem _ _
      · rfl
    clear_value ended judged
    split
    · exact hended.trans hjudged
    · exact hended.trans hjudged

@[simp] theorem Junction.history_mem (j : Junction) (n c : Nat) (vs : List Bytes) : (j.history n c vs).mem = j.mem := by
  simp [Junction.history, apply_ite Junction.mem]

@[simp] theorem Junction.farCopy_mem (j : Junction) (c : Nat) : (j.farCopy c).mem = j.mem := by simp [Junction.farCopy, apply_ite Junction.mem]

@[simp] theorem Junction.journal_mem (j : Junction) (b : Bytes) : (j.journal b).mem = j.mem := by simp [Junction.journal, apply_ite Junction.mem]

@[simp] theorem Junction.dPublish_mem (j : Junction) : j.dPublish.mem = j.mem := by
  unfold Junction.dPublish
  split
  · rfl
  · refine (Junction.foldl_mem (fun j c => ?_) _ _).trans (by simp)
    refine (Junction.foldl_mem (fun j v => ?_) _ _).trans (by simp)
    dsimp only
    repeat' split
    all_goals simp

/-! JnForecast -/

@[simp] theorem Junction.count_mem (j : Junction) (g : Grp) (f : GrpCounts → GrpCounts) : (j.count g f).mem = j.mem := rfl

@[simp] theorem Junction.residualPass_mem (j : Junction) : j.residualPass.mem = j.mem := by
  unfold Junction.residualPass
  split
  · rfl
  · extract_lets counted
    have hcounted : counted.mem = j.mem := by
      refine Junction.foldl_mem (fun i g => Junction.foldl_mem (fun i r => ?_) _ _) _ _
      split
      · split
        · rw [Junction.setWork_mem, Junction.count_mem]
        · rfl
      · exact Junction.count_mem _ _ _
    clear_value counted
    split
    · rw [Junction.setWork_mem, hcounted]
    · exact hcounted

@[simp] theorem Junction.updateStart_mem (j : Junction) : j.updateStart.mem = j.mem := by
  unfold Junction.updateStart
  repeat' split
  all_goals simp

@[simp] theorem Junction.seqStep_mem (j : Junction) (fv : Nat → Nat) (fault : Bool) : (j.seqStep fv fault).mem = j.mem := by
  unfold Junction.seqStep
  dsimp only
  repeat' split
  all_goals simp

/-! JnModel -/

@[simp] theorem Junction.setBundle_mem (j : Junction) (b : Bundle) : (j.setBundle b).mem = j.mem := rfl

@[simp] theorem Junction.dropBundle_mem (j : Junction) (id : Nat) : (j.dropBundle id).mem = j.mem := rfl

@[simp] theorem Junction.forwardChunk_mem (j : Junction) (head : Bytes) (c : Chunk) : (j.forwardChunk head c).mem = j.mem := by
  simp [Junction.forwardChunk, apply_ite Junction.mem]

@[simp] theorem Junction.chunk_mem (j : Junction) (c : Chunk) : (j.chunk c).1.mem = j.mem := by
  unfold Junction.chunk
  dsimp only
  repeat' split
  all_goals simp

@[simp] theorem Junction.chunkReceived_mem (j : Junction) (p : Nat) : (j.chunkReceived p).mem = j.mem := by
  unfold Junction.chunkReceived
  dsimp only
  repeat' split
  all_goals simp

@[simp] theorem Junction.bundleTimeout_mem (j : Junction) (id : Nat) : (j.bundleTimeout id).mem = j.mem := by
  unfold Junction.bundleTimeout
  split <;> simp [apply_ite Junction.mem]

@[simp] theorem Junction.stagePack_mem (j : Junction) (b : Bundle) : (j.stagePack b).mem = j.mem := by
  unfold Junction.stagePack
  dsimp only
  repeat' split
  all_goals rfl

@[simp] theorem Junction.bundleVerify_mem (j : Junction) (id : Nat) : (j.bundleVerify id).mem = j.mem := by
  unfold Junction.bundleVerify
  dsimp only
  repeat' split
  all_goals simp

@[simp] theorem Junction.freshDets_mem (j : Junction) (c : Nat) (old new : Option DetTable) : (j.freshDets c old new).mem = j.mem := rfl

@[simp] theorem Junction.freshGroups_mem (j : Junction) (c : Nat) (old new : List Grp) : (j.freshGroups c old new).mem = j.mem := rfl

@[simp] theorem Junction.writePack_mem (j : Junction) (t : TestPack) : (j.writePack t).mem = j.mem := by
  simp [Junction.writePack, apply_ite Junction.mem]

@[simp] theorem Junction.bundleActivate_mem (j : Junction) (c type : Nat) : (j.bundleActivate c type).mem = j.mem := by
  unfold Junction.bundleActivate
  dsimp only
  repeat' split
  all_goals simp

@[simp] theorem Junction.applyRec_mem (j : Junction) (c : Nat) (r : CtxRec) : (j.applyRec c r).mem = j.mem := by
  unfold Junction.applyRec
  dsimp only
  repeat' split
  all_goals rfl

@[simp] theorem Junction.contextLatched_mem (j : Junction) (c : Nat) : (j.contextLatched c).mem = j.mem := by
  unfold Junction.contextLatched
  dsimp only
  repeat' split
  all_goals simp

@[simp] theorem Junction.contextEffect_mem (j : Junction) (c : Nat) : (j.contextEffect c).mem = j.mem := by
  unfold Junction.contextEffect
  split <;> simp [apply_ite Junction.mem]

@[simp] theorem Junction.drainDone_mem (j : Junction) (c : Nat) : (j.drainDone c).mem = j.mem := by simp [Junction.drainDone, apply_ite Junction.mem]

@[simp] theorem Junction.refActivate_mem (j : Junction) (s : Nat) : (j.refActivate s).mem = j.mem := by
  unfold Junction.refActivate
  split <;> simp [apply_ite Junction.mem]

@[simp] theorem Junction.testCollect_mem (j : Junction) : j.testCollect.mem = j.mem := by
  unfold Junction.testCollect
  split <;> simp [apply_ite Junction.mem]

@[simp] theorem Junction.testResult_mem (j : Junction) (k : Nat) (img : Bytes) : (j.testResult k img).mem = j.mem := by
  unfold Junction.testResult
  split <;> simp

@[simp] theorem Junction.scrub_mem (j : Junction) (memory addr fate : Nat) (owner : LineOwner) : (j.scrub memory addr fate owner).mem = j.mem := by
  unfold Junction.scrub
  dsimp only
  repeat' split
  all_goals simp

@[simp] theorem Junction.spareCheck_mem (j : Junction) : j.spareCheck.mem = j.mem := by
  unfold Junction.spareCheck
  split <;> simp

@[simp] theorem Junction.wearMove_mem (j : Junction) (failed : Bool) : (j.wearMove failed).mem = j.mem := by
  unfold Junction.wearMove
  dsimp only
  repeat' split
  all_goals simp

/-! JnBank -/

@[simp] theorem Junction.deriveMaps_mem (j : Junction) (t : TtImage) (k : Nat) : (j.deriveMaps t k).mem = j.mem := by
  unfold Junction.deriveMaps
  split <;> simp

@[simp] theorem Junction.banksKnown_mem (j : Junction) (k : Nat) : (j.banksKnown k).mem = j.mem := by
  unfold Junction.banksKnown
  dsimp only
  repeat' split
  all_goals simp

@[simp] theorem Junction.ttLoad_mem (j : Junction) (b : Nat) (img : Bytes) : (j.ttLoad b img).1.mem = j.mem := by
  unfold Junction.ttLoad
  dsimp only
  repeat' split
  all_goals simp

@[simp] theorem Junction.planLoad_mem (j : Junction) (b : Nat) (img : Bytes) : (j.planLoad b img).1.mem = j.mem := by
  unfold Junction.planLoad
  dsimp only
  repeat' split
  all_goals simp

@[simp] theorem Junction.ttArm_mem (j : Junction) (b m : Nat) : (j.ttArm b m).1.mem = j.mem := by
  unfold Junction.ttArm
  dsimp only
  repeat' split
  all_goals simp

@[simp] theorem Junction.ttCancel_mem (j : Junction) (b : Nat) : (j.ttCancel b).1.mem = j.mem := by
  unfold Junction.ttCancel
  dsimp only
  repeat' split
  all_goals simp

@[simp] theorem Junction.bankSwitch_mem (j : Junction) : j.bankSwitch.mem = j.mem := by
  unfold Junction.bankSwitch
  simp only
  repeat' split
  all_goals simp [apply_ite Junction.mem]

@[simp] theorem Junction.bankRelease_mem (j : Junction) : j.bankRelease.mem = j.mem := by
  unfold Junction.bankRelease
  split <;> simp [apply_ite Junction.mem]

/-! JnReply -/

@[simp] theorem Junction.sendProtected_mem (j : Junction) (port : Nat) (l : List Bytes) : (j.sendProtected port l).mem = j.mem :=
  Junction.mem_of_still (Junction.sendProtected_still _ _ _)

@[simp] theorem Junction.deliver_mem (j : Junction) (m : Nat) (it : Taken) (r : Reply) : (j.deliver m it r).mem = j.mem :=
  Junction.mem_of_still (Junction.deliver_still _ _ _ _)

@[simp] theorem Junction.giveReply_mem (j : Junction) (m : Nat) (it : Taken) (r : Reply) (keep : Bool) : (j.giveReply m it r keep).mem = j.mem :=
  Junction.mem_of_still (Junction.giveReply_still _ _ _ _ _)

@[simp] theorem Junction.owe_mem (j : Junction) (m : Nat) (it : Taken) (w : Waits) : (j.owe m it w).mem = j.mem :=
  Junction.mem_of_still (Junction.owe_still _ _ _ _)

@[simp] theorem Junction.payMailbox_mem (j : Junction) (m : Nat) (pick : Owed → Bool) (r : Request → Nat → Reply) : (j.payMailbox m pick r).mem = j.mem :=
  Junction.mem_of_still (Junction.payMailbox_still _ _ _ _)

@[simp] theorem Junction.pay_mem (j : Junction) (pick : Owed → Bool) (r : Rc) (body : Bytes) : (j.pay pick r body).mem = j.mem :=
  Junction.mem_of_still (Junction.pay_still _ _ _ _)

@[simp] theorem Junction.settleLinks_mem (j : Junction) : j.settleLinks.mem = j.mem := Junction.mem_of_still (Junction.settleLinks_still _)

/-! JnEdge -/

@[simp] theorem Junction.rateEdge_mem (j : Junction) (n : Nat) : (j.rateEdge n).mem = j.mem := rfl

@[simp] theorem Junction.portEdge_mem (j : Junction) (n : Nat) : (j.portEdge n).mem = j.mem := rfl

@[simp] theorem Junction.workEdge_mem (j : Junction) (n : Nat) : (j.workEdge n).mem = j.mem := rfl

@[simp] theorem Junction.twinEdge_mem (j : Junction) : j.twinEdge.mem = j.mem := by simp [Junction.twinEdge, apply_ite Junction.mem]

@[simp] theorem Junction.engineEdge_mem (j : Junction) (n : Nat) : (j.engineEdge n).mem = j.mem := rfl

@[simp] theorem Junction.fenceEdge_mem (j : Junction) : j.fenceEdge.mem = j.mem := by simp [Junction.fenceEdge, apply_ite Junction.mem]

@[simp] theorem Junction.sampleEdge_mem (j : Junction) : j.sampleEdge.mem = j.mem := by
  unfold Junction.sampleEdge
  dsimp only
  repeat' split
  all_goals simp

@[simp] theorem Junction.judgingStart_mem (j : Junction) : j.judgingStart.mem = j.mem := by
  unfold Junction.judgingStart
  split <;> rfl

@[simp] theorem Junction.twinLost_mem (j : Junction) : j.twinLost.mem = j.mem := by
  unfold Junction.twinLost
  split <;> rfl

@[simp] theorem Junction.takeover_mem (j : Junction) : j.takeover.mem = j.mem := by
  unfold Junction.takeover
  split <;> simp [apply_ite Junction.mem]

@[simp] theorem Junction.dutyTransfer_mem (j : Junction) (m : Nat) : (j.dutyTransfer m).1.mem = j.mem := by
  unfold Junction.dutyTransfer
  repeat' split
  all_goals simp

theorem Junction.setTwin_mem (j : Junction) (t : JnTwin) : ({ j with twin := t } : Junction).mem = j.mem := rfl

@[simp] theorem Junction.finalAcks_mem (j : Junction) : j.finalAcks.mem = j.mem := by
  unfold Junction.finalAcks
  split
  · dsimp -proj only
    rw [Junction.setTwin_mem]
    exact Junction.foldl_mem (fun j k => Junction.foldl_mem (fun j p => Junction.send_mem _ _ _ _ _ _) _ _) _ _
  · rfl

@[simp] theorem Junction.dutyEffect_mem (j : Junction) : j.dutyEffect.mem = j.mem := by
  unfold Junction.dutyEffect
  split
  · split
    · rfl
    · extract_lets t
      clear_value t
      split
      · rfl
      · split
        · rw [Junction.finalAcks_mem]
        · rfl
  · rfl

@[simp] theorem Junction.twinStatesReceived_mem (j : Junction) (p : Nat) : (j.twinStatesReceived p).mem = j.mem := by
  unfold Junction.twinStatesReceived
  split <;> simp [apply_ite Junction.mem]

@[simp] theorem Junction.packJobs_mem (j : Junction) : j.packJobs.mem = j.mem := rfl

@[simp] theorem Junction.markExported_mem (j : Junction) (kind : Nat) (out : List Bytes) : (j.markExported kind out).mem = j.mem := by
  unfold Junction.markExported
  split <;> rfl

@[simp] theorem Junction.exportClose_mem (j : Junction) (ctx kind : Nat) : (j.exportClose ctx kind).mem = j.mem := by
  unfold Junction.exportClose
  dsimp only
  repeat' split
  all_goals simp

@[simp] theorem Junction.exportService_mem (j : Junction) (port : Nat) : (j.exportService port).mem = j.mem := by
  unfold Junction.exportService
  split <;> simp

@[simp] theorem Junction.exportSent_mem (j : Junction) (port : Nat) : (j.exportSent port).mem = j.mem := by
  unfold Junction.exportSent
  split
  · rfl
  · dsimp only
    split <;> simp

@[simp] theorem Junction.mirrored_mem (j : Junction) (b : Bytes) : (j.mirrored b).mem = j.mem := by simp [Junction.mirrored]

@[simp] theorem Junction.mirrorReceived_mem (j : Junction) (p : Nat) : (j.mirrorReceived p).mem = j.mem := by
  unfold Junction.mirrorReceived
  dsimp only
  repeat' split
  all_goals simp

@[simp] theorem Junction.bulkReceived_mem (j : Junction) (p subch : Nat) : (j.bulkReceived p subch).mem = j.mem := by
  unfold Junction.bulkReceived
  dsimp only
  repeat' split
  all_goals simp

@[simp] theorem Junction.setRun_mem (j : Junction) (u : Nat) (r : Option (BallastJob × Bool)) : (j.setRun u r).mem = j.mem := rfl

@[simp] theorem Junction.jobReply_mem (j : Junction) (u id : Nat) (c : Bytes) : (j.jobReply u id c).mem = j.mem := by simp [Junction.jobReply]

@[simp] theorem Junction.jobStart_mem (j : Junction) (u : Nat) : (j.jobStart u).mem = j.mem := by
  unfold Junction.jobStart
  dsimp only
  repeat' split
  all_goals simp

@[simp] theorem Junction.logbookReceived_mem (j : Junction) (p : Nat) : (j.logbookReceived p).mem = j.mem := by
  unfold Junction.logbookReceived
  repeat' split
  all_goals simp

@[simp] theorem Junction.noteUnlock_mem (j : Junction) (l dup : Nat) (b : Bytes) : (j.noteUnlock l dup b).mem = j.mem := by
  unfold Junction.noteUnlock
  split <;> simp

@[simp] theorem Junction.logCommit_mem (j : Junction) (l : Nat) : (j.logCommit l).mem = j.mem := by
  unfold Junction.logCommit
  split
  · extract_lets dup log taken own told
    have hown : own.mem = j.mem := (Junction.commitRecord_mem _ _ _ _).trans (Junction.setLog_mem _ _ _)
    have htold : told.mem = j.mem := (Junction.noteUnlock_mem _ _ _ _).trans hown
    clear_value own told
    split
    · exact hown
    · split
      · dsimp only
        split
        · exact htold
        · rw [Junction.writeLs_mem, Junction.setLog_mem, htold]
      · exact htold
  · rfl

@[simp] theorem Junction.alarmReceived_mem (j : Junction) (p : Nat) : (j.alarmReceived p).mem = j.mem := by
  unfold Junction.alarmReceived
  split <;> simp

@[simp] theorem Junction.cfgReply_mem (j : Junction) (p : Nat) : (j.cfgReply p).mem = j.mem := by
  unfold Junction.cfgReply
  dsimp only
  repeat' split
  all_goals simp

/-! JnBoot -/

@[simp] theorem Junction.warmHold_mem (j : Junction) (last : Nat) : (j.warmHold last).mem = j.mem := rfl

@[simp] theorem Junction.enterService_mem (j : Junction) (st cause : Nat) : (j.enterService st cause).mem = j.mem := by
  simp [Junction.enterService, apply_ite Junction.mem]

@[simp] theorem Junction.toRelay_mem (j : Junction) (cause : Nat) : (j.toRelay cause).mem = j.mem := by simp [Junction.toRelay]

@[simp] theorem Junction.bringUp_mem (j : Junction) (b : BootIn) (wasRelay : Bool) : (j.bringUp b wasRelay).mem = j.mem := by
  simp [Junction.bringUp, apply_ite Junction.mem]

@[simp] theorem Junction.coldBoot_mem (j : Junction) (b : BootIn) : (j.coldBoot b).mem = j.mem := by simp [Junction.coldBoot, apply_ite Junction.mem]

@[simp] theorem Junction.porstRise_mem (j : Junction) (b : BootIn) : (j.porstRise b).mem = j.mem := by
  unfold Junction.porstRise
  dsimp only
  split <;> simp

@[simp] theorem Junction.refclkBack_mem (j : Junction) (b : BootIn) : (j.refclkBack b).mem = j.mem := by
  unfold Junction.refclkBack
  dsimp only
  split <;> simp

@[simp] theorem Junction.commitAll_mem (j : Junction) : j.commitAll.mem = j.mem := by
  unfold Junction.commitAll
  refine Junction.foldl_mem (fun i l => ?_) _ _
  simp

@[simp] theorem Junction.flushExpiry_mem (j : Junction) (b : BootIn) : (j.flushExpiry b).mem = j.mem := by
  simp [Junction.flushExpiry, apply_ite Junction.mem]

@[simp] theorem Junction.powerFail_mem (j : Junction) (ns : Nat) (taken : Bool) : (j.powerFail ns taken).mem = j.mem := by
  simp [Junction.powerFail, apply_ite Junction.mem]

@[simp] theorem Junction.powerFlushed_mem (j : Junction) : j.powerFlushed.mem = j.mem := by
  unfold Junction.powerFlushed
  split <;> simp

@[simp] theorem Junction.powerClear_mem (j : Junction) : j.powerClear.mem = j.mem := by
  unfold Junction.powerClear
  split <;> rfl

@[simp] theorem Junction.roleConfirm_mem (j : Junction) (level twin index : Nat) : (j.roleConfirm level twin index).1.mem = j.mem := by
  unfold Junction.roleConfirm
  dsimp only
  repeat' split
  all_goals simp

@[simp] theorem Junction.selfCheck_mem (j : Junction) (row i : Nat) (ok : Bool) : (j.selfCheck row i ok).mem = j.mem := by
  unfold Junction.selfCheck
  dsimp only
  repeat' split
  all_goals simp

@[simp] theorem Junction.stackError_mem (j : Junction) : j.stackError.mem = j.mem := by
  unfold Junction.stackError
  split <;> rfl

@[simp] theorem Junction.relayOnly_mem (j : Junction) : j.relayOnly.mem = j.mem := by
  unfold Junction.relayOnly
  split <;> simp [apply_ite Junction.mem]

/-! JnMail -/

@[simp] theorem Junction.notePrivilege_mem (j : Junction) (code op : Nat) : (j.notePrivilege code op).mem = j.mem :=
  Junction.mem_of_quiet (Junction.notePrivilege_quiet _ _ _)

@[simp] theorem Junction.answer_mem (j : Junction) (m : Nat) (it : Taken) (r : Rc) (b : Bytes) (keep : Bool) : (j.answer m it r b keep).mem = j.mem :=
  Junction.mem_of_still (Junction.answer_still _ _ _ _ _ _)

@[simp] theorem Junction.resend_mem (j : Junction) (m : Nat) (it : Taken) : (j.resend m it).mem = j.mem := by
  unfold Junction.resend
  dsimp only
  repeat' split
  all_goals simp

@[simp] theorem Junction.popTaken_mem (j : Junction) (m : Nat) : (j.popTaken m).mem = j.mem := Junction.mem_of_still (Junction.popTaken_still _ _)

theorem Junction.process_memory {P : List Host.Cell → Prop} {opens run : Junction → Junction} (hopens : ∀ i : Junction, P i.mem → P (opens i).mem)
    (hrun : ∀ i : Junction, P i.mem → P (run i).mem) {j : Junction} (m : Nat) (it : Taken) (h : P j.mem) : P (j.process m it opens run).mem := by
  have hpop : P (j.popTaken m).mem := by rwa [Junction.popTaken_mem]
  unfold Junction.process
  dsimp only
  split
  · exact hopens _ hpop
  · rw [Junction.answer_mem]
    split
    · rwa [Junction.setMbox_mem]
    · exact hpop
  · rwa [Junction.resend_mem]
  · refine hrun _ ?_
    split
    · exact hpop
    · rwa [Junction.setMbox_mem]

@[simp] theorem Junction.settle_mem (j : Junction) (m : Nat) : (j.settle m).mem = j.mem := by
  unfold Junction.settle
  refine Junction.foldl_mem (fun i n => ?_) _ _
  split
  · split
    · rfl
    · exact Junction.process_memory (P := (· = i.mem)) (fun _ h => h) (fun k h => (Junction.answer_mem k _ _ _ _ _).trans h) _ _ rfl
  · rfl

@[simp] theorem Junction.enqueue_mem (j : Junction) (m : Nat) (it : Taken) : (j.enqueue m it).mem = j.mem := by simp [Junction.enqueue]

@[simp] theorem Junction.requestTake_mem (j : Junction) (m : Nat) (slot : Bytes) : (j.requestTake m slot).mem = j.mem := by
  unfold Junction.requestTake
  split <;> simp [apply_ite Junction.mem]

@[simp] theorem Junction.dropDatagram_mem (j : Junction) (m : Nat) : (j.dropDatagram m).mem = j.mem := by simp [Junction.dropDatagram]

@[simp] theorem Junction.segment_mem (j : Junction) (port m source : Nat) (b : Bytes) : (j.segment port m source b).mem = j.mem := by
  unfold Junction.segment
  dsimp only
  repeat' split
  all_goals simp

@[simp] theorem Junction.datagram_mem (j : Junction) (port : Nat) (prot : Bool) (an pn source : Nat) (b : Bytes) : (j.datagram port prot an pn source b).mem = j.mem := by
  unfold Junction.datagram
  dsimp only
  repeat' split
  all_goals simp

@[simp] theorem Junction.segmentTimeout_mem (j : Junction) (m : Nat) : (j.segmentTimeout m).mem = j.mem := rfl

@[simp] theorem Junction.subtreeAdvert_mem (j : Junction) (p : Nat) : (j.subtreeAdvert p).mem = j.mem := by
  unfold Junction.subtreeAdvert
  split <;> simp

@[simp] theorem Junction.relayedRequest_mem (j : Junction) (p : Nat) : (j.relayedRequest p).mem = j.mem := by
  unfold Junction.relayedRequest
  dsimp only
  repeat' split
  all_goals simp

@[simp] theorem Junction.relayedReply_mem (j : Junction) (p : Nat) : (j.relayedReply p).mem = j.mem := by
  unfold Junction.relayedReply
  dsimp only
  repeat' split
  all_goals simp

@[simp] theorem Junction.relayTimeout_mem (j : Junction) : j.relayTimeout.mem = j.mem := by simp [Junction.relayTimeout]

@[simp] theorem Junction.sessionExpiry_mem (j : Junction) (m : Nat) : (j.sessionExpiry m).mem = j.mem := by
  unfold Junction.sessionExpiry
  dsimp only
  repeat' split
  all_goals simp

/-! JnFw -/

@[simp] theorem Junction.fwVerifyDone_mem (j : Junction) : j.fwVerifyDone.mem = j.mem := by simp [Junction.fwVerifyDone, apply_ite Junction.mem]

@[simp] theorem Junction.fwActivation_mem (j : Junction) : j.fwActivation.mem = j.mem := by
  unfold Junction.fwActivation
  dsimp only
  repeat' split
  all_goals rfl

@[simp] theorem Junction.fwResume_mem (j : Junction) : j.fwResume.mem = j.mem := by simp [Junction.fwResume, apply_ite Junction.mem]

@[simp] theorem Junction.fwRevert_mem (j : Junction) : j.fwRevert.mem = j.mem := by
  unfold Junction.fwRevert
  split <;> simp

@[simp] theorem Junction.modeEffect_mem (j : Junction) : j.modeEffect.mem = j.mem := by
  unfold Junction.modeEffect
  split <;> simp [apply_ite Junction.mem]

@[simp] theorem Junction.dbgChallenge_mem (j : Junction) : j.dbgChallenge.mem = j.mem := by
  unfold Junction.dbgChallenge
  dsimp only
  split <;> rfl

/-! JnCmdA -/

@[simp] theorem Junction.movePort_mem (j : Junction) (p : Nat) (x : Port) : (j.movePort p x).mem = j.mem := by simp [Junction.movePort]

@[simp] theorem Junction.sessionOpen_mem (j : Junction) (m : Nat) (q : Request) : (j.sessionOpen m q).1.mem = j.mem := by
  unfold Junction.sessionOpen
  dsimp only
  repeat' split
  all_goals simp

@[simp] theorem Junction.heartbeat_mem (j : Junction) (m : Nat) (q : Request) : (j.heartbeat m q).1.mem = j.mem := by
  unfold Junction.heartbeat
  dsimp only
  split <;> rfl

/-! JnCmdC -/

@[simp] theorem Junction.loadEntry_mem (j : Junction) (q : Request) (rearm : Bool) : (j.loadEntry q rearm).1.mem = j.mem := by
  unfold Junction.loadEntry
  dsimp only
  repeat' split
  all_goals simp

@[simp] theorem Junction.timeEpoch_mem (j : Junction) (b : Bytes) : (j.timeEpoch b).1.mem = j.mem := by
  unfold Junction.timeEpoch
  repeat' split
  all_goals simp

@[simp] theorem Junction.timeRef_mem (j : Junction) (b : Bytes) : (j.timeRef b).1.mem = j.mem := by
  unfold Junction.timeRef
  dsimp only
  repeat' split
  all_goals simp

@[simp] theorem Junction.timeServo_mem (j : Junction) (b : Bytes) : (j.timeServo b).1.mem = j.mem := by
  unfold Junction.timeServo
  dsimp only
  repeat' split
  all_goals rfl

@[simp] theorem Junction.timeUtc_mem (j : Junction) (b : Bytes) : (j.timeUtc b).1.mem = j.mem := by
  unfold Junction.timeUtc
  repeat' split
  all_goals simp

@[simp] theorem Junction.timeDelay_mem (j : Junction) (b : Bytes) : (j.timeDelay b).1.mem = j.mem := by
  unfold Junction.timeDelay
  dsimp only
  repeat' split
  all_goals rfl

@[simp] theorem Junction.trigConfig_mem (j : Junction) (b : Bytes) : (j.trigConfig b).1.mem = j.mem := by
  unfold Junction.trigConfig
  dsimp only
  repeat' split
  all_goals rfl

@[simp] theorem Junction.relayStop_mem (j : Junction) (q : Request) : (j.relayStop q).mem = j.mem := by
  unfold Junction.relayStop
  split
  · rfl
  · refine Junction.foldl_mem (fun i x => ?_) _ _
    repeat' split
    all_goals simp

@[simp] theorem Junction.linesideOps_mem (j : Junction) (p : Nat) (ops : List CfgOp) : (j.linesideOps p ops).1.mem = j.mem := by
  simp [Junction.linesideOps]

/-! JnCmdD -/

@[simp] theorem Junction.exportDest_mem (j : Junction) (b : Bytes) : (j.exportDest b).1.mem = j.mem := by
  unfold Junction.exportDest
  dsimp only
  repeat' split
  all_goals rfl

@[simp] theorem Junction.exportStream_mem (j : Junction) (b : Bytes) : (j.exportStream b).1.mem = j.mem := by
  unfold Junction.exportStream
  dsimp only
  split <;> rfl

@[simp] theorem Junction.exportField_mem (j : Junction) (b : Bytes) : (j.exportField b).1.mem = j.mem := by
  unfold Junction.exportField
  dsimp only
  split <;> rfl

@[simp] theorem Junction.exportPolicer_mem (j : Junction) (b : Bytes) : (j.exportPolicer b).1.mem = j.mem := by
  unfold Junction.exportPolicer
  dsimp only
  repeat' split
  all_goals rfl

/-! JnCsr -/

@[simp] theorem Junction.csrRead_mem (j : Junction) (tap : Bool) (off size : Nat) : (j.csrRead tap off size).mem = j.mem := by
  unfold Junction.csrRead
  repeat' split
  all_goals simp

@[simp] theorem Junction.csrWrite4_mem (j : Junction) (off v : Nat) : (j.csrWrite4 off v).mem = j.mem := by
  simp [Junction.csrWrite4, apply_ite Junction.mem]

@[simp] theorem Junction.barWrite4_mem (j : Junction) (off v : Nat) : (j.barWrite4 off v).mem = j.mem := by
  unfold Junction.barWrite4
  split <;> simp

@[simp] theorem Junction.barWrite_mem (j : Junction) (tap : Bool) (off size v : Nat) : (j.barWrite tap off size v).mem = j.mem := by
  simp [Junction.barWrite, apply_ite Junction.mem]

@[simp] theorem Junction.captureClear_mem (j : Junction) (same : List (Nat × Nat × Nat)) : (j.captureClear same).mem = j.mem := rfl

/-! Ops -/

@[simp] theorem Junction.trainFrame_mem (j : Junction) (p : Nat) (samePhase : Bool) (h : Nat) : (j.trainFrame p samePhase h).mem = j.mem := by
  simp [Junction.trainFrame]

@[simp] theorem Junction.identFlit_mem (j : Junction) (p : Nat) (raw : Bytes) : (j.identFlit p raw).mem = j.mem := by
  rw [Junction.identFlit_eq]
  cases identMessage raw with
  | none => rfl
  | some b => exact Junction.identReceived_mem _ _ _

@[simp] theorem Junction.crcEnableApply_mem (j : Junction) (i : Nat) : (j.crcEnableApply i).mem = j.mem := by
  unfold Junction.crcEnableApply
  dsimp only
  split <;> rfl

@[simp] theorem Junction.ethLink_mem (j : Junction) (p : Nat) (up : Bool) : (j.ethLink p up).mem = j.mem := by
  unfold Junction.ethLink
  split <;> rfl

@[simp] theorem Junction.ethControl_mem (j : Junction) (p : Nat) : (j.ethControl p).mem = j.mem := by
  unfold Junction.ethControl
  split <;> rfl

@[simp] theorem Junction.onMbox_mem (j : Junction) (m : Nat) (f : Mailbox → Mailbox) : (j.onMbox m f).mem = j.mem := by
  unfold Junction.onMbox
  split <;> rfl

/-! ### The mailbox commands -/

@[simp] theorem Cmd.sessionOpen_mem (j : Junction) (m : Nat) (q : Request) : (Cmd.sessionOpen.run j m q).1.mem = j.mem := by simp [Cmd.sessionOpen]

@[simp] theorem Cmd.sessionClose_mem (j : Junction) (m : Nat) (q : Request) : (Cmd.sessionClose.run j m q).1.mem = j.mem := rfl

@[simp] theorem Cmd.heartbeat_mem (j : Junction) (m : Nat) (q : Request) : (Cmd.heartbeat.run j m q).1.mem = j.mem := by simp [Cmd.heartbeat]

@[simp] theorem Cmd.noticeRead_mem (j : Junction) (m : Nat) (q : Request) : (Cmd.noticeRead.run j m q).1.mem = j.mem := by
  unfold Cmd.noticeRead
  dsimp only
  split <;> rfl

@[simp] theorem Cmd.alarmRead_mem (j : Junction) (m : Nat) (q : Request) : (Cmd.alarmRead.run j m q).1.mem = j.mem := by
  unfold Cmd.alarmRead
  dsimp only
  split <;> rfl

@[simp] theorem Cmd.counterRead_mem (j : Junction) (m : Nat) (q : Request) : (Cmd.counterRead.run j m q).1.mem = j.mem := by
  unfold Cmd.counterRead
  dsimp only
  repeat' split
  all_goals rfl

@[simp] theorem Cmd.roleConfirm_mem (j : Junction) (m : Nat) (q : Request) : (Cmd.roleConfirm.run j m q).1.mem = j.mem := by simp [Cmd.roleConfirm, plain]

@[simp] theorem Cmd.dutyTransfer_mem (j : Junction) (m : Nat) (q : Request) : (Cmd.dutyTransfer.run j m q).1.mem = j.mem := by simp [Cmd.dutyTransfer, plain]

@[simp] theorem Cmd.reset_mem (j : Junction) (m : Nat) (q : Request) : (Cmd.reset.run j m q).1.mem = j.mem := by
  unfold Cmd.reset
  dsimp only
  split <;> simp

@[simp] theorem Cmd.portMap_mem (j : Junction) (m : Nat) (q : Request) : (Cmd.portMap.run j m q).1.mem = j.mem := by
  unfold Cmd.portMap
  dsimp only
  repeat' split
  all_goals simp

@[simp] theorem Cmd.ttLoad_mem (j : Junction) (m : Nat) (q : Request) : (Cmd.ttLoad.run j m q).1.mem = j.mem := by
  unfold Cmd.ttLoad plain
  dsimp only
  repeat' split
  all_goals simp

@[simp] theorem Cmd.ttArm_mem (j : Junction) (m : Nat) (q : Request) : (Cmd.ttArm.run j m q).1.mem = j.mem := by
  unfold Cmd.ttArm plain
  dsimp only
  repeat' split
  all_goals simp

@[simp] theorem Cmd.ttCancel_mem (j : Junction) (m : Nat) (q : Request) : (Cmd.ttCancel.run j m q).1.mem = j.mem := by
  unfold Cmd.ttCancel plain
  dsimp only
  repeat' split
  all_goals simp

@[simp] theorem Cmd.ttStatus_mem (j : Junction) (m : Nat) (q : Request) : (Cmd.ttStatus.run j m q).1.mem = j.mem := rfl

@[simp] theorem Cmd.planLoad_mem (j : Junction) (m : Nat) (q : Request) : (Cmd.planLoad.run j m q).1.mem = j.mem := by
  unfold Cmd.planLoad plain
  dsimp only
  repeat' split
  all_goals simp

@[simp] theorem Cmd.linkControl_mem (j : Junction) (m : Nat) (q : Request) : (Cmd.linkControl.run j m q).1.mem = j.mem := by
  unfold Cmd.linkControl
  dsimp only
  repeat' split
  all_goals simp

@[simp] theorem Cmd.contextConfig_mem (j : Junction) (m : Nat) (q : Request) : (Cmd.contextConfig.run j m q).1.mem = j.mem := by
  unfold Cmd.contextConfig
  dsimp only
  repeat' split
  all_goals rfl

@[simp] theorem Cmd.contextStatus_mem (j : Junction) (m : Nat) (q : Request) : (Cmd.contextStatus.run j m q).1.mem = j.mem := by
  unfold Cmd.contextStatus
  dsimp only
  repeat' split
  all_goals rfl

@[simp] theorem Cmd.bundleTransfer_mem (j : Junction) (m : Nat) (q : Request) : (Cmd.bundleTransfer.run j m q).1.mem = j.mem := by
  unfold Cmd.bundleTransfer plain
  dsimp only
  repeat' split
  all_goals simp

@[simp] theorem Cmd.bundleStatus_mem (j : Junction) (m : Nat) (q : Request) : (Cmd.bundleStatus.run j m q).1.mem = j.mem := by
  unfold Cmd.bundleStatus
  dsimp only
  repeat' split
  all_goals rfl

@[simp] theorem Cmd.waybillWrite_mem (j : Junction) (m : Nat) (q : Request) : (Cmd.waybillWrite.run j m q).1.mem = j.mem := by
  unfold Cmd.waybillWrite
  dsimp only
  repeat' split
  all_goals rfl

@[simp] theorem Cmd.refTableLoad_mem (j : Junction) (m : Nat) (q : Request) : (Cmd.refTableLoad.run j m q).1.mem = j.mem := by
  unfold Cmd.refTableLoad
  dsimp only
  repeat' split
  all_goals rfl

@[simp] theorem Cmd.historyRead_mem (j : Junction) (m : Nat) (q : Request) : (Cmd.historyRead.run j m q).1.mem = j.mem := by
  unfold Cmd.historyRead
  dsimp only
  repeat' split
  all_goals rfl

@[simp] theorem Cmd.logConfig_mem (j : Junction) (m : Nat) (q : Request) : (Cmd.logConfig.run j m q).1.mem = j.mem := by
  unfold Cmd.logConfig
  dsimp only
  split <;> rfl

@[simp] theorem Cmd.logRead_mem (j : Junction) (m : Nat) (q : Request) : (Cmd.logRead.run j m q).1.mem = j.mem := by
  unfold Cmd.logRead
  dsimp only
  repeat' split
  all_goals rfl

@[simp] theorem Cmd.logRelease_mem (j : Junction) (m : Nat) (q : Request) : (Cmd.logRelease.run j m q).1.mem = j.mem := by
  unfold Cmd.logRelease
  dsimp only
  split <;> rfl

@[simp] theorem Cmd.testPackRead_mem (j : Junction) (m : Nat) (q : Request) : (Cmd.testPackRead.run j m q).1.mem = j.mem := by
  unfold Cmd.testPackRead
  dsimp only
  repeat' split
  all_goals rfl

@[simp] theorem Cmd.testResult_mem (j : Junction) (m : Nat) (q : Request) : (Cmd.testResult.run j m q).1.mem = j.mem := by
  unfold Cmd.testResult
  dsimp only
  repeat' split
  all_goals rfl

@[simp] theorem Cmd.dieConfig_mem (j : Junction) (m : Nat) (q : Request) : (Cmd.dieConfig.run j m q).1.mem = j.mem := by
  unfold Cmd.dieConfig
  dsimp only
  repeat' split
  all_goals rfl

@[simp] theorem Cmd.dieReadmit_mem (j : Junction) (m : Nat) (q : Request) : (Cmd.dieReadmit.run j m q).1.mem = j.mem := by
  unfold Cmd.dieReadmit
  dsimp only
  repeat' split
  all_goals simp

@[simp] theorem Cmd.membershipLoad_mem (j : Junction) (m : Nat) (q : Request) : (Cmd.membershipLoad.run j m q).1.mem = j.mem := by simp [Cmd.membershipLoad]

@[simp] theorem Cmd.groupRearm_mem (j : Junction) (m : Nat) (q : Request) : (Cmd.groupRearm.run j m q).1.mem = j.mem := by simp [Cmd.groupRearm]

@[simp] theorem Cmd.membershipStatus_mem (j : Junction) (m : Nat) (q : Request) : (Cmd.membershipStatus.run j m q).1.mem = j.mem := by
  unfold Cmd.membershipStatus
  dsimp only
  split <;> rfl

@[simp] theorem Cmd.traceSignal_mem (j : Junction) (m : Nat) (q : Request) : (Cmd.traceSignal.run j m q).1.mem = j.mem := by
  unfold Cmd.traceSignal
  dsimp only
  repeat' split
  all_goals simp

@[simp] theorem Cmd.timeConfig_mem (j : Junction) (m : Nat) (q : Request) : (Cmd.timeConfig.run j m q).1.mem = j.mem := by
  unfold Cmd.timeConfig
  dsimp only
  split <;> simp

@[simp] theorem Cmd.timestampRead_mem (j : Junction) (m : Nat) (q : Request) : (Cmd.timestampRead.run j m q).1.mem = j.mem := by
  unfold Cmd.timestampRead
  dsimp only
  repeat' split
  all_goals rfl

@[simp] theorem Cmd.timingIoConfig_mem (j : Junction) (m : Nat) (q : Request) : (Cmd.timingIoConfig.run j m q).1.mem = j.mem := by
  unfold Cmd.timingIoConfig
  dsimp only
  repeat' split
  all_goals simp

@[simp] theorem Cmd.fleetStop_mem (j : Junction) (m : Nat) (q : Request) : (Cmd.fleetStop.run j m q).1.mem = j.mem := by
  unfold Cmd.fleetStop
  dsimp only
  repeat' split
  all_goals simp

@[simp] theorem Cmd.lsRead_mem (j : Junction) (m : Nat) (q : Request) : (Cmd.lsRead.run j m q).1.mem = j.mem := by
  unfold Cmd.lsRead
  dsimp only
  repeat' split
  all_goals simp

@[simp] theorem Cmd.lsWrite_mem (j : Junction) (m : Nat) (q : Request) : (Cmd.lsWrite.run j m q).1.mem = j.mem := by
  unfold Cmd.lsWrite
  dsimp only
  repeat' split
  all_goals simp

@[simp] theorem Cmd.exportConfig_mem (j : Junction) (m : Nat) (q : Request) : (Cmd.exportConfig.run j m q).1.mem = j.mem := by
  unfold Cmd.exportConfig
  dsimp only
  repeat' split
  all_goals simp

@[simp] theorem Cmd.bufferRead_mem (j : Junction) (m : Nat) (q : Request) : (Cmd.bufferRead.run j m q).1.mem = j.mem := by
  unfold Cmd.bufferRead
  dsimp only
  repeat' split
  all_goals rfl

@[simp] theorem Cmd.ballast_mem (j : Junction) (m : Nat) (q : Request) : (Cmd.ballast.run j m q).1.mem = j.mem := by
  unfold Cmd.ballast
  dsimp only
  repeat' split
  all_goals rfl

@[simp] theorem Cmd.crcData_mem (j : Junction) (m : Nat) (q : Request) : (Cmd.crcData.run j m q).1.mem = j.mem := by
  unfold Cmd.crcData
  dsimp only
  repeat' split
  all_goals rfl

@[simp] theorem Cmd.crcValueRead_mem (j : Junction) (m : Nat) (q : Request) : (Cmd.crcValueRead.run j m q).1.mem = j.mem := by
  unfold Cmd.crcValueRead
  dsimp only
  repeat' split
  all_goals rfl

@[simp] theorem Cmd.crcValueWrite_mem (j : Junction) (m : Nat) (q : Request) : (Cmd.crcValueWrite.run j m q).1.mem = j.mem := by
  unfold Cmd.crcValueWrite
  dsimp only
  repeat' split
  all_goals rfl

@[simp] theorem Cmd.deviceId_mem (j : Junction) (m : Nat) (q : Request) : (Cmd.deviceId.run j m q).1.mem = j.mem := rfl

@[simp] theorem Cmd.ownerProvision_mem (j : Junction) (m : Nat) (q : Request) : (Cmd.ownerProvision.run j m q).1.mem = j.mem := by
  unfold Cmd.ownerProvision
  dsimp only
  repeat' split
  all_goals simp

@[simp] theorem Cmd.keyInstall_mem (j : Junction) (m : Nat) (q : Request) : (Cmd.keyInstall.run j m q).1.mem = j.mem := by
  unfold Cmd.keyInstall
  dsimp only
  repeat' split
  all_goals simp

@[simp] theorem Cmd.keyRemove_mem (j : Junction) (m : Nat) (q : Request) : (Cmd.keyRemove.run j m q).1.mem = j.mem := by
  unfold Cmd.keyRemove
  dsimp only
  repeat' split
  all_goals simp

@[simp] theorem Cmd.keyList_mem (j : Junction) (m : Nat) (q : Request) : (Cmd.keyList.run j m q).1.mem = j.mem := rfl

@[simp] theorem Cmd.macsecSa_mem (j : Junction) (m : Nat) (q : Request) : (Cmd.macsecSa.run j m q).1.mem = j.mem := by
  unfold Cmd.macsecSa
  dsimp only
  repeat' split
  all_goals simp

@[simp] theorem Cmd.modeSet_mem (j : Junction) (m : Nat) (q : Request) : (Cmd.modeSet.run j m q).1.mem = j.mem := by
  unfold Cmd.modeSet
  dsimp only
  repeat' split
  all_goals rfl

@[simp] theorem Cmd.fuseLock_mem (j : Junction) (m : Nat) (q : Request) : (Cmd.fuseLock.run j m q).1.mem = j.mem := by
  unfold Cmd.fuseLock
  dsimp only
  repeat' split
  all_goals simp

@[simp] theorem Cmd.rollbackAdvance_mem (j : Junction) (m : Nat) (q : Request) : (Cmd.rollbackAdvance.run j m q).1.mem = j.mem := by
  unfold Cmd.rollbackAdvance
  dsimp only
  repeat' split
  all_goals simp

@[simp] theorem Cmd.secEventRead_mem (j : Junction) (m : Nat) (q : Request) : (Cmd.secEventRead.run j m q).1.mem = j.mem := by
  unfold Cmd.secEventRead
  dsimp only
  split <;> rfl

@[simp] theorem Cmd.fwLoad_mem (j : Junction) (m : Nat) (q : Request) : (Cmd.fwLoad.run j m q).1.mem = j.mem := by
  unfold Cmd.fwLoad
  dsimp only
  repeat' split
  all_goals rfl

@[simp] theorem Cmd.fwStatus_mem (j : Junction) (m : Nat) (q : Request) : (Cmd.fwStatus.run j m q).1.mem = j.mem := rfl

@[simp] theorem Cmd.fwActivate_mem (j : Junction) (m : Nat) (q : Request) : (Cmd.fwActivate.run j m q).1.mem = j.mem := by
  unfold Cmd.fwActivate
  dsimp only
  repeat' split
  all_goals rfl

theorem Cmd.crcEngine_mem (j : Junction) (m : Nat) (q : Request) : (Cmd.crcEngine.run j m q).1.mem = j.mem := by
  unfold Cmd.crcEngine
  dsimp -zeta only
  extract_lets b i e c ported
  clear_value b i e c ported
  split
  · rfl
  split
  · rfl
  split
  · rfl
  split
  · rfl
  split
  · rfl
  · exact Junction.setEngine_mem _ _ _

/-! ### What writes the near tier, and what clears it (R346, R353, R484, R479) -/

/-- The near tier of the Junction is in its canonical form (log 7). -/
def Junction.Canonical (j : Junction) : Prop := Memory.wf j.mem = true

/-- The command keeps the near tier in its canonical form. -/
def Cmd.KeepsCanonical (c : Cmd) : Prop := ∀ (j : Junction) (m : Nat) (q : Request), j.Canonical → (c.run j m q).1.Canonical

theorem Junction.Canonical.of_mem {j k : Junction} (hj : j.Canonical) (h : k.mem = j.mem) : k.Canonical := by
  unfold Junction.Canonical
  rw [h]
  exact hj

theorem Junction.perform_canonical {c : Cmd} (hc : c.KeepsCanonical) {j : Junction} (hj : j.Canonical) (m : Nat) (it : Taken) : (j.perform c m it).Canonical := by
  have hanswer : ∀ r, (j.answer m it r [] true).Canonical := fun r => hj.of_mem (Junction.answer_mem _ _ _ _ _ _)
  unfold Junction.perform
  extract_lets q relay barred exec
  split
  · exact hanswer _
  · split
    · split
      · exact hanswer _
      · split
        · exact hj.of_mem (by rw [Junction.send_mem, Junction.owe_mem])
        · exact hanswer _
    · split
      · exact hanswer _
      · split
        · exact hanswer _
        · split
          · exact hanswer _
          · have hran := hc j m q hj
            split
            rename_i k o hk
            rw [hk] at hran
            split
            · exact hran.of_mem (by rw [Junction.giveReply_mem, Junction.notePrivilege_mem])
            · exact hran.of_mem (Junction.setMbox_mem _ _ _)

theorem Junction.command_canonical {c : Cmd} (hc : c.KeepsCanonical) (m : Nat) {j : Junction} (hj : j.Canonical) : (j.command c m).Canonical := by
  unfold Junction.command
  split
  · split
    · exact hj
    · dsimp only
      refine Junction.Canonical.of_mem (Junction.process_memory (P := (Memory.wf · = true)) (fun i hi => ?_) (fun i hi => Junction.perform_canonical hc hi _ _) _ _ hj)
        (Junction.settle_mem _ _)
      split
      · rwa [Junction.answer_mem]
      · rename_i it _ _ _ _
        have hran := hc i m it.req hi
        change Junction.Canonical (match (c.run i m it.req).2 with
          | .done r b => (c.run i m it.req).1.answer m it r b (r.code == 0)
          | .wait _ => (c.run i m it.req).1)
        split
        · exact hran.of_mem (Junction.answer_mem _ _ _ _ _ _)
        · exact hran
  · exact hj

theorem Junction.coldHold_canonical (j : Junction) (last : Nat) (pin waitPorst waitRefclk : Bool) : (j.coldHold last pin waitPorst waitRefclk).Canonical := by
  show Memory.wf [] = true
  rfl

theorem Junction.write_canonical {j : Junction} (hj : j.Canonical) (a : Nat) (b : Bytes) : (j.write a b).Canonical := Junction.write_wf j a b hj

theorem Junction.zeroise_canonical (j : Junction) : j.zeroise.Canonical := by
  unfold Junction.zeroise
  extract_lets bs ms sec k
  have hk : k.Canonical := by
    show Memory.wf [] = true
    rfl
  clear_value k
  split
  · exact hk
  · exact hk.of_mem (Junction.toRelay_mem _ _)

theorem Junction.dbgResponse_canonical {j : Junction} (hj : j.Canonical) (level key : Nat) (pub sig : Bytes) : (j.dbgResponse level key pub sig).Canonical := by
  unfold Junction.dbgResponse
  extract_lets t
  split
  · exact hj
  · split
    · exact hj
    · dsimp only
      split
      · split
        · exact Junction.zeroise_canonical _
        · exact hj.of_mem (by rw [Junction.secEvent_mem])
      · exact hj.of_mem (by rw [Junction.secEvent_mem])

theorem Junction.wayApply_canonical {j : Junction} (hj : j.Canonical) (o : WayOp) : (j.wayApply o).1.Canonical := by
  unfold Junction.wayApply
  dsimp only
  split
  · exact hj
  · split
    · exact Junction.write_canonical hj _ _
    · exact Junction.write_canonical hj _ _

theorem Junction.Canonical.withWayOps {j : Junction} (hj : j.Canonical) {l : List WayOp} : ({ j with wayOps := l } : Junction).Canonical := hj

theorem Junction.wayEffect_canonical {j : Junction} (hj : j.Canonical) : j.wayEffect.Canonical := by
  unfold Junction.wayEffect
  split
  · split
    · refine Junction.Canonical.of_mem ?_ (Junction.relook_mem _ _)
      exact Junction.wayApply_canonical hj.withWayOps _
    · exact hj
  · exact hj

theorem Junction.commitRow_canonical {j : Junction} (hj : j.Canonical) (g : Grp) (s : SeqRun) (r : Nat) : (j.commitRow g s r).Canonical := by
  unfold Junction.commitRow
  split
  extract_lets off out y0 y1 old warm good st written noted
  have hwritten : written.Canonical := Junction.write_canonical hj _ _
  have hnoted : noted.Canonical := hwritten.of_mem rfl
  clear_value noted
  split
  · exact hnoted
  · exact hnoted.of_mem (by rw [Junction.logE_mem, Junction.count_mem])

theorem Junction.foldl_canonical {β : Type} {f : Junction → β → Junction} (h : ∀ (j : Junction) b, j.Canonical → (f j b).Canonical) (l : List β) {j : Junction}
    (hj : j.Canonical) : (l.foldl f j).Canonical := by
  induction l generalizing j with
  | nil => exact hj
  | cons b l ih => exact ih (h j b hj)

theorem Junction.groupCommit_canonical {j : Junction} (hj : j.Canonical) : j.groupCommit.Canonical := by
  unfold Junction.groupCommit
  split
  · exact hj
  · split
    · exact hj.of_mem rfl
    · extract_lets ready committed
      have hcommitted : committed.Canonical := Junction.foldl_canonical (fun i r hi => Junction.commitRow_canonical hi _ _ _) _ hj
      clear_value committed
      split
      · exact hj
      · exact hcommitted

theorem Junction.jobComplete_canonical {j : Junction} (hj : j.Canonical) (u : Nat) : (j.jobComplete u).Canonical := by
  unfold Junction.jobComplete
  split
  · exact hj
  · split
    · exact hj
    · extract_lets freed
      have hfreed : freed.Canonical := hj.of_mem (Junction.setRun_mem _ _ _)
      clear_value freed
      split
      · exact hfreed
      · exact hfreed
    · extract_lets input cut
      split
      extract_lets written named engine plain fed set
      have hwritten : written.Canonical := Junction.write_canonical (hj.of_mem (Junction.setRun_mem _ _ _)) _ _
      have hset : set.Canonical := by
        unfold set
        split
        · exact hwritten.of_mem (Junction.setEngine_mem _ _ _)
        · exact hwritten
      exact hset.of_mem (Junction.jobReply_mem _ _ _ _)

theorem Junction.temperatures_canonical {j : Junction} (hj : j.Canonical) (temps : List (Nat × Int)) : (j.temperatures temps).Canonical := by
  unfold Junction.temperatures
  extract_lets cool heated marked boot store tripped
  have hmarked : marked.Canonical := by
    unfold marked
    split
    · split
      · exact hj
      · exact hj.of_mem (by rw [Junction.alarmEvent_mem])
    · split
      · exact hj.of_mem rfl
      · exact hj
  split
  · exact Junction.coldHold_canonical _ _ _ _ _
  · exact hmarked

theorem Junction.watchdog_canonical {j : Junction} (hj : j.Canonical) (early : Bool) (b : BootIn) : (j.watchdog early b).Canonical := by
  unfold Junction.watchdog
  split
  · exact hj
  · split
    · exact (Junction.coldHold_canonical _ _ _ _ _).of_mem (Junction.coldBoot_mem _ _)
    · split
      · exact hj.of_mem (Junction.fwRevert_mem _)
      · exact hj.of_mem (by rw [Junction.flushFor_mem, Junction.error_mem])

theorem Junction.porstFall_canonical {j : Junction} (hj : j.Canonical) (ns : Nat) (taken : Bool) : (j.porstFall ns taken).Canonical := by
  unfold Junction.porstFall
  split
  · exact hj
  · exact Junction.coldHold_canonical j 1 true false j.boot.waitRefclk

theorem Junction.refclkLoss_canonical {j : Junction} (hj : j.Canonical) (ns : Nat) : (j.refclkLoss ns).Canonical := by
  unfold Junction.refclkLoss
  split
  · exact hj
  · split
    · exact Junction.coldHold_canonical _ _ _ _ _
    · exact hj.of_mem (Junction.setClk_mem _ _)

theorem Cmd.keepsCanonical_of_mem {c : Cmd} (h : ∀ j m q, (c.run j m q).1.mem = j.mem) : c.KeepsCanonical := fun j m q hj => hj.of_mem (h j m q)

theorem Cmd.bufferWrite_keepsCanonical : Cmd.bufferWrite.KeepsCanonical := by
  intro j m q hj
  unfold Cmd.bufferWrite
  dsimp only
  split
  · exact Junction.write_canonical hj _ _
  · exact hj

theorem Junction.porstRise_canonical {j : Junction} (hj : j.Canonical) (b : BootIn) : (j.porstRise b).Canonical := by
  unfold Junction.porstRise
  dsimp only
  split
  · exact hj.of_mem (Junction.coldBoot_mem _ _)
  · exact hj

theorem Junction.takeSignal_mem (j : Junction) (p kind : Nat) {f : Junction → Nat → Junction} (h : ∀ i a, (f i a).mem = i.mem) :
    (j.takeSignal p kind f).mem = j.mem := by
  unfold Junction.takeSignal
  split
  · rw [h, Junction.setPort_mem]
  · rfl
/-! ### Every command keeps the form -/

/-- The outcome, where it is a next state, has the near tier in its canonical form. -/
def NearCanonical (r : Host.Outcome State Fault Refusal) : Prop := ∀ t, r = .next t → t.jn.Canonical

theorem nearCanonical_next {s : State} (hs : s.jn.Canonical) : NearCanonical (.next s) := by
  rintro t ⟨⟩
  exact hs

theorem nearCanonical_fault (f : Fault) : NearCanonical (.fault f) := fun _ h => Host.Outcome.noConfusion rfl rfl rfl (heq_of_eq h)

section
variable {s : State} (hs : s.jn.Canonical)
include hs

theorem atJn_nearCanonical {r : Res} {f : Junction → Junction} (h : r = atJn f s) (hf : ∀ {j : Junction}, j.Canonical → (f j).Canonical) : NearCanonical r :=
  h ▸ nearCanonical_next (hf hs)

theorem onJn_nearCanonical {r : Res} {f : Junction → Junction} (h : r = onJn f s) (hf : ∀ {j : Junction}, j.Canonical → (f j).Canonical) : NearCanonical r := by
  rw [h]
  refine nearCanonical_next ?_
  dsimp only
  split
  · exact hs
  · exact hf hs

theorem command_nearCanonical {r : Res} {c : Cmd} {m : Nat} (h : r = onJn (·.command c m) s) (hc : ∀ j m q, (c.run j m q).1.mem = j.mem) : NearCanonical r :=
  onJn_nearCanonical hs h fun hj => Junction.command_canonical (Cmd.keepsCanonical_of_mem hc) m hj

theorem onScore_nearCanonical {r : Res} {f : Junction → Junction} (h : r = onScore f s) (hf : ∀ {j : Junction}, j.Canonical → (f j).Canonical) : NearCanonical r :=
  onJn_nearCanonical hs h fun hj => (hf hj).of_mem (Junction.serve_mem _)

theorem onEnd_nearCanonical {r : Res} {e : End} {f : Bool → Ls → Ls} {g : Nat → Junction → Junction} (h : r = onEnd e f g s)
    (hg : ∀ {j : Junction} p, j.Canonical → (g p j).Canonical) :
    NearCanonical r := by
  cases e with
  | ls l => exact h ▸ nearCanonical_next hs
  | jn p => exact onJn_nearCanonical (f := fun j => (g p j).settleLinks) hs h fun hj => (hg p hj).of_mem (Junction.settleLinks_mem _)

theorem onPart_nearCanonical {r : Res} {p : Part} {f : Ls → Ls} {g : Junction → Junction} (h : r = onPart p f g s)
    (hg : ∀ {j : Junction}, j.Canonical → (g j).Canonical) : NearCanonical r := by
  cases p with
  | ls => exact h ▸ nearCanonical_next hs
  | jn => exact onJn_nearCanonical hs h hg

theorem onPort_nearCanonical {r : Res} {e : End} {f : Nat → Port → Port} (h : r = onPort e f s) : NearCanonical r :=
  onEnd_nearCanonical hs h fun p hj => hj.of_mem (Junction.portMoved_mem _ p _)

theorem mayTrain_nearCanonical {r : Res} {e : End} {f : Port → Port} (h : r = mayTrain e f s) : NearCanonical r :=
  onEnd_nearCanonical hs h fun p hj => by
    split
    · exact hj.of_mem (Junction.portMoved_mem _ p _)
    · exact hj

theorem onBar_nearCanonical {r : Res} {tap : Bool} {f : Junction → Junction} (h : r = onBar tap f s)
    (hf : ∀ {j : Junction}, j.Canonical → (f j).Canonical) : NearCanonical r :=
  atJn_nearCanonical hs h fun hj => by
    split
    · exact hf hj
    · exact hj

theorem takeBool_nearCanonical {r : Res} {f : Bool → State → Res} (h : r = takeBool f s) (hf : ∀ b {t : State}, t.jn.Canonical → NearCanonical (f b t)) :
    NearCanonical r := h ▸ hf _ hs

theorem takeWord_nearCanonical {r : Res} {f : Word → State → Res} (h : r = takeWord f s) (hf : ∀ v {t : State}, t.jn.Canonical → NearCanonical (f v t)) :
    NearCanonical r := h ▸ hf _ hs

theorem takeWords_nearCanonical {r : Res} {n : Nat} {f : (Nat → Nat) → State → Res} (h : r = takeWords n f s)
    (hf : ∀ fv {t : State}, t.jn.Canonical → NearCanonical (f fv t)) : NearCanonical r := h ▸ hf _ hs

theorem writeMbox_nearCanonical (tap : Bool) (m : Nat) (reg : MboxReg) (v : Nat) : NearCanonical (writeMbox tap m reg v s) := by
  cases reg with
  | ctrl =>
    unfold writeMbox
    dsimp only
    split
    · exact nearCanonical_fault _
    · exact onBar_nearCanonical hs rfl (·.of_mem (Junction.onMbox_mem _ m _))
  | reqBase => exact onBar_nearCanonical hs rfl (·.of_mem (Junction.onMbox_mem _ m _))
  | rplBase => exact onBar_nearCanonical hs rfl (·.of_mem (Junction.onMbox_mem _ m _))

theorem writeRegister_nearCanonical (via : RegVia) (addr size : Nat) (value mask : Word) : NearCanonical (writeRegister via addr size value mask s) := by
  cases via with
  | ls w => exact nearCanonical_next hs
  | bar tap =>
    unfold writeRegister
    dsimp only
    split
    · exact nearCanonical_fault _
    · exact atJn_nearCanonical hs rfl fun hj => hj.of_mem (Junction.barWrite_mem _ _ _ _ _)

theorem exec_nearCanonical (c : Instr) : NearCanonical (exec c s) := by
  cases c with
  | perstAssert | signalFenceReceived | signalFlushReceived | signalTraceReceived | linesideAbortInstant | configMessageReceived | debugSegmentUpdate
  | debugUnlockExpiry | lsColdReset | lsWarmReset | lsRefclkLoss | mainIslandServiceEntry | lsSelftestComplete | lsSelftestStart | pwrOffReq | pwrOffAck
  | mainPowerOff | aonCmpCrossing | lsSampleEdge | lagAnchorEffect | frameMapSwitch | counterIncrement | selectSend | sensorBeat | regionStretchPulse
  | bundleIssue | traceSamplePoint | tracePostComplete | traceReadoutComplete | qsnapAck | qsnapReadTimeout | qsnapComplete | qsnapReadoutComplete
  | stopSnapshotDelay | drainDoneRise | drainTimeout | drainDoneFall | hostResetRise | armedStopInstant | armedReleaseInstant | scanShiftComplete
  | scanResume | tapPacketStart | egressPacketEnd | ingressPacketEnd | witnessExpiry | witnessSuspendEnd | tabEnableApply | testWindowEnd | poisonAccept
  | lsLinkEnable | lsLinkRetrain | lsLinkHoldDown | lsTtValidate | lsTtArm | lsTtCancel | lsFrameValidate | lsFrameArmSwitch | lsFrameCancelSwitch
  | lsTraceArm | lsTraceDisarm | lsTraceTrigger | lsTraceReadout | lsTraceCapturedRead | lsQsnapTake | lsQsnapReadout | lsQsnapStatusRead | lsScanStart
  | lsScanRestore | lsHaltDrain | lsHaltReleaseDrain | lsHaltStopNow | lsHaltArmStop | lsHaltDisarmStop | lsHaltReleaseStop | lsHaltArmRelease
  | lsHaltDisarmRelease | lsLogMark | lsLagArm | lsCtrSelWrite | lsCtrValueWrite | lsLogCommitSeqWrite | lsFenceEpochWrite | lsFenceStatusRead
  | lsTabGroupWrite | lsDebugCtrlWrite | lsCrcCfgWrite | lsCrcFeedWrite | lsCrcValueWrite | lsCrcStatusRead | lsTimeLoRead => exact nearCanonical_next hs
  | coldReset b => exact atJn_nearCanonical hs (exec_coldReset b s) fun hj => Junction.porstRise_canonical hj b
  | porstNAssert ns => exact takeBool_nearCanonical hs (exec_porstNAssert ns s) fun _ {_} ht => atJn_nearCanonical ht rfl fun hj => Junction.porstFall_canonical hj ns _
  | supplyLoss => exact atJn_nearCanonical hs (exec_supplyLoss s) fun hj => Junction.coldHold_canonical _ _ _ _ _
  | refclkLoss ns => exact atJn_nearCanonical hs (exec_refclkLoss ns s) fun hj => Junction.refclkLoss_canonical hj ns
  | refclkRestored b => exact atJn_nearCanonical hs (exec_refclkRestored b s) fun hj => hj.of_mem (Junction.refclkBack_mem _ b)
  | watchdogExpiry early b => exact onJn_nearCanonical hs (exec_watchdogExpiry early b s) fun hj => Junction.watchdog_canonical hj early b
  | flushWaitExpiry boot => exact onJn_nearCanonical hs (exec_flushWaitExpiry boot s) (·.of_mem (Junction.flushExpiry_mem _ boot))
  | powerFail ns => exact takeBool_nearCanonical hs (exec_powerFail ns s) fun _ {_} ht => onJn_nearCanonical ht rfl (·.of_mem (Junction.powerFail_mem _ ns _))
  | powerFailFlushComplete => exact onJn_nearCanonical hs (exec_powerFailFlushComplete s) (·.of_mem (Junction.powerFlushed_mem _))
  | powerFailClear => exact onJn_nearCanonical hs (exec_powerFailClear s) (·.of_mem (Junction.powerClear_mem _))
  | roleConfirm m => exact command_nearCanonical hs (exec_roleConfirm m s) Cmd.roleConfirm_mem
  | twinJudgingStart => exact onJn_nearCanonical hs (exec_twinJudgingStart s) (·.of_mem (Junction.judgingStart_mem _))
  | twinLost => exact onJn_nearCanonical hs (exec_twinLost s) (·.of_mem (Junction.twinLost_mem _))
  | dutyTakeover => exact onJn_nearCanonical hs (exec_dutyTakeover s) (·.of_mem (Junction.takeover_mem _))
  | dutyTransfer m => exact command_nearCanonical hs (exec_dutyTransfer m s) Cmd.dutyTransfer_mem
  | dutyTransferEffect => exact onJn_nearCanonical hs (exec_dutyTransferEffect s) (·.of_mem (Junction.dutyEffect_mem _))
  | sampleEdge temps => exact onJn_nearCanonical hs (exec_sampleEdge temps s) fun hj =>
      (Junction.temperatures_canonical (hj.of_mem (Junction.sampleEdge_mem _)) temps).of_mem (Junction.serve_mem _)
  | dFrameDeadline => exact onScore_nearCanonical hs (exec_dFrameDeadline s) (·.of_mem (Junction.dFrame_mem _))
  | dTrayDeadline => exact onJn_nearCanonical hs (exec_dTrayDeadline s) (·.of_mem (Junction.dTray_mem _))
  | reductionDeadline phase => exact onScore_nearCanonical hs (exec_reductionDeadline phase s) (·.of_mem (Junction.dReduce_mem _ phase))
  | dBcastDeadline => exact onScore_nearCanonical hs (exec_dBcastDeadline s) (·.of_mem (Junction.dBcast_mem _))
  | dScoreEndDeadline => exact onScore_nearCanonical hs (exec_dScoreEndDeadline s) (·.of_mem (Junction.dScoreEnd_mem _))
  | dPublishDeadline => exact onJn_nearCanonical hs (exec_dPublishDeadline s) (·.of_mem (Junction.dPublish_mem _))
  | streamArrivalDeadline port stream tick =>
    exact onJn_nearCanonical hs (exec_streamArrivalDeadline port stream tick s) (·.of_mem (Junction.streamDeadline_mem _ port stream tick))
  | flitSlotTransmit e => exact onEnd_nearCanonical hs (exec_flitSlotTransmit e s) fun p hj => hj.of_mem (Junction.txSlot_mem _ p)
  | blockDecoded e idx n rx => exact onPort_nearCanonical hs (exec_blockDecoded e idx n rx s)
  | flitReceived e slot grid raw => exact onEnd_nearCanonical hs (exec_flitReceived e slot grid raw s) fun p hj => hj.of_mem (Junction.rxFlit_mem _ p slot grid raw)
  | timetableQuarantine port => exact onJn_nearCanonical hs (exec_timetableQuarantine port s) (·.of_mem (Junction.quarantine_mem _ port))
  | quarantineEnd port => exact onJn_nearCanonical hs (exec_quarantineEnd port s) (·.of_mem (Junction.quarantineEnd_mem _ port))
  | replayTimeout e => exact onPort_nearCanonical hs (exec_replayTimeout e s)
  | retireTimeout e => exact onPort_nearCanonical hs (exec_retireTimeout e s)
  | linkTrainStart e => exact mayTrain_nearCanonical hs (exec_linkTrainStart e s)
  | trainingFrameReceived e samePhase header =>
    exact onEnd_nearCanonical hs (exec_trainingFrameReceived e samePhase header s) fun p hj => hj.of_mem (Junction.trainFrame_mem _ p samePhase header.toNat)
  | trainTimeout e => exact onPort_nearCanonical hs (exec_trainTimeout e s)
  | trainRetry e => exact mayTrain_nearCanonical hs (exec_trainRetry e s)
  | identReceived e raw => exact onEnd_nearCanonical hs (exec_identReceived e raw s) fun p hj => hj.of_mem (Junction.identFlit_mem _ p raw)
  | linkActiveEntry e => exact onEnd_nearCanonical hs (exec_linkActiveEntry e s) fun p hj => hj.of_mem (Junction.linkActive_mem _ p)
  | subtreeAdvertisement port => exact onJn_nearCanonical hs (exec_subtreeAdvertisement port s) (·.of_mem (Junction.subtreeAdvert_mem _ port))
  | signalAbortReceived e =>
    exact onEnd_nearCanonical hs (exec_signalAbortReceived e s) fun p hj => hj.of_mem (Junction.takeSignal_mem _ p 1 fun i a => Junction.abortReceived_mem i p _ _)
  | signalStopReceived e =>
    exact onEnd_nearCanonical hs (exec_signalStopReceived e s) fun p hj => hj.of_mem (Junction.takeSignal_mem _ p 3 fun i _ => Junction.stopReceived_mem i p)
  | signalAlarmReceived e => exact onEnd_nearCanonical hs (exec_signalAlarmReceived e s) fun p hj => hj.of_mem (Junction.takeSignal_mem _ p 5 fun _ _ => rfl)
  | tickMarkReceived e => exact onEnd_nearCanonical hs (exec_tickMarkReceived e s) fun p hj => hj.of_mem (Junction.tickMark_mem _ p)
  | delayEchoDue e => exact onEnd_nearCanonical hs (exec_delayEchoDue e s) fun p hj => hj.of_mem (Junction.echoDue_mem _ p)
  | delayEchoReceived port => exact onJn_nearCanonical hs (exec_delayEchoReceived port s) (·.of_mem (Junction.delayEcho_mem _ port))
  | twinTimeMessageReceived port => exact onJn_nearCanonical hs (exec_twinTimeMessageReceived port s) (·.of_mem (Junction.twinTime_mem _ port))
  | sourceLoss part => exact onPart_nearCanonical hs (exec_sourceLoss part s) (·.of_mem (Junction.reselect_mem _))
  | sourceRevert part => exact onPart_nearCanonical hs (exec_sourceRevert part s) (·.of_mem (Junction.sourceRevert_mem _))
  | holdoverLimitExceeded part => exact onPart_nearCanonical hs (exec_holdoverLimitExceeded part s) (·.of_mem (Junction.holdoverLimit_mem _))
  | ptpMessageReceived msg => exact takeWord_nearCanonical hs (exec_ptpMessageReceived msg s) fun _ {_} ht => onJn_nearCanonical ht rfl (·.of_mem (Junction.ptp_mem _ msg _))
  | ppsInEdge => exact takeWord_nearCanonical hs (exec_ppsInEdge s) fun _ {_} ht => onJn_nearCanonical ht rfl (·.of_mem (Junction.ppsIn_mem _ _))
  | synceQualified ppt => exact onJn_nearCanonical hs (exec_synceQualified ppt s) (·.of_mem (Junction.synceOn_mem _ ppt))
  | synceDisqualified => exact onJn_nearCanonical hs (exec_synceDisqualified s) (·.of_mem (Junction.synceOff_mem _))
  | tsInEdge k falling wide => exact onJn_nearCanonical hs (exec_tsInEdge k falling wide s) (·.of_mem (Junction.tsEdge_mem _ k falling wide))
  | trigOutEdge k => exact onJn_nearCanonical hs (exec_trigOutEdge k s) (·.of_mem (Junction.trigEdge_mem _ k))
  | ppsOutEdge => exact onJn_nearCanonical hs (exec_ppsOutEdge s) (·.of_mem (Junction.ppsOut_mem _))
  | frameReceived port => exact onJn_nearCanonical hs (exec_frameReceived port s) (·.of_mem (Junction.frameReceived_mem _ port))
  | presenceWordReceived port => exact onJn_nearCanonical hs (exec_presenceWordReceived port s) (·.of_mem (Junction.presenceReceived_mem _ port))
  | partialReceived port => exact onJn_nearCanonical hs (exec_partialReceived port s) (·.of_mem (Junction.partialReceived_mem _ port))
  | mergeBatchComplete => exact onJn_nearCanonical hs (exec_mergeBatchComplete s) (·.of_mem (Junction.mergeBatch_mem _))
  | twinDigestReceived port => exact onJn_nearCanonical hs (exec_twinDigestReceived port s) (·.of_mem (Junction.twinDigestReceived_mem _ port))
  | statsFlitReceived port index => exact onJn_nearCanonical hs (exec_statsFlitReceived port index s) (·.of_mem (Junction.statsFlit_mem _ port index))
  | statsStreamReceived port => exact onJn_nearCanonical hs (exec_statsStreamReceived port s) (·.of_mem (Junction.statsStream_mem _ port))
  | detectorBatchReady tick ctx => exact onScore_nearCanonical hs (exec_detectorBatchReady tick ctx s) (·.of_mem (Junction.detBatch_mem _ tick ctx))
  | featureDeadline tick ctx ens =>
    exact onScore_nearCanonical hs (exec_featureDeadline tick ctx ens s) (·.of_mem (Junction.featureDeadline_mem _ tick ctx ens))
  | waybillLookupComplete tick ctx entity error =>
    exact onScore_nearCanonical hs (exec_waybillLookupComplete tick ctx entity error s) (·.of_mem (Junction.lookupDone_mem _ tick ctx entity error))
  | treeWalkComplete tick ctx ens entity tree fault =>
    exact onScore_nearCanonical hs (exec_treeWalkComplete tick ctx ens entity tree fault s) (·.of_mem (Junction.treeWalk_mem _ tick ctx ens entity tree fault))
  | sidingPageFetchComplete tick ctx ok =>
    exact onScore_nearCanonical hs (exec_sidingPageFetchComplete tick ctx ok s) (·.of_mem (Junction.pageFetched_mem _ tick ctx ok))
  | residualPassComplete => exact onScore_nearCanonical hs (exec_residualPassComplete s) (·.of_mem (Junction.residualPass_mem _))
  | forecasterUpdateStart => exact onJn_nearCanonical hs (exec_forecasterUpdateStart s) (·.of_mem (Junction.updateStart_mem _))
  | sequenceInstruction fault => exact takeWords_nearCanonical hs (exec_sequenceInstruction fault s) fun _ {_} ht => onJn_nearCanonical ht rfl (·.of_mem (Junction.seqStep_mem _ _ fault))
  | groupCommit => exact onJn_nearCanonical hs (exec_groupCommit s) fun hj => Junction.groupCommit_canonical hj
  | runtimeSelfCheck row unit ok => exact onJn_nearCanonical hs (exec_runtimeSelfCheck row unit ok s) (·.of_mem (Junction.selfCheck_mem _ row unit ok))
  | relayOnlyEntry => exact onJn_nearCanonical hs (exec_relayOnlyEntry s) (·.of_mem (Junction.relayOnly_mem _))
  | scrubAccess part memory addr fate owner =>
    exact onPart_nearCanonical hs (exec_scrubAccess part memory addr fate owner s) (·.of_mem (Junction.scrub_mem _ memory addr fate owner))
  | staticWearMove failed => exact onJn_nearCanonical hs (exec_staticWearMove failed s) (·.of_mem (Junction.wearMove_mem _ failed))
  | historyFarCopy ctx => exact onJn_nearCanonical hs (exec_historyFarCopy ctx s) (·.of_mem (Junction.farCopy_mem _ ctx))
  | logbookMessageReceived port => exact onJn_nearCanonical hs (exec_logbookMessageReceived port s) (·.of_mem (Junction.logbookReceived_mem _ port))
  | logRecordCommit log => exact onJn_nearCanonical hs (exec_logRecordCommit log s) (·.of_mem (Junction.logCommit_mem _ log))
  | alarmRecordReceived port => exact onJn_nearCanonical hs (exec_alarmRecordReceived port s) (·.of_mem (Junction.alarmReceived_mem _ port))
  | bulkMessageReceived port subch => exact onJn_nearCanonical hs (exec_bulkMessageReceived port subch s) (·.of_mem (Junction.bulkReceived_mem _ port subch))
  | exportMessageClose ctx kind => exact onJn_nearCanonical hs (exec_exportMessageClose ctx kind s) (·.of_mem (Junction.exportClose_mem _ ctx kind))
  | exportQueueService eth => exact onJn_nearCanonical hs (exec_exportQueueService eth s) (·.of_mem (Junction.exportService_mem _ eth))
  | exportFrameComplete eth => exact onJn_nearCanonical hs (exec_exportFrameComplete eth s) (·.of_mem (Junction.exportSent_mem _ eth))
  | mirrorAckReceived port => exact onJn_nearCanonical hs (exec_mirrorAckReceived port s) (·.of_mem (Junction.mirrorReceived_mem _ port))
  | bundleChunkReceived port => exact onJn_nearCanonical hs (exec_bundleChunkReceived port s) (·.of_mem (Junction.chunkReceived_mem _ port))
  | bundleVerifyComplete id => exact onJn_nearCanonical hs (exec_bundleVerifyComplete id s) (·.of_mem (Junction.bundleVerify_mem _ id))
  | bundleIncompleteTimeout id => exact onJn_nearCanonical hs (exec_bundleIncompleteTimeout id s) (·.of_mem (Junction.bundleTimeout_mem _ id))
  | bundleActivation ctx type => exact onScore_nearCanonical hs (exec_bundleActivation ctx type s) (·.of_mem (Junction.bundleActivate_mem _ ctx type))
  | contextConfigEffect ctx => exact onScore_nearCanonical hs (exec_contextConfigEffect ctx s) (·.of_mem (Junction.contextEffect_mem _ ctx))
  | contextDrainComplete ctx => exact onJn_nearCanonical hs (exec_contextDrainComplete ctx s) (·.of_mem (Junction.drainDone_mem _ ctx))
  | waybillWriteEffect => exact onScore_nearCanonical hs (exec_waybillWriteEffect s) fun hj => Junction.wayEffect_canonical hj
  | refTableActivate slot => exact onJn_nearCanonical hs (exec_refTableActivate slot s) (·.of_mem (Junction.refActivate_mem _ slot))
  | testResultCollect => exact onJn_nearCanonical hs (exec_testResultCollect s) (·.of_mem (Junction.testCollect_mem _))
  | dieConfigEffect slot => exact onJn_nearCanonical hs (exec_dieConfigEffect slot s) (·.of_mem (Junction.dieConfigEffect_mem _ slot))
  | dieReadmitEffect slot => exact onJn_nearCanonical hs (exec_dieReadmitEffect slot s) (·.of_mem (Junction.readmitEffect_mem _ slot))
  | twinStateExchange port => exact onJn_nearCanonical hs (exec_twinStateExchange port s) (·.of_mem (Junction.twinStatesReceived_mem _ port))
  | membershipEffect slot => exact onJn_nearCanonical hs (exec_membershipEffect slot s) (·.of_mem (Junction.membershipEffect_mem _ slot))
  | junctionAbortInstant slot => exact onJn_nearCanonical hs (exec_junctionAbortInstant slot s) (·.of_mem (Junction.abortInstant_mem _ slot))
  | ballastJobStart unit => exact onJn_nearCanonical hs (exec_ballastJobStart unit s) (·.of_mem (Junction.jobStart_mem _ unit))
  | ballastJobComplete u => exact onJn_nearCanonical hs (exec_ballastJobComplete u s) fun hj => Junction.jobComplete_canonical hj u
  | mailboxRequestTake m slot => exact onJn_nearCanonical hs (exec_mailboxRequestTake m slot s) (·.of_mem (Junction.requestTake_mem _ m slot))
  | mailboxDatagramReceived eth prot an pn source data =>
    exact onJn_nearCanonical hs (exec_mailboxDatagramReceived eth prot an pn source data s) (·.of_mem (Junction.datagram_mem _ eth prot an pn source data))
  | mailboxSegmentTimeout m => exact onJn_nearCanonical hs (exec_mailboxSegmentTimeout m s) (·.of_mem (Junction.segmentTimeout_mem _ m))
  | relayedRequestReceived port => exact onJn_nearCanonical hs (exec_relayedRequestReceived port s) (·.of_mem (Junction.relayedRequest_mem _ port))
  | relayedReplyReceived port => exact onJn_nearCanonical hs (exec_relayedReplyReceived port s) (·.of_mem (Junction.relayedReply_mem _ port))
  | relayTimeout => exact onJn_nearCanonical hs (exec_relayTimeout s) (·.of_mem (Junction.relayTimeout_mem _))
  | sessionExpiry m => exact onJn_nearCanonical hs (exec_sessionExpiry m s) (·.of_mem (Junction.sessionExpiry_mem _ m))
  | fwVerifyComplete => exact onJn_nearCanonical hs (exec_fwVerifyComplete s) (·.of_mem (Junction.fwVerifyDone_mem _))
  | fwActivation => exact onJn_nearCanonical hs (exec_fwActivation s) (·.of_mem (Junction.fwActivation_mem _))
  | fwResume => exact onJn_nearCanonical hs (exec_fwResume s) (·.of_mem (Junction.fwResume_mem _))
  | fwRevert => exact onJn_nearCanonical hs (exec_fwRevert s) (·.of_mem (Junction.fwRevert_mem _))
  | modeSetEffect => exact onJn_nearCanonical hs (exec_modeSetEffect s) (·.of_mem (Junction.modeEffect_mem _))
  | sessionOpen m => exact command_nearCanonical hs (exec_sessionOpen m s) Cmd.sessionOpen_mem
  | sessionClose m => exact command_nearCanonical hs (exec_sessionClose m s) Cmd.sessionClose_mem
  | heartbeat m => exact command_nearCanonical hs (exec_heartbeat m s) Cmd.heartbeat_mem
  | noticeRead m => exact command_nearCanonical hs (exec_noticeRead m s) Cmd.noticeRead_mem
  | alarmRead m => exact command_nearCanonical hs (exec_alarmRead m s) Cmd.alarmRead_mem
  | counterRead m => exact command_nearCanonical hs (exec_counterRead m s) Cmd.counterRead_mem
  | reset m => exact command_nearCanonical hs (exec_reset m s) Cmd.reset_mem
  | portMap m => exact command_nearCanonical hs (exec_portMap m s) Cmd.portMap_mem
  | ttLoad m => exact command_nearCanonical hs (exec_ttLoad m s) Cmd.ttLoad_mem
  | ttArm m => exact command_nearCanonical hs (exec_ttArm m s) Cmd.ttArm_mem
  | ttCancel m => exact command_nearCanonical hs (exec_ttCancel m s) Cmd.ttCancel_mem
  | ttStatus m => exact command_nearCanonical hs (exec_ttStatus m s) Cmd.ttStatus_mem
  | planLoad m => exact command_nearCanonical hs (exec_planLoad m s) Cmd.planLoad_mem
  | bankSwitch => exact onJn_nearCanonical hs (exec_bankSwitch s) (·.of_mem (Junction.bankSwitch_mem _))
  | bankPreviousRelease => exact onJn_nearCanonical hs (exec_bankPreviousRelease s) (·.of_mem (Junction.bankRelease_mem _))
  | linkControl m => exact command_nearCanonical hs (exec_linkControl m s) Cmd.linkControl_mem
  | contextConfig m => exact command_nearCanonical hs (exec_contextConfig m s) Cmd.contextConfig_mem
  | contextStatus m => exact command_nearCanonical hs (exec_contextStatus m s) Cmd.contextStatus_mem
  | bundleTransfer m => exact command_nearCanonical hs (exec_bundleTransfer m s) Cmd.bundleTransfer_mem
  | bundleStatus m => exact command_nearCanonical hs (exec_bundleStatus m s) Cmd.bundleStatus_mem
  | waybillWrite m => exact command_nearCanonical hs (exec_waybillWrite m s) Cmd.waybillWrite_mem
  | refTableLoad m => exact command_nearCanonical hs (exec_refTableLoad m s) Cmd.refTableLoad_mem
  | historyRead m => exact command_nearCanonical hs (exec_historyRead m s) Cmd.historyRead_mem
  | logConfig m => exact command_nearCanonical hs (exec_logConfig m s) Cmd.logConfig_mem
  | logRead m => exact command_nearCanonical hs (exec_logRead m s) Cmd.logRead_mem
  | logRelease m => exact command_nearCanonical hs (exec_logRelease m s) Cmd.logRelease_mem
  | testPackRead m => exact command_nearCanonical hs (exec_testPackRead m s) Cmd.testPackRead_mem
  | testResult m => exact command_nearCanonical hs (exec_testResult m s) Cmd.testResult_mem
  | dieConfig m => exact command_nearCanonical hs (exec_dieConfig m s) Cmd.dieConfig_mem
  | dieReadmit m => exact command_nearCanonical hs (exec_dieReadmit m s) Cmd.dieReadmit_mem
  | membershipLoad m => exact command_nearCanonical hs (exec_membershipLoad m s) Cmd.membershipLoad_mem
  | groupRearm m => exact command_nearCanonical hs (exec_groupRearm m s) Cmd.groupRearm_mem
  | membershipStatus m => exact command_nearCanonical hs (exec_membershipStatus m s) Cmd.membershipStatus_mem
  | traceSignal m => exact command_nearCanonical hs (exec_traceSignal m s) Cmd.traceSignal_mem
  | timeConfig m => exact command_nearCanonical hs (exec_timeConfig m s) Cmd.timeConfig_mem
  | timestampRead m => exact command_nearCanonical hs (exec_timestampRead m s) Cmd.timestampRead_mem
  | timingIoConfig m => exact command_nearCanonical hs (exec_timingIoConfig m s) Cmd.timingIoConfig_mem
  | fleetStop m => exact command_nearCanonical hs (exec_fleetStop m s) Cmd.fleetStop_mem
  | lsRead m => exact command_nearCanonical hs (exec_lsRead m s) Cmd.lsRead_mem
  | lsWrite m => exact command_nearCanonical hs (exec_lsWrite m s) Cmd.lsWrite_mem
  | exportConfig m => exact command_nearCanonical hs (exec_exportConfig m s) Cmd.exportConfig_mem
  | bufferWrite m => exact onJn_nearCanonical hs (exec_bufferWrite m s) fun hj => Junction.command_canonical Cmd.bufferWrite_keepsCanonical m hj
  | bufferRead m => exact command_nearCanonical hs (exec_bufferRead m s) Cmd.bufferRead_mem
  | ballast m => exact command_nearCanonical hs (exec_ballast m s) Cmd.ballast_mem
  | crcEngine m => exact command_nearCanonical hs (exec_crcEngine m s) Cmd.crcEngine_mem
  | crcData m => exact command_nearCanonical hs (exec_crcData m s) Cmd.crcData_mem
  | crcValueRead m => exact command_nearCanonical hs (exec_crcValueRead m s) Cmd.crcValueRead_mem
  | crcValueWrite m => exact command_nearCanonical hs (exec_crcValueWrite m s) Cmd.crcValueWrite_mem
  | fwLoad m => exact command_nearCanonical hs (exec_fwLoad m s) Cmd.fwLoad_mem
  | fwStatus m => exact command_nearCanonical hs (exec_fwStatus m s) Cmd.fwStatus_mem
  | fwActivate m => exact command_nearCanonical hs (exec_fwActivate m s) Cmd.fwActivate_mem
  | deviceId m => exact command_nearCanonical hs (exec_deviceId m s) Cmd.deviceId_mem
  | ownerProvision m => exact command_nearCanonical hs (exec_ownerProvision m s) Cmd.ownerProvision_mem
  | keyInstall m => exact command_nearCanonical hs (exec_keyInstall m s) Cmd.keyInstall_mem
  | keyRemove m => exact command_nearCanonical hs (exec_keyRemove m s) Cmd.keyRemove_mem
  | keyList m => exact command_nearCanonical hs (exec_keyList m s) Cmd.keyList_mem
  | macsecSa m => exact command_nearCanonical hs (exec_macsecSa m s) Cmd.macsecSa_mem
  | modeSet m => exact command_nearCanonical hs (exec_modeSet m s) Cmd.modeSet_mem
  | fuseLock m => exact command_nearCanonical hs (exec_fuseLock m s) Cmd.fuseLock_mem
  | rollbackAdvance m => exact command_nearCanonical hs (exec_rollbackAdvance m s) Cmd.rollbackAdvance_mem
  | secEventRead m => exact command_nearCanonical hs (exec_secEventRead m s) Cmd.secEventRead_mem
  | dbgResponse level key pub sig =>
    exact onJn_nearCanonical hs (exec_dbgResponse level key pub sig s) fun hj => Junction.dbgResponse_canonical hj level key pub sig
  | dbgChallenge => exact onJn_nearCanonical hs (exec_dbgChallenge s) (·.of_mem (Junction.dbgChallenge_mem _))
  | mailboxReqTailWrite tap m v => exact onBar_nearCanonical hs (exec_mailboxReqTailWrite tap m v s) (·.of_mem (Junction.onMbox_mem _ m _))
  | mailboxRplHeadWrite tap m v => exact onBar_nearCanonical hs (exec_mailboxRplHeadWrite tap m v s) (·.of_mem (Junction.onMbox_mem _ m _))
  | mailboxCtrlWrite tap m reg v => exact writeMbox_nearCanonical hs tap m reg v
  | jnRegLowHalfRead tap off size =>
    exact atJn_nearCanonical hs (exec_jnRegLowHalfRead tap off size s) fun hj => hj.of_mem (Junction.csrRead_mem _ tap off size)
  | jnErrCaptureClear tap errors => exact onBar_nearCanonical hs (exec_jnErrCaptureClear tap errors s) (·.of_mem (Junction.captureClear_mem _ errors))
  | registerWrite via addr size v mask => exact writeRegister_nearCanonical hs via addr size v mask
  | crcEnableApply part i => exact onPart_nearCanonical hs (exec_crcEnableApply part i s) (·.of_mem (Junction.crcEnableApply_mem _ i))
  | linesideConfigReplyReceived port => exact onJn_nearCanonical hs (exec_linesideConfigReplyReceived port s) (·.of_mem (Junction.cfgReply_mem _ port))
  | markerMissing e => exact onPort_nearCanonical hs (exec_markerMissing e s)
  | ethernetLinkStateChange eth up => exact onJn_nearCanonical hs (exec_ethernetLinkStateChange eth up s) (·.of_mem (Junction.ethLink_mem _ eth up))
  | ethernetControlFrameReceived eth => exact onJn_nearCanonical hs (exec_ethernetControlFrameReceived eth s) (·.of_mem (Junction.ethControl_mem _ eth))
  | ptpDelayReqDue => exact onJn_nearCanonical hs (exec_ptpDelayReqDue s) (·.of_mem (Junction.delayReqDue_mem _))
  | leapAtReached part => exact onPart_nearCanonical hs (exec_leapAtReached part s) (·.of_mem (Junction.leapReached_mem _))
  | nearTierStackError => exact onJn_nearCanonical hs (exec_nearTierStackError s) (·.of_mem (Junction.stackError_mem _))

end

/-- Settles O52: only a write of near-tier memory and its clearing change the memory, and both give the canonical form. -/
theorem nearTierMemoryStaysCanonical : Obligations.NearTierMemoryStaysCanonical := by
  unfold Obligations.NearTierMemoryStaysCanonical
  intro s t hs ht
  cases hp : s.pending with
  | nil =>
    rw [step_idle hp] at ht
    cases ht
    unfold State.idle
    dsimp only
    split <;> exact hs
  | cons c rest =>
    rw [step, hp] at ht
    exact exec_nearCanonical (s := { s with pending := rest }) hs c t ht

end Sys2Proof.Machine

/-! # The debug segment and the identity of the Lineside under every command (R480, R498) -/

namespace Sys2Proof.Machine

/-- What R480 and R498 speak of: VALID of the identity, UNLOCK and WRITE_EN of the debug segment. -/
def Ls.locks (s : Ls) : Bool × Bool × Bool := (s.dieValid, s.dbgUnlock, s.dbgWrite)

@[simp] theorem Ls.locks_of_fields (s : Ls) : (s.dieValid, s.dbgUnlock, s.dbgWrite) = s.locks := rfl

@[simp] theorem Ls.toLclk_dieValid (s : Ls) (n : Nat) : (s.toLclk n).dieValid = s.dieValid :=
  show (s.toLclk n).offClock.dieValid = s.offClock.dieValid by rw [Ls.toLclk_offClock]

@[simp] theorem Ls.locks_mk (clk mainOn inService die dieValid configured regs host pins smp lag banks trace qsnap bp halt scan log tab poison slots slotIgnored fenceHold
    fenceLow fenceIgnored crc istat berrCount berrLast self aon dbgUnlock dbgWrite dbgCapture timeLatch vc3Last linkDefer cfgWait portA portB) :
    (Ls.mk clk mainOn inService die dieValid configured regs host pins smp lag banks trace qsnap bp halt scan log tab poison slots slotIgnored fenceHold fenceLow
      fenceIgnored crc istat berrCount berrLast self aon dbgUnlock dbgWrite dbgCapture timeLatch vc3Last linkDefer cfgWait portA portB).locks =
      (dieValid, dbgUnlock, dbgWrite) := by
  unfold Ls.locks
  rfl

theorem Ls.locks_congr {s t : Ls} (hvalid : t.dieValid = s.dieValid) (hunlock : t.dbgUnlock = s.dbgUnlock) (hwrite : t.dbgWrite = s.dbgWrite) : t.locks = s.locks := by
  rw [← Ls.locks_of_fields, hvalid, hunlock, hwrite, Ls.locks_of_fields]

@[simp] theorem Ls.foldl_locks {β : Type} {f : Ls → β → Ls} (h : ∀ s b, (f s b).locks = s.locks) (l : List β) (s : Ls) : (l.foldl f s).locks = s.locks :=
  foldl_keeps Ls.locks f h l s

/-! ### What leaves them alone: one lemma an operation of the Lineside -/

@[simp] theorem Ls.cycles_locks (s : Ls) (n : Nat) : (s.cycles n).locks = s.locks := by simp [Ls.cycles, apply_ite Ls.locks]

@[simp] theorem Ls.traceFill_locks (s : Ls) : s.traceFill.locks = s.locks := rfl

@[simp] theorem Ls.captureRegions_locks (s : Ls) (c : LsCap) : (s.captureRegions c).locks = s.locks := rfl

@[simp] theorem Ls.setReg_locks (s : Ls) (a v : Nat) : (s.setReg a v).locks = s.locks := rfl

@[simp] theorem Ls.bpFire_locks (s : Ls) (i : Nat) : (s.bpFire i).locks = s.locks := by simp [Ls.bpFire, apply_ite Ls.locks]

@[simp] theorem Ls.drainStart_locks (s : Ls) : s.drainStart.locks = s.locks := rfl

@[simp] theorem Ls.drainCause_locks (s : Ls) : s.drainCause.locks = s.locks := by simp [Ls.drainCause, apply_ite Ls.locks]

@[simp] theorem Ls.traceTrigger_locks (s : Ls) : s.traceTrigger.locks = s.locks := by simp [Ls.traceTrigger, apply_ite Ls.locks]

@[simp] theorem Ls.qsnapBusy_locks (s : Ls) : s.qsnapBusy.locks = s.locks := rfl

@[simp] theorem Ls.qsnapStart_locks (s : Ls) (cause bp : Nat) : (s.qsnapStart cause bp).locks = s.locks := rfl

@[simp] theorem Ls.qsnapCause_locks (s : Ls) (cause bp : Nat) : (s.qsnapCause cause bp).locks = s.locks := by simp [Ls.qsnapCause, apply_ite Ls.locks]

@[simp] theorem Ls.onPorts_locks (s : Ls) (f : Port → Port) : (s.onPorts f).locks = s.locks := rfl

@[simp] theorem Ls.sendAll_locks (s : Ls) (tag vc subch : Nat) (b : Bytes) : (s.sendAll tag vc subch b).locks = s.locks := rfl

@[simp] theorem Ls.storeRecord_locks (s : Ls) (code : Nat) (words : List Word) : (s.storeRecord code words).1.locks = s.locks := by
  simp [Ls.storeRecord]

@[simp] theorem Ls.logEvent_locks (s : Ls) (code : Nat) (words : List Word) : (s.logEvent code words).1.locks = s.locks := by
  unfold Ls.logEvent
  dsimp only
  repeat' split
  all_goals simp

@[simp] theorem Ls.logE_locks (s : Ls) (code : Nat) (words : List Word) : (s.logE code words).locks = s.locks := by simp [Ls.logE]

@[simp] theorem Ls.bpActions_locks (s : Ls) (fired : List Nat) : (s.bpActions fired).locks = s.locks := by
  unfold Ls.bpActions
  dsimp only
  repeat' split
  all_goals simp

@[simp] theorem Ls.bpCounts_locks (s : Ls) : s.bpCounts.locks = s.locks := by simp [Ls.bpCounts]

@[simp] theorem Ls.captureCounters_locks (s : Ls) (c : LsCap) : (s.captureCounters c).locks = s.locks := by simp [Ls.captureCounters]

@[simp] theorem Ls.captureSchedule_locks (s : Ls) (c : LsCap) : (s.captureSchedule c).locks = s.locks := rfl

@[simp] theorem Ls.lagTrigger_locks (s : Ls) (c : LsCap) (lag : Int × Bool × Bool) : (s.lagTrigger c lag).locks = s.locks := by
  unfold Ls.lagTrigger
  dsimp only
  repeat' split
  all_goals simp

@[simp] theorem Ls.assemble_locks (s : Ls) (c : LsCap) : (s.assemble c).locks = s.locks := by
  unfold Ls.assemble
  split <;> simp

@[simp] theorem Ls.capStep_locks (s : Ls) : s.capStep.locks = s.locks := by
  unfold Ls.capStep
  dsimp only
  repeat' split
  all_goals simp

@[simp] theorem Ls.lclks_locks (k : Nat) (s : Ls) (n : Nat) : (Ls.lclks k s n).locks = s.locks := by
  induction k generalizing s n with
  | zero => exact Ls.cycles_locks s n
  | succ k ih =>
    rw [Ls.lclks]
    split
    · exact Ls.cycles_locks s n
    · rw [ih, Ls.capStep_locks, Ls.cycles_locks]

@[simp] theorem Ls.pass_locks (s : Ls) (d : Nat) : (s.pass d).locks = s.locks := by simp [Ls.pass, apply_ite Ls.locks]

@[simp] theorem Ls.idle_locks (s : Ls) : s.idle.locks = s.locks := by simp [Ls.idle]

@[simp] theorem Ls.setPort_locks (s : Ls) (l : Bool) (p : Port) : (s.setPort l p).locks = s.locks := by simp [Ls.setPort, apply_ite Ls.locks]

@[simp] theorem Ls.scanAdvance_locks (s : Ls) : s.scanAdvance.locks = s.locks := by simp [Ls.scanAdvance, apply_ite Ls.locks]

@[simp] theorem Ls.reach_locks (s : Ls) (u : Int) : (s.reach u).locks = s.locks := by simp [Ls.reach]

@[simp] theorem Ls.scanUnlink_locks (s : Ls) (l : Bool) : (s.scanUnlink l).locks = s.locks := by simp [Ls.scanUnlink, apply_ite Ls.locks]

@[simp] theorem Ls.qsnapPending_locks (s : Ls) : s.qsnapPending.locks = s.locks := by
  unfold Ls.qsnapPending
  split <;> rfl

@[simp] theorem Ls.linkLost_locks (s : Ls) (l : Bool) : (s.linkLost l).locks = s.locks := by simp [Ls.linkLost, apply_ite Ls.locks]

@[simp] theorem Ls.linkMoved_locks (s : Ls) (l : Bool) (p : Port) : (s.linkMoved l p).locks = s.locks := by simp [Ls.linkMoved, apply_ite Ls.locks]

@[simp] theorem Ls.linkControl_locks (s : Ls) (l : Bool) (action : Nat) : (s.linkControl l action).locks = s.locks := by simp [Ls.linkControl]

@[simp] theorem Ls.deferDone_locks (s : Ls) : s.deferDone.locks = s.locks := by
  unfold Ls.deferDone
  repeat' split
  all_goals simp

@[simp] theorem Ls.txSlot_locks (s : Ls) (l : Bool) : (s.txSlot l).locks = s.locks := by
  unfold Ls.txSlot
  dsimp only
  repeat' split
  all_goals simp

@[simp] theorem Ls.checkFail_locks (s : Ls) (a code : Nat) : (s.checkFail a code).locks = s.locks := by simp [Ls.checkFail]

@[simp] theorem Ls.rxFlit_locks (s : Ls) (l : Bool) (slot grid : Nat) (raw : Bytes) : (s.rxFlit l slot grid raw).locks = s.locks := by
  simp [Ls.rxFlit, apply_ite Ls.locks]

@[simp] theorem Ls.trainFrame_locks (s : Ls) (l : Bool) (samePhase : Bool) (h : Nat) : (s.trainFrame l samePhase h).locks = s.locks := by
  simp [Ls.trainFrame]

@[simp] theorem Ls.identFlit_locks (s : Ls) (l : Bool) (raw : Bytes) : (s.identFlit l raw).locks = s.locks := by
  rw [Ls.identFlit_eq]
  cases identMessage raw with
  | none => rfl
  | some b => exact Ls.linkMoved_locks _ _ _

@[simp] theorem Ls.resendLog_locks (s : Ls) (l : Bool) (n : Nat) (rs : List (Nat × Bytes)) : (s.resendLog l n rs).locks = s.locks := by
  induction n generalizing s rs with
  | zero => rfl
  | succ n ih =>
    unfold Ls.resendLog
    split
    · rfl
    · simp [ih]

@[simp] theorem Ls.linkActive_locks (s : Ls) (l : Bool) : (s.linkActive l).locks = s.locks := by simp [Ls.linkActive, apply_ite Ls.locks]

@[simp] theorem Ls.setSlot_locks (s : Ls) (g : Nat) (k : AbortSlot) : (s.setSlot g k).locks = s.locks := rfl

@[simp] theorem Ls.pulse_locks (s : Ls) (g : Nat) (late : Bool) : (s.pulse g late).locks = s.locks := by simp [Ls.pulse]

@[simp] theorem Ls.toLclk_locks (s : Ls) (n : Nat) : (s.toLclk n).locks = s.locks := by simp [Ls.toLclk, apply_ite Ls.locks]

@[simp] theorem Ls.abortReceived_locks (s : Ls) (g low : Nat) : (s.abortReceived g low).locks = s.locks := by
  unfold Ls.abortReceived
  dsimp only
  repeat' split
  all_goals simp

@[simp] theorem Ls.fenceSignal_locks (s : Ls) (arg : Nat) : (s.fenceSignal arg).locks = s.locks := by simp [Ls.fenceSignal, apply_ite Ls.locks]

@[simp] theorem Ls.signalAll_locks (s : Ls) (code arg : Nat) : (s.signalAll code arg).locks = s.locks := rfl

@[simp] theorem Ls.logAlarm_locks (s : Ls) (code : Nat) (words : List Word) (cls : Nat) : (s.logAlarm code words cls).locks = s.locks := by
  simp [Ls.logAlarm]

@[simp] theorem Ls.raiseStop_locks (s : Ls) (source : Nat) (late untimed : Bool) : (s.raiseStop source late untimed).locks = s.locks := by
  simp [Ls.raiseStop, apply_ite Ls.locks]

@[simp] theorem Ls.flush_locks (s : Ls) : s.flush.locks = s.locks := by simp [Ls.flush]

@[simp] theorem Ls.setClock_locks (s : Ls) (c : Clock) : (s.setClock c).locks = s.locks := by simp [Ls.setClock, apply_ite Ls.locks]

@[simp] theorem Ls.measure_locks (s : Ls) (l : Bool) (m : TimeMark) (t2 : Nat) (bad : Bool) : (s.measure l m t2 bad).locks = s.locks := by
  simp [Ls.measure]

@[simp] theorem Ls.tickMark_locks (s : Ls) (l : Bool) : (s.tickMark l).locks = s.locks := by
  unfold Ls.tickMark
  dsimp only
  repeat' split
  all_goals simp

@[simp] theorem Ls.echoDue_locks (s : Ls) (l : Bool) : (s.echoDue l).locks = s.locks := by
  unfold Ls.echoDue
  dsimp only
  split <;> simp

@[simp] theorem Ls.sourceLoss_locks (s : Ls) : s.sourceLoss.locks = s.locks := by simp [Ls.sourceLoss]

@[simp] theorem Ls.sourceRevert_locks (s : Ls) : s.sourceRevert.locks = s.locks := by simp [Ls.sourceRevert]

@[simp] theorem Ls.holdoverLimit_locks (s : Ls) : s.holdoverLimit.locks = s.locks := by simp [Ls.holdoverLimit, apply_ite Ls.locks]

@[simp] theorem Ls.scrub_locks (s : Ls) (array row fate : Nat) : (s.scrub array row fate).locks = s.locks := by simp [Ls.scrub, apply_ite Ls.locks]

@[simp] theorem Ls.abortInstant_locks (s : Ls) (g : Nat) : (s.abortInstant g).locks = s.locks := by simp [Ls.abortInstant, apply_ite Ls.locks]

@[simp] theorem Ls.readEffect_locks (s : Ls) (a : Nat) : (s.readEffect a).locks = s.locks := by simp [Ls.readEffect, apply_ite Ls.locks]

@[simp] theorem Ls.slotWrite_locks (s : Ls) (g v w1c mask : Nat) : (s.slotWrite g v w1c mask).locks = s.locks := by
  simp [Ls.slotWrite, apply_ite Ls.locks]

@[simp] theorem Ls.activeWrite_locks (s : Ls) : s.activeWrite.locks = s.locks := rfl

@[simp] theorem Ls.frameMapWrite_locks (s : Ls) (vc3 : Bool) (b : Bool) (a v : Nat) : (s.frameMapWrite vc3 b a v).locks = s.locks := by
  simp [Ls.frameMapWrite, apply_ite Ls.locks]

@[simp] theorem Ls.ttBankWrite_locks (s : Ls) (vc3 : Bool) (b : Bool) (a v : Nat) : (s.ttBankWrite vc3 b a v).locks = s.locks := by
  simp [Ls.ttBankWrite, apply_ite Ls.locks]

@[simp] theorem Ls.fenceWrite_locks (s : Ls) (v : Nat) : (s.fenceWrite v).locks = s.locks := by
  unfold Ls.fenceWrite
  dsimp only
  split <;> rfl

@[simp] theorem Ls.bpPast_locks (s : Ls) (i : Nat) : (s.bpPast i).locks = s.locks := by
  unfold Ls.bpPast
  repeat' split
  all_goals simp

@[simp] theorem Ls.selWrite_locks (s : Ls) (k v : Nat) : (s.selWrite k v).locks = s.locks := rfl

@[simp] theorem Ls.istatAdd_locks (s : Ls) (i n : Nat) : (s.istatAdd i n).locks = s.locks := rfl

@[simp] theorem Ls.tabGroupWrite_locks (s : Ls) (g v : Nat) : (s.tabGroupWrite g v).locks = s.locks := by simp [Ls.tabGroupWrite, apply_ite Ls.locks]

@[simp] theorem Ls.plainWrite_locks (s : Ls) (vc3 : Bool) (a v : Nat) : (s.plainWrite vc3 a v).locks = s.locks := by
  unfold Ls.plainWrite
  repeat' split
  all_goals simp

@[simp] theorem Ls.selfStart_locks (s : Ls) : s.selfStart.locks = s.locks := by simp [Ls.selfStart, apply_ite Ls.locks]

@[simp] theorem Ls.drainIdle_locks (s : Ls) : s.drainIdle.locks = s.locks := by simp [Ls.drainIdle, apply_ite Ls.locks]

@[simp] theorem Ls.releaseDrain_locks (s : Ls) : s.releaseDrain.locks = s.locks := by simp [Ls.releaseDrain, apply_ite Ls.locks]

@[simp] theorem Ls.armStop_locks (s : Ls) : s.armStop.locks = s.locks := by simp [Ls.armStop, apply_ite Ls.locks]

@[simp] theorem Ls.disarmStop_locks (s : Ls) : s.disarmStop.locks = s.locks := rfl

@[simp] theorem Ls.lowerStop_locks (s : Ls) (armed : Bool) : (s.lowerStop armed).locks = s.locks := by simp [Ls.lowerStop, apply_ite Ls.locks]

@[simp] theorem Ls.armRelease_locks (s : Ls) : s.armRelease.locks = s.locks := by simp [Ls.armRelease, apply_ite Ls.locks]

@[simp] theorem Ls.disarmRelease_locks (s : Ls) : s.disarmRelease.locks = s.locks := rfl

@[simp] theorem Ls.haltCtrl_locks (s : Ls) (v : Nat) : (s.haltCtrl v).locks = s.locks := by simp [Ls.haltCtrl, apply_ite Ls.locks]

@[simp] theorem Ls.haltStatusWrite_locks (s : Ls) (v w1c : Nat) : (s.haltStatusWrite v w1c).locks = s.locks := rfl

@[simp] theorem Ls.traceStart_locks (s : Ls) : s.traceStart.locks = s.locks := rfl

@[simp] theorem Ls.traceArm_locks (s : Ls) : s.traceArm.locks = s.locks := by simp [Ls.traceArm, apply_ite Ls.locks]

@[simp] theorem Ls.traceFreeze_locks (s : Ls) (disarmed : Bool) : (s.traceFreeze disarmed).locks = s.locks := by simp [Ls.traceFreeze]

@[simp] theorem Ls.traceDisarm_locks (s : Ls) : s.traceDisarm.locks = s.locks := by simp [Ls.traceDisarm, apply_ite Ls.locks]

@[simp] theorem Ls.traceReadout_locks (s : Ls) : s.traceReadout.locks = s.locks := by
  unfold Ls.traceReadout
  extract_lets t
  have ht : t.locks = s.locks := by
    unfold t
    split
    · exact Ls.toLclk_locks _ _
    · rfl
  clear_value t
  rw [← ht]
  repeat' split
  all_goals simp

@[simp] theorem Ls.traceCtrl_locks (s : Ls) (v : Nat) : (s.traceCtrl v).locks = s.locks := by simp [Ls.traceCtrl, apply_ite Ls.locks]

@[simp] theorem Ls.qsnapReadout_locks (s : Ls) : s.qsnapReadout.locks = s.locks := by
  unfold Ls.qsnapReadout
  repeat' split
  all_goals simp

@[simp] theorem Ls.qsnapCtrl_locks (s : Ls) (v : Nat) : (s.qsnapCtrl v).locks = s.locks := by simp [Ls.qsnapCtrl, apply_ite Ls.locks]

@[simp] theorem Ls.scanOpen_locks (s : Ls) (l : Bool) (more : Bool) : (s.scanOpen l more).locks = s.locks := by simp [Ls.scanOpen]

@[simp] theorem Ls.scanStart_locks (s : Ls) : s.scanStart.locks = s.locks := by
  unfold Ls.scanStart
  dsimp only
  repeat' split
  all_goals simp

@[simp] theorem Ls.scanRestore_locks (s : Ls) : s.scanRestore.locks = s.locks := by simp [Ls.scanRestore, apply_ite Ls.locks]

@[simp] theorem Ls.scanCtrl_locks (s : Ls) (v : Nat) : (s.scanCtrl v).locks = s.locks := by simp [Ls.scanCtrl, apply_ite Ls.locks]

@[simp] theorem Ls.lagArm_locks (s : Ls) : s.lagArm.locks = s.locks := by
  unfold Ls.lagArm
  dsimp only
  repeat' split
  all_goals rfl

@[simp] theorem Ls.lagCtrl_locks (s : Ls) (v : Nat) : (s.lagCtrl v).locks = s.locks := by simp [Ls.lagCtrl, apply_ite Ls.locks]

@[simp] theorem Ls.frameValidate_locks (s : Ls) : s.frameValidate.locks = s.locks := rfl

@[simp] theorem Ls.frameArm_locks (s : Ls) : s.frameArm.locks = s.locks := by simp [Ls.frameArm, apply_ite Ls.locks]

@[simp] theorem Ls.frameCancel_locks (s : Ls) : s.frameCancel.locks = s.locks := rfl

@[simp] theorem Ls.frameCtrl_locks (s : Ls) (v : Nat) : (s.frameCtrl v).locks = s.locks := by simp [Ls.frameCtrl, apply_ite Ls.locks]

@[simp] theorem Ls.ttValidate_locks (s : Ls) : s.ttValidate.locks = s.locks := rfl

@[simp] theorem Ls.ttArm_locks (s : Ls) : s.ttArm.locks = s.locks := by simp [Ls.ttArm, apply_ite Ls.locks]

@[simp] theorem Ls.ttCancel_locks (s : Ls) : s.ttCancel.locks = s.locks := by simp [Ls.ttCancel, apply_ite Ls.locks]

@[simp] theorem Ls.ttCtrl_locks (s : Ls) (v : Nat) : (s.ttCtrl v).locks = s.locks := by simp [Ls.ttCtrl, apply_ite Ls.locks]

@[simp] theorem Ls.linkCtrl_locks (s : Ls) (via : Option Bool) (l : Bool) (v : Nat) : (s.linkCtrl via l v).locks = s.locks := by
  simp [Ls.linkCtrl, apply_ite Ls.locks]

@[simp] theorem Ls.crcValueWrite_locks (s : Ls) (i v : Nat) : (s.crcValueWrite i v).locks = s.locks := rfl

@[simp] theorem Ls.crcFeedWrite_locks (s : Ls) (i v : Nat) : (s.crcFeedWrite i v).locks = s.locks := by simp [Ls.crcFeedWrite, apply_ite Ls.locks]

@[simp] theorem Ls.crcCfgWrite_locks (s : Ls) (i r v : Nat) : (s.crcCfgWrite i r v).locks = s.locks := rfl

@[simp] theorem Ls.logMark_locks (s : Ls) : s.logMark.locks = s.locks := by simp [Ls.logMark]

@[simp] theorem Ls.commitWrite_locks (s : Ls) (v : Nat) : (s.commitWrite v).locks = s.locks := by
  unfold Ls.commitWrite
  dsimp only
  split <;> rfl

@[simp] theorem Ls.ctrWrite_locks (s : Ls) (k : Nat) (v : Word) : (s.ctrWrite k v).locks = s.locks := by simp [Ls.ctrWrite]

@[simp] theorem Ls.logDebug_locks (s : Ls) (met : Option (Nat × Nat × Nat)) (lclk a : Nat) (v : Word) : (s.logDebug met lclk a v).locks = s.locks := by
  unfold Ls.logDebug
  repeat' split
  all_goals simp

@[simp] theorem Ls.crcEnableApply_locks (s : Ls) (i : Nat) : (s.crcEnableApply i).locks = s.locks := by simp [Ls.crcEnableApply, apply_ite Ls.locks]

@[simp] theorem Ls.scanAbandon_locks (s : Ls) : s.scanAbandon.locks = s.locks := by simp [Ls.scanAbandon, apply_ite Ls.locks]

@[simp] theorem Ls.loseMain_locks (s : Ls) : s.loseMain.locks = s.locks := by simp [Ls.loseMain]

@[simp] theorem Ls.refclkLoss_locks (s : Ls) : s.refclkLoss.locks = s.locks := by simp [Ls.refclkLoss]

@[simp] theorem Ls.serviceEntry_locks (s : Ls) (r : SelfResult) : (s.serviceEntry r).locks = s.locks := by
  unfold Ls.serviceEntry
  split
  · rfl
  · extract_lets host pins smp lag up unflushed log emptied kept tok taken noted held aon
    have hemptied : emptied.locks = s.locks := Ls.locks_congr rfl rfl rfl
    have hnoted : noted.locks = s.locks := by
      unfold noted
      split
      · exact (Ls.locks_congr rfl rfl rfl).trans hemptied
      · exact (Ls.storeRecord_locks _ _ _).trans ((Ls.locks_congr rfl rfl rfl).trans hemptied)
    clear_value noted
    rw [Ls.foldl_locks fun x e => Ls.logE_locks x _ _]
    exact (Ls.locks_congr rfl rfl rfl).trans hnoted

@[simp] theorem Ls.selfComplete_locks (s : Ls) (r : SelfResult) : (s.selfComplete r).locks = s.locks := by simp [Ls.selfComplete, apply_ite Ls.locks]

@[simp] theorem Ls.offAnswer_locks (s : Ls) (nak : Bool) : (s.offAnswer nak).locks = s.locks := by simp [Ls.offAnswer]

@[simp] theorem Ls.pwrOffReq_locks (s : Ls) : s.pwrOffReq.locks = s.locks := by
  unfold Ls.pwrOffReq
  split
  · exact Ls.offAnswer_locks _ _
  · simp

@[simp] theorem Ls.pwrOffAnswer_locks (s : Ls) : s.pwrOffAnswer.locks = s.locks := by
  unfold Ls.pwrOffAnswer
  repeat' split
  all_goals simp

@[simp] theorem Ls.powerOff_locks (s : Ls) : s.powerOff.locks = s.locks := by simp [Ls.powerOff, apply_ite Ls.locks]

@[simp] theorem Ls.aonCrossing_locks (s : Ls) : s.aonCrossing.locks = s.locks := by
  unfold Ls.aonCrossing
  dsimp only
  repeat' split
  all_goals simp

@[simp] theorem Ls.frameSwitchDue_locks (s : Ls) (n : Nat) (done : Bool) : (s.frameSwitchDue n done).locks = s.locks := by
  unfold Ls.frameSwitchDue
  repeat' split
  all_goals simp

@[simp] theorem Ls.ttSwitchDue_locks (s : Ls) (n : Nat) : (s.ttSwitchDue n).locks = s.locks := by
  unfold Ls.ttSwitchDue
  dsimp only
  repeat' split
  all_goals rfl

@[simp] theorem Ls.anchorDue_locks (s : Ls) (n : Nat) : (s.anchorDue n).locks = s.locks := by
  unfold Ls.anchorDue
  repeat' split
  all_goals simp

@[simp] theorem Ls.addTokens_locks (s : Ls) (n : Nat) : (s.addTokens n).locks = s.locks := rfl

@[simp] theorem Ls.commitSelects_locks (s : Ls) : s.commitSelects.locks = s.locks := by simp [Ls.commitSelects, apply_ite Ls.locks]

@[simp] theorem Ls.newInterval_locks (s : Ls) : s.newInterval.locks = s.locks := rfl

@[simp] theorem Ls.beginCapture_locks (s : Ls) (n : Nat) : (s.beginCapture n).locks = s.locks := rfl

@[simp] theorem Ls.bpTicks_locks (s : Ls) (n : Nat) : (s.bpTicks n).locks = s.locks := by simp [Ls.bpTicks]

@[simp] theorem Ls.ageTick_locks (s : Ls) : s.ageTick.locks = s.locks := rfl

@[simp] theorem Ls.sampleEdge_locks (s : Ls) : s.sampleEdge.locks = s.locks := by simp [Ls.sampleEdge, apply_ite Ls.locks]

@[simp] theorem Ls.lagEffect_locks (s : Ls) : s.lagEffect.locks = s.locks := by
  unfold Ls.lagEffect
  repeat' split
  all_goals simp

@[simp] theorem Ls.frameMapSwitch_locks (s : Ls) : s.frameMapSwitch.locks = s.locks := by simp [Ls.frameMapSwitch, apply_ite Ls.locks]

@[simp] theorem Ls.hostReset_locks (s : Ls) : s.hostReset.locks = s.locks := by simp [Ls.hostReset, apply_ite Ls.locks]

@[simp] theorem Ls.drive_locks (s : Ls) (x : LclkIn) : (s.drive x).locks = s.locks := by simp [Ls.drive, apply_ite Ls.locks]

@[simp] theorem Ls.lclkCycle_locks (s : Ls) (x : LclkIn) : (s.lclkCycle x).locks = s.locks := by simp [Ls.lclkCycle, apply_ite Ls.locks]

@[simp] theorem Ls.selSend_locks (s : Ls) : s.selSend.locks = s.locks := by
  unfold Ls.selSend
  dsimp only
  split <;> rfl

@[simp] theorem Ls.boundaryError_locks (s : Ls) (cause : Nat) : (s.boundaryError cause).locks = s.locks := by simp [Ls.boundaryError]

@[simp] theorem Ls.aonBeat_locks (s : Ls) (ch v beat i : Nat) : (s.aonBeat ch v beat i).locks = s.locks := by simp [Ls.aonBeat, apply_ite Ls.locks]

@[simp] theorem Ls.sensorBeat_locks (s : Ls) (w : BitVec 32) : (s.sensorBeat w).locks = s.locks := by simp [Ls.sensorBeat, apply_ite Ls.locks]

@[simp] theorem Ls.stretchPulse_locks (s : Ls) (j : Nat) : (s.stretchPulse j).locks = s.locks := by simp [Ls.stretchPulse, apply_ite Ls.locks]

@[simp] theorem Ls.bundleIssue_locks (s : Ls) (addr : BitVec 48) : (s.bundleIssue addr).locks = s.locks := by
  simp [Ls.bundleIssue, apply_ite Ls.locks]

@[simp] theorem Ls.traceSample_locks (s : Ls) : s.traceSample.locks = s.locks := by
  unfold Ls.traceSample
  split
  · dsimp only
    split
    · simp
    · simp
  · rfl

@[simp] theorem Ls.tracePostComplete_locks (s : Ls) : s.tracePostComplete.locks = s.locks := by simp [Ls.tracePostComplete, apply_ite Ls.locks]

@[simp] theorem Ls.traceReadoutDone_locks (s : Ls) : s.traceReadoutDone.locks = s.locks := by
  unfold Ls.traceReadoutDone
  dsimp only
  repeat' split
  all_goals simp

@[simp] theorem Ls.qsnapRead_locks (s : Ls) (d : Option (BitVec 128)) : (s.qsnapRead d).locks = s.locks := by
  unfold Ls.qsnapRead
  dsimp only
  split
  · cases d with
    | none => simp
    | some _ => simp
  · rfl

@[simp] theorem Ls.qsnapDone_locks (s : Ls) : s.qsnapDone.locks = s.locks := by simp [Ls.qsnapDone, apply_ite Ls.locks]

@[simp] theorem Ls.qsnapReadoutDone_locks (s : Ls) : s.qsnapReadoutDone.locks = s.locks := by
  unfold Ls.qsnapReadoutDone
  repeat' split
  all_goals simp

@[simp] theorem Ls.stopSnapshot_locks (s : Ls) : s.stopSnapshot.locks = s.locks := by
  unfold Ls.stopSnapshot
  split
  · exact (Ls.qsnapCause_locks _ _ _).trans (Ls.toLclk_locks s _)
  · rfl

@[simp] theorem Ls.drainDoneRise_locks (s : Ls) : s.drainDoneRise.locks = s.locks := by simp [Ls.drainDoneRise, apply_ite Ls.locks]

@[simp] theorem Ls.drainTimeout_locks (s : Ls) : s.drainTimeout.locks = s.locks := by
  unfold Ls.drainTimeout
  split
  · dsimp only
    rw [Ls.logAlarm_locks]
    split
    · simp
    · simp
  · rfl

@[simp] theorem Ls.drainDoneFall_locks (s : Ls) : s.drainDoneFall.locks = s.locks := by simp [Ls.drainDoneFall, apply_ite Ls.locks]

@[simp] theorem Ls.armedStop_locks (s : Ls) : s.armedStop.locks = s.locks := by
  unfold Ls.armedStop
  split <;> simp

@[simp] theorem Ls.armedRelease_locks (s : Ls) : s.armedRelease.locks = s.locks := by
  unfold Ls.armedRelease
  split <;> simp

@[simp] theorem Ls.scanComplete_locks (s : Ls) : s.scanComplete.locks = s.locks := by
  unfold Ls.scanComplete
  dsimp only
  repeat' split
  all_goals simp

@[simp] theorem Ls.holdChains_locks (s : Ls) (chains : List Word) : (s.holdChains chains).locks = s.locks := by
  simp [Ls.holdChains, apply_ite Ls.locks]

@[simp] theorem Ls.scanResume_locks (s : Ls) : s.scanResume.locks = s.locks := by
  unfold Ls.scanResume
  dsimp only
  repeat' split
  all_goals simp

@[simp] theorem Ls.queueShard_locks (s : Ls) (tap : Nat) (ref : BitVec 28) (status : Nat) (digest : Nat) : (s.queueShard tap ref status digest).locks = s.locks := by
  simp [Ls.queueShard, apply_ite Ls.locks]

@[simp] theorem Ls.tapStart_locks (s : Ls) (tap cls : Nat) (tag : BitVec 16) (value : BitVec 28) : (s.tapStart tap cls tag value).locks = s.locks := by
  unfold Ls.tapStart
  dsimp only
  repeat' split
  all_goals simp

@[simp] theorem Ls.tapBeat_locks (s : Ls) (tap : Nat) (sb : BitVec 64) : (s.tapBeat tap sb).locks = s.locks := by
  simp [Ls.tapBeat, apply_ite Ls.locks]

@[simp] theorem Ls.shardEnd_locks (s : Ls) (tap : Nat) (tag : BitVec 16) (value : BitVec 28) (data : Bytes) : (s.shardEnd tap tag value data).locks = s.locks := by
  unfold Ls.shardEnd
  repeat' split
  all_goals simp

@[simp] theorem Ls.takePkt_locks (s : Ls) (tap : Nat) (tag : BitVec 16) (value : BitVec 28) : (s.takePkt tap tag value).2.locks = s.locks := by
  unfold Ls.takePkt
  split <;> rfl

@[simp] theorem Ls.driveDigest_locks (s : Ls) (tag : BitVec 16) (d : Nat) : (s.driveDigest tag d).locks = s.locks := rfl

@[simp] theorem Ls.testPacket_locks (s : Ls) (pkt : OpenPkt) (d : Nat) : (s.testPacket pkt d).locks = s.locks := by
  unfold Ls.testPacket
  dsimp only
  repeat' split
  all_goals simp

@[simp] theorem Ls.originate_locks (s : Ls) (g : Nat) : (s.originate g).locks = s.locks := by simp [Ls.originate, apply_ite Ls.locks]

@[simp] theorem Ls.mismatch_locks (s : Ls) (e : TabEntry) (group : Nat) (w1 : Nat) : (s.mismatch e group w1).locks = s.locks := by
  simp [Ls.mismatch, apply_ite Ls.locks]

@[simp] theorem Ls.witnessClose_locks (s : Ls) (e : TabEntry) (group chunk : Nat) (d : Option Nat) : (s.witnessClose e group chunk d).locks = s.locks := by
  unfold Ls.witnessClose
  dsimp only
  repeat' split
  all_goals simp

theorem Ls.locks_of_takePkt {s t : Ls} {tap : Nat} {tag : BitVec 16} {value : BitVec 28} {p : Option OpenPkt} (h : s.takePkt tap tag value = (p, t)) :
    t.locks = s.locks := by
  rw [← Ls.takePkt_locks s tap tag value, h]

@[simp] theorem Ls.egressEnd_locks (s : Ls) (cls : Nat) (tag : BitVec 16) (value : BitVec 28) (data : Bytes) : (s.egressEnd cls tag value data).locks = s.locks := by
  unfold Ls.egressEnd
  split
  · rfl
  · split
    · exact Ls.shardEnd_locks _ _ _ _ _
    · split
      · exact Ls.locks_of_takePkt ‹_›
      · rename_i h
        rw [← Ls.locks_of_takePkt h]
        dsimp only
        repeat' split
        all_goals simp
    · rfl

@[simp] theorem Ls.egressBeat_locks (s : Ls) (sb : BitVec 64) (data : Bytes) : (s.egressBeat sb data).locks = s.locks := by
  simp [Ls.egressBeat, apply_ite Ls.locks]

@[simp] theorem Ls.witnessAdd_locks (s : Ls) (e : TabEntry) (chunk d : Nat) : (s.witnessAdd e chunk d).1.locks = s.locks := by
  unfold Ls.witnessAdd
  dsimp only
  repeat' split
  all_goals rfl

theorem Ls.locks_of_witnessAdd {s t : Ls} {e : TabEntry} {chunk d : Nat} {b : Bool} (h : s.witnessAdd e chunk d = (t, b)) : t.locks = s.locks := by
  rw [← Ls.witnessAdd_locks s e chunk d, h]

@[simp] theorem Ls.ingressEnd_locks (s : Ls) (cls : Nat) (tag : BitVec 16) (value : BitVec 28) (data : Bytes) : (s.ingressEnd cls tag value data).locks = s.locks := by
  unfold Ls.ingressEnd
  split
  · rfl
  · split
    · exact Ls.shardEnd_locks _ _ _ _ _
    · split
      · exact Ls.locks_of_takePkt ‹_›
      · rename_i h
        rw [← Ls.locks_of_takePkt h]
        dsimp only
        repeat' split
        · rfl
        · simp
        · simp
        · simp
        · rename_i h
          simp [Ls.locks_of_witnessAdd h]
        · rename_i h
          simp [Ls.locks_of_witnessAdd h]
        all_goals simp
    · rfl

@[simp] theorem Ls.ingressBeat_locks (s : Ls) (sb : BitVec 64) (data : Bytes) : (s.ingressBeat sb data).locks = s.locks := by
  simp [Ls.ingressBeat, apply_ite Ls.locks]

@[simp] theorem Ls.witnessExpire_locks (s : Ls) : s.witnessExpire.locks = s.locks := rfl

@[simp] theorem Ls.suspendEnd_locks (s : Ls) : s.suspendEnd.locks = s.locks := rfl

@[simp] theorem Ls.tabEnableApply_locks (s : Ls) (g : Nat) : (s.tabEnableApply g).locks = s.locks := by
  unfold Ls.tabEnableApply
  split
  · exact (Ls.setReg_locks _ _ _).trans (Ls.locks_congr rfl rfl rfl)
  · rfl

@[simp] theorem Ls.testWindowEnd_locks (s : Ls) : s.testWindowEnd.locks = s.locks := by simp [Ls.testWindowEnd, apply_ite Ls.locks]

@[simp] theorem Ls.poisonAccept_locks (s : Ls) (w : BitVec 96) : (s.poisonAccept w).locks = s.locks := by
  unfold Ls.poisonAccept
  dsimp only
  repeat' split
  all_goals simp

/-! ### What writes them: the identity and the debug registers, and the resets (R480, R498) -/

theorem Ls.dieValid_of_locks {s t : Ls} (h : t.locks = s.locks) : t.dieValid = s.dieValid := congrArg Prod.fst h

theorem Ls.dbgUnlock_of_locks {s t : Ls} (h : t.locks = s.locks) : t.dbgUnlock = s.dbgUnlock := congrArg (·.2.1) h

theorem Ls.dbgWrite_of_locks {s t : Ls} (h : t.locks = s.locks) : t.dbgWrite = s.dbgWrite := congrArg (·.2.2) h

/-- WRITE_EN implies UNLOCK (R480). -/
def Ls.Locked (s : Ls) : Prop := s.dbgWrite = true → s.dbgUnlock = true

theorem Ls.Locked.of_locks {s t : Ls} (hs : s.Locked) (h : t.locks = s.locks) : t.Locked := by
  unfold Ls.Locked
  rw [Ls.dbgWrite_of_locks h, Ls.dbgUnlock_of_locks h]
  exact hs

/-- What a step other than the cold reset leaves so: VALID stays set, and WRITE_EN implies UNLOCK if it did (R480, R498). -/
structure Ls.Keeps (s t : Ls) : Prop where
  valid : s.dieValid = true → t.dieValid = true
  locked : s.Locked → t.Locked

theorem Ls.Keeps.of_locks {s t : Ls} (h : t.locks = s.locks) : s.Keeps t := ⟨fun hs => (Ls.dieValid_of_locks h).trans hs, fun hs => hs.of_locks h⟩

theorem Ls.Keeps.refl (s : Ls) : s.Keeps s := ⟨id, id⟩

theorem Ls.Keeps.trans {s t u : Ls} (h : s.Keeps t) (k : t.Keeps u) : s.Keeps u := ⟨k.valid ∘ h.valid, k.locked ∘ h.locked⟩

theorem Ls.Keeps.ite {s t u : Ls} {c : Prop} [Decidable c] (h : s.Keeps t) (k : s.Keeps u) : s.Keeps (if c then t else u) := by
  split
  · exact h
  · exact k

theorem Ls.debugCtrl_keeps (s : Ls) (v : Nat) : s.Keeps (s.debugCtrl v) where
  valid h := h
  locked _ h := by
    simp only [Ls.debugCtrl, Bool.and_eq_true] at h ⊢
    exact h.1

theorem Ls.dieWrite_keeps (s : Ls) (v : Nat) : s.Keeps (s.dieWrite v) where
  valid h := by simp [Ls.dieWrite, h]
  locked h := h

theorem Ls.debugExpiry_keeps (s : Ls) : s.Keeps s.debugExpiry := by
  unfold Ls.debugExpiry
  refine .ite ⟨fun h => h, fun _ h => ?_⟩ (.refl s)
  exact absurd h Bool.false_ne_true

theorem Ls.warmReset_keeps (s : Ls) : s.Keeps s.warmReset where
  valid h := (Ls.dieValid_of_locks (Ls.loseMain_locks s)).trans h
  locked _ h := absurd h Bool.false_ne_true

theorem Ls.coldReset_locked (s : Ls) : s.coldReset.Locked := fun h => absurd h Bool.false_ne_true

theorem Ls.writeReg_keeps (s : Ls) (via : Option Bool) (a v mask : Nat) : s.Keeps (s.writeReg via a v mask) := by
  unfold Ls.writeReg
  extract_lets base new cmd vc3 w1c l i
  repeat' with_reducible apply Ls.Keeps.ite
  any_goals exact Ls.dieWrite_keeps s new
  any_goals exact Ls.debugCtrl_keeps s new
  all_goals refine Ls.Keeps.of_locks ?_
  any_goals simp
  split
  all_goals simp [apply_ite Ls.locks]

/-- Doing one thing after another keeps what both keep. -/
theorem Ls.Keeps.foldl {β σ : Type} {f : Ls × σ → β → Ls × σ} (h : ∀ (x : Ls × σ) b, x.1.Keeps (f x b).1) (l : List β) (x : Ls × σ) : x.1.Keeps (l.foldl f x).1 := by
  induction l generalizing x with
  | nil => exact .refl _
  | cons b l ih => exact (h x b).trans (ih _)

theorem Ls.cfgApply_keeps (s : Ls) (l : Bool) (o : CfgOp) : s.Keeps (s.cfgApply l o).1 := by
  unfold Ls.cfgApply
  split
  · exact .of_locks (Ls.readEffect_locks s _)
  · exact (Ls.writeReg_keeps s _ _ _ _).trans (.of_locks (Ls.locks_congr rfl rfl rfl))

theorem Ls.cfgRunAt_keeps (s : Ls) (l : Bool) (b : Bytes) (ops : List CfgOp) (first : Nat) : s.Keeps (s.cfgRunAt l b ops first) := by
  unfold Ls.cfgRunAt
  dsimp only
  refine .trans (Ls.Keeps.foldl (fun x o => ?_) ops (s, [], first)) (.ite (.of_locks (Ls.setPort_locks _ _ _)) (.refl _))
  exact .trans (.of_locks (Ls.toLclk_locks x.1 x.2.2)) (Ls.cfgApply_keeps _ l o)

theorem Ls.cfgMessage_keeps (s : Ls) (l : Bool) (now : Bool) : s.Keeps (s.cfgMessage l now) := by
  unfold Ls.cfgMessage
  split
  · split
    · exact .of_locks (Ls.setPort_locks _ _ _)
    · have htaken : ∀ p : Port, s.Keeps ({ s.setPort l p with cfgWait := none }) := fun p => .of_locks ((Ls.locks_congr rfl rfl rfl).trans (Ls.setPort_locks s l p))
      split
      · exact (htaken _).trans (Ls.cfgRunAt_keeps _ _ _ _ _)
      · split
        · exact (htaken _).trans (Ls.cfgRunAt_keeps _ _ _ _ _)
        · exact .of_locks (Ls.locks_congr rfl rfl rfl)
  · exact .refl s

theorem Ls.cfgReceived_keeps (s : Ls) (l : Bool) : s.Keeps (s.cfgReceived l) := by
  unfold Ls.cfgReceived
  exact .ite (.refl s) (Ls.cfgMessage_keeps s l false)

theorem Ls.edgeAll_keeps (s : Ls) : s.Keeps s.edgeAll := by
  have hedge : s.Keeps s.sampleEdge := .of_locks (Ls.sampleEdge_locks s)
  unfold Ls.edgeAll Ls.cfgAtEdge
  split
  · exact hedge.trans (Ls.cfgMessage_keeps _ _ _)
  · exact hedge

theorem Ls.debugUpdate_keeps (s : Ls) (a op : Nat) (v : Word) : s.Keeps (s.debugUpdate a op v) := by
  unfold Ls.debugUpdate
  extract_lets met lclk t _
  have ht : s.Keeps t := .of_locks (Ls.toLclk_locks s _)
  clear_value t
  refine ht.trans ?_
  refine .ite (.of_locks (Ls.locks_congr rfl rfl rfl)) (.ite (.of_locks ?_) (.ite (.ite ?_ ?_) (.refl t)))
  · exact (Ls.readEffect_locks _ _).trans (Ls.locks_congr rfl rfl rfl)
  · exact (Ls.Keeps.of_locks (Ls.logDebug_locks _ _ _ _ _)).trans (Ls.writeReg_keeps _ _ _ _ _)
  · exact (Ls.writeReg_keeps _ _ _ _ _).trans (.of_locks (Ls.logDebug_locks _ _ _ _ _))

theorem Ls.access_keeps (s : Ls) (via : LsVia) (op a v mask : Nat) : s.Keeps (s.access via op a v mask) := by
  cases via with
  | vc3 l txn => exact .ite (Ls.cfgRunAt_keeps _ _ _ _ _) (.refl s)
  | debug => exact Ls.debugUpdate_keeps s a op _

theorem Ls.takeSignal_locks (s : Ls) (l : Bool) (code : Nat) {f : Ls → Nat → Ls} (h : ∀ t a, (f t a).locks = t.locks) : (s.takeSignal l code f).locks = s.locks := by
  unfold Ls.takeSignal
  split
  · rw [h, Ls.setPort_locks]
  · rfl

/-! ### Every command but the cold reset -/

/-- The outcome, where it is a next state, has a Lineside that keeps what the Lineside x holds. -/
def LsKeeps (x : Ls) (r : Res) : Prop := ∀ t, r = .next t → x.Keeps t.ls

theorem lsKeeps_next {x : Ls} {s : State} (h : x.Keeps s.ls) : LsKeeps x (.next s) := by
  rintro t ⟨⟩
  exact h

theorem lsKeeps_fault (x : Ls) (f : Fault) : LsKeeps x (.fault f) := fun _ h => Host.Outcome.noConfusion rfl rfl rfl (heq_of_eq h)

section
variable {s : State}

theorem onLs_keeps {r : Res} {f : Ls → Ls} (h : r = onLs f s) (hf : ∀ x, Ls.Keeps x (f x)) : LsKeeps s.ls r := h ▸ lsKeeps_next (hf s.ls)

theorem onMain_keeps {r : Res} {f : Ls → Ls} (h : r = onMain f s) (hf : ∀ x, Ls.Keeps x (f x)) : LsKeeps s.ls r :=
  h ▸ lsKeeps_next (.ite (hf s.ls) (.refl s.ls))

theorem onReg_keeps {r : Res} {via : LsVia} {op a : Nat} {v : Word} (h : r = onReg via op a v s) : LsKeeps s.ls r :=
  onMain_keeps h fun x => Ls.access_keeps x via op a _ _

theorem onEnd_keeps {r : Res} {e : End} {f : Bool → Ls → Ls} {g : Nat → Junction → Junction} (h : r = onEnd e f g s) (hf : ∀ l x, Ls.Keeps x (f l x)) :
    LsKeeps s.ls r := by
  cases e with
  | ls l => exact onMain_keeps h (hf l)
  | jn p => exact h ▸ lsKeeps_next (.refl _)

theorem onPart_keeps {r : Res} {p : Part} {f : Ls → Ls} {g : Junction → Junction} (h : r = onPart p f g s) (hf : ∀ x, Ls.Keeps x (f x)) : LsKeeps s.ls r := by
  cases p with
  | ls => exact onLs_keeps h hf
  | jn => exact h ▸ lsKeeps_next (.refl _)

theorem onPort_keeps {r : Res} {e : End} {f : Nat → Port → Port} (h : r = onPort e f s) : LsKeeps s.ls r :=
  onEnd_keeps h fun l x => .of_locks (Ls.linkMoved_locks x l _)

theorem mayTrain_keeps {r : Res} {e : End} {f : Port → Port} (h : r = mayTrain e f s) : LsKeeps s.ls r :=
  onEnd_keeps h fun l x => .ite (.of_locks (Ls.linkMoved_locks x l _)) (.refl x)

theorem writeMbox_keepsLs (tap : Bool) (m : Nat) (reg : MboxReg) (v : Nat) : LsKeeps s.ls (writeMbox tap m reg v s) := by
  cases reg with
  | ctrl =>
    unfold writeMbox
    dsimp only
    split
    · exact lsKeeps_fault _ _
    · exact lsKeeps_next (.refl _)
  | reqBase => exact lsKeeps_next (.refl _)
  | rplBase => exact lsKeeps_next (.refl _)

theorem writeRegister_keepsLs (via : RegVia) (addr size : Nat) (value mask : Word) : LsKeeps s.ls (writeRegister via addr size value mask s) := by
  cases via with
  | ls w => exact onMain_keeps rfl fun x => Ls.access_keeps x w _ addr _ _
  | bar tap =>
    unfold writeRegister
    dsimp only
    split
    · exact lsKeeps_fault _ _
    · exact lsKeeps_next (.refl _)

theorem exec_keepsLs (c : Instr) (hc : c ≠ .lsColdReset) : LsKeeps s.ls (exec c s) := by
  cases c with
  | coldReset | porstNAssert | supplyLoss | refclkLoss | refclkRestored | perstAssert | watchdogExpiry | flushWaitExpiry | powerFail
  | powerFailFlushComplete | powerFailClear | roleConfirm | twinJudgingStart | twinLost | dutyTakeover | dutyTransfer | dutyTransferEffect | sampleEdge
  | dFrameDeadline | dTrayDeadline | reductionDeadline | dBcastDeadline | dScoreEndDeadline | dPublishDeadline | streamArrivalDeadline
  | timetableQuarantine | quarantineEnd | subtreeAdvertisement | delayEchoReceived | twinTimeMessageReceived | ptpMessageReceived | ppsInEdge
  | synceQualified | synceDisqualified | tsInEdge | trigOutEdge | ppsOutEdge | frameReceived | presenceWordReceived | partialReceived
  | mergeBatchComplete | twinDigestReceived | statsFlitReceived | statsStreamReceived | detectorBatchReady | featureDeadline | waybillLookupComplete
  | treeWalkComplete | sidingPageFetchComplete | residualPassComplete | forecasterUpdateStart | sequenceInstruction | groupCommit | runtimeSelfCheck
  | relayOnlyEntry | staticWearMove | historyFarCopy | logbookMessageReceived | logRecordCommit | alarmRecordReceived | bulkMessageReceived
  | exportMessageClose | exportQueueService | exportFrameComplete | mirrorAckReceived | bundleChunkReceived | bundleVerifyComplete
  | bundleIncompleteTimeout | bundleActivation | contextConfigEffect | contextDrainComplete | waybillWriteEffect | refTableActivate | testResultCollect
  | dieConfigEffect | dieReadmitEffect | twinStateExchange | membershipEffect | junctionAbortInstant | ballastJobStart | ballastJobComplete
  | mailboxRequestTake | mailboxDatagramReceived | mailboxSegmentTimeout | relayedRequestReceived | relayedReplyReceived | relayTimeout | sessionExpiry
  | fwVerifyComplete | fwActivation | fwResume | fwRevert | modeSetEffect | sessionOpen | sessionClose | heartbeat | noticeRead | alarmRead
  | counterRead | reset | portMap | ttLoad | ttArm | ttCancel | ttStatus | planLoad | bankSwitch | bankPreviousRelease | linkControl | contextConfig
  | contextStatus | bundleTransfer | bundleStatus | waybillWrite | refTableLoad | historyRead | logConfig | logRead | logRelease | testPackRead
  | testResult | dieConfig | dieReadmit | membershipLoad | groupRearm | membershipStatus | traceSignal | timeConfig | timestampRead | timingIoConfig
  | fleetStop | lsRead | lsWrite | exportConfig | bufferWrite | bufferRead | ballast | crcEngine | crcData | crcValueRead | crcValueWrite | fwLoad
  | fwStatus | fwActivate | deviceId | ownerProvision | keyInstall | keyRemove | keyList | macsecSa | modeSet | fuseLock | rollbackAdvance
  | secEventRead | dbgResponse | dbgChallenge | mailboxReqTailWrite | mailboxRplHeadWrite | jnRegLowHalfRead | jnErrCaptureClear
  | linesideConfigReplyReceived | ethernetLinkStateChange | ethernetControlFrameReceived | ptpDelayReqDue | nearTierStackError =>
    exact lsKeeps_next (.refl _)
  | flitSlotTransmit e => exact onEnd_keeps (exec_flitSlotTransmit e s) fun l x => .of_locks (Ls.txSlot_locks x l)
  | blockDecoded e idx n rx => exact onPort_keeps (exec_blockDecoded e idx n rx s)
  | flitReceived e slot grid raw => exact onEnd_keeps (exec_flitReceived e slot grid raw s) fun l x => .of_locks (Ls.rxFlit_locks x l slot grid raw)
  | replayTimeout e => exact onPort_keeps (exec_replayTimeout e s)
  | retireTimeout e => exact onPort_keeps (exec_retireTimeout e s)
  | linkTrainStart e => exact mayTrain_keeps (exec_linkTrainStart e s)
  | trainingFrameReceived e samePhase header =>
    exact onEnd_keeps (exec_trainingFrameReceived e samePhase header s) fun l x => .of_locks (Ls.trainFrame_locks x l samePhase header.toNat)
  | trainTimeout e => exact onPort_keeps (exec_trainTimeout e s)
  | trainRetry e => exact mayTrain_keeps (exec_trainRetry e s)
  | identReceived e raw => exact onEnd_keeps (exec_identReceived e raw s) fun l x => .of_locks (Ls.identFlit_locks x l raw)
  | linkActiveEntry e => exact onEnd_keeps (exec_linkActiveEntry e s) fun l x => .of_locks (Ls.linkActive_locks x l)
  | signalAbortReceived e =>
    exact onEnd_keeps (exec_signalAbortReceived e s) fun l x => .of_locks (Ls.takeSignal_locks x l _ fun y a => Ls.abortReceived_locks y _ _)
  | signalFenceReceived link =>
    exact onMain_keeps (exec_signalFenceReceived link s) fun x => .of_locks (Ls.takeSignal_locks x link _ fun y a => Ls.fenceSignal_locks y a)
  | signalStopReceived e =>
    exact onEnd_keeps (exec_signalStopReceived e s) fun l x => .of_locks (Ls.takeSignal_locks x l _ fun y _ => Ls.raiseStop_locks y _ _ _)
  | signalFlushReceived link =>
    exact onMain_keeps (exec_signalFlushReceived link s) fun x => .of_locks (Ls.takeSignal_locks x link _ fun y _ => Ls.flush_locks y)
  | signalAlarmReceived e => exact onEnd_keeps (exec_signalAlarmReceived e s) fun l x => .of_locks (Ls.takeSignal_locks x l _ fun _ _ => rfl)
  | signalTraceReceived link =>
    exact onMain_keeps (exec_signalTraceReceived link s) fun x => .of_locks (Ls.takeSignal_locks x link _ fun y _ => Ls.traceTrigger_locks y)
  | tickMarkReceived e => exact onEnd_keeps (exec_tickMarkReceived e s) fun l x => .of_locks (Ls.tickMark_locks x l)
  | delayEchoDue e => exact onEnd_keeps (exec_delayEchoDue e s) fun l x => .of_locks (Ls.echoDue_locks x l)
  | sourceLoss part => exact onPart_keeps (exec_sourceLoss part s) fun x => .of_locks (Ls.sourceLoss_locks x)
  | sourceRevert part => exact onPart_keeps (exec_sourceRevert part s) fun x => .of_locks (Ls.sourceRevert_locks x)
  | holdoverLimitExceeded part => exact onPart_keeps (exec_holdoverLimitExceeded part s) fun x => .of_locks (Ls.holdoverLimit_locks x)
  | scrubAccess part memory addr fate owner =>
    exact onPart_keeps (exec_scrubAccess part memory addr fate owner s) fun x => .of_locks (Ls.scrub_locks x memory addr fate)
  | linesideAbortInstant slot => exact onMain_keeps (exec_linesideAbortInstant slot s) fun x => .of_locks (Ls.abortInstant_locks x slot)
  | mailboxCtrlWrite tap m reg v => exact writeMbox_keepsLs tap m reg v
  | registerWrite via addr size value mask => exact writeRegister_keepsLs via addr size value mask
  | configMessageReceived link => exact onMain_keeps (exec_configMessageReceived link s) fun x => Ls.cfgReceived_keeps x link
  | crcEnableApply part i => exact onPart_keeps (exec_crcEnableApply part i s) fun x => .of_locks (Ls.crcEnableApply_locks x i)
  | debugSegmentUpdate addr op value => exact onMain_keeps (exec_debugSegmentUpdate addr op value s) fun x => Ls.debugUpdate_keeps x addr op value
  | debugUnlockExpiry => exact onLs_keeps (exec_debugUnlockExpiry s) fun x => Ls.debugExpiry_keeps x
  | lsColdReset => exact absurd rfl hc
  | lsWarmReset => exact onLs_keeps (exec_lsWarmReset s) fun x => Ls.warmReset_keeps x
  | lsRefclkLoss => exact onLs_keeps (exec_lsRefclkLoss s) fun x => .of_locks (Ls.refclkLoss_locks x)
  | mainIslandServiceEntry r => exact onLs_keeps (exec_mainIslandServiceEntry r s) fun x => .of_locks (Ls.serviceEntry_locks x r)
  | lsSelftestComplete r => exact onMain_keeps (exec_lsSelftestComplete r s) fun x => .of_locks (Ls.selfComplete_locks x r)
  | lsSelftestStart via => exact onReg_keeps (exec_lsSelftestStart via s)
  | pwrOffReq => exact onMain_keeps (exec_pwrOffReq s) fun x => .of_locks (Ls.pwrOffReq_locks x)
  | pwrOffAck => exact onMain_keeps (exec_pwrOffAck s) fun x => .of_locks (Ls.pwrOffAnswer_locks x)
  | mainPowerOff => exact onLs_keeps (exec_mainPowerOff s) fun x => .of_locks (Ls.powerOff_locks x)
  | aonCmpCrossing => exact onLs_keeps (exec_aonCmpCrossing s) fun x => .of_locks (Ls.aonCrossing_locks x)
  | lsSampleEdge => exact onLs_keeps (exec_lsSampleEdge s) fun x => Ls.edgeAll_keeps x
  | lagAnchorEffect => exact onMain_keeps (exec_lagAnchorEffect s) fun x => .of_locks (Ls.lagEffect_locks x)
  | frameMapSwitch => exact onMain_keeps (exec_frameMapSwitch s) fun x => .of_locks (Ls.frameMapSwitch_locks x)
  | counterIncrement x => exact onLs_keeps (exec_counterIncrement x s) fun y => .of_locks (Ls.lclkCycle_locks y x)
  | selectSend => exact onMain_keeps (exec_selectSend s) fun x => .of_locks (Ls.selSend_locks x)
  | sensorBeat w => exact onLs_keeps (exec_sensorBeat w s) fun x => .of_locks (Ls.sensorBeat_locks x w)
  | regionStretchPulse region => exact onLs_keeps (exec_regionStretchPulse region s) fun x => .of_locks (Ls.stretchPulse_locks x region)
  | bundleIssue addr => exact onLs_keeps (exec_bundleIssue addr s) fun x => .of_locks (Ls.bundleIssue_locks x addr)
  | traceSamplePoint => exact onMain_keeps (exec_traceSamplePoint s) fun x => .of_locks (Ls.traceSample_locks x)
  | tracePostComplete => exact onMain_keeps (exec_tracePostComplete s) fun x => .of_locks (Ls.tracePostComplete_locks x)
  | traceReadoutComplete => exact onMain_keeps (exec_traceReadoutComplete s) fun x => .of_locks (Ls.traceReadoutDone_locks x)
  | qsnapAck data => exact onMain_keeps (exec_qsnapAck data s) fun x => .of_locks (Ls.qsnapRead_locks x (some data))
  | qsnapReadTimeout => exact onMain_keeps (exec_qsnapReadTimeout s) fun x => .of_locks (Ls.qsnapRead_locks x none)
  | qsnapComplete => exact onMain_keeps (exec_qsnapComplete s) fun x => .of_locks (Ls.qsnapDone_locks x)
  | qsnapReadoutComplete => exact onMain_keeps (exec_qsnapReadoutComplete s) fun x => .of_locks (Ls.qsnapReadoutDone_locks x)
  | stopSnapshotDelay => exact onMain_keeps (exec_stopSnapshotDelay s) fun x => .of_locks (Ls.stopSnapshot_locks x)
  | drainDoneRise => exact onLs_keeps (exec_drainDoneRise s) fun x => .of_locks (Ls.drainDoneRise_locks x)
  | drainTimeout => exact onMain_keeps (exec_drainTimeout s) fun x => .of_locks (Ls.drainTimeout_locks x)
  | drainDoneFall => exact onLs_keeps (exec_drainDoneFall s) fun x => .of_locks (Ls.drainDoneFall_locks x)
  | hostResetRise => exact onLs_keeps (exec_hostResetRise s) fun x => .of_locks (Ls.hostReset_locks x)
  | armedStopInstant => exact onLs_keeps (exec_armedStopInstant s) fun x => .of_locks (Ls.armedStop_locks x)
  | armedReleaseInstant => exact onLs_keeps (exec_armedReleaseInstant s) fun x => .of_locks (Ls.armedRelease_locks x)
  | scanShiftComplete chains =>
    exact onMain_keeps (exec_scanShiftComplete chains s) fun x => .of_locks ((Ls.scanComplete_locks _).trans (Ls.holdChains_locks x chains))
  | scanResume => exact onMain_keeps (exec_scanResume s) fun x => .of_locks (Ls.scanResume_locks x)
  | tapPacketStart tap flags tag value =>
    exact onMain_keeps (exec_tapPacketStart tap flags tag value s) fun x => .of_locks (Ls.tapBeat_locks x tap (sideband flags tag value))
  | egressPacketEnd flags tag value data =>
    exact onMain_keeps (exec_egressPacketEnd flags tag value data s) fun x => .of_locks (Ls.egressBeat_locks x (sideband flags tag value) data)
  | ingressPacketEnd flags tag value data =>
    exact onMain_keeps (exec_ingressPacketEnd flags tag value data s) fun x => .of_locks (Ls.ingressBeat_locks x (sideband flags tag value) data)
  | witnessExpiry => exact onMain_keeps (exec_witnessExpiry s) fun x => .of_locks (Ls.witnessExpire_locks x)
  | witnessSuspendEnd => exact onMain_keeps (exec_witnessSuspendEnd s) fun x => .of_locks (Ls.suspendEnd_locks x)
  | tabEnableApply g => exact onMain_keeps (exec_tabEnableApply g s) fun x => .of_locks (Ls.tabEnableApply_locks x g)
  | testWindowEnd => exact onMain_keeps (exec_testWindowEnd s) fun x => .of_locks (Ls.testWindowEnd_locks x)
  | poisonAccept w => exact onMain_keeps (exec_poisonAccept w s) fun x => .of_locks (Ls.poisonAccept_locks x w)
  | lsLinkEnable via link => exact onReg_keeps (exec_lsLinkEnable via link s)
  | lsLinkRetrain via link => exact onReg_keeps (exec_lsLinkRetrain via link s)
  | lsLinkHoldDown via link => exact onReg_keeps (exec_lsLinkHoldDown via link s)
  | lsTtValidate via => exact onReg_keeps (exec_lsTtValidate via s)
  | lsTtArm via => exact onReg_keeps (exec_lsTtArm via s)
  | lsTtCancel via => exact onReg_keeps (exec_lsTtCancel via s)
  | lsFrameValidate via => exact onReg_keeps (exec_lsFrameValidate via s)
  | lsFrameArmSwitch via => exact onReg_keeps (exec_lsFrameArmSwitch via s)
  | lsFrameCancelSwitch via => exact onReg_keeps (exec_lsFrameCancelSwitch via s)
  | lsTraceArm via => exact onReg_keeps (exec_lsTraceArm via s)
  | lsTraceDisarm via => exact onReg_keeps (exec_lsTraceDisarm via s)
  | lsTraceTrigger via => exact onReg_keeps (exec_lsTraceTrigger via s)
  | lsTraceReadout via => exact onReg_keeps (exec_lsTraceReadout via s)
  | lsTraceCapturedRead via => exact onReg_keeps (exec_lsTraceCapturedRead via s)
  | lsQsnapTake via => exact onReg_keeps (exec_lsQsnapTake via s)
  | lsQsnapReadout via => exact onReg_keeps (exec_lsQsnapReadout via s)
  | lsQsnapStatusRead via => exact onReg_keeps (exec_lsQsnapStatusRead via s)
  | lsScanStart via => exact onReg_keeps (exec_lsScanStart via s)
  | lsScanRestore via => exact onReg_keeps (exec_lsScanRestore via s)
  | lsHaltDrain via => exact onReg_keeps (exec_lsHaltDrain via s)
  | lsHaltReleaseDrain via => exact onReg_keeps (exec_lsHaltReleaseDrain via s)
  | lsHaltStopNow via => exact onReg_keeps (exec_lsHaltStopNow via s)
  | lsHaltArmStop via => exact onReg_keeps (exec_lsHaltArmStop via s)
  | lsHaltDisarmStop via => exact onReg_keeps (exec_lsHaltDisarmStop via s)
  | lsHaltReleaseStop via => exact onReg_keeps (exec_lsHaltReleaseStop via s)
  | lsHaltArmRelease via => exact onReg_keeps (exec_lsHaltArmRelease via s)
  | lsHaltDisarmRelease via => exact onReg_keeps (exec_lsHaltDisarmRelease via s)
  | lsLogMark via => exact onReg_keeps (exec_lsLogMark via s)
  | lsLagArm via => exact onReg_keeps (exec_lsLagArm via s)
  | lsCtrSelWrite via k v => exact onReg_keeps (exec_lsCtrSelWrite via k v s)
  | lsCtrValueWrite via k v => exact onReg_keeps (exec_lsCtrValueWrite via k v s)
  | lsLogCommitSeqWrite via v => exact onReg_keeps (exec_lsLogCommitSeqWrite via v s)
  | lsFenceEpochWrite via v => exact onReg_keeps (exec_lsFenceEpochWrite via v s)
  | lsFenceStatusRead via => exact onReg_keeps (exec_lsFenceStatusRead via s)
  | lsTabGroupWrite via g v => exact onReg_keeps (exec_lsTabGroupWrite via g v s)
  | lsDebugCtrlWrite via v => exact onReg_keeps (exec_lsDebugCtrlWrite via v s)
  | lsCrcCfgWrite via i r v => exact onReg_keeps (exec_lsCrcCfgWrite via i r v s)
  | lsCrcFeedWrite via i v => exact onReg_keeps (exec_lsCrcFeedWrite via i v s)
  | lsCrcValueWrite via i v => exact onReg_keeps (exec_lsCrcValueWrite via i v s)
  | lsCrcStatusRead via i => exact onReg_keeps (exec_lsCrcStatusRead via i s)
  | lsTimeLoRead via => exact onReg_keeps (exec_lsTimeLoRead via s)
  | markerMissing e => exact onPort_keeps (exec_markerMissing e s)
  | leapAtReached part => exact onPart_keeps (exec_leapAtReached part s) fun x => .of_locks (Ls.setClock_locks x _)

theorem exec_locked (c : Instr) (hs : s.ls.Locked) {t : State} (ht : exec c s = .next t) : t.ls.Locked := by
  by_cases hc : c = .lsColdReset
  · subst hc
    rw [exec_lsColdReset] at ht
    cases ht
    exact Ls.coldReset_locked _
  · exact (exec_keepsLs c hc t ht).locked hs

theorem State.idle_locks (s : State) : s.idle.ls.locks = s.ls.locks := Ls.idle_locks s.ls

end

/-- Settles O53: the debug segment's writes set WRITE_EN with UNLOCK alone, everything else keeps both or clears both, and the identity's writes set VALID. -/
theorem debugAndIdentityOfTheLineside : Obligations.DebugAndIdentityOfTheLineside := by
  unfold Obligations.DebugAndIdentityOfTheLineside
  refine ⟨fun s t hs ht => ?_, fun s t hs ht hc => ?_⟩
  · change t.ls.Locked
    cases hp : s.pending with
    | nil =>
      rw [step_idle hp] at ht
      cases ht
      exact Ls.Locked.of_locks hs (State.idle_locks s)
    | cons c rest =>
      rw [step, hp] at ht
      exact exec_locked (s := { s with pending := rest }) c hs ht
  · cases hp : s.pending with
    | nil =>
      rw [step_idle hp] at ht
      cases ht
      exact (Ls.dieValid_of_locks (State.idle_locks s)).trans hs
    | cons c rest =>
      rw [step, hp] at ht
      rw [hp] at hc
      exact (exec_keepsLs (s := { s with pending := rest }) c (fun h => hc (h ▸ rfl)) t ht).valid hs

end Sys2Proof.Machine

/-! # The one value a command stops at (R442, R443) -/

namespace Sys2Proof.Machine

theorem onEnd_isNext {r : Res} {s : State} {e : End} {f : Bool → Ls → Ls} {g : Nat → Junction → Junction} (h : r = onEnd e f g s) : ∃ t, r = .next t := by
  cases e with
  | ls l => exact ⟨_, h⟩
  | jn p => exact ⟨_, h⟩

theorem onPart_isNext {r : Res} {s : State} {p : Part} {f : Ls → Ls} {g : Junction → Junction} (h : r = onPart p f g s) : ∃ t, r = .next t := by
  cases p with
  | ls => exact ⟨_, h⟩
  | jn => exact ⟨_, h⟩

/-- Settles O50: the reserved SLOTS_LOG2 is looked at in two commands alone, and every other answers with the state it makes. -/
theorem onlyTheReservedSlotCountStops : Obligations.OnlyTheReservedSlotCountStops := by
  unfold Obligations.OnlyTheReservedSlotCountStops
  intro c s
  cases c with
  | mailboxCtrlWrite tap m reg v =>
    cases reg with
    | ctrl => exact ⟨fun h => if_pos h, fun h => ⟨_, if_neg h⟩⟩
    | reqBase => exact ⟨False.elim, fun _ => ⟨_, rfl⟩⟩
    | rplBase => exact ⟨False.elim, fun _ => ⟨_, rfl⟩⟩
  | registerWrite via addr size value mask =>
    cases via with
    | ls w => exact ⟨False.elim, fun _ => ⟨_, rfl⟩⟩
    | bar tap => exact ⟨fun h => if_pos h, fun h => ⟨_, if_neg h⟩⟩
  | coldReset | porstNAssert | supplyLoss | refclkLoss | refclkRestored | perstAssert | watchdogExpiry | flushWaitExpiry | powerFail
  | powerFailFlushComplete | powerFailClear | roleConfirm | twinJudgingStart | twinLost | dutyTakeover | dutyTransfer | dutyTransferEffect | sampleEdge
  | dFrameDeadline | dTrayDeadline | reductionDeadline | dBcastDeadline | dScoreEndDeadline | dPublishDeadline | streamArrivalDeadline
  | timetableQuarantine | quarantineEnd | subtreeAdvertisement | signalFenceReceived | signalFlushReceived | signalTraceReceived | delayEchoReceived
  | twinTimeMessageReceived | ptpMessageReceived | ppsInEdge | synceQualified | synceDisqualified | tsInEdge | trigOutEdge | ppsOutEdge | frameReceived
  | presenceWordReceived | partialReceived | mergeBatchComplete | twinDigestReceived | statsFlitReceived | statsStreamReceived | detectorBatchReady
  | featureDeadline | waybillLookupComplete | treeWalkComplete | sidingPageFetchComplete | residualPassComplete | forecasterUpdateStart
  | sequenceInstruction | groupCommit | runtimeSelfCheck | relayOnlyEntry | staticWearMove | historyFarCopy | logbookMessageReceived | logRecordCommit
  | alarmRecordReceived | bulkMessageReceived | exportMessageClose | exportQueueService | exportFrameComplete | mirrorAckReceived | bundleChunkReceived
  | bundleVerifyComplete | bundleIncompleteTimeout | bundleActivation | contextConfigEffect | contextDrainComplete | waybillWriteEffect
  | refTableActivate | testResultCollect | dieConfigEffect | dieReadmitEffect | twinStateExchange | membershipEffect | junctionAbortInstant
  | linesideAbortInstant | ballastJobStart | ballastJobComplete | mailboxRequestTake | mailboxDatagramReceived | mailboxSegmentTimeout
  | relayedRequestReceived | relayedReplyReceived | relayTimeout | sessionExpiry | fwVerifyComplete | fwActivation | fwResume | fwRevert | modeSetEffect
  | sessionOpen | sessionClose | heartbeat | noticeRead | alarmRead | counterRead | reset | portMap | ttLoad | ttArm | ttCancel | ttStatus | planLoad
  | bankSwitch | bankPreviousRelease | linkControl | contextConfig | contextStatus | bundleTransfer | bundleStatus | waybillWrite | refTableLoad
  | historyRead | logConfig | logRead | logRelease | testPackRead | testResult | dieConfig | dieReadmit | membershipLoad | groupRearm | membershipStatus
  | traceSignal | timeConfig | timestampRead | timingIoConfig | fleetStop | lsRead | lsWrite | exportConfig | bufferWrite | bufferRead | ballast
  | crcEngine | crcData | crcValueRead | crcValueWrite | fwLoad | fwStatus | fwActivate | deviceId | ownerProvision | keyInstall | keyRemove | keyList
  | macsecSa | modeSet | fuseLock | rollbackAdvance | secEventRead | dbgResponse | dbgChallenge | mailboxReqTailWrite | mailboxRplHeadWrite
  | jnRegLowHalfRead | jnErrCaptureClear | configMessageReceived | debugSegmentUpdate | debugUnlockExpiry | lsColdReset | lsWarmReset | lsRefclkLoss
  | mainIslandServiceEntry | lsSelftestComplete | lsSelftestStart | pwrOffReq | pwrOffAck | mainPowerOff | aonCmpCrossing | lsSampleEdge
  | lagAnchorEffect | frameMapSwitch | counterIncrement | selectSend | sensorBeat | regionStretchPulse | bundleIssue | traceSamplePoint
  | tracePostComplete | traceReadoutComplete | qsnapAck | qsnapReadTimeout | qsnapComplete | qsnapReadoutComplete | stopSnapshotDelay | drainDoneRise
  | drainTimeout | drainDoneFall | hostResetRise | armedStopInstant | armedReleaseInstant | scanShiftComplete | scanResume | tapPacketStart
  | egressPacketEnd | ingressPacketEnd | witnessExpiry | witnessSuspendEnd | tabEnableApply | testWindowEnd | poisonAccept | lsLinkEnable
  | lsLinkRetrain | lsLinkHoldDown | lsTtValidate | lsTtArm | lsTtCancel | lsFrameValidate | lsFrameArmSwitch | lsFrameCancelSwitch | lsTraceArm
  | lsTraceDisarm | lsTraceTrigger | lsTraceReadout | lsTraceCapturedRead | lsQsnapTake | lsQsnapReadout | lsQsnapStatusRead | lsScanStart
  | lsScanRestore | lsHaltDrain | lsHaltReleaseDrain | lsHaltStopNow | lsHaltArmStop | lsHaltDisarmStop | lsHaltReleaseStop | lsHaltArmRelease
  | lsHaltDisarmRelease | lsLogMark | lsLagArm | lsCtrSelWrite | lsCtrValueWrite | lsLogCommitSeqWrite | lsFenceEpochWrite | lsFenceStatusRead
  | lsTabGroupWrite | lsDebugCtrlWrite | lsCrcCfgWrite | lsCrcFeedWrite | lsCrcValueWrite | lsCrcStatusRead | lsTimeLoRead | linesideConfigReplyReceived
  | ethernetLinkStateChange | ethernetControlFrameReceived | ptpDelayReqDue | nearTierStackError =>
    exact ⟨False.elim, fun _ => ⟨_, rfl⟩⟩
  | flitSlotTransmit e => exact ⟨False.elim, fun _ => onEnd_isNext (exec_flitSlotTransmit e s)⟩
  | blockDecoded e idx n rx => exact ⟨False.elim, fun _ => onEnd_isNext (exec_blockDecoded e idx n rx s)⟩
  | flitReceived e slot grid raw => exact ⟨False.elim, fun _ => onEnd_isNext (exec_flitReceived e slot grid raw s)⟩
  | replayTimeout e => exact ⟨False.elim, fun _ => onEnd_isNext (exec_replayTimeout e s)⟩
  | retireTimeout e => exact ⟨False.elim, fun _ => onEnd_isNext (exec_retireTimeout e s)⟩
  | linkTrainStart e => exact ⟨False.elim, fun _ => onEnd_isNext (exec_linkTrainStart e s)⟩
  | trainingFrameReceived e samePhase header => exact ⟨False.elim, fun _ => onEnd_isNext (exec_trainingFrameReceived e samePhase header s)⟩
  | trainTimeout e => exact ⟨False.elim, fun _ => onEnd_isNext (exec_trainTimeout e s)⟩
  | trainRetry e => exact ⟨False.elim, fun _ => onEnd_isNext (exec_trainRetry e s)⟩
  | identReceived e raw => exact ⟨False.elim, fun _ => onEnd_isNext (exec_identReceived e raw s)⟩
  | linkActiveEntry e => exact ⟨False.elim, fun _ => onEnd_isNext (exec_linkActiveEntry e s)⟩
  | signalAbortReceived e => exact ⟨False.elim, fun _ => onEnd_isNext (exec_signalAbortReceived e s)⟩
  | signalStopReceived e => exact ⟨False.elim, fun _ => onEnd_isNext (exec_signalStopReceived e s)⟩
  | signalAlarmReceived e => exact ⟨False.elim, fun _ => onEnd_isNext (exec_signalAlarmReceived e s)⟩
  | tickMarkReceived e => exact ⟨False.elim, fun _ => onEnd_isNext (exec_tickMarkReceived e s)⟩
  | delayEchoDue e => exact ⟨False.elim, fun _ => onEnd_isNext (exec_delayEchoDue e s)⟩
  | markerMissing e => exact ⟨False.elim, fun _ => onEnd_isNext (exec_markerMissing e s)⟩
  | sourceLoss part => exact ⟨False.elim, fun _ => onPart_isNext (exec_sourceLoss part s)⟩
  | sourceRevert part => exact ⟨False.elim, fun _ => onPart_isNext (exec_sourceRevert part s)⟩
  | holdoverLimitExceeded part => exact ⟨False.elim, fun _ => onPart_isNext (exec_holdoverLimitExceeded part s)⟩
  | scrubAccess part memory addr fate owner => exact ⟨False.elim, fun _ => onPart_isNext (exec_scrubAccess part memory addr fate owner s)⟩
  | crcEnableApply part i => exact ⟨False.elim, fun _ => onPart_isNext (exec_crcEnableApply part i s)⟩
  | leapAtReached part => exact ⟨False.elim, fun _ => onPart_isNext (exec_leapAtReached part s)⟩

end Sys2Proof.Machine

/-! # The SHARD_ENTITY word (R372) -/

namespace Sys2Proof.Machine

/-- The SHARD_ENTITY word (R372): reference, status, direction and PRESENT. -/
def shardWord (tap : Nat) (ref : BitVec 28) (status : Nat) : Nat := ref.toNat + put 28 status + put 30 tap + put 31 1

theorem shardWord_eq (tap : Nat) (ref : BitVec 28) (status : Nat) : shardWord tap ref status = ref.toNat + 2 ^ 28 * status + 2 ^ 30 * tap + 2 ^ 31 := by
  simp only [shardWord, put, Nat.shiftLeft_eq, Nat.mul_comm (2 ^ _), Nat.one_mul]

/-- With room in the queue a completed digest joins it under its word, whatever it counts. -/
theorem Ls.queueShard_queue (s : Ls) (tap : Nat) (ref : BitVec 28) (status digest : Nat) (hroom : s.tab.queue.length < 64) :
    (s.queueShard tap ref status digest).tab.queue = s.tab.queue ++ [(shardWord tap ref status, w64 digest)] := by
  rw [Ls.queueShard, if_neg (Nat.not_le.mpr hroom)]
  rfl

/-- The fields of the word stand apart: none is wider than its place. -/
theorem shardWord_fields {tap : Nat} (ref : BitVec 28) {status : Nat} (htap : tap ≤ 1) (hstatus : status ≤ 2) :
    shardWord tap ref status % 2 ^ 28 = ref.toNat ∧ shardWord tap ref status / 2 ^ 28 % 4 = status ∧ shardWord tap ref status / 2 ^ 30 % 2 = tap
      ∧ shardWord tap ref status / 2 ^ 31 = 1 ∧ shardWord tap ref status ≠ 0 := by
  have href : ref.toNat < 2 ^ 28 := ref.isLt
  rw [shardWord_eq]
  omega

/-- The SHARD_ENTITY field holds the word of its slot, and 0 where the slot is not in use (R372). -/
theorem Ls.fieldValue_shardEntity (t : Ls) (c : LsCap) {e : MapEntry} (he : e.kind = 7) :
    t.fieldValue c e = match c.shards[e.index]? with | some x => x.1 | none => 0 := by
  simp only [Ls.fieldValue, he] <;> rfl

/-- Settles O59: the word of the queue and the four fields it is made of. -/
theorem shardWords : Obligations.ShardWords := by
  unfold Obligations.ShardWords
  intro s tap ref status digest htap hstatus hroom
  obtain ⟨href, hst, hdir, hpresent, hne⟩ := shardWord_fields ref htap hstatus
  refine ⟨shardWord tap ref status, Ls.queueShard_queue s tap ref status digest hroom, href, hst, hdir, hpresent, hne, fun t e c he => ⟨fun d h => ?_, fun h => ?_⟩⟩
  · rw [Ls.fieldValue_shardEntity t c he, h]
  · rw [Ls.fieldValue_shardEntity t c he, h]

end Sys2Proof.Machine

/-! # Notices, alarms and counters by command -/

namespace Sys2Proof.Machine

/-! ### Reads of notices, alarms and counters (R454, R457, R462) -/

theorem noticeRead_mailBlind : Cmd.noticeRead.MailBlind := by
  intro j l m q
  have hnotices : (j.withMail l).notices = j.notices := rfl
  simp only [Cmd.noticeRead, hnotices]
  split <;> rfl

theorem alarmRead_mailBlind : Cmd.alarmRead.MailBlind := by
  intro j l m q
  have halarms : (j.withMail l).alarms = j.alarms := rfl
  simp only [Cmd.alarmRead, halarms]
  split <;> rfl

theorem counterRead_mailBlind : Cmd.counterRead.MailBlind := by
  intro j l m q
  have hcounters : (j.withMail l).counters = j.counters := rfl
  have hsees : (j.withMail l).sees = j.sees := rfl
  simp only [Cmd.counterRead, hcounters, hsees]
  split
  · split <;> rfl
  · rfl

section
variable {j : Junction} {m : Nat} {q : Request} {n : Nat}

theorem noticeRead_oldest (hn : rd q.body 0 2 = n) (hmin : 1 ≤ n) (hmax : n ≤ 64) :
    Cmd.noticeRead.run j m q = ({ j with notices := j.notices.drop n }, .done (rc 0)
      (le 2 (j.notices.take n).length ++ zeros 6 ++ ((j.notices.take n).map (fun x : Nat × Word => le 2 x.1 ++ zeros 6 ++ le 8 x.2.toNat)).flatten)) := by
  subst hn
  exact if_neg (by simp; omega)

theorem noticeRead_badMaximum (hn : rd q.body 0 2 = n) (hbad : n = 0 ∨ 64 < n) : Cmd.noticeRead.run j m q = (j, .done (badArg 0) []) := by
  subst hn
  exact if_pos (by simpa using hbad)

theorem alarmRead_oldest (hn : rd q.body 0 2 = n) (hmin : 1 ≤ n) (hmax : n ≤ 255) :
    Cmd.alarmRead.run j m q =
      ({ j with alarms := Tbl.put [] j.alarms q.ctx ((Tbl.get [] j.alarms q.ctx).drop n)
                cnt := if q.ctx = 0 ∧ (Tbl.get [] j.alarms q.ctx).drop n = [] then Tbl.put 0 j.cnt 10 0 else j.cnt }, .done (rc 0)
        (le 2 ((Tbl.get [] j.alarms q.ctx).take n).length ++ zeros 2 ++ le 4 (sat 32 (Tbl.get 0 j.alarmDrop q.ctx)) ++ ((Tbl.get [] j.alarms q.ctx).take n).flatten)) := by
  subst hn
  refine (if_neg (by simp; omega)).trans ?_
  simp only [List.length_eq_zero_iff, Bool.and_eq_true, decide_eq_true_eq]

theorem alarmRead_badMaximum (hn : rd q.body 0 2 = n) (hbad : n = 0 ∨ 255 < n) : Cmd.alarmRead.run j m q = (j, .done (badArg 0) []) := by
  subst hn
  exact if_pos (by simpa using hbad)

theorem counterRead_seen {owner : Nat} {l : List Nat} (hl : j.counters (rd q.body 0 1) (rd q.body 2 2) = some (owner, l)) (hsees : j.sees q.ctx owner = true) :
    Cmd.counterRead.run j m q = (j, .done (rc 0) (le 4 l.length ++ zeros 4 ++ (l.map (fun v => le 8 v)).flatten)) := by
  simp [Cmd.counterRead, hl, hsees]

end

/-- Settles O2: none of the three reads looks at the mailboxes, so each completes a served request as it runs on the Junction itself. -/
theorem attentionReads : Obligations.AttentionReads := by
  unfold Obligations.AttentionReads
  refine ⟨?notices, ?alarms, ?counters⟩
  case notices =>
    intro s m it rest hs hshape n
    have hcompletes {k : Junction} {r : Rc} {b : Bytes} (hcode : r.code ≠ 0x13) (hrun : Cmd.noticeRead.run s.jn m it.req = (k, .done r b)) :
        CompletesWith (exec (.noticeRead m) s) s m it rest r.code b k :=
      completes_of_mailBlind noticeRead_mailBlind (exec_noticeRead m s) hs (.inr rfl) (by decide) hshape hcode hrun
    exact ⟨fun hmin hmax => hcompletes (by decide) (noticeRead_oldest rfl hmin hmax), fun hbad => hcompletes (by decide) (noticeRead_badMaximum rfl hbad)⟩
  case alarms =>
    intro s m it rest hs hshape n l
    have hcompletes {k : Junction} {r : Rc} {b : Bytes} (hcode : r.code ≠ 0x13) (hrun : Cmd.alarmRead.run s.jn m it.req = (k, .done r b)) :
        CompletesWith (exec (.alarmRead m) s) s m it rest r.code b k :=
      completes_of_mailBlind alarmRead_mailBlind (exec_alarmRead m s) hs (.inr rfl) (by decide) hshape hcode hrun
    exact ⟨fun hmin hmax => hcompletes (by decide) (alarmRead_oldest rfl hmin hmax), fun hbad => hcompletes (by decide) (alarmRead_badMaximum rfl hbad)⟩
  case counters =>
    intro s m it rest owner l hs hshape hl hsees
    exact completes_of_mailBlind counterRead_mailBlind (exec_counterRead m s) hs (.inr rfl) (by decide) hshape (by decide) (counterRead_seen hl hsees)

end Sys2Proof.Machine

/-! # Dies, membership and trace signals by command -/

namespace Sys2Proof.Machine

/-! ### Dies, membership entries and trace signals with other mailboxes -/

theorem Junction.setSlot_withMail (j : Junction) (l : List Mailbox) (g : Nat) (x : MemSlot) : (j.withMail l).setSlot g x = (j.setSlot g x).withMail l := rfl

theorem Junction.setDie_withMail (j : Junction) (l : List Mailbox) (k : Nat) (x : DieSlot) : (j.withMail l).setDie k x = (j.setDie k x).withMail l := rfl

theorem Junction.writeMembers_withMail (j : Junction) (l : List Mailbox) (e : MemEntry) : (j.withMail l).writeMembers e = (j.writeMembers e).withMail l := by
  have htray : (j.withMail l).tray = j.tray := rfl
  have hport : (j.withMail l).port = j.port := rfl
  have hdie : (j.withMail l).die = j.die := rfl
  unfold Junction.writeMembers
  simp -zeta only [htray, hport, hdie]
  split
  · rfl
  · extract_lets isMember good missed written' slot' written slot
    have hwritten : written' = written.withMail l := by
      refine foldl_comm (fun j : Junction => j.withMail l) _ (fun a k => ?_) _ _
      have haport : (a.withMail l).port = a.port := rfl
      rw [haport]
      simp only [Junction.writeLs_withMail]
      split
      · rfl
      · split <;> rfl
    have hslot : slot' = slot := by
      unfold slot'
      rw [hwritten]
      rfl
    rw [hwritten, hslot]
    rfl

theorem Junction.loadEntry_withMail (j : Junction) (l : List Mailbox) (q : Request) (rearm : Bool) :
    (j.withMail l).loadEntry q rearm = ((j.loadEntry q rearm).1.withMail l, (j.loadEntry q rearm).2) := by
  have hbad : (j.withMail l).entryBad = j.entryBad := rfl
  have hdead : (j.withMail l).maskDead = j.maskDead := rfl
  have hahead : (j.withMail l).ahead = j.ahead := rfl
  have hslot : (j.withMail l).slot = j.slot := rfl
  unfold Junction.loadEntry
  simp only [hbad, hdead, hahead, hslot, Junction.setSlot_withMail, Junction.writeMembers_withMail]
  split
  · rfl
  · cases j.entryBad q.body with
    | some o => rfl
    | none =>
      dsimp only
      repeat' split
      all_goals rfl

theorem dieConfig_mailBlind : Cmd.dieConfig.MailBlind := by
  intro j l m q
  have htray : (j.withMail l).tray = j.tray := rfl
  have hdie : (j.withMail l).die = j.die := rfl
  have hahead : (j.withMail l).ahead = j.ahead := rfl
  simp only [Cmd.dieConfig, htray, hdie, hahead, Junction.setDie_withMail]
  repeat' split
  all_goals rfl

theorem dieReadmit_mailBlind : Cmd.dieReadmit.MailBlind := by
  intro j l m q
  have htray : (j.withMail l).tray = j.tray := rfl
  have hdie : (j.withMail l).die = j.die := rfl
  have hahead : (j.withMail l).ahead = j.ahead := rfl
  simp only [Cmd.dieReadmit, htray, hdie, hahead, Junction.setDie_withMail, Junction.writeLs_withMail]
  repeat' split
  all_goals rfl

theorem membershipLoad_mailBlind : Cmd.membershipLoad.MailBlind := fun j l _ q => j.loadEntry_withMail l q false

theorem groupRearm_mailBlind : Cmd.groupRearm.MailBlind := fun j l _ q => j.loadEntry_withMail l q true

theorem membershipStatus_mailBlind : Cmd.membershipStatus.MailBlind := by
  intro j l m q
  have hslot : (j.withMail l).slot = j.slot := rfl
  have hsees : (j.withMail l).sees = j.sees := rfl
  simp only [Cmd.membershipStatus, hslot, hsees]
  split <;> rfl

theorem traceSignal_mailBlind : Cmd.traceSignal.MailBlind := by
  intro j l m q
  have htray : (j.withMail l).tray = j.tray := rfl
  have hdie : (j.withMail l).die = j.die := rfl
  have hport : (j.withMail l).port = j.port := rfl
  simp only [Cmd.traceSignal, htray, hdie, hport, Junction.signal_withMail]
  repeat' split
  all_goals rfl

/-! ### What each command does (R386, R392, R393, R396, R399, R404, R459) -/

section
variable {j : Junction} {m : Nat} {q : Request} {k : Nat}

theorem dieConfig_inRange (htray : j.tray = true) (hk : rd q.body 0 1 = k) (hslot : k ≤ 31) (hwatch : rd q.body 1 1 ≤ 1) (hmin : 2 ≤ rd q.body 2 1)
    (hmax : rd q.body 2 1 ≤ 16) (howner : rd q.body 3 1 ≤ 15) (halive : rd q.body 1 1 = 1 → (j.die k).st ≠ .dead) (hahead : j.ahead (rd q.body 8 8) = true) :
    Cmd.dieConfig.run j m q =
      (j.setDie k { j.die k with next := some { watch := rd q.body 1 1 == 1, deadN := rd q.body 2 1, owner := rd q.body 3 1, epoch := rd q.body 4 4, tick := rd q.body 8 8 } },
       .rc 0) := by
  subst hk
  have hmay : ¬(((rd q.body 1 1 == 1) && decide ((j.die (rd q.body 0 1)).st = .dead)) = true) := by simpa using halive
  simp only [Cmd.dieConfig]
  rw [htray, if_neg (by simp; omega), if_neg (by omega), if_neg (by simp; omega), if_neg (by omega), if_neg hmay, hahead, if_neg (by decide)]

theorem dieReadmit_heard (htray : j.tray = true) (hk : rd q.body 0 1 = k) (hslot : k ≤ 31) (hdead : (j.die k).st = .dead) (hheard : (j.die k).heard = true)
    (hahead : j.ahead (rd q.body 8 8) = true) :
    Cmd.dieReadmit.run j m q = ((j.setDie k { j.die k with readmit := some (rd q.body 8 8) }).writeLs k .own [(0x14, (j.die k).epoch)], .rc 0) := by
  subst hk
  simp only [Cmd.dieReadmit]
  rw [htray, if_neg (by simp; omega), hdead, if_neg (not_not_intro rfl), hheard, if_neg (by decide), hahead, if_neg (by decide)]

theorem membershipStatus_seen (hk : rd q.body 0 1 = k) (hsees : j.sees q.ctx (fld (j.slot k).entry.group 24 4) = true) :
    Cmd.membershipStatus.run j m q = (j, .done (rc 0)
      ((j.slot k).entry.bytes ++ le 1 (j.slot k).st.code ++ le 1 (b2n (j.slot k).latched.isSome) ++ le 1 (j.slot k).latchResult ++ zeros 1
        ++ le 4 (j.slot k).notWritten)) := by
  subst hk
  exact if_neg (by simp [hsees])

theorem traceSignal_active (htray : j.tray = true) (hk : rd q.body 0 1 = k) (hslot : k ≤ 31) (hown : owns q.ctx (j.die k).owner = true) (hup : (j.port k).st = .active) :
    Cmd.traceSignal.run j m q = (j.setPort k ((j.port k).signal 6 0), .rc 0) := by
  subst hk
  simp only [Cmd.traceSignal]
  rw [htray, if_neg (by simp; omega), hown, if_neg (by decide), if_neg (not_not_intro hup), Junction.signal, if_pos hup]
  rfl

section
variable {e : MemEntry} {rearm : Bool} (he : MemEntry.decode q.body = e) (hown : owns q.ctx (fld e.group 24 4) = true) (hgood : j.entryBad q.body = none)
  (halive : j.maskDead e = false) (hepoch : rearm = true → after e.epoch (j.slot e.slot).entry.epoch = true) (hahead : j.ahead e.effective = true)
include he hown hgood halive hepoch hahead

theorem loadEntry_valid : j.loadEntry q rearm =
    if (j.slot e.slot).st = .pending || (j.slot e.slot).latched.isSome then
      if e.valid && e.abort then (j.setSlot e.slot { j.slot e.slot with latched := some (e, rearm) }, .rc 1)
      else (j.setSlot e.slot { j.slot e.slot with latched := none }, .rc 0)
    else ((j.setSlot e.slot { j.slot e.slot with next := some (e, rearm) }).writeMembers e, .rc 0) := by
  subst he
  have hstale : ¬((rearm && !after (MemEntry.decode q.body).epoch (j.slot (MemEntry.decode q.body).slot).entry.epoch) = true) := by simpa using hepoch
  simp only [Junction.loadEntry, hgood]
  rw [hown, if_neg (by decide), halive, if_neg (by decide), if_neg hstale, hahead, if_neg (by decide)]

theorem loadEntry_waits (hst : (j.slot e.slot).st ≠ .pending) (hlatch : (j.slot e.slot).latched = none) :
    j.loadEntry q rearm = ((j.setSlot e.slot { j.slot e.slot with next := some (e, rearm) }).writeMembers e, .rc 0) := by
  rw [loadEntry_valid he hown hgood halive hepoch hahead, if_neg (by simp [hst, hlatch])]

theorem loadEntry_latches (hst : (j.slot e.slot).st = .pending) (hvalid : e.valid = true) (habort : e.abort = true) :
    j.loadEntry q rearm = (j.setSlot e.slot { j.slot e.slot with latched := some (e, rearm) }, .rc 1) := by
  rw [loadEntry_valid he hown hgood halive hepoch hahead, if_pos (by simp [hst]), if_pos (by simp [hvalid, habort])]

theorem loadEntry_unlatches (hst : (j.slot e.slot).st = .pending) (hoff : e.valid = false ∨ e.abort = false) :
    j.loadEntry q rearm = (j.setSlot e.slot { j.slot e.slot with latched := none }, .rc 0) := by
  rw [loadEntry_valid he hown hgood halive hepoch hahead, if_pos (by simp [hst]), if_neg (by simpa [or_iff_not_imp_left] using hoff)]

end
end

/-- MEMBERSHIP_LOAD and GROUP_REARM complete a served request as the entry's load runs on the Junction itself. -/
theorem completes_loadEntry {s : State} {k : Junction} {m code : Nat} {it : Taken} {rest : List Taken} {rearm : Bool}
    (hs : Served s.jn m it rest (if rearm then 0x304 else 0x303) false false false) (hlen : it.req.body.length = 64) (hcode : code ≠ 0x13)
    (hrun : s.jn.loadEntry it.req rearm = (k, .rc code)) :
    CompletesWith (if rearm = true then exec (.groupRearm m) s else exec (.membershipLoad m) s) s m it rest code [] k := by
  cases rearm with
  | true =>
    have hshape : Cmd.groupRearm.shape it.req.body = true := by simp [Cmd.groupRearm, body, hlen]
    exact completes_of_mailBlind groupRearm_mailBlind (exec_groupRearm m s) hs (.inr rfl) (by decide) hshape hcode hrun
  | false =>
    have hshape : Cmd.membershipLoad.shape it.req.body = true := by simp [Cmd.membershipLoad, body, hlen]
    exact completes_of_mailBlind membershipLoad_mailBlind (exec_membershipLoad m s) hs (.inr rfl) (by decide) hshape hcode hrun

/-- Settles O7: none of the six commands looks at the mailboxes, so each completes a served request as it runs on the Junction itself. -/
theorem dieAndMembershipCommands : Obligations.DieAndMembershipCommands := by
  unfold Obligations.DieAndMembershipCommands
  refine ⟨?config, ?readmit, ?load, ?status, ?trace⟩
  case config =>
    intro s m it rest hs hlen htray b k hslot hwatch hmin hmax howner halive hahead
    have hshape : Cmd.dieConfig.shape it.req.body = true := by simp [Cmd.dieConfig, body, hlen]
    exact completes_of_mailBlind dieConfig_mailBlind (exec_dieConfig m s) hs (.inl (served_ctx hs)) (by decide) hshape (by decide)
      (dieConfig_inRange htray rfl hslot hwatch hmin hmax howner halive hahead)
  case readmit =>
    intro s m it rest hs hshape htray k d hslot hdead hheard hahead
    exact completes_of_mailBlind dieReadmit_mailBlind (exec_dieReadmit m s) hs (.inl (served_ctx hs)) (by decide) hshape (by decide)
      (dieReadmit_heard htray rfl hslot hdead hheard hahead)
  case load =>
    intro s m it rest rearm hs hlen e k x hown hgood halive hepoch hahead
    exact ⟨fun hst hlatch => completes_loadEntry hs hlen (by decide) (loadEntry_waits rfl hown hgood halive hepoch hahead hst hlatch),
      fun hst hvalid habort => completes_loadEntry hs hlen (by decide) (loadEntry_latches rfl hown hgood halive hepoch hahead hst hvalid habort),
      fun hst hoff => completes_loadEntry hs hlen (by decide) (loadEntry_unlatches rfl hown hgood halive hepoch hahead hst hoff)⟩
  case status =>
    intro s m it rest hs hshape k hsees
    exact completes_of_mailBlind membershipStatus_mailBlind (exec_membershipStatus m s) hs (.inr rfl) (by decide) hshape (by decide) (membershipStatus_seen rfl hsees)
  case trace =>
    intro s m it rest hs hshape htray k hslot hown hup
    exact completes_of_mailBlind traceSignal_mailBlind (exec_traceSignal m s) hs (.inr rfl) (by decide) hshape (by decide) (traceSignal_active htray rfl hslot hown hup)

end Sys2Proof.Machine

/-! # Ballast jobs and CRC engines by command -/

namespace Sys2Proof.Machine

/-! ### Ballast and CRC commands with other mailboxes -/

theorem Junction.setEngine_withMail (j : Junction) (l : List Mailbox) (i : Nat) (e : CrcEng) : (j.withMail l).setEngine i e = (j.setEngine i e).withMail l := rfl

theorem ballast_mailBlind : Cmd.ballast.MailBlind := by
  intro j l m q
  have hboot : (j.withMail l).boot = j.boot := rfl
  simp only [Cmd.ballast, hboot]
  repeat' split
  all_goals rfl

theorem crcEngine_mailBlind : Cmd.crcEngine.MailBlind := by
  intro j l m q
  have hengine : (j.withMail l).engine = j.engine := rfl
  have hboot : (j.withMail l).boot = j.boot := rfl
  have hrole : (j.withMail l).role = j.role := rfl
  have hbad : (j.withMail l).crcBad = j.crcBad := rfl
  have hbusy : (j.withMail l).crcBusy = j.crcBusy := rfl
  unfold Cmd.crcEngine
  simp -zeta only [hengine, hboot, hrole, hbad, hbusy, Junction.setEngine_withMail]
  extract_lets b i e c ported
  clear_value b i e c ported
  split
  · rfl
  split
  · rfl
  split
  · rfl
  split
  · rfl
  split <;> rfl

theorem crcData_mailBlind : Cmd.crcData.MailBlind := by
  intro j l m q
  have hengine : (j.withMail l).engine = j.engine := rfl
  have hbuffer : (j.withMail l).buffer = j.buffer := rfl
  have hbusy : (j.withMail l).crcBusy = j.crcBusy := rfl
  simp only [Cmd.crcData, hengine, hbuffer, hbusy, Junction.setEngine_withMail]
  split
  · rfl
  · split
    · rfl
    · split <;> rfl

theorem crcValueRead_mailBlind : Cmd.crcValueRead.MailBlind := by
  intro j l m q
  have hengine : (j.withMail l).engine = j.engine := rfl
  simp only [Cmd.crcValueRead, hengine]
  repeat' split
  all_goals rfl

theorem crcValueWrite_mailBlind : Cmd.crcValueWrite.MailBlind := by
  intro j l m q
  have hengine : (j.withMail l).engine = j.engine := rfl
  simp only [Cmd.crcValueWrite, hengine, Junction.setEngine_withMail]
  repeat' split
  all_goals rfl

/-! ### What each command does (R405, R407, R411, R414, R420 to R422) -/

section
variable {j : Junction} {m : Nat} {q : Request}

theorem completion_refused (tag code : Nat) : completion tag 2 code false false 0 0 0 0 = le 4 tag ++ [2, BitVec.ofNat 8 code] ++ zeros 26 := by
  simp [completion, le, zeros, put, b2n]

section
variable {b : BallastJob} (hb : BallastJob.decode q.body = b) (hself : bit j.boot.ballastFailed.toNat (b2n b.decompress) = false)
include hb hself

theorem ballast_refused (href : b.refusal ≠ 0) :
    Cmd.ballast.run j m q = (j, .done (rc 0) (le 4 b.tag ++ [2, BitVec.ofNat 8 b.refusal] ++ zeros 26)) := by
  subst hb
  simp only [Cmd.ballast]
  rw [hself, if_neg (by decide), if_pos href, completion_refused]

theorem ballast_queued (href : b.refusal = 0) (hown : owns q.ctx b.ctx = true) (hin : bufferOk q.ctx b.inAddr b.inLen = true)
    (hout : bufferOk q.ctx b.outAddr b.outCap = true) :
    Cmd.ballast.run j m q =
      ({ j with jobSeq := j.jobSeq + 1, ballast := { j.ballast with software := j.ballast.software ++ [{ b with id := j.jobSeq }] } },
       .wait (.ballast (b2n b.decompress) j.jobSeq)) := by
  subst hb
  simp only [Cmd.ballast]
  rw [hself, if_neg (by decide), if_neg (not_not_intro href), if_neg (by simp [hown, hin, hout])]

end

/-- Parameters that pass the checks (R414, R416). -/
theorem Junction.crcBad_none {i : Nat} {c : CrcCfg} (h : 8 ≤ c.width ∧ c.width ≤ 64 ∧ c.poly % 2 = 1 ∧ c.poly < 2 ^ c.width ∧ c.init < 2 ^ c.width
    ∧ c.xorOut < 2 ^ c.width ∧ c.vc ≠ 0 ∧ crcConflict j.crc i c = false) : j.crcBad i c = none := by
  obtain ⟨hmin, hmax, hodd, hpoly, hinit, hxor, hvc, hconf⟩ := h
  unfold Junction.crcBad
  dsimp only
  rw [if_neg (by simp; omega), if_neg (by omega), if_neg (by omega), if_neg (by omega), if_neg (by omega), if_neg hvc, hconf, if_neg (by decide)]

/-- A configuration that passes the checks, of an engine with no message in progress, is in force at once (R420). -/
theorem CrcEng.configure_good (e : CrcEng) {c : CrcCfg} (h : c.enable = true → 8 ≤ c.width ∧ c.width ≤ 64 ∧ c.poly % 2 = 1 ∧ c.poly < 2 ^ c.width ∧ c.init < 2 ^ c.width
    ∧ c.xorOut < 2 ^ c.width ∧ c.vc ≠ 0) : e.configure c false false false true = { e with cfg := c, act := c, pending := false } := by
  unfold CrcEng.configure
  cases hon : c.enable with
  | false => rfl
  | true =>
    obtain ⟨hmin, hmax, hodd, hpoly, hinit, hxor, hvc⟩ := h hon
    rw [if_pos rfl, if_neg, if_neg (by decide)]
    simp [hodd, hvc]
    omega

theorem crcEngine_configures {i : Nat} {e : CrcEng} {c : CrcCfg} (hi : rd q.body 0 1 = i) (he : j.engine i = e)
    (hc : { (((CrcCfg.reset.withReg 0 (rd q.body 4 4)).withReg 1 (rd q.body 8 8)).withReg 2 (rd q.body 16 8)).withReg 3 (rd q.body 24 8) with port := rd q.body 1 1 } = c)
    (hle : i ≤ 7) (hself : bit j.boot.crcFailed.toNat i = false) (hheld : e.heldFrom q.ctx = false)
    (hport : c.bind = 1 ∨ c.bind = 2 → q.ctx = 0 ∧ c.port ≤ 67 ∧ j.role.unused c.port = false)
    (hgood : c.enable = true → 8 ≤ c.width ∧ c.width ≤ 64 ∧ c.poly % 2 = 1 ∧ c.poly < 2 ^ c.width ∧ c.init < 2 ^ c.width ∧ c.xorOut < 2 ^ c.width ∧ c.vc ≠ 0
      ∧ crcConflict j.crc i c = false)
    (hidle : e.busyAt e.act.port (j.port e.act.port) = false) (hjob : e.jobUnit = none) :
    Cmd.crcEngine.run j m q =
      (j.setEngine i { e with cfg := c, act := c, pending := false, value := rd q.body 32 8 % 2 ^ c.width, owner := if c.enable then some q.ctx else none }, .rc 0) := by
  have hbusy : j.crcBusy i = false := by
    unfold Junction.crcBusy
    simp only [he, hidle, hjob]
    rfl
  have hbad : (if c.enable then j.crcBad i c else none) = none := by
    split
    · exact Junction.crcBad_none (hgood ‹_›)
    · rfl
  have hconf := CrcEng.configure_good e (c := c) fun hon => by
    obtain ⟨hmin, hmax, hodd, hpoly, hinit, hxor, hvc, -⟩ := hgood hon
    exact ⟨hmin, hmax, hodd, hpoly, hinit, hxor, hvc⟩
  have hown : ((c.bind == 1 || c.bind == 2) && decide (q.ctx ≠ 0)) = false := by
    simpa using fun h => (hport h).1
  have hfree : ((c.bind == 1 || c.bind == 2) && (decide (67 < c.port) || j.role.unused c.port)) = false := by
    simpa using fun h => (hport h).2
  unfold Cmd.crcEngine
  dsimp -zeta only
  extract_lets b i' e' base c' ported busy configured new
  obtain rfl : i' = i := hi
  obtain rfl : e' = e := he
  obtain rfl : c' = c := hc
  have howner : (ported && decide (q.ctx ≠ 0)) = false := hown
  have hpath : (ported && (decide (67 < c'.port) || j.role.unused c'.port)) = false := hfree
  clear_value ported
  rw [if_neg (Nat.not_lt.mpr hle), hself, Bool.false_or, hheld, if_neg Bool.false_ne_true, howner, if_neg Bool.false_ne_true, hpath, if_neg Bool.false_ne_true, hbad]
  have hset : configured = { e' with cfg := c', act := c', pending := false } := by
    change e'.configure c' (j.crcBusy i') false false true = _
    rw [hbusy, hconf]
  have hnew : new = { e' with cfg := c', act := c', pending := false, value := rd q.body 32 8 % 2 ^ c'.width, owner := if c'.enable then some q.ctx else none } := by
    unfold new
    rw [hset]
  clear_value new
  subst hnew
  dsimp only
  rw [Bool.and_false, if_neg Bool.false_ne_true]

theorem crcData_feeds {i : Nat} {e : CrcEng} {d : Bytes} (hi : rd q.body 0 1 = i) (he : (j.engine i).settle (j.crcBusy i) = e) (hle : i ≤ 7)
    (hown : e.owner = some q.ctx) (hon : e.act.enable = true) (hbind : e.act.bind = 0) (hbuf : j.buffer q.ctx (rd q.body 8 8) (rd q.body 4 4) = .inr d) :
    Cmd.crcData.run j m q =
      (j.setEngine i { e with value := crcFeed e.act.params e.value d }, .done (rc 0) (le 8 (crcResult e.act.params (crcFeed e.act.params e.value d)))) := by
  simp only [Cmd.crcData, hi, he, hbuf]
  rw [if_neg (Nat.not_lt.mpr hle), if_neg (by simp [hown, hon, hbind])]
  rfl

theorem crcValueRead_held {i : Nat} (hi : rd q.body 0 1 = i) (hle : i ≤ 7) (hheld : (j.engine i).heldFrom q.ctx = false) :
    Cmd.crcValueRead.run j m q = (j, .done (rc 0) (le 8 (j.engine i).value ++ le 8 (crcResult (j.engine i).act.params (j.engine i).value))) := by
  simp only [Cmd.crcValueRead, hi]
  rw [if_neg (Nat.not_lt.mpr hle), hheld]
  rfl

theorem crcValueWrite_held {i : Nat} (hi : rd q.body 0 1 = i) (hle : i ≤ 7) (hheld : (j.engine i).heldFrom q.ctx = false) :
    Cmd.crcValueWrite.run j m q = (j.setEngine i { j.engine i with value := rd q.body 8 8 % 2 ^ (j.engine i).act.width }, .rc 0) := by
  simp only [Cmd.crcValueWrite, hi]
  rw [if_neg (Nat.not_lt.mpr hle), hheld]
  rfl

end

/-- Settles O10: none of the five commands looks at the mailboxes, so each does for a served request what it does on the Junction itself. -/
theorem ballastAndCrcCommands : Obligations.BallastAndCrcCommands := by
  unfold Obligations.BallastAndCrcCommands
  refine ⟨?job, ?engine, ?data, ?read, ?write⟩
  case job =>
    intro s m it rest hs hlen b hself
    have hshape : Cmd.ballast.shape it.req.body = true := by simp [Cmd.ballast, body, hlen]
    refine ⟨fun href => ?_, fun href hown hin hout => ?_⟩
    · exact completes_of_mailBlind ballast_mailBlind (exec_ballast m s) hs (.inr rfl) (by decide) hshape (by decide) (ballast_refused rfl hself href)
    · exact defers_plain (exec_ballast m s) hs (.inr (.inl rfl)) rfl rfl (by decide) hshape fun l => by
        rw [ballast_mailBlind, ballast_queued rfl hself href hown hin hout]
  case engine =>
    intro s m it rest hs hshape hreg b i e c hle hself hheld hport hgood hidle hjob
    have hshape : Cmd.crcEngine.shape it.req.body = true := by simpa [Cmd.crcEngine, hshape] using hreg
    exact completes_of_mailBlind crcEngine_mailBlind (exec_crcEngine m s) hs (.inr rfl) (by decide) hshape (by decide)
      (crcEngine_configures rfl rfl rfl hle hself hheld hport hgood hidle hjob)
  case data =>
    intro s m it rest d hs hshape i e hle hown hon hbind hbuf
    exact completes_of_mailBlind crcData_mailBlind (exec_crcData m s) hs (.inr rfl) (by decide) hshape (by decide) (crcData_feeds rfl rfl hle hown hon hbind hbuf)
  case read =>
    intro s m it rest hs hshape e hle hheld
    exact completes_of_mailBlind crcValueRead_mailBlind (exec_crcValueRead m s) hs (.inr rfl) (by decide) hshape (by decide) (crcValueRead_held rfl hle hheld)
  case write =>
    intro s m it rest hs hshape i e hle hheld
    exact completes_of_mailBlind crcValueWrite_mailBlind (exec_crcValueWrite m s) hs (.inr rfl) (by decide) hshape (by decide) (crcValueWrite_held rfl hle hheld)

end Sys2Proof.Machine

/-! # Firmware by command -/

namespace Sys2Proof.Machine

/-! ### Firmware commands with other mailboxes -/

theorem Junction.setFw_withMail (j : Junction) (l : List Mailbox) (f : Fw) : (j.withMail l).setFw f = (j.setFw f).withMail l := rfl

theorem fwLoad_mailBlind : Cmd.fwLoad.MailBlind := by
  intro j l m q
  have hsec : (j.withMail l).sec = j.sec := rfl
  simp only [Cmd.fwLoad, hsec, Junction.setFw_withMail]
  repeat' split
  all_goals rfl

theorem fwStatus_mailBlind : Cmd.fwStatus.MailBlind := fun _ _ _ _ => rfl

theorem fwActivate_mailBlind : Cmd.fwActivate.MailBlind := by
  intro j l m q
  have hsec : (j.withMail l).sec = j.sec := rfl
  have hahead : (j.withMail l).ahead = j.ahead := rfl
  simp only [Cmd.fwActivate, hsec, hahead, Junction.setFw_withMail]
  repeat' split
  all_goals rfl

/-! ### What each command does (R462 to R464) -/

section
variable {j : Junction} {m : Nat} {q : Request}

/-- A chunk that continues the load, or starts one (R463). -/
theorem fwLoad_continues {off tot : Nat} {d : Bytes} (hoff : rd q.body 0 4 = off) (htot : rd q.body 4 4 = tot) (hd : q.body.drop 8 = d) (hst : j.sec.fw.st ≠ .armed)
    (hmax : tot ≤ 33554432) (hfits : off + d.length ≤ tot) (hnext : off ≠ 0 → off = j.sec.fw.got ∧ j.sec.fw.st = .loading ∧ tot = j.sec.fw.total) :
    Cmd.fwLoad.run j m q =
      (j.setFw { j.sec.fw.setSlot j.sec.fw.staging ((if off = 0 then [] else j.sec.fw.slot j.sec.fw.staging) ++ d) with
        got := off + d.length, total := tot, st := if off + d.length = tot then .verifying else .loading, result := 0, fallback := false }, .rc 0) := by
  subst hoff htot hd
  have hcont : ¬((decide (rd q.body 0 4 ≠ 0) && (decide (rd q.body 0 4 ≠ j.sec.fw.got) || decide (j.sec.fw.st ≠ .loading))) = true) := by
    simp only [Bool.and_eq_true, Bool.or_eq_true, decide_eq_true_eq, not_and, not_or, not_not]
    exact fun h => ⟨(hnext h).1, (hnext h).2.1⟩
  have hsame : ¬((decide (rd q.body 0 4 ≠ 0) && decide (rd q.body 4 4 ≠ j.sec.fw.total)) = true) := by
    simp only [Bool.and_eq_true, decide_eq_true_eq, not_and, not_not]
    exact fun h => (hnext h).2.2
  simp only [Cmd.fwLoad]
  rw [if_neg hst, if_neg hcont, if_neg]
  rw [Bool.or_eq_true, Bool.or_eq_true, not_or, not_or, decide_eq_true_eq, decide_eq_true_eq]
  exact ⟨⟨Nat.not_lt.mpr hmax, Nat.not_lt.mpr hfits⟩, hsame⟩

theorem fwActivate_unverified (hver : j.sec.fw.st ≠ .verified) (harm : j.sec.fw.st ≠ .armed) : Cmd.fwActivate.run j m q = (j, .rc 0x40) :=
  if_pos (by simp [hver, harm])

theorem fwActivate_ready (hst : j.sec.fw.st = .verified ∨ j.sec.fw.st = .armed) : Cmd.fwActivate.run j m q =
    if j.ahead (rd q.body 0 8) then (j.setFw { j.sec.fw with st := .armed, at_ := some (rd q.body 0 8) }, .rc 0) else (j, .rc 0x1B) := by
  simp only [Cmd.fwActivate]
  rw [if_neg (by obtain h | h := hst <;> simp [h])]
  cases j.ahead (rd q.body 0 8) <;> rfl

end

/-- Settles O12: none of the three commands looks at the mailboxes, so each completes a served request as it runs on the Junction itself. -/
theorem firmwareCommands : Obligations.FirmwareCommands := by
  unfold Obligations.FirmwareCommands
  refine ⟨?load, ?status, ?activate⟩
  case load =>
    intro s m it rest hs hmin hlen off tot d f hst hmax hfits hnext
    have hshape : Cmd.fwLoad.shape it.req.body = true := by simp [Cmd.fwLoad, hmin, hlen]
    exact completes_of_mailBlind fwLoad_mailBlind (exec_fwLoad m s) hs (.inl (served_ctx hs)) (by decide) hshape (by decide)
      (fwLoad_continues rfl rfl rfl hst hmax hfits hnext)
  case status =>
    intro s m it rest hs hmay hbody f
    have hshape : Cmd.fwStatus.shape it.req.body = true := by simp [Cmd.fwStatus, body, hbody]
    exact completes_plain (exec_fwStatus m s) hs rfl (hmay.imp_right fun h => .inr ⟨rfl, h⟩) rfl rfl (by decide) hshape (by decide) fun l => by rw [fwStatus_mailBlind]; rfl
  case activate =>
    intro s m it rest hs hlen f
    have hshape : Cmd.fwActivate.shape it.req.body = true := by simp [Cmd.fwActivate, body, hlen]
    have hcompletes {k : Junction} {code : Nat} (hcode : code ≠ 0x13) (hrun : Cmd.fwActivate.run s.jn m it.req = (k, .rc code)) :
        CompletesWith (exec (.fwActivate m) s) s m it rest code [] k :=
      completes_of_mailBlind fwActivate_mailBlind (exec_fwActivate m s) hs (.inl (served_ctx hs)) (by decide) hshape hcode hrun
    exact ⟨fun hver harm => hcompletes (by decide) (fwActivate_unverified hver harm),
      fun hst hahead => hcompletes (by decide) ((fwActivate_ready hst).trans (if_pos hahead)),
      fun hst hahead => hcompletes (by decide) ((fwActivate_ready hst).trans (if_neg (ne_true_of_eq_false hahead)))⟩

end Sys2Proof.Machine

/-! # What replying does to a mailbox -/

namespace Sys2Proof.Machine

/-! ### What replying does to a mailbox (R443, R449, R474) -/

/-- The mailbox m with a reply given: stored with its session where `keep` says so, and in the reply ring of a PCIe mailbox (R443, R449). -/
def Mailbox.given (x : Mailbox) (m : Nat) (r : Reply) (keep : Bool) : Mailbox :=
  if m < 8 then { (if keep then x.store r else x) with replies := x.replies ++ [r], rplTail := (x.rplTail + 1) % 65536 } else if keep then x.store r else x

theorem Mailbox.store_eq {x : Mailbox} {ss : Session} {r : Reply} (hss : x.session = some ss) (hseq : ss.seq = r.seq) :
    x.store r = { x with session := some { ss with stored := some r } } := by
  rw [Mailbox.store, hss]
  exact if_pos hseq

theorem Mailbox.store_rest (x : Mailbox) (r : Reply) : ∃ y, x.store r = { x with session := y } := by
  unfold Mailbox.store
  split
  · split
    · exact ⟨_, rfl⟩
    · exact ⟨x.session, rfl⟩
  · exact ⟨x.session, rfl⟩

theorem Mailbox.given_eq (x : Mailbox) (m : Nat) (r : Reply) (keep : Bool) :
    x.given m r keep = { x with session := (if keep then x.store r else x).session, replies := if m < 8 then x.replies ++ [r] else x.replies,
                                rplTail := if m < 8 then (x.rplTail + 1) % 65536 else x.rplTail } := by
  obtain ⟨y, hy⟩ := x.store_rest r
  unfold Mailbox.given
  rw [hy]
  cases keep <;> split <;> rfl

theorem Mailbox.settleSession_rest (x : Mailbox) : ∃ y, x.settleSession = { x with session := y } := by
  unfold Mailbox.settleSession
  split
  · split
    · exact ⟨none, rfl⟩
    · exact ⟨x.session, rfl⟩
  · exact ⟨x.session, rfl⟩

/-- A session that is closing ends once the requests already taken have had their replies (R474). -/
theorem Mailbox.settleSession_closing {x : Mailbox} {ss : Session} {n : Nat} (hss : x.session = some ss) (hclosing : ss.closing = some n) (hlive : ss.expired = false) :
    x.settleSession.session = if n = 0 ∧ x.owed = [] then none else some ss := by
  unfold Mailbox.settleSession
  rw [hss]
  simp only [hclosing, hlive, Bool.false_and, Bool.or_false, Option.some_beq_some, List.length_eq_zero_iff, Bool.and_eq_true, beq_iff_eq]
  split
  · rfl
  · exact hss

/-- The last reply of a closing session is stored in it, or ends it. -/
theorem Mailbox.settled_closing {x : Mailbox} {ss : Session} {n m : Nat} {r : Reply} (hss : x.session = some ss) (hclosing : ss.closing = some n)
    (hlive : ss.expired = false) (hseq : ss.seq = r.seq) :
    (x.given m r true).settleSession.session = if n = 0 ∧ x.owed = [] then none else some { ss with stored := some r } := by
  have hstore : (x.given m r true).session = some { ss with stored := some r } := by
    rw [Mailbox.given_eq, if_pos rfl, Mailbox.store_eq hss hseq]
  have howed : (x.given m r true).owed = x.owed := by rw [Mailbox.given_eq]
  rw [Mailbox.settleSession_closing hstore hclosing hlive, howed]

theorem Mailbox.settleSession_open {x : Mailbox} {ss : Session} (hss : x.session = some ss) (hclosing : ss.closing = none) (hlive : ss.expired = false) :
    x.settleSession = x := by
  unfold Mailbox.settleSession
  simp [hss, hclosing, hlive]

theorem Mailbox.settleSession_none {x : Mailbox} (hss : x.session = none) : x.settleSession = x := by
  unfold Mailbox.settleSession
  rw [hss]

theorem Junction.mbox_of_mail {j k : Junction} (h : j.mail = k.mail) (m : Nat) : j.mbox m = k.mbox m := by
  unfold Junction.mbox
  rw [h]

/-- A reply changes the one mailbox: the reply is given, and a session that waited for it alone ends. -/
theorem Junction.giveReply_mail {k : Junction} {m : Nat} (hm : m < 16) (hl : m < k.mail.length) (hlive : ∀ ss, (k.mbox m).session = some ss → ss.expired = false)
    (it : Taken) (r : Reply) (keep : Bool) : (k.giveReply m it r keep).mail = k.mail.set m ((k.mbox m).given m r keep).settleSession := by
  have hgone : (match (k.mbox m).session with | some s => s.expired | none => false) = false := by
    cases h : (k.mbox m).session with
    | none => rfl
    | some ss => exact hlive ss h
  unfold Junction.giveReply
  extract_lets x gone stored told
  have hstored : stored.mbox m = if keep then x.store r else x := k.setMbox_mbox m _ hl
  have htold : told.mail = k.mail.set m (x.given m r keep) := by
    have hg : ¬(gone = true) := by
      rw [show gone = false from hgone]
      decide
    unfold told Junction.deliver
    rw [if_neg hg, if_neg (by omega)]
    unfold Mailbox.given
    obtain ⟨y, hy⟩ := x.store_rest r
    split
    · change (k.mail.set m _).set m _ = _
      rw [hstored, List.set_set, hy]
      cases keep <;> rfl
    · rw [Junction.sendProtected_mail]
      rfl
  change told.mail.set m (told.mbox m).settleSession = _
  have hmbox : told.mbox m = x.given m r keep := by
    rw [Junction.mbox, htold, List.getD_eq_getElem?_getD, List.getElem?_set_self hl]
    rfl
  rw [hmbox, htold, List.set_set]

theorem Junction.mbox_of_set {k j : Junction} {m : Nat} {x : Mailbox} (hl : m < k.mail.length) (h : j.mail = k.mail.set m x) : j.mbox m = x := by
  rw [Junction.mbox, h, List.getD_eq_getElem?_getD, List.getElem?_set_self hl]
  rfl

theorem Mailbox.settled_taken (x : Mailbox) (m : Nat) (r : Reply) (keep : Bool) : (x.given m r keep).settleSession.taken = x.taken := by
  obtain ⟨y, hy⟩ := (x.given m r keep).settleSession_rest
  rw [hy, Mailbox.given_eq]

/-- What the reply ring of a PCIe mailbox has of a reply given (R443). -/
theorem Mailbox.settled_ring (x : Mailbox) {m : Nat} (r : Reply) (keep : Bool) (hm : m < 8) :
    (x.given m r keep).settleSession.rplTail = (x.rplTail + 1) % 65536 ∧ (x.given m r keep).settleSession.replies = x.replies ++ [r] := by
  obtain ⟨y, hy⟩ := (x.given m r keep).settleSession_rest
  rw [hy, Mailbox.given_eq, if_pos hm, if_pos hm]
  exact ⟨rfl, rfl⟩

/-- A served request of a command that ends with its reply: the reply stands in its mailbox, whatever the command makes of the mailboxes. -/
theorem Junction.command_replies {j k : Junction} {m : Nat} {it : Taken} {rest : List Taken} {c : Cmd} {mg rec st : Bool} {r : Rc} {b : Bytes}
    (hs : Served j m it rest c.op mg rec st) (hw : it.req.ctx = 0 ∨ c.who = .any) (hr : c.recovery = rec) (hst : c.status = st) (hop : c.op ≠ 1)
    (hb : c.shape it.req.body = true) (hrun : c.run (j.accept m it rest) m it.req = (k, .done r b)) (hcode : r.code ≠ 0x13)
    (hl : m < k.mail.length) (htaken : (k.mbox m).taken = rest) (hlive : ∀ ss, (k.mbox m).session = some ss → ss.expired = false) :
    ∃ rep : Reply, rep.opcode = it.req.opcode ∧ rep.result = r.code ∧ rep.tag = it.req.tag ∧ rep.seq = it.req.seq
      ∧ (j.command c m).mail = k.mail.set m ((k.mbox m).given m rep true).settleSession ∧ Leaves m (j.command c m) k := by
  have hserved := hs
  obtain ⟨-, hm, -, -, hknown, -⟩ := hserved
  have hmail := Junction.giveReply_mail hm hl hlive it (k.reply m it.req j.execTick r b) true
  have hc : j.command c m = k.giveReply m it (k.reply m it.req j.execTick r b) true := by
    rw [Junction.command_run hs (hw.imp_right .inl) (.inl hr) hst hop hb, hrun]
    dsimp only
    rw [Junction.notePrivilege, if_neg hcode, Junction.settle_known]
    intro n hn
    rw [Junction.mbox_of_set hl hmail, Mailbox.settled_taken, htaken] at hn
    rw [hn] at hknown
    simpa using hknown
  rw [hc]
  exact ⟨_, rfl, rfl, rfl, rfl, hmail, Junction.giveReply_leaves _ _⟩

/-- Mailbox m once a served request has left its queue and its SEQ is noted (R449). -/
theorem Junction.accept_mbox {j : Junction} {m : Nat} {it : Taken} {rest : List Taken} {ss : Session} (hl : m < j.mail.length) (hss : (j.mbox m).session = some ss) :
    (j.accept m it rest).mbox m = { j.mbox m with taken := rest, session := some { ss with seq := it.req.seq, stored := none } } := by
  unfold Junction.accept
  rw [hss]
  exact j.setMbox_mbox m _ hl

theorem Junction.accept_withMail {j : Junction} {m : Nat} {it : Taken} {rest : List Taken} {ss : Session} (hss : (j.mbox m).session = some ss) :
    j.accept m it rest = j.withMail (j.mail.set m { j.mbox m with taken := rest, session := some { ss with seq := it.req.seq, stored := none } }) := by
  unfold Junction.accept
  rw [hss]
  rfl

end Sys2Proof.Machine

/-! # Sessions: O1 -/

namespace Sys2Proof.Machine

/-! ### SESSION_CLOSE and HEARTBEAT (R455, R474) -/

theorem Junction.heartbeatBody_withMail (j : Junction) (l : List Mailbox) (ctx gap : Nat) : (j.withMail l).heartbeatBody ctx gap = j.heartbeatBody ctx gap := rfl

/-- SESSION_CLOSE: the session is closing, with the requests already taken still to be answered. -/
theorem sessionClose_closes {s : State} {m : Nat} {it : Taken} {rest : List Taken} (hs : Served s.jn m it rest 2 false true false) (hbody : it.req.body = []) :
    ∃ j r, exec (.sessionClose m) s = .next { s with jn := j } ∧ r.opcode = 2 ∧ r.result = 0 ∧ r.tag = it.req.tag ∧ r.seq = it.req.seq ∧ (j.mbox m).taken = rest
      ∧ (m < 8 → (j.mbox m).rplTail = ((s.jn.mbox m).rplTail + 1) % 65536 ∧ (j.mbox m).replies = (s.jn.mbox m).replies ++ [r])
      ∧ (if rest = [] ∧ (s.jn.mbox m).owed = [] then (j.mbox m).session = none else (j.mbox m).session.map (·.closing) = some (some rest.length))
      ∧ j.still = s.jn.still := by
  have hserved := hs
  obtain ⟨hp, hm, hl, -, -, hopcode, -, -, -, hsession, -⟩ := hserved
  obtain ⟨ss, hss, hlive, hopen, -, -⟩ := session_live hsession
  have hacc := Junction.accept_mbox (it := it) (rest := rest) hl hss
  have haccl : m < (s.jn.accept m it rest).mail.length := (Junction.accept_holds hs).1
  let x := ((s.jn.accept m it rest).mbox m).close
  have hx : x = { s.jn.mbox m with taken := rest, session := some { ss with seq := it.req.seq, stored := none, closing := some rest.length } } := by
    unfold x Mailbox.close
    rw [hacc]
    simp only [hopen]
  have hk : ((s.jn.accept m it rest).setMbox m x).mbox m = x := Junction.setMbox_mbox _ _ _ haccl
  have hkl : m < ((s.jn.accept m it rest).setMbox m x).mail.length := by rwa [Junction.setMbox_length]
  obtain ⟨r, ho, hres, htag, hseq, hmail, hleaves⟩ := Junction.command_replies hs (c := Cmd.sessionClose) (.inr rfl) rfl rfl (by decide)
    (by simp [Cmd.sessionClose, body, hbody]) rfl (by decide) hkl (by rw [hk, hx]) (by rw [hk, hx]; rintro _ ⟨⟩; exact hlive)
  have hmbox := Junction.mbox_of_set hkl hmail
  rw [hk] at hmbox
  refine ⟨s.jn.command Cmd.sessionClose m, r, (exec_sessionClose m s).trans (onJn_next _ _ hp), ho.trans hopcode, hres, htag, hseq, ?_, fun h8 => ?_, ?_, ?_⟩
  · rw [hmbox, Mailbox.settled_taken, hx]
  · rw [hmbox, (Mailbox.settled_ring x r true h8).1, (Mailbox.settled_ring x r true h8).2, hx]
    exact ⟨rfl, rfl⟩
  · rw [hmbox, Mailbox.settled_closing (ss := { ss with seq := it.req.seq, stored := none, closing := some rest.length }) (by rw [hx]) rfl hlive hseq.symm, hx]
    simp only [List.length_eq_zero_iff]
    split
    · rfl
    · rfl
  · rw [hleaves.2, Junction.setMbox_still, Junction.accept_withMail hss]
    rfl

/-- HEARTBEAT: the reply has the status body, and the 4 ms start again with the longest interval kept (R455). -/
theorem heartbeat_beats {s : State} {m : Nat} {it : Taken} {rest : List Taken} {ss : Session} (hs : Served s.jn m it rest 3 false true true) (hbody : it.req.body = [])
    (hss : (s.jn.mbox m).session = some ss) {gap base : Nat} (hgap : gap = match ss.beatAt with | some t => max ss.gapMax (s.jn.clk.up - t) | none => ss.gapMax)
    (hbase : base = if s.jn.sec.fw.resumedAt = 0 then s.jn.clk.up else max s.jn.clk.up (s.jn.sec.fw.resumedAt + 1000000 * uNs)) :
    ∃ j, exec (.heartbeat m) s = .next { s with jn := j } ∧ Replied s.jn j m it rest 0 (s.jn.heartbeatBody it.req.ctx gap) ∧ Leaves m j s.jn
      ∧ (j.mbox m).session.any (fun x => x.beatAt == some s.jn.clk.up && x.lastBeat == base && x.gapMax == gap && x.ctx == ss.ctx) = true := by
  have hserved := hs
  obtain ⟨hp, hm, hl, -, -, hopcode, -, -, -, hsession, -⟩ := hserved
  obtain ⟨ss', hss', hlive, hopen, -, -⟩ := session_live hsession
  obtain rfl : ss' = ss := Option.some.inj (hss'.symm.trans hss)
  have hacc := Junction.accept_withMail (it := it) (rest := rest) hss
  have haccm := Junction.accept_mbox (it := it) (rest := rest) hl hss
  have haccl : m < (s.jn.accept m it rest).mail.length := (Junction.accept_holds hs).1
  let x : Mailbox := { s.jn.mbox m with taken := rest, session := some { ss' with seq := it.req.seq, stored := none, beatAt := some s.jn.clk.up, gapMax := gap, lastBeat := base } }
  have hrun : Cmd.heartbeat.run (s.jn.accept m it rest) m it.req = ((s.jn.accept m it rest).setMbox m x, .done (rc 0) (s.jn.heartbeatBody it.req.ctx gap)) := by
    change Junction.heartbeat _ _ _ = _
    unfold Junction.heartbeat
    rw [haccm, hacc]
    subst hgap hbase
    rfl
  have hk : ((s.jn.accept m it rest).setMbox m x).mbox m = x := Junction.setMbox_mbox _ _ _ haccl
  have hkl : m < ((s.jn.accept m it rest).setMbox m x).mail.length := by rwa [Junction.setMbox_length]
  have hshape : Cmd.heartbeat.shape it.req.body = true := by simp [Cmd.heartbeat, body, hbody]
  have hholds : s.jn.Holds ((s.jn.accept m it rest).setMbox m x) m it rest := by
    unfold Junction.Holds
    rw [hk]
    exact ⟨hkl, rfl, rfl, rfl, _, rfl, rfl, hlive, hopen, rfl⟩
  obtain ⟨r, -, -, -, hseq, hmail, -⟩ := Junction.command_replies hs (c := Cmd.heartbeat) (.inr rfl) rfl rfl (by decide) hshape hrun (by decide) hkl (by rw [hk])
    (by rw [hk]; rintro _ ⟨⟩; exact hlive)
  obtain ⟨hreplied, hleaves⟩ := Junction.command_done (c := Cmd.heartbeat) hs (.inr (.inl rfl)) (.inl rfl) rfl (by decide) hshape hrun (by decide) hholds
  refine ⟨s.jn.command Cmd.heartbeat m, (exec_heartbeat m s).trans (onJn_next _ _ hp), hreplied, ?_, ?_⟩
  · have hmailed : (s.jn.accept m it rest).setMbox m x = s.jn.withMail ((s.jn.accept m it rest).mail.set m x) := by
      rw [hacc]
      rfl
    rw [hmailed] at hleaves
    exact leaves_mail hleaves
  · have hgiven : (x.given m r true).session
        = some { ss' with seq := it.req.seq, stored := some r, beatAt := some s.jn.clk.up, gapMax := gap, lastBeat := base } := by
      rw [Mailbox.given_eq, if_pos rfl, Mailbox.store_eq (x := x) rfl hseq.symm]
    rw [Junction.mbox_of_set hkl hmail, hk, Mailbox.settleSession_open hgiven hopen hlive, hgiven]
    simp

/-! ### SESSION_OPEN (R449, R456, R474) -/

/-- What asks a mailbox without a session to open one, with nothing wrong but perhaps its credential. -/
structure Junction.Opening (j : Junction) (m : Nat) (it : Taken) (rest : List Taken) : Prop where
  mailbox : m < 16
  inRange : m < j.mail.length
  oldest : (j.mbox m).taken = it :: rest
  known : rest.head?.all (fun n => knownOps.contains n.req.opcode) = true
  opcode : it.req.opcode = 1
  clean : it.req.junk = false
  own : it.req.mailbox = m
  here : j.remote it.req = false
  running : j.flush.stopped = false
  noSession : (j.mbox m).session = none
  shape : sessionShape it.req.body = true

/-- The Junction with the request out of the queue of a mailbox without a session. -/
def Junction.without (j : Junction) (m : Nat) (rest : List Taken) : Junction := j.setMbox m { j.mbox m with taken := rest }

theorem Junction.popTaken_noSession {j : Junction} {m : Nat} {it : Taken} {rest : List Taken} (h : (j.mbox m).session = none) (ht : (j.mbox m).taken = it :: rest) :
    j.popTaken m = j.without m rest := by
  unfold Junction.popTaken Junction.without Mailbox.countDown
  dsimp only
  rw [h, ht]
  rfl

/-- The reply of an opening: what SESSION_OPEN makes of the Junction, replied to, with nothing else settled. -/
theorem Junction.command_opening {j k : Junction} {m : Nat} {it : Taken} {rest : List Taken} {r : Rc} {b : Bytes} (h : j.Opening m it rest)
    (hrun : (j.without m rest).sessionOpen m it.req = (k, .done r b)) {l : Mailbox} (hk : k.mail = j.mail.set m l) (htaken : l.taken = rest)
    (hlive : ∀ ss, l.session = some ss → ss.expired = false) :
    ∃ rep : Reply, rep.opcode = 1 ∧ rep.result = r.code ∧ rep.tag = it.req.tag ∧ rep.seq = it.req.seq ∧ rep.body = b
      ∧ (j.command Cmd.sessionOpen m).mbox m = (l.given m rep (r.code == 0)).settleSession ∧ (j.command Cmd.sessionOpen m).still = k.still := by
  let told := k.notePrivilege r.code it.req.opcode
  have htold : told.mail = k.mail := by
    unfold told Junction.notePrivilege
    split
    · exact Junction.secEvent_mail _ _ _
    · rfl
  have hl : m < told.mail.length := by
    rw [htold, hk, List.length_set]
    exact h.inRange
  have hmbox : told.mbox m = l := Junction.mbox_of_set h.inRange (htold.trans hk)
  let rep := told.reply m it.req k.execTick r b
  have hmail := Junction.giveReply_mail h.mailbox hl (by rw [hmbox]; exact hlive) it rep (r.code == 0)
  have hgot : (k.answer m it r b (r.code == 0)).mbox m = (l.given m rep (r.code == 0)).settleSession := by
    rw [← hmbox]
    exact Junction.mbox_of_set hl hmail
  have hadmit : j.admission m it.req = .open_ := by
    unfold Junction.admission
    rw [if_neg (Nat.ne_of_lt h.mailbox), h.noSession]
    exact if_pos h.opcode
  have hc : j.command Cmd.sessionOpen m = k.answer m it r b (r.code == 0) := by
    have hopens : (it.req.opcode ≠ Cmd.sessionOpen.op || (j.flush.stopped && !Cmd.sessionOpen.status) || decide (16 < m)) = false := by
      have hle : ¬16 < m := Nat.not_lt.mpr (Nat.le_of_lt h.mailbox)
      simp [h.opcode, h.running, Cmd.sessionOpen, hle]
    have hgood : (it.req.junk || decide (it.req.mailbox ≠ m) || !Cmd.sessionOpen.shape it.req.body || (j.without m rest).remote it.req) = false := by
      have hhere : (j.without m rest).remote it.req = false := h.here
      simp [h.clean, h.own, Cmd.sessionOpen, h.shape, hhere]
    unfold Junction.command
    rw [h.oldest]
    dsimp only
    rw [if_neg (ne_true_of_eq_false hopens)]
    unfold Junction.process
    rw [hadmit, Junction.popTaken_noSession h.noSession h.oldest]
    dsimp only
    rw [if_neg (ne_true_of_eq_false hgood)]
    dsimp only [Cmd.sessionOpen]
    rw [hrun]
    dsimp only
    refine Junction.settle_known _ _ fun n hn => ?_
    rw [hgot, Mailbox.settled_taken, htaken] at hn
    have hknown := h.known
    rw [hn] at hknown
    simpa using hknown
  rw [hc]
  exact ⟨rep, h.opcode, rfl, rfl, rfl, rfl, hgot, Junction.answer_still _ _ _ _ _ _⟩

/-- Where the Junction is locked or in holdover it knows the time a credential is checked against (R474). -/
def Junction.knownTime (j : Junction) : Option Nat := if j.clk.st = .locked ∨ j.clk.st = .holdover then some j.clk.time else none

/-- The session that an opening with a good credential makes (R474). -/
def Junction.newSession (j : Junction) (q : Request) : Session :=
  { ctx := rd q.body 0 1, key := rd (q.body.drop 8) 0 1, owner := if rd (q.body.drop 8) 0 1 = 0xFF then Config.sha384 (sub (q.body.drop 8) 112 97) else [],
    seq := q.seq, stored := none, lastBeat := j.clk.up, beatAt := none, gapMax := 0, closing := none, expired := false }

/-- The Junction with that session opened in mailbox m, and its SEQ noted against replays (R474). -/
def Junction.opened (j : Junction) (m : Nat) (q : Request) : Junction :=
  { j.setMbox m { j.mbox m with session := some (j.newSession q) } with sec := { j.sec with lastOpen := Tbl.put 0 j.sec.lastOpen m (q.seq + 1) } }

theorem Junction.sessionOpen_eq (j : Junction) (m : Nat) (q : Request) (hctx : rd q.body 0 1 ≤ 15) :
    j.sessionOpen m q = if j.sec.credOk j.id m (rd q.body 0 1) q.seq j.knownTime (q.body.drop 8) = true
      then (j.opened m q, .done (rc 0) []) else (j.secEvent 1 m, .done (rc 0x13) []) := by
  have hnow : (if j.clk.st = .locked || j.clk.st = .holdover then some j.clk.time else none) = j.knownTime := by
    unfold Junction.knownTime
    simp only [Bool.or_eq_true, decide_eq_true_eq]
  unfold Junction.sessionOpen
  dsimp only
  rw [hnow, if_neg (Nat.not_lt.mpr hctx)]
  rfl

theorem Junction.opened_still (j : Junction) (m : Nat) (q : Request) :
    (j.opened m q).still = ({ j with sec := { j.sec with lastOpen := Tbl.put 0 j.sec.lastOpen m (q.seq + 1) } } : Junction).still := rfl

theorem Junction.opening_mbox_without {j : Junction} {m : Nat} {rest : List Taken} (hl : m < j.mail.length) :
    (j.without m rest).mbox m = { j.mbox m with taken := rest } := j.setMbox_mbox m _ hl

/-- SESSION_OPEN in a mailbox without a session: a session with a good credential, and PRIVILEGE without. -/
theorem sessionOpen_opens {s : State} {m : Nat} {it : Taken} {rest : List Taken} (hp : s.jn.boot.porst = false) (h : s.jn.Opening m it rest)
    (hctx : rd it.req.body 0 1 ≤ 15) :
    ∃ j r, exec (.sessionOpen m) s = .next { s with jn := j } ∧ r.opcode = 1 ∧ r.tag = it.req.tag ∧ r.seq = it.req.seq ∧ r.body = [] ∧ (j.mbox m).taken = rest
      ∧ (m < 8 → (j.mbox m).rplTail = ((s.jn.mbox m).rplTail + 1) % 65536 ∧ (j.mbox m).replies = (s.jn.mbox m).replies ++ [r])
      ∧ (if s.jn.sec.credOk s.jn.id m (rd it.req.body 0 1) it.req.seq s.jn.knownTime (it.req.body.drop 8) = true then
          r.result = 0 ∧ (j.mbox m).session = some { s.jn.newSession it.req with stored := some r }
          ∧ j.still = ({ s.jn with sec := { s.jn.sec with lastOpen := Tbl.put 0 s.jn.sec.lastOpen m (it.req.seq + 1) } } : Junction).still
        else r.result = 0x13 ∧ (j.mbox m).session = none ∧ j.still = s.jn.still) := by
  have hrun := (s.jn.without m rest).sessionOpen_eq m it.req hctx
  have hx := Junction.opening_mbox_without (rest := rest) h.inRange
  have hexec := (exec_sessionOpen m s).trans (onJn_next _ _ hp)
  by_cases hcred : s.jn.sec.credOk s.jn.id m (rd it.req.body 0 1) it.req.seq s.jn.knownTime (it.req.body.drop 8) = true
  · let l : Mailbox := { s.jn.mbox m with taken := rest, session := some (s.jn.newSession it.req) }
    have hk : ((s.jn.without m rest).opened m it.req).mail = s.jn.mail.set m l := by
      unfold Junction.opened
      rw [hx]
      exact List.set_set ..
    obtain ⟨r, hop, hres, htag, hseq, hbody, hmbox, hstill⟩ := Junction.command_opening h (hrun.trans (if_pos hcred)) hk rfl (by rintro _ ⟨⟩; rfl)
    have hgiven : (l.given m r true).session = some { s.jn.newSession it.req with stored := some r } := by
      rw [Mailbox.given_eq, if_pos rfl, Mailbox.store_eq (x := l) rfl hseq.symm]
    refine ⟨_, r, hexec, hop, htag, hseq, hbody, ?_, fun h8 => ?_, ?_⟩
    · rw [hmbox, Mailbox.settled_taken]
    · rw [hmbox]
      exact Mailbox.settled_ring l r _ h8
    · rw [if_pos hcred]
      refine ⟨hres, ?_, hstill.trans (Junction.opened_still (s.jn.without m rest) m it.req)⟩
      have hkept : (s.jn.command Cmd.sessionOpen m).mbox m = l.given m r true := hmbox.trans (Mailbox.settleSession_open hgiven rfl rfl)
      rw [hkept, hgiven]
  · let l : Mailbox := { s.jn.mbox m with taken := rest }
    have hk : ((s.jn.without m rest).secEvent 1 m).mail = s.jn.mail.set m l := Junction.secEvent_mail _ _ _
    have hnone : l.session = none := h.noSession
    obtain ⟨r, hop, hres, htag, hseq, hbody, hmbox, hstill⟩ := Junction.command_opening h (hrun.trans (if_neg hcred)) hk rfl (by rw [hnone]; rintro _ ⟨⟩)
    have hgiven : (l.given m r false).session = none := by
      rw [Mailbox.given_eq]
      exact hnone
    refine ⟨_, r, hexec, hop, htag, hseq, hbody, ?_, fun h8 => ?_, ?_⟩
    · rw [hmbox, Mailbox.settled_taken]
    · rw [hmbox]
      exact Mailbox.settled_ring l r _ h8
    · rw [if_neg hcred]
      refine ⟨hres, ?_, hstill.trans ?_⟩
      · rw [hmbox]
        exact (congrArg Mailbox.session (Mailbox.settleSession_none hgiven)).trans hgiven
      · exact (Junction.still_of_quiet (Junction.secEvent_quiet (s.jn.without m rest) 1 m)).trans (Junction.setMbox_still _ _ _)

/-- Settles O1. SESSION_OPEN opens where its credential holds, SESSION_CLOSE closes once what was taken is answered, HEARTBEAT starts the 4 ms again. -/
theorem sessionCommands : Obligations.SessionCommands := by
  unfold Obligations.SessionCommands
  refine ⟨?_, fun s m it rest hs hb => sessionClose_closes hs hb, fun s m it rest ss hs hb hss => heartbeat_beats hs hb hss rfl rfl⟩
  intro s m it rest hp hm hl ht hknown hop hclean hown hhere hrun hnone hshape hctx ctx cred now
  obtain ⟨j, r, hexec, hopc, htag, hseq, hbody, htaken, hring, hres⟩ := sessionOpen_opens hp ⟨hm, hl, ht, hknown, hop, hclean, hown, hhere, hrun, hnone, hshape⟩ hctx
  refine ⟨j, r, hexec, hopc, htag, hseq, hbody, htaken, hring, ?_⟩
  change if s.jn.sec.credOk s.jn.id m ctx it.req.seq s.jn.knownTime cred = true then _ else _
  split at hres
  · next hcred =>
    rw [if_pos hcred]
    obtain ⟨hzero, hses, hstill⟩ := hres
    refine ⟨hzero, ?_, hstill⟩
    rw [hses]
    simp [Junction.newSession, ctx, cred]
  · next hcred =>
    rw [if_neg hcred]
    exact hres

end Sys2Proof.Machine

/-! # Security commands: O11 -/

namespace Sys2Proof.Machine

/-! ### Security commands with other mailboxes -/

theorem deviceId_mailBlind : Cmd.deviceId.MailBlind := fun _ _ _ _ => rfl

theorem Junction.secSet_secEvent_withMail (j : Junction) (l : List Mailbox) (s : Sec) (c d : Nat) :
    ({ j.withMail l with sec := s } : Junction).secEvent c d = (({ j with sec := s } : Junction).secEvent c d).withMail l :=
  Junction.secEvent_withMail { j with sec := s } l c d

theorem keyInstall_mailBlind : Cmd.keyInstall.MailBlind := by
  intro j l m q
  have hsec : (j.withMail l).sec = j.sec := rfl
  simp only [Cmd.keyInstall, hsec, Junction.secSet_secEvent_withMail]
  repeat' split
  all_goals rfl

theorem keyList_mailBlind : Cmd.keyList.MailBlind := fun _ _ _ _ => rfl

theorem macsecSa_mailBlind : Cmd.macsecSa.MailBlind := by
  intro j l m q
  have hsec : (j.withMail l).sec = j.sec := rfl
  have hid : (j.withMail l).id = j.id := rfl
  unfold Cmd.macsecSa
  simp -zeta only [hsec, hid]
  extract_lets b port an dir act same key old pn kept
  clear_value b port an dir act same key old pn kept
  split
  · rfl
  split
  · rfl
  split
  · rfl
  split
  · rfl
  cases key with
  | none => rfl
  | some k =>
    dsimp only
    split
    · rw [Junction.secSet_secEvent_withMail]
    · rfl

theorem modeSet_mailBlind : Cmd.modeSet.MailBlind := by
  intro j l m q
  have hsec : (j.withMail l).sec = j.sec := rfl
  have hahead : (j.withMail l).ahead = j.ahead := rfl
  simp only [Cmd.modeSet, hsec, hahead]
  repeat' split
  all_goals rfl

theorem fuseLock_mailBlind : Cmd.fuseLock.MailBlind := by
  intro j l m q
  have hsec : (j.withMail l).sec = j.sec := rfl
  simp only [Cmd.fuseLock, hsec, Junction.secSet_secEvent_withMail]
  repeat' split
  all_goals rfl

theorem rollbackAdvance_mailBlind : Cmd.rollbackAdvance.MailBlind := by
  intro j l m q
  have hsec : (j.withMail l).sec = j.sec := rfl
  simp only [Cmd.rollbackAdvance, hsec, Junction.secSet_secEvent_withMail]
  repeat' split
  all_goals rfl

theorem secEventRead_mailBlind : Cmd.secEventRead.MailBlind := by
  intro j l m q
  have hsec : (j.withMail l).sec = j.sec := rfl
  simp only [Cmd.secEventRead, hsec]
  split <;> rfl

/-! ### What each command does (R466, R468, R469, R473, R476, R481, R482) -/

section
variable {j : Junction} {m : Nat} {q : Request}

/-- The key slot that a KEY_INSTALL fills (R473). -/
def Request.keySlot (q : Request) : KeySlot :=
  { usage := rd q.body 1 1, ctx := rd q.body 2 1, pq := bit (rd q.body 3 1) 0, requirePq := bit (rd q.body 3 1) 1, pub := sub q.body 4 97, pqPub := q.body.drop 104 }

theorem keyInstall_empty {i : Nat} (hi : rd q.body 0 1 = i) (hslot : i ≤ 63) (husage : rd q.body 1 1 ≤ 1) (hctx : rd q.body 2 1 ≤ 15)
    (hempty : Tbl.get none j.sec.keys i = none) :
    Cmd.keyInstall.run j m q =
      (({ j with sec := { j.sec with keys := Tbl.put none j.sec.keys i (some q.keySlot) } } : Junction).secEvent 8 i, .rc 0) := by
  subst hi
  simp only [Cmd.keyInstall]
  rw [if_neg (Nat.not_lt.mpr hslot), if_neg (Nat.not_lt.mpr husage), if_neg (Nat.not_lt.mpr hctx), hempty, if_neg (by decide)]
  rfl

theorem modeSet_allowed {o n : Nat} (ho : rd q.body 0 1 = o) (hn : rd q.body 8 8 = n) (hle : o ≤ 1) (hpart : o = 1 → j.sec.lockPart = false)
    (hopen : o = 0 → j.sec.lockOpen = true → j.sec.lockPart = true) (hahead : j.ahead n = true) :
    Cmd.modeSet.run j m q = ({ j with sec := { j.sec with modeAt := some (n, o == 1) } }, .rc 0) := by
  subst ho hn
  have hfree : ¬((decide (rd q.body 0 1 = 1) && j.sec.lockPart || decide (rd q.body 0 1 = 0) && j.sec.lockOpen && !j.sec.lockPart) = true) := by
    simpa using ⟨hpart, hopen⟩
  simp only [Cmd.modeSet]
  rw [if_neg (Nat.not_lt.mpr hle), if_neg hfree, hahead, if_neg (by decide)]

theorem fuseLock_confirmed {w : Nat} (hw : rd q.body 0 1 = w) (hle : w ≤ 1) (hconf : rd q.body 4 4 = confirmWord) {sec : Sec}
    (hsec : sec = { j.sec with lockPart := j.sec.lockPart || w == 0, lockOpen := j.sec.lockOpen || w == 1 }) :
    Cmd.fuseLock.run j m q = (({ j with sec := { sec with modeAt := sec.modeAt.filter (fun x : Nat × Bool => if sec.lockPart then !x.2 else x.2) } } : Junction).secEvent 9 (w + 1),
      .rc 0) := by
  have hlocked : (if w = 0 then { j.sec with lockPart := true } else { j.sec with lockOpen := true } : Sec) = sec := by
    rw [hsec]
    obtain rfl | rfl : w = 0 ∨ w = 1 := by omega
    · simp
    · simp
  simp only [Cmd.fuseLock, hw]
  rw [if_neg (Nat.not_lt.mpr hle), if_neg (not_not_intro hconf), hlocked]

theorem rollbackAdvance_reached (hconf : rd q.body 4 4 = confirmWord) (hle : rd q.body 0 1 ≤ j.sec.floor) : Cmd.rollbackAdvance.run j m q = (j, .rc 0) := by
  simp only [Cmd.rollbackAdvance]
  rw [if_neg (not_not_intro hconf), if_pos hle]

theorem rollbackAdvance_raises {n : Nat} (hn : rd q.body 0 1 = n) (hconf : rd q.body 4 4 = confirmWord) (hlt : j.sec.floor < n)
    (hrun : n ≤ if j.sec.fw.rom then 0 else fwSvn (j.sec.fw.slot j.sec.fw.running)) (hfall : j.sec.fw.fallback = true → n ≤ fwSvn (j.sec.fw.slot j.sec.fw.staging)) :
    Cmd.rollbackAdvance.run j m q = (({ j with sec := { j.sec with floor := n } } : Junction).secEvent 9 n, .rc 0) := by
  subst hn
  simp only [Cmd.rollbackAdvance]
  rw [if_neg (not_not_intro hconf), if_neg (Nat.not_le.mpr hlt), if_neg (Nat.not_lt.mpr hrun), if_neg (by simpa using hfall)]

theorem secEventRead_oldest {n : Nat} (hn : rd q.body 0 2 = n) (hmin : 1 ≤ n) (hmax : n ≤ 64) :
    Cmd.secEventRead.run j m q = ({ j with sec := { j.sec with events := j.sec.events.drop n } }, .done (rc 0)
      (le 2 (j.sec.events.take n).length ++ zeros 2 ++ le 4 (sat 32 j.sec.evDropped)
        ++ ((j.sec.events.take n).map (fun e => le 2 e.code ++ zeros 2 ++ le 4 e.detail ++ le 8 e.tick)).flatten)) := by
  subst hn
  exact if_neg (by simp; omega)

/-- The place of a MACSEC_SA: its port, number and direction (R469). -/
def Request.sameSa (q : Request) (a : Sa) : Bool := a.port == rd q.body 0 1 && a.an == rd q.body 1 1 && a.dir == rd q.body 2 1

/-- The association that a MACSEC_SA installs with the key k (R469). -/
def Request.newSa (q : Request) (k : Bytes) : Sa :=
  { port := rd q.body 0 1, an := rd q.body 1 1, dir := rd q.body 2 1, active := bit (rd q.body 3 1) 0, ssci := rd q.body 4 4, salt := sub q.body 8 12, nextPn := rd q.body 20 8, sak := k, lowPn := rd q.body 20 8, stopped := decide (pnEnd ≤ rd q.body 20 8) }

/-- The associations that a MACSEC_SA leaves, one that stops sending among them (R469). -/
def Request.keptSas (q : Request) (l : List Sa) : List Sa :=
  (l.filter (fun a => !(q.sameSa a))).map fun (a : Sa) => if rd q.body 2 1 = 1 && bit (rd q.body 3 1) 0 && a.port = rd q.body 0 1 && a.dir = 1 then { a with active := false } else a

/-- The key of a MACSEC_SA, where it unwraps (R469). -/
def Request.saKey (q : Request) (id : Nat) : Option Bytes :=
  unwrapKey "DMSK" (le 1 (rd q.body 0 1) ++ le 1 (rd q.body 1 1) ++ le 1 (rd q.body 2 1) ++ zeros 5) id (sub q.body 28 97) (sub q.body 128 40)

theorem macsecSa_eq (hport : rd q.body 0 1 ≤ 1) (han : rd q.body 1 1 ≤ 3) (hdir : rd q.body 2 1 ≤ 1)
    (hidle : rd q.body 2 1 = 1 → j.sec.sas.any (fun a => q.sameSa a && a.active) = false) (hkeys : j.sec.zeroised = false) :
    Cmd.macsecSa.run j m q = match q.saKey j.id with
      | none => (j, .done (badArg 128) [])
      | some k =>
        let l : Junction := { j with sec := { j.sec with sas := q.keptSas j.sec.sas ++ [q.newSa k] } }
        (if j.sec.sas.any q.sameSa then l.secEvent 10 (rd q.body 0 1) else l, .rc 0) := by
  unfold Cmd.macsecSa
  dsimp -zeta only
  extract_lets b port an dir act same key old pn kept
  have hfree : ¬((decide (dir = 1) && j.sec.sas.any (fun a => same a && a.active)) = true) := by
    simp only [Bool.and_eq_true, decide_eq_true_eq, not_and, Bool.not_eq_true]
    exact hidle
  rw [if_neg (Nat.not_lt.mpr hport), if_neg (Nat.not_lt.mpr han), if_neg (Nat.not_lt.mpr hdir), if_neg hfree,
    show key = q.saKey j.id from if_neg (ne_true_of_eq_false hkeys)]
  rfl

theorem ownerProvision_eq {ss : Session} (hss : (j.mbox m).session = some ss) (hkey : ss.key = 0xFF) (hconf : rd q.body 0 4 = confirmWord) :
    Cmd.ownerProvision.run j m q = if allZero j.sec.ownerHash = true
      then (({ j with sec := { j.sec with ownerHash := ss.owner } } : Junction).secEvent 9 0, .rc 0) else (j, .rc 0x19) := by
  simp only [Cmd.ownerProvision, hss]
  rw [if_neg (not_not_intro hkey), if_neg (not_not_intro hconf)]
  cases allZero j.sec.ownerHash <;> rfl

end

/-! ### KEY_REMOVE and the sessions of the key (R473, R475) -/

/-- The session of the mailbox was opened with the key i. -/
def Mailbox.keyed (x : Mailbox) (i : Nat) : Bool := match x.session with | some s => s.key == i | none => false

/-- What the loss of key i makes of mailbox n, where the command stands in mailbox m. -/
def Mailbox.unkeyed (i m n : Nat) (x : Mailbox) : Mailbox := if x.keyed i then (if n = m then x.close else x.close.settleSession) else x

/-- The mailboxes after the loss of key i. -/
def unkeyedMail (i m : Nat) (l : List Mailbox) : List Mailbox := (List.zip (List.range l.length) l).map fun x => x.2.unkeyed i m x.1

/-- The Junction with key slot i empty and its event noted (R473, R481). -/
def Junction.keyGone (j : Junction) (i : Nat) : Junction := ({ j with sec := { j.sec with keys := Tbl.put none j.sec.keys i none } } : Junction).secEvent 8 i

theorem unkeyedMail_get {i m n : Nat} (l : List Mailbox) : (unkeyedMail i m l)[n]? = l[n]?.map (Mailbox.unkeyed i m n) := by
  unfold unkeyedMail
  rw [List.getElem?_map, List.zip, List.getElem?_zipWith]
  by_cases h : n < l.length
  · rw [List.getElem?_range h, List.getElem?_eq_getElem h]
    rfl
  · rw [List.getElem?_eq_none (Nat.not_lt.mp h)]
    simp

theorem keyRemove_eq {j : Junction} {m i : Nat} {q : Request} {k : KeySlot} (hi : rd q.body 0 1 = i) (hle : i ≤ 63) (hk : Tbl.get none j.sec.keys i = some k) :
    Cmd.keyRemove.run j m q = ((j.keyGone i).withMail (unkeyedMail i m j.mail), .rc 0) := by
  subst hi
  simp only [Cmd.keyRemove]
  rw [if_neg (Nat.not_lt.mpr hle), hk]
  rw [if_neg (show ¬((some k).isNone = true) from Bool.false_ne_true)]
  unfold Junction.keyGone
  rw [← Junction.secEvent_withMail]
  rfl

theorem Mailbox.close_open {x : Mailbox} {ss : Session} (hss : x.session = some ss) (hopen : ss.closing = none) :
    x.close = { x with session := some { ss with closing := some x.taken.length } } := by
  unfold Mailbox.close
  rw [hss]
  simp only [hopen]

theorem Junction.keyGone_withMail (j : Junction) (l : List Mailbox) (i : Nat) : (j.withMail l).keyGone i = (j.keyGone i).withMail l :=
  Junction.secSet_secEvent_withMail j l _ 8 i

/-- The mailbox whose session took `it` up, with `rest` left (R449). -/
def Mailbox.tookUp (x : Mailbox) (it : Taken) (rest : List Taken) (ss : Session) : Mailbox :=
  { x with taken := rest, session := some { ss with seq := it.req.seq, stored := none } }

/-- The mailbox of a KEY_REMOVE itself: its session closes where it was opened with the key. -/
theorem Mailbox.tookUp_unkeyed (x : Mailbox) {it : Taken} {rest : List Taken} {ss : Session} (hopen : ss.closing = none) (i m : Nat) :
    (x.tookUp it rest ss).unkeyed i m m =
      { x with taken := rest, session := some { ss with seq := it.req.seq, stored := none, closing := if ss.key = i then some rest.length else none } } := by
  have hkeyed : (x.tookUp it rest ss).keyed i = (ss.key == i) := rfl
  unfold Mailbox.unkeyed
  rw [if_pos rfl, hkeyed]
  by_cases h : ss.key = i
  · rw [if_pos (beq_iff_eq.mpr h), if_pos h, Mailbox.close_open (ss := { ss with seq := it.req.seq, stored := none }) rfl hopen]
    rfl
  · rw [if_neg (by simpa using h), if_neg h, ← hopen]
    rfl

/-- KEY_REMOVE of a filled slot: the slot is empty, its event noted, and what the sessions of the key have of it. -/
theorem keyRemove_removes {s : State} {m : Nat} {it : Taken} {rest : List Taken} {ss : Session} {k : KeySlot} {i : Nat} (hs : Served s.jn m it rest 0x704 true true false)
    (hbody : body 8 [(1, 7)] it.req.body = true) (hss : (s.jn.mbox m).session = some ss) (hi : rd it.req.body 0 1 = i) (hle : i ≤ 63)
    (hk : Tbl.get none s.jn.sec.keys i = some k) :
    ∃ j, exec (.keyRemove m) s = .next { s with jn := j } ∧ Leaves m j (s.jn.keyGone i) ∧ (j.mbox m).taken = rest
      ∧ (ss.key ≠ i → Replied s.jn j m it rest 0 [])
      ∧ (ss.key = i → (j.mbox m).session.map (fun y => y.closing) = if rest = [] ∧ (s.jn.mbox m).owed = [] then none else some (some rest.length))
      ∧ ∀ n x, n ≠ m → s.jn.mail[n]? = some x → j.mail[n]? = some (x.unkeyed i m n) := by
  have hserved := hs
  obtain ⟨hp, -, hl, -, -, -, -, -, -, hsession, -⟩ := hserved
  obtain ⟨ss', hss', hlive, hopen, -, -⟩ := session_live hsession
  obtain rfl : ss' = ss := Option.some.inj (hss'.symm.trans hss)
  let taken := (s.jn.mbox m).tookUp it rest ss'
  let k' : Junction := (s.jn.keyGone i).withMail (unkeyedMail i m (s.jn.mail.set m taken))
  have hacc : s.jn.accept m it rest = s.jn.withMail (s.jn.mail.set m taken) := Junction.accept_withMail hss
  have hrun : Cmd.keyRemove.run (s.jn.accept m it rest) m it.req = (k', .done (rc 0) []) := by
    rw [hacc, keyRemove_eq (j := s.jn.withMail (s.jn.mail.set m taken)) hi hle hk, Junction.keyGone_withMail]
    rfl
  have hget (n : Nat) : k'.mail[n]? = (s.jn.mail.set m taken)[n]?.map (Mailbox.unkeyed i m n) := unkeyedMail_get _
  have hgetm : k'.mail[m]? = some (taken.unkeyed i m m) := by
    rw [hget, List.getElem?_set_self hl]
    rfl
  have hkl : m < k'.mail.length := (List.getElem?_eq_some_iff.mp hgetm).1
  have hx : k'.mbox m = taken.unkeyed i m m := by
    rw [Junction.mbox, List.getD_eq_getElem?_getD, hgetm]
    rfl
  rw [Mailbox.tookUp_unkeyed _ hopen] at hx
  have hreplied (hkey : ss'.key ≠ i) := (Junction.command_done (c := Cmd.keyRemove) hs (.inl (served_ctx hs)) (.inl rfl) rfl (by decide) hbody hrun (by decide)
    (by unfold Junction.Holds; rw [hx, if_neg hkey]; exact ⟨hkl, rfl, rfl, rfl, _, rfl, rfl, hlive, rfl, rfl⟩)).1
  obtain ⟨r, -, -, -, hseq, hmail, hleaves⟩ := Junction.command_replies hs (c := Cmd.keyRemove) (.inl (served_ctx hs)) rfl rfl (by decide) hbody hrun (by decide) hkl
    (by rw [hx]) (by rw [hx]; rintro _ ⟨⟩; exact hlive)
  have hmbox := Junction.mbox_of_set hkl hmail
  rw [hx] at hmbox
  refine ⟨s.jn.command Cmd.keyRemove m, (exec_keyRemove m s).trans (onJn_next _ _ hp), leaves_mail hleaves, ?_, hreplied, fun hkey => ?_, fun n x hn hx => ?_⟩
  · rw [hmbox, Mailbox.settled_taken]
  · rw [hmbox, if_pos hkey, Mailbox.settled_closing (ss := { ss' with seq := it.req.seq, stored := none, closing := some rest.length }) rfl rfl hlive hseq.symm]
    simp only [List.length_eq_zero_iff]
    split
    · rfl
    · rfl
  · rw [hmail, List.getElem?_set_ne hn.symm, hget, List.getElem?_set_ne hn.symm, hx]
    rfl

theorem Mailbox.unkeyed_other {x : Mailbox} {i : Nat} (h : x.session.all (fun y => decide (y.key ≠ i)) = true) (m n : Nat) : x.unkeyed i m n = x := by
  refine if_neg ?_
  unfold Mailbox.keyed
  cases hss : x.session with
  | none => exact Bool.false_ne_true
  | some ss => simpa [hss] using h

theorem Mailbox.unkeyed_keyed {x : Mailbox} {i m n : Nat} (h : x.session.any (fun y => decide (y.key = i)) = true) (hn : n ≠ m) :
    x.unkeyed i m n = x.close.settleSession := by
  unfold Mailbox.unkeyed
  rw [if_pos, if_neg hn]
  unfold Mailbox.keyed
  cases hss : x.session with
  | none => simp [hss] at h
  | some ss => simpa [hss] using h

theorem served_inRange {j : Junction} {m : Nat} {it : Taken} {rest : List Taken} {op : Nat} {mg rec st : Bool} (hs : Served j m it rest op mg rec st) :
    m < j.mail.length := by
  obtain ⟨-, -, hl, -⟩ := hs
  exact hl

/-- A command that the mailboxes other than its own do not touch completes a served request as it runs on the Junction that took the request up. -/
theorem completes_of_tookUp {x : Res} {s : State} {k : Junction} {m : Nat} {it : Taken} {rest : List Taken} {c : Cmd} {mg : Bool} {r : Rc} {b : Bytes} {ss : Session}
    (hx : x = onJn (·.command c m) s) (hs : Served s.jn m it rest c.op mg c.recovery c.status) (hss : (s.jn.mbox m).session = some ss)
    (hw : it.req.ctx = 0 ∨ c.who = .any) (hop : c.op ≠ 1) (hb : c.shape it.req.body = true) (hcode : r.code ≠ 0x13) {l : List Mailbox}
    (hl : l = s.jn.mail.set m ((s.jn.mbox m).tookUp it rest ss)) (hrun : c.run (s.jn.withMail l) m it.req = (k.withMail l, .done r b)) :
    CompletesWith x s m it rest r.code b k := by
  subst hl
  have hacc := Junction.accept_withMail (it := it) (rest := rest) hss
  have hholds := Junction.accept_holds hs
  rw [hacc] at hholds
  obtain ⟨hreplied, hleaves⟩ := Junction.command_done hs (hw.imp_right .inl) (.inl rfl) rfl hop hb ((congrArg (c.run · m it.req) hacc).trans hrun) hcode hholds
  exact ⟨_, hx.trans (onJn_next _ _ hs.1), hreplied, leaves_mail hleaves⟩

/-- Settles O11. Eight of the ten commands do not look at the sessions; OWNER_PROVISION reads its own and KEY_REMOVE closes those of the key. -/
theorem securityCommands : Obligations.SecurityCommands := by
  unfold Obligations.SecurityCommands
  refine ⟨?deviceId, ?ownerProvision, ?keyInstall, ?keyRemove, ?keyList, ?macsecSa, ?modeSet, ?fuseLock, ?rollbackAdvance, ?secEventRead⟩
  case deviceId =>
    intro s m it rest hs hb
    have hshape : Cmd.deviceId.shape it.req.body = true := by simp [Cmd.deviceId, body, hb]
    exact completes_of_mailBlind deviceId_mailBlind (exec_deviceId m s) hs (.inr rfl) (by decide) hshape (by decide) rfl
  case ownerProvision =>
    intro s m it rest ss hs hb hss hkey hconf
    have hl : m < s.jn.mail.length := served_inRange hs
    let l := s.jn.mail.set m ((s.jn.mbox m).tookUp it rest ss)
    have hsession : ((s.jn.withMail l).mbox m).session = some { ss with seq := it.req.seq, stored := none } :=
      congrArg Mailbox.session (Junction.mbox_of_set (k := s.jn) (x := (s.jn.mbox m).tookUp it rest ss) hl rfl)
    have hrun := ownerProvision_eq (q := it.req) hsession hkey hconf
    have hcompletes {k : Junction} {code : Nat} (hcode : code ≠ 0x13) (hk : Cmd.ownerProvision.run (s.jn.withMail l) m it.req = (k.withMail l, .rc code)) :
        CompletesWith (exec (.ownerProvision m) s) s m it rest code [] k :=
      completes_of_tookUp (exec_ownerProvision m s) hs hss (.inl (served_ctx hs)) (by decide) hb hcode rfl hk
    exact ⟨fun hblank => hcompletes (by decide) ((hrun.trans (if_pos hblank)).trans (by rw [Junction.secSet_secEvent_withMail]; rfl)),
      fun howned => hcompletes (by decide) (hrun.trans (if_neg (ne_true_of_eq_false howned)))⟩
  case keyInstall =>
    intro s m it rest hs hb _ i hi husage hctx hempty _
    exact completes_of_mailBlind keyInstall_mailBlind (exec_keyInstall m s) hs (.inl (served_ctx hs)) (by decide) hb (by decide)
      (keyInstall_empty rfl hi husage hctx hempty)
  case keyRemove =>
    intro s m it rest ss k hs hb hss i hle hk gone
    obtain ⟨j, hexec, hleaves, htaken, hreplied, hclosing, hothers⟩ := keyRemove_removes hs hb hss rfl hle hk
    refine ⟨fun hkey => ⟨j, hexec, hreplied hkey, hleaves⟩, j, hexec, hleaves, htaken, hclosing, fun n x hn hx => ⟨fun h => ?_, fun h => ?_⟩⟩
    · rw [hothers n x hn hx, Mailbox.unkeyed_other h]
    · rw [hothers n x hn hx, Mailbox.unkeyed_keyed h hn]
  case keyList =>
    intro s m it rest hs hb _
    have hshape : Cmd.keyList.shape it.req.body = true := by simp [Cmd.keyList, body, hb]
    exact completes_of_mailBlind keyList_mailBlind (exec_keyList m s) hs (.inl (served_ctx hs)) (by decide) hshape (by decide) rfl
  case macsecSa =>
    intro s m it rest hs hb hflags _ p an dir act same hp han hdir hidle hz
    have hshape : Cmd.macsecSa.shape it.req.body = true := by simp [Cmd.macsecSa, hb, Nat.le_of_lt_succ hflags]
    have hcompletes {k : Junction} {r : Rc} (hcode : r.code ≠ 0x13) (hrun : Cmd.macsecSa.run s.jn m it.req = (k, .done r [])) :
        CompletesWith (exec (.macsecSa m) s) s m it rest r.code [] k :=
      completes_of_mailBlind macsecSa_mailBlind (exec_macsecSa m s) hs (.inl (served_ctx hs)) (by decide) hshape hcode hrun
    have heq := macsecSa_eq (m := m) hp han hdir hidle hz
    split
    · next hkey => exact hcompletes (r := badArg 128) (by decide) (heq.trans (by rw [show it.req.saKey s.jn.id = none from hkey]))
    · next k hkey => exact hcompletes (r := rc 0) (by decide) (heq.trans (by rw [show it.req.saKey s.jn.id = some k from hkey]; rfl))
  case modeSet =>
    intro s m it rest hs hb o n ho hpart hopen hahead
    exact completes_of_mailBlind modeSet_mailBlind (exec_modeSet m s) hs (.inl (served_ctx hs)) (by decide) hb (by decide)
      (modeSet_allowed rfl rfl ho hpart hopen hahead)
  case fuseLock =>
    intro s m it rest hs hb w hw hconf sec keep
    exact completes_of_mailBlind fuseLock_mailBlind (exec_fuseLock m s) hs (.inl (served_ctx hs)) (by decide) hb (by decide)
      (fuseLock_confirmed rfl hw hconf rfl)
  case rollbackAdvance =>
    intro s m it rest hs hb n f hconf
    have hcompletes {k : Junction} (hrun : Cmd.rollbackAdvance.run s.jn m it.req = (k, .rc 0)) :
        CompletesWith (exec (.rollbackAdvance m) s) s m it rest 0 [] k :=
      completes_of_mailBlind rollbackAdvance_mailBlind (exec_rollbackAdvance m s) hs (.inl (served_ctx hs)) (by decide) hb (by decide) hrun
    exact ⟨fun hle => hcompletes (rollbackAdvance_reached hconf hle), fun hlt hrun hfall => hcompletes (rollbackAdvance_raises rfl hconf hlt hrun hfall)⟩
  case secEventRead =>
    intro s m it rest hs hb n l hmin hmax
    exact completes_of_mailBlind secEventRead_mailBlind (exec_secEventRead m s) hs (.inl (served_ctx hs)) (by decide) hb (by decide)
      (secEventRead_oldest rfl hmin hmax)

end Sys2Proof.Machine

/-! # A CUSUM sum that the twin's die states clear: O22 -/

namespace Sys2Proof.Machine

/-! ### A CUSUM sum lost to the twin's die states (R269, R394) -/

/-- Die k takes the epoch e where it is later, and the CUSUM sums of its entity are lost (R269, R394). -/
def Junction.laterEpoch (j : Junction) (k e : Nat) : Junction :=
  if after e (j.die k).epoch then (j.setDie k { j.die k with epoch := e }).resetCusum (put 28 1 + (Tbl.get none j.portMap k).getD 0) else j

/-- What a twin's message says of die k: the body of `Junction.twinStates`. -/
def Junction.twinState (j : Junction) (b : Bytes) (k : Nat) : Junction :=
  if (rd b (12 + 8 * k) 4 % 4 == 3) && (j.die k).st ≠ .dead then ((j.laterEpoch k (rd b (8 + 8 * k) 4)).dieTo k .dead).fence k
  else j.laterEpoch k (rd b (8 + 8 * k) 4)

theorem Junction.twinStates_eq (j : Junction) (b : Bytes) : j.twinStates b = ((List.range 32).foldl (fun j k => j.twinState b k) j).saveEpochs := rfl

/-- The detector states without the CUSUM sums of an entity (R269). -/
def sumsLost (l : List (Nat × DetState)) (entity : Nat) : List (Nat × DetState) :=
  l.filterMap (fun x => if (x.1 % 2 ^ 32 / 2 ^ 28 = 1 || x.1 % 2 ^ 32 / 2 ^ 28 = 2) && x.1 % 2 ^ 17 = entity % 2 ^ 17 then
    (let s := { x.2 with sp := 0, sn := 0 }; if s = DetState.fresh then none else some (x.1, s)) else some x)

theorem Junction.resetCusum_det (j : Junction) (entity : Nat) : (j.resetCusum entity).det = sumsLost j.det entity := rfl

theorem Junction.dieTo_det (j : Junction) (k : Nat) (st : DieSt) : (j.dieTo k st).det = j.det := by
  unfold Junction.dieTo
  dsimp only
  split
  · rfl
  · rw [Junction.logE_det, Junction.setDie_det]

theorem Junction.fence_det (j : Junction) (k : Nat) : (j.fence k).det = j.det := by
  unfold Junction.fence Junction.signal
  split
  · rfl
  · rfl

theorem Junction.saveEpochs_det (j : Junction) : j.saveEpochs.det = j.det := rfl

theorem Junction.laterEpoch_det (j : Junction) (k e : Nat) :
    (j.laterEpoch k e).det = if after e (j.die k).epoch then sumsLost j.det (put 28 1 + (Tbl.get none j.portMap k).getD 0) else j.det := by
  unfold Junction.laterEpoch
  split
  · rw [Junction.resetCusum_det, Junction.setDie_det]
  · rfl

theorem Junction.twinState_det (j : Junction) (b : Bytes) (k : Nat) : (j.twinState b k).det = (j.laterEpoch k (rd b (8 + 8 * k) 4)).det := by
  unfold Junction.twinState
  split
  · rw [Junction.fence_det, Junction.dieTo_det]
  · rfl

/-- A detector state that is gone does not come back. -/
theorem Junction.twinStates_det_nil (b : Bytes) (l : List Nat) {j : Junction} (h : j.det = []) : (l.foldl (fun j k => j.twinState b k) j).det = [] := by
  induction l generalizing j with
  | nil => exact h
  | cons k l ih =>
    refine ih ?_
    rw [Junction.twinState_det, Junction.laterEpoch_det]
    split
    · rw [h]
      rfl
    · exact h

/-- The test state of a twin's message, die 1 in epoch 7, where the entity of die 1 has a CUSUM sum of 5. -/
def sumHeld : State := { Tests.stateSent with jn := { Tests.stateSent.jn with det := [(2 ^ 28, { DetState.fresh with sp := 5 })] } }

theorem onJn_jn {f : Junction → Junction} {s : State} {j : Junction} (hp : s.jn.boot.porst = false) (h : onJn f s = .next { s with jn := j }) : f s.jn = j :=
  congrArg State.jn (Host.Outcome.next.inj ((onJn_next f s hp).symm.trans h))

theorem sumHeld_sum_lost : (((sumHeld.jn.setPort 66 (Tests.tray.port 66)).twinState Tests.stateMsg 0).twinState Tests.stateMsg 1).det = [] := by decide

theorem sumHeld_received_det : (sumHeld.jn.twinStatesReceived 66).det = [] := by
  have hmsg : (sumHeld.jn.port 66).takeInbox 3 2 (fun x => rd x 0 2 == 0x34) = (some (Tests.msg 3 2 Tests.stateMsg), Tests.tray.port 66) :=
    Tests.witness_DieAndSlotEvents_twin.1
  have hdies : List.range 32 = [0, 1] ++ (List.range 30).map (2 + ·) := by decide
  unfold Junction.twinStatesReceived
  rw [hmsg]
  dsimp only
  rw [if_pos (Nat.le_refl 66), Junction.twinStates_eq, Junction.saveEpochs_det, hdies, List.foldl_append]
  exact Junction.twinStates_det_nil _ _ sumHeld_sum_lost

/-- Refutes O22: the twin's later epoch of a die also clears the CUSUM sums of its entity (R269), which the clause of the twin's die states
says is left as it was. In `sumHeld` a sum of 5 goes. -/
theorem not_dieAndSlotEvents : ¬ Obligations.DieAndSlotEvents := by
  unfold Obligations.DieAndSlotEvents
  rintro ⟨-, -, -, -, htwin, -⟩
  obtain ⟨hmsg, hport⟩ := Tests.witness_DieAndSlotEvents_twin
  obtain ⟨j, hexec, -, -, -, hrest⟩ := htwin sumHeld 66 _ _ rfl rfl (.inl rfl) hport hmsg
  have hj : sumHeld.jn.twinStatesReceived 66 = j := onJn_jn (f := (·.twinStatesReceived 66)) (s := sumHeld) rfl ((exec_twinStateExchange 66 sumHeld).symm.trans hexec)
  have hdet : j.quiet.det = sumHeld.jn.quiet.det := by
    injection hrest
  have hlost : j.det = [] := (congrArg Junction.det hj).symm.trans sumHeld_received_det
  have hheld : j.det = sumHeld.jn.det := hdet
  rw [hlost] at hheld
  cases hheld

end Sys2Proof.Machine

/-! # A scrub in cold reset: O32 -/

namespace Sys2Proof.Machine

/-! ### A scrub while the Junction is held in cold reset (R352, R498) -/

theorem exec_scrubAccess_held {s : State} (h : s.jn.boot.porst = true) (m a f : Nat) (o : LineOwner) : exec (.scrubAccess .jn m a f o) s = .next s :=
  (exec_scrubAccess .jn m a f o s).trans (onJn_held (·.scrub m a f o) s h)

/-- Refutes O32: the Junction of `State.reset` is held in cold reset and does nothing, so a scrub there that corrects a line leaves the count of
corrected errors, which the clause of corrected lines raises in every state. -/
theorem not_forecastAndStorageEvents : ¬ Obligations.ForecastAndStorageEvents := by
  unfold Obligations.ForecastAndStorageEvents
  rintro ⟨-, -, -, -, -, -, hscrub, -⟩
  obtain ⟨-, hcounted⟩ := hscrub State.reset 0 0 .byAddress
  have hnext := Host.Outcome.next.inj ((exec_scrubAccess_held rfl 0 0 1 .byAddress).symm.trans hcounted)
  have hcount : State.reset.jn.errs.corrected = State.reset.jn.errs.corrected + 1 := congrArg (fun t : State => t.jn.errs.corrected) hnext
  exact absurd hcount (Nat.ne_of_lt (Nat.lt_succ_self _))

end Sys2Proof.Machine

/-! # Registers and mailbox windows: O17 -/

namespace Sys2Proof.Machine

/-! ### Reaching the registers (R527) -/

section
variable {s : State} {tap : Bool}

theorem onBar_next (f : Junction → Junction) (h : s.jn.reaches tap true = true) : onBar tap f s = .next { s with jn := f s.jn } := by
  unfold onBar atJn
  dsimp only
  rw [if_pos h]

theorem onBar_unreached (f : Junction → Junction) (h : s.jn.reaches tap true = false) : onBar tap f s = .next s := by
  unfold onBar atJn
  dsimp only
  rw [if_neg (ne_true_of_eq_false h)]

theorem onMbox_next (f : Mailbox → Mailbox) (h : s.jn.reaches tap true = true) {m : Nat} (hm : m < 8) :
    onBar tap (fun j => j.onMbox m f) s = .next { s with jn := s.jn.setMbox m (f (s.jn.mbox m)) } := by
  rw [onBar_next _ h, Junction.onMbox, if_pos hm]

theorem Junction.reaches_iff (j : Junction) (tap write : Bool) :
    j.reaches tap write = true ↔ j.boot.porst = false ∧ (tap = true → (if write then 2 else 1) ≤ j.sec.tap.level) := by
  unfold Junction.reaches
  cases tap <;> simp

/-! ### Reads (R528) -/

theorem csrRead_whole {off : Nat} (h : s.jn.reaches tap false = true) (h8 : off % 8 = 0) :
    s.jn.csrRead tap off 8 = { s.jn with readData := some (s.jn.csr off) } := by
  unfold Junction.csrRead
  rw [h, if_neg (by decide), if_pos (by simp [h8])]

theorem csrRead_low {off : Nat} (h : s.jn.reaches tap false = true) (h8 : off % 8 = 0) (hlow : off < 0x1000000) :
    s.jn.csrRead tap off 4 = { s.jn with
      readData := some (w64 ((s.jn.csr off).toNat % 2 ^ 32)), latch := Tbl.put 0 s.jn.latch off ((s.jn.csr off).toNat / 2 ^ 32 + 1) } := by
  unfold Junction.csrRead
  rw [h, if_neg (by decide), if_neg (by simp), if_pos (by simp [h8])]
  dsimp only
  rw [if_pos (by simp [hlow])]

theorem csrRead_latched {off k : Nat} (h : s.jn.reaches tap false = true) (h8 : off % 8 = 0) (hlatch : Tbl.get 0 s.jn.latch off = k + 1) :
    s.jn.csrRead tap (off + 4) 4 = { s.jn with readData := some (w64 k), latch := Tbl.put 0 s.jn.latch off 0 } := by
  have h4 : (off + 4) % 8 = 4 := by omega
  unfold Junction.csrRead
  rw [h, if_neg (by decide), if_neg (by simp), if_neg (by simp [h4]), if_pos (by simp [h4]), Nat.add_sub_cancel]
  simp only [hlatch]

/-! ### Writes (R442, R443, R531, R536) -/

theorem Mailbox.writeReqTail_eq (x : Mailbox) {v : Nat} (hv : v < 65536) :
    x.writeReqTail v = { x with reqTail := v, err := x.err || (x.enable && decide (x.slots < (v + 65536 - x.reqHead % 65536) % 65536)) } := by
  unfold Mailbox.writeReqTail idxDiff
  rw [Nat.mod_eq_of_lt hv]

theorem Mailbox.writeRplHead_eq (x : Mailbox) {v : Nat} (hv : v < 65536) : x.writeRplHead v =
    if (x.rplTail + 65536 - x.rplHead % 65536) % 65536 < (v + 65536 - x.rplHead % 65536) % 65536 then { x with rplHead := v, err := true }
    else { x with rplHead := v, replies := x.replies.drop ((v + 65536 - x.rplHead % 65536) % 65536) } := by
  unfold Mailbox.writeRplHead idxDiff
  dsimp only
  rw [Nat.mod_eq_of_lt hv]
  simp only [decide_eq_true_eq]

/-- A write of CTRL that takes: ERR is clear after it, and an enabled mailbox restarts. -/
theorem Mailbox.writeCtrl_taken {x : Mailbox} {v : Nat} (h : x.err = false ∧ x.enable = false ∨ x.err = true ∧ bit v 4 = true) :
    x.writeCtrl v = if bit v 0 then ({ x with err := false, enable := bit v 0, slotsLog2 := fld v 1 3 } : Mailbox).restart
      else { x with err := false, enable := bit v 0, slotsLog2 := fld v 1 3 } := by
  unfold Mailbox.writeCtrl
  obtain ⟨herr, henable⟩ | ⟨herr, hclear⟩ := h
  · rw [if_neg (ne_true_of_eq_false herr), if_neg (ne_true_of_eq_false henable), ← herr]
  · rw [if_pos herr, if_pos hclear]

theorem Mailbox.writeCtrl_inUse {x : Mailbox} {v : Nat} (herr : x.err = false) (henable : x.enable = true) : x.writeCtrl v = { x with err := true } := by
  unfold Mailbox.writeCtrl
  rw [if_neg (ne_true_of_eq_false herr), if_pos henable]

theorem Mailbox.writeCtrl_broken {x : Mailbox} {v : Nat} (herr : x.err = true) (hleft : bit v 4 = false) : x.writeCtrl v = x := by
  unfold Mailbox.writeCtrl
  rw [if_pos herr, if_neg (ne_true_of_eq_false hleft)]

theorem Mailbox.writeBase_inUse {x : Mailbox} {v : Nat} (rpl : Bool) (henable : x.enable = true) : x.writeBase rpl v = { x with err := true } := by
  unfold Mailbox.writeBase
  rw [if_pos henable]

theorem pageAligned (v : Nat) : v / 4096 * 4096 = v - v % 4096 := by omega

theorem writeMbox_ctrl {m v : Nat} (h : s.jn.reaches tap true = true) (hm : m < 8) (hv : fld v 1 3 ≠ 7) :
    exec (.mailboxCtrlWrite tap m .ctrl v) s = .next { s with jn := s.jn.setMbox m ((s.jn.mbox m).writeCtrl v) } := by
  have hnot : ¬(s.jn.reservedSlots tap m v = true) := by simp [Junction.reservedSlots, hv]
  rw [exec_mailboxCtrlWrite, writeMbox, if_neg hnot, onMbox_next _ h hm]

theorem barReserved_below {off : Nat} (size v : Nat) (hoff : off < 0x1000000) : s.jn.barReserved tap off size v = false := by
  have hbelow : inRange off 0x1000000 0x200 = false := by simp [inRange, hoff]
  rw [Junction.barReserved, hbelow]
  rfl

theorem barWrite_csr {j : Junction} {off : Nat} (v : Nat) (h : j.reaches tap true = true) (hoff : off < 0x1000000) :
    j.barWrite tap off 4 v = if off % 4 = 0 then j.csrWrite4 off (v % 2 ^ 32) else j := by
  have hbelow : inRange off 0x1000000 0x200 = false := by simp [inRange, hoff]
  unfold Junction.barWrite Junction.barWrite4
  simp [h, hbelow]

theorem barWrite_unreached {j : Junction} (off size v : Nat) (h : j.reaches tap true = false) : j.barWrite tap off size v = j := by
  unfold Junction.barWrite
  rw [h]
  rfl

/-- A plain write of 4 bytes below the mailbox windows reaches the control and status registers alone. -/
theorem registerWrite_csr {off : Nat} (v mask : Word) (h : s.jn.reaches tap true = true) (hoff : off < 0x1000000) :
    exec (.registerWrite (.bar tap) off 4 v mask) s = .next { s with jn := if off % 4 = 0 then s.jn.csrWrite4 off (v.toNat % 2 ^ 32) else s.jn } := by
  rw [exec_registerWrite, writeRegister, if_neg (ne_true_of_eq_false (barReserved_below 4 _ hoff)), atJn, barWrite_csr _ h hoff]

theorem csrWrite4_port {j : Junction} {p : Nat} (v : Nat) (hp : p ≤ 67) :
    j.csrWrite4 (0x1000 + 16 * p) v = if bit v 5 then j.setPort p { j.port p with cablingErr := false } else j := by
  have hin : inRange (0x1000 + 16 * p) 0x1000 1088 = true := by simp [inRange]; omega
  have hplace : (0x1000 + 16 * p - 0x1000) / 16 = p := by omega
  unfold Junction.csrWrite4
  rw [if_neg (by omega), if_pos (by simp [hin]), hplace]
  rfl

theorem csrWrite4_plain {j : Junction} {off : Nat} (v : Nat) (herr : off ≠ 0x200) (hout : off < 0x1000 ∨ 0x1440 ≤ off) : j.csrWrite4 off v = j := by
  have hin : inRange off 0x1000 1088 = false := by simp [inRange]; omega
  unfold Junction.csrWrite4
  rw [if_neg herr, hin]
  rfl

/-- Held in cold reset, or over a TAP that is not unlocked, no write reaches a register (R529). -/
theorem registerWrite_unreached {off size : Nat} {v mask : Word} (h : s.jn.reaches tap true = false) :
    exec (.registerWrite (.bar tap) off size v mask) s = .next s := by
  have hnot : s.jn.barReserved tap off size v.toNat = false := by simp [Junction.barReserved, Junction.reservedSlots, h]
  rw [exec_registerWrite, writeRegister, if_neg (ne_true_of_eq_false hnot), atJn, barWrite_unreached _ _ _ h]

end

/-- Settles O17, register by register: what a read returns and latches, and what a write that reaches its register makes of it. -/
theorem junctionRegisters : Obligations.JunctionRegisters := by
  unfold Obligations.JunctionRegisters
  refine ⟨?whole, ?low, ?high, ?tail, ?head, ?ctrl, ?base, ?clear, ?clearSame, ?port, ?plain, ?unreached, ?write, ?read⟩
  case whole =>
    intro s tap off h h8
    rw [exec_jnRegLowHalfRead, atJn, csrRead_whole h h8]
  case low =>
    intro s tap off h h8 hlow _
    rw [exec_jnRegLowHalfRead, atJn, csrRead_low h h8 hlow]
    rfl
  case high =>
    intro s tap off k h h8 hlatch
    rw [exec_jnRegLowHalfRead, atJn, csrRead_latched h h8 hlatch]
    rfl
  case tail =>
    intro s tap m v h hm hv _
    rw [exec_mailboxReqTailWrite, onMbox_next _ h hm, Mailbox.writeReqTail_eq _ hv]
  case head =>
    intro s tap m v h hm hv x n
    rw [exec_mailboxRplHeadWrite, onMbox_next _ h hm, Mailbox.writeRplHead_eq _ hv]
    exact ⟨fun hle => by rw [if_neg (Nat.not_lt.mpr hle)], fun hlt => by rw [if_pos hlt]⟩
  case ctrl =>
    intro s tap m v h hm hv x y z
    rw [writeMbox_ctrl h hm hv]
    refine ⟨fun herr henable => ?_, fun herr hleft => ?_, fun htaken => ?_⟩
    · rw [Mailbox.writeCtrl_inUse herr henable]
    · rw [Mailbox.writeCtrl_broken herr hleft]
    · rw [Mailbox.writeCtrl_taken htaken]
      rfl
  case base =>
    intro s tap m v h hm _ x
    rw [exec_mailboxCtrlWrite, exec_mailboxCtrlWrite, writeMbox, writeMbox]
    rw [onMbox_next _ h hm, onMbox_next _ h hm]
    refine ⟨fun henable => ?_, fun hoff => ?_⟩
    · rw [Mailbox.writeBase_inUse _ henable, Mailbox.writeBase_inUse _ henable]
      exact ⟨rfl, rfl⟩
    · unfold Mailbox.writeBase
      rw [if_neg (ne_true_of_eq_false hoff), if_neg (ne_true_of_eq_false hoff), pageAligned]
      exact ⟨rfl, rfl⟩
  case clear =>
    intro s tap h
    rw [exec_jnErrCaptureClear, onBar_next _ h]
    rfl
  case clearSame =>
    intro s tap c u a h e
    rw [exec_jnErrCaptureClear, onBar_next _ h]
    rfl
  case port =>
    intro s tap p v mask h hp v1
    rw [registerWrite_csr v mask h (by omega), if_pos (by omega), csrWrite4_port _ hp]
  case plain =>
    intro s tap off v mask h hoff herr hout
    rw [registerWrite_csr v mask h hoff, csrWrite4_plain _ herr hout, ite_self]
  case unreached =>
    intro s tap m v off size w mask h
    have hnot : ¬(s.jn.reservedSlots tap m v = true) := by simp [Junction.reservedSlots, h]
    exact ⟨onBar_unreached _ h, onBar_unreached _ h, (if_neg hnot).trans (onBar_unreached _ h), onBar_unreached (·.captureClear []) h, registerWrite_unreached h⟩
  case write => exact fun j tap => j.reaches_iff tap true
  case read => exact fun j tap => j.reaches_iff tap false

end Sys2Proof.Machine

/-! # Requests, datagrams, relays and session expiry: O18 -/

namespace Sys2Proof.Machine

/-! ### A request enters the queue of a mailbox (R443 to R445) -/

theorem Junction.setMbox_absent {j : Junction} {m : Nat} (h : j.mail.length ≤ m) (x : Mailbox) : j.setMbox m x = j := by
  unfold Junction.setMbox
  rw [List.set_eq_of_length_le h]

theorem Junction.mbox_absent {j : Junction} {m : Nat} (h : j.mail.length ≤ m) : j.mbox m = Mailbox.init := by
  rw [Junction.mbox, List.getD_eq_default _ _ h]

/-- A mailbox put in place, and a request put at the end of its queue, with a known request at the head. -/
theorem Junction.setMbox_enqueue (j : Junction) (m : Nat) (x : Mailbox) (it : Taken) (h : ((x.taken ++ [it]).head?.all fun i => knownOps.contains i.req.opcode) = true) :
    (j.setMbox m x).enqueue m it = j.setMbox m { x with taken := x.taken ++ [it] } := by
  unfold Junction.enqueue
  by_cases hl : m < j.mail.length
  · dsimp only
    rw [Junction.setMbox_mbox _ _ _ hl, Junction.setMbox_setMbox, Junction.settle_known]
    intro n hn
    rw [Junction.setMbox_mbox _ _ _ hl] at hn
    rw [hn] at h
    simpa using h
  · have habsent : j.mail.length ≤ m := Nat.not_lt.mp hl
    dsimp only
    rw [Junction.setMbox_absent habsent, Junction.setMbox_absent habsent, Junction.setMbox_absent habsent, Junction.settle_known]
    intro n hn
    rw [Junction.mbox_absent habsent] at hn
    cases hn

theorem Junction.enqueue_known (j : Junction) (m : Nat) (it : Taken) (h : (((j.mbox m).taken ++ [it]).head?.all fun i => knownOps.contains i.req.opcode) = true) :
    j.enqueue m it = j.setMbox m { j.mbox m with taken := (j.mbox m).taken ++ [it] } := by
  have hself : j.setMbox m (j.mbox m) = j := by
    unfold Junction.setMbox Junction.mbox
    by_cases hl : m < j.mail.length
    · rw [List.getD_eq_getElem?_getD, List.getElem?_eq_getElem hl, Option.getD_some, List.set_getElem_self]
    · rw [List.set_eq_of_length_le (Nat.not_lt.mp hl)]
  have := j.setMbox_enqueue m (j.mbox m) it h
  rwa [hself] at this

/-! ### PCIe mailboxes (R443) -/

theorem requestTake_takes {j : Junction} {m : Nat} {slot : Bytes} {q : Request} (htakes : j.takes = true) (hm : m < 8) (henable : (j.mbox m).enable = true)
    (herr : (j.mbox m).err = false) (hlive : (j.mbox m).live = true) (hposted : (j.mbox m).reqHead ≠ (j.mbox m).reqTail)
    (hroom : ((j.mbox m).reqHead + 65536 - (j.mbox m).rplHead % 65536) % 65536 < (j.mbox m).slots)
    (hq : Request.decode (fit (32 + min (rd slot 0x10 4) 65568) slot) = some q)
    (hknown : (((j.mbox m).taken ++ [(⟨q, j.id, 0⟩ : Taken)]).head?.all fun i => knownOps.contains i.req.opcode) = true) :
    j.requestTake m slot = j.setMbox m { j.mbox m with reqHead := ((j.mbox m).reqHead + 1) % 65536, taken := (j.mbox m).taken ++ [⟨q, j.id, 0⟩] } := by
  have hready : ¬((decide (8 ≤ m) || !j.takes || !(j.mbox m).enable || (j.mbox m).err || !(j.mbox m).live || decide ((j.mbox m).reqHead = (j.mbox m).reqTail)
      || decide ((j.mbox m).slots ≤ idxDiff (j.mbox m).reqHead (j.mbox m).rplHead)) = true) := by
    simp [htakes, henable, herr, hlive, hposted, idxDiff, hm, Nat.not_le.mpr hroom]
  unfold Junction.requestTake
  dsimp only
  rw [if_neg hready, hq]
  exact j.setMbox_enqueue m { j.mbox m with reqHead := ((j.mbox m).reqHead + 1) % 65536 } _ hknown

theorem requestTake_waits {j : Junction} {m : Nat} (slot : Bytes) (h : j.takes = false ∨ (j.mbox m).enable = false ∨ (j.mbox m).err = true
      ∨ (j.mbox m).reqHead = (j.mbox m).reqTail ∨ (j.mbox m).slots ≤ ((j.mbox m).reqHead + 65536 - (j.mbox m).rplHead % 65536) % 65536) :
    j.requestTake m slot = j := by
  unfold Junction.requestTake
  refine if_pos ?_
  obtain h | h | h | h | h := h
  · simp [h]
  · simp [h]
  · simp [h]
  · simp [h]
  · simp [idxDiff, h]

/-! ### Ethernet mailboxes (R444, R475) -/

/-- A datagram of one segment from a peer that may use the mailbox, past MACsec: its request is queued. -/
theorem segment_whole {j : Junction} {p m src : Nat} {b : Bytes} {q : Request} (hpeer : (j.mbox m).session = none ∨ (j.mbox m).peer = src)
    (hlive : (j.mbox m).live = true) (hmagic : rd b 0 4 = 0x58424D44) (hkind : rd b 5 1 = 0) (hcount : rd b 7 1 = 1) (hindex : rd b 6 1 = 0)
    (hlen : (b.drop 16).length ≤ 8192) (hnew : (j.mbox m).segs.all (fun g => g.2.1 != rd b 8 8) = true) (hq : Request.decode (b.drop 16) = some q)
    (hknown : (((j.mbox m).taken ++ [(⟨q, j.id, 0⟩ : Taken)]).head?.all fun i => knownOps.contains i.req.opcode) = true) :
    j.segment p m src b = j.setMbox m { j.mbox m with peer := src, via := p, taken := (j.mbox m).taken ++ [⟨q, j.id, 0⟩] } := by
  have hallowed : ¬(((j.mbox m).session.isSome && decide ((j.mbox m).peer ≠ src)) = true) := by
    obtain h | h := hpeer <;> simp [h]
  have hform : ¬((!(j.mbox m).live || decide (rd b 0 4 ≠ 0x58424D44) || decide (rd b 5 1 ≠ 0) || decide (1 = 0) || decide (9 < 1) || decide (1 ≤ 0)
      || decide (8192 < (b.drop 16).length)) = true) := by
    simp only [hlive, hmagic, hkind, Nat.not_lt.mpr hlen]
    decide
  have hfirst : (j.mbox m).segs.find? (fun s => s.2.1 == rd b 8 8 && s.2.2.length == 1) = none := by
    rw [List.find?_eq_none]
    intro g hg
    have := List.all_eq_true.mp hnew g hg
    simp only [bne_iff_ne, ne_eq] at this
    simp [this]
  have hkept : (j.mbox m).segs.filter (fun s => s.2.1 != rd b 8 8) = (j.mbox m).segs := List.filter_eq_self.mpr (List.all_eq_true.mp hnew)
  unfold Junction.segment
  dsimp only
  rw [if_neg hallowed, hcount, hindex, if_neg hform, hfirst, hkept]
  dsimp only [List.replicate, List.set]
  simp only [List.all_cons, Option.isSome_some, List.all_nil, Bool.and_self, if_true, List.map_cons, Option.getD_some, List.map_nil, List.flatten_cons, List.flatten_nil, List.append_nil, hq]
  exact j.setMbox_enqueue m { j.mbox m with peer := src, via := p } _ hknown

theorem datagram_passed {j : Junction} {p an pn src : Nat} {b : Bytes} {tx a : Sa} (hp : j.boot.porst = false) (hphase : j.boot.phase = 4) (heth : p < 2)
    (hrun : j.sec.fw.paused = false) (hlow : 8 ≤ rd b 4 1) (hhigh : rd b 4 1 ≤ 15) (htx : j.sec.txSa p = some tx) (hrx : j.sec.rxSa p an = some a)
    (hfresh : max a.lowPn (a.nextPn - 64) ≤ pn) (hend : max a.nextPn (pn + 1) < pnEnd) {k : Junction}
    (hk : k = { j with sec := { j.sec with sas := j.sec.sas.map (fun (y : Sa) => if y = a then { y with nextPn := max a.nextPn (pn + 1), stopped := false } else y) } }) :
    j.datagram p true an pn src b = if Config.macsecOk a.sak (BitVec.ofNat 64 a.ssci) a.salt pn b then k.segment p (rd b 4 1) src b
      else j.dropDatagram (rd b 4 1) := by
  have hgone : decide (pnEnd ≤ max a.nextPn (pn + 1)) = false := decide_eq_false (Nat.not_le.mpr hend)
  have hserves : ¬((decide (2 ≤ p) || decide (j.boot.phase ≠ 4) || j.boot.porst) = true) := by simp [hphase, hp, heth]
  have hbox : ¬((decide (rd b 4 1 < 8) || decide (15 < rd b 4 1)) = true) := by simp [hlow, hhigh]
  have hprotected : ¬((!true || (j.sec.txSa p).isNone) = true) := by simp [htx]
  subst hk
  unfold Junction.datagram
  dsimp only
  rw [if_neg hserves, if_neg (ne_true_of_eq_false hrun), if_neg hbox, if_neg hprotected, hrx]
  dsimp only
  rw [hgone, if_neg Bool.false_ne_true]
  cases Config.macsecOk a.sak (BitVec.ofNat 64 a.ssci) a.salt pn b
  · rw [if_pos (by simp), if_neg Bool.false_ne_true]
  · rw [if_neg (by simp; omega), if_pos rfl]

theorem datagram_refused {j : Junction} {p an pn src : Nat} {b : Bytes} {prot : Bool} (hp : j.boot.porst = false) (hphase : j.boot.phase = 4) (heth : p < 2)
    (hrun : j.sec.fw.paused = false) (hlow : 8 ≤ rd b 4 1) (hhigh : rd b 4 1 ≤ 15) (hbad : prot = false ∨ j.sec.txSa p = none ∨ j.sec.rxSa p an = none) :
    j.datagram p prot an pn src b = j.dropDatagram (rd b 4 1) := by
  have hserves : ¬((decide (2 ≤ p) || decide (j.boot.phase ≠ 4) || j.boot.porst) = true) := by simp [hphase, hp, heth]
  have hbox : ¬((decide (rd b 4 1 < 8) || decide (15 < rd b 4 1)) = true) := by simp [hlow, hhigh]
  unfold Junction.datagram
  dsimp only
  rw [if_neg hserves, if_neg (ne_true_of_eq_false hrun), if_neg hbox]
  split
  · rfl
  · next hprotected =>
    have hrx : j.sec.rxSa p an = none := by
      obtain h | h | h := hbad
      · simp [h] at hprotected
      · simp [h] at hprotected
      · exact h
    rw [hrx]

/-! ### Relays (R445, R446) -/

theorem rd_drop (b : Bytes) (k off len : Nat) : rd (b.drop k) off len = rd b (k + off) len := by
  unfold rd sub
  rw [List.drop_drop]

theorem Junction.setPort_id (j : Junction) (p : Nat) (x : Port) : (j.setPort p x).id = j.id := rfl

section
variable {j : Junction} {p : Nat} {g : RxMsg} {x : Port} {q : Request}

theorem relayedRequest_here (hbox : (j.port p).takeInbox 3 1 (fun b => isRelayed false b && (j.takes || rd b 4 4 % 2 ^ 17 != j.id)) = (some g, x))
    (hq : Request.decode (g.bytes.drop 16) = some q) (hhere : rd g.bytes 4 4 % 2 ^ 17 = j.id)
    (hknown : (((j.mbox 16).taken ++ [(⟨q, rd g.bytes 0 4, p⟩ : Taken)]).head?.all fun i => knownOps.contains i.req.opcode) = true) :
    j.relayedRequest p = (j.setPort p x).setMbox 16 { j.mbox 16 with taken := (j.mbox 16).taken ++ [⟨q, rd g.bytes 0 4, p⟩] } := by
  unfold Junction.relayedRequest
  rw [hbox]
  dsimp only
  rw [hq]
  dsimp only
  rw [Junction.setPort_id, if_pos hhere]
  exact (j.setPort p x).enqueue_known 16 _ hknown

theorem relayedRequest_onward {h : Nat} (hbox : (j.port p).takeInbox 3 1 (fun b => isRelayed false b && (j.takes || rd b 4 4 % 2 ^ 17 != j.id)) = (some g, x))
    (hq : Request.decode (g.bytes.drop 16) = some q) (haway : rd g.bytes 4 4 % 2 ^ 17 ≠ j.id) (hhop : (j.setPort p x).nextHop (rd g.bytes 4 4) = some h) :
    j.relayedRequest p = ({ j.setPort p x with hops := j.hops ++ [⟨rd g.bytes 0 4, q.tag, q.seq, p, j.clk.up⟩] } : Junction).send h 3 1 0
      (relayHead (rd g.bytes 0 4) (rd g.bytes 4 4) (rd g.bytes 8 1 + 1) false ++ q.bytes) := by
  unfold Junction.relayedRequest
  rw [hbox]
  dsimp only
  rw [hq]
  dsimp only
  rw [Junction.setPort_id, if_neg haway, hhop]
  rfl

theorem relayedRequest_unreachable (hbox : (j.port p).takeInbox 3 1 (fun b => isRelayed false b && (j.takes || rd b 4 4 % 2 ^ 17 != j.id)) = (some g, x))
    (hq : Request.decode (g.bytes.drop 16) = some q) (haway : rd g.bytes 4 4 % 2 ^ 17 ≠ j.id) (hhop : (j.setPort p x).nextHop (rd g.bytes 4 4) = none) :
    ∃ r : Reply, r.result = 0x18 ∧ r.tag = q.tag ∧ r.relayed = true
      ∧ j.relayedRequest p = (j.setPort p x).send p 3 1 0 (relayHead (rd g.bytes 0 4) j.id 0 true ++ r.bytes) := by
  refine ⟨{ (j.setPort p x).reply 16 q (j.setPort p x).execTick (rc 0x18) [] with relayed := true }, rfl, rfl, rfl, ?_⟩
  unfold Junction.relayedRequest
  rw [hbox]
  dsimp only
  rw [hq]
  dsimp only
  rw [Junction.setPort_id, if_neg haway, hhop]

theorem relayedReply_onward {h : Hop} (hbox : (j.port p).takeInbox 3 1 (isRelayed true) = (some g, x)) (haway : rd g.bytes 0 4 % 2 ^ 17 ≠ j.id)
    (hhops : j.hops = [h]) (horigin : h.origin = rd g.bytes 0 4) (htag : h.tag = rd g.bytes 20 4) (hseq : h.seq = rd g.bytes 24 8) :
    j.relayedReply p = ({ j.setPort p x with hops := [] } : Junction).send h.port 3 1 0 g.bytes := by
  have hmatch : [h].find? (fun y => y.origin == rd g.bytes 0 4 && y.tag == (Reply.decode (g.bytes.drop 16)).tag && y.seq == (Reply.decode (g.bytes.drop 16)).seq) = some h := by
    simp [Reply.decode, rd_drop, horigin, htag, hseq]
  unfold Junction.relayedReply
  rw [hbox]
  dsimp only
  rw [Junction.setPort_id, if_neg haway]
  change (match ((j.setPort p x).hops).find? _ with | some h => _ | none => _) = _
  rw [show (j.setPort p x).hops = [h] from hhops, hmatch]
  simp

end

/-! ### Sessions that expire (R456) -/

theorem sessionExpiry_ends {j : Junction} {m : Nat} {ss : Session} (hss : (j.mbox m).session = some ss) (hlive : ss.expired = false) (hrun : j.sec.fw.paused = false)
    (hold : ss.lastBeat + 4000000 * uNs ≤ j.clk.up) (hopen : ss.closing = none) :
    j.sessionExpiry m = ((j.setMbox m { j.mbox m with
      session := if (j.mbox m).taken = [] ∧ (j.mbox m).owed = [] then none else some { ss with expired := true }, err := (j.mbox m).err || decide (m < 8) }).logE 0x30 [m, ss.ctx]).notice 5 := by
  have hdue : ¬((ss.expired || j.sec.fw.paused || decide (j.clk.up < ss.lastBeat + 4000000 * uNs)) = true) := by simp [hlive, hrun, hold]
  have hsettled : ({ j.mbox m with session := some { ss with expired := true }, err := (j.mbox m).err || decide (m < 8) } : Mailbox).settleSession
      = { j.mbox m with session := if (j.mbox m).taken = [] ∧ (j.mbox m).owed = [] then none else some { ss with expired := true }, err := (j.mbox m).err || decide (m < 8) } := by
    unfold Mailbox.settleSession
    simp only [hopen, Bool.true_and]
    by_cases h : (j.mbox m).taken = [] ∧ (j.mbox m).owed = []
    · simp [h.1, h.2]
    · rw [if_neg (by simpa using h), if_neg h]
  unfold Junction.sessionExpiry
  dsimp only
  rw [hss]
  dsimp only
  rw [if_neg hdue, hsettled]

theorem sessionExpiry_early {j : Junction} {m : Nat} {ss : Session} (hss : (j.mbox m).session = some ss) (h : j.clk.up < ss.lastBeat + 4000000 * uNs) :
    j.sessionExpiry m = j := by
  unfold Junction.sessionExpiry
  dsimp only
  rw [hss]
  exact if_pos (by simp [h])

/-! ### Replies that are owed (R450, R452) -/

theorem Junction.send_mail (j : Junction) (p vc subch tag : Nat) (b : Bytes) : (j.send p vc subch tag b).mail = j.mail := by
  unfold Junction.send
  split
  · rfl
  · rfl

theorem Junction.setMbox_other {m n : Nat} (j : Junction) (x : Mailbox) (h : n ≠ m) : (j.setMbox n x).mail[m]? = j.mail[m]? := List.getElem?_set_ne h

theorem Junction.deliver_other {m n : Nat} (j : Junction) (it : Taken) (r : Reply) (h : n ≠ m) : (j.deliver n it r).mail[m]? = j.mail[m]? := by
  unfold Junction.deliver
  split
  · rw [Junction.send_mail]
  · split
    · exact j.setMbox_other _ h
    · rw [Junction.sendProtected_mail]

/-- A reply in mailbox n leaves every other mailbox as it was. -/
theorem Junction.giveReply_other {m n : Nat} (j : Junction) (it : Taken) (r : Reply) (keep : Bool) (h : n ≠ m) : (j.giveReply n it r keep).mail[m]? = j.mail[m]? := by
  unfold Junction.giveReply
  extract_lets x gone stored told
  have hstored : stored.mail[m]? = j.mail[m]? := j.setMbox_other _ h
  have htold : told.mail[m]? = j.mail[m]? := by
    unfold told
    split
    · exact hstored
    · exact (stored.deliver_other it r h).trans hstored
  exact (told.setMbox_other _ h).trans htold

theorem Junction.payMailbox_other {m n : Nat} (j : Junction) (pick : Owed → Bool) (r : Request → Nat → Reply) (h : n ≠ m) :
    (j.payMailbox n pick r).mail[m]? = j.mail[m]? := by
  unfold Junction.payMailbox
  dsimp only
  split
  · rfl
  · exact (foldl_keeps (fun k : Junction => k.mail[m]?) _ (fun k o => k.giveReply_other _ _ _ h) _ _).trans (j.setMbox_other _ h)

theorem Junction.payMailbox_none {j : Junction} {m : Nat} {pick : Owed → Bool} (r : Request → Nat → Reply) (h : ∀ o ∈ (j.mbox m).owed, pick o = false) :
    j.payMailbox m pick r = j := by
  have hnone : (j.mbox m).owed.filter pick = [] := List.filter_eq_nil_iff.mpr fun o ho => ne_true_of_eq_false (h o ho)
  unfold Junction.payMailbox
  rw [hnone]
  rfl

theorem Junction.mbox_of_get {j : Junction} {m : Nat} {x : Mailbox} (h : j.mail[m]? = some x) : j.mbox m = x := by
  rw [Junction.mbox, List.getD_eq_getElem?_getD, h]
  rfl

/-- The one reply that mailbox m owes is given: the mailbox has it as any reply, and owes nothing after it. -/
theorem Junction.payMailbox_one {j : Junction} {m : Nat} {x : Mailbox} {o : Owed} {pick : Owed → Bool} (r : Request → Nat → Reply) (hm : m < 16)
    (hx : j.mail[m]? = some x) (howed : x.owed = [o]) (hpick : pick o = true) (hlive : ∀ ss, x.session = some ss → ss.expired = false) :
    ∃ a : Reply, (∃ n, a = { r o.item.req o.exec with attention := n })
      ∧ (j.payMailbox m pick r).mail[m]? = some (({ x with owed := [] } : Mailbox).given m a true).settleSession := by
  have hl : m < j.mail.length := (List.getElem?_eq_some_iff.mp hx).1
  have hmbox := Junction.mbox_of_get hx
  let k := j.setMbox m { x with owed := [] }
  have hk : k.mbox m = { x with owed := [] } := j.setMbox_mbox m _ hl
  have hkl : m < k.mail.length := by rwa [Junction.setMbox_length]
  refine ⟨_, ⟨k.attention o.item.req.ctx, rfl⟩, ?_⟩
  have hpaid : j.payMailbox m pick r = k.giveReply m o.item { r o.item.req o.exec with attention := k.attention o.item.req.ctx } true := by
    unfold Junction.payMailbox
    simp [hmbox, howed, hpick, k]
  rw [hpaid, Junction.giveReply_mail hm hkl (by rw [hk]; exact hlive), hk, List.getElem?_set_self hkl]

/-- Where no mailbox owes a reply that is due, nothing is paid. -/
theorem Junction.pay_none {j : Junction} {pick : Owed → Bool} (r : Rc) (b : Bytes) (h : ∀ x ∈ j.mail, ∀ o ∈ x.owed, pick o = false) : j.pay pick r b = j := by
  have hbox (m : Nat) : ∀ o ∈ (j.mbox m).owed, pick o = false := by
    intro o ho
    by_cases hl : m < j.mail.length
    · refine h _ ?_ o ho
      rw [Junction.mbox, List.getD_eq_getElem?_getD, List.getElem?_eq_getElem hl]
      exact List.getElem_mem hl
    · rw [Junction.mbox_absent (Nat.not_lt.mp hl)] at ho
      cases ho
  have hfold (l : List Nat) : l.foldl (fun k m => k.payMailbox m pick fun q e => k.reply m q e r b) j = j := by
    induction l with
    | nil => rfl
    | cons m l ih => rw [List.foldl_cons, Junction.payMailbox_none _ (hbox m), ih]
  exact hfold _

/-- The one reply that mailbox m owes is paid with the result and the body. -/
theorem Junction.pay_one {j : Junction} {m : Nat} {x : Mailbox} {o : Owed} {pick : Owed → Bool} (r : Rc) (b : Bytes) (hm : m < 16)
    (hx : j.mail[m]? = some x) (howed : x.owed = [o]) (hpick : pick o = true) (hlive : ∀ ss, x.session = some ss → ss.expired = false) :
    ∃ a : Reply, (a.opcode = o.item.req.opcode ∧ a.tag = o.item.req.tag ∧ a.seq = o.item.req.seq ∧ a.execTick = o.exec ∧ a.result = r.code ∧ a.body = b)
      ∧ (j.pay pick r b).mail[m]? = some (({ x with owed := [] } : Mailbox).given m a true).settleSession := by
  have hkeeps (l : List Nat) (hl : m ∉ l) (k : Junction) : (l.foldl (fun k m => k.payMailbox m pick fun q e => k.reply m q e r b) k).mail[m]? = k.mail[m]? := by
    induction l generalizing k with
    | nil => rfl
    | cons n l ih =>
      rw [List.foldl_cons, ih (fun h => hl (List.mem_cons_of_mem _ h)), Junction.payMailbox_other _ _ _ (List.ne_of_not_mem_cons hl).symm]
  obtain ⟨l, l', hsplit⟩ := List.append_of_mem (List.mem_range.mpr (show m < 17 by omega))
  have hnodup := hsplit ▸ (List.nodup_range (n := 17))
  rw [List.nodup_append, List.nodup_cons] at hnodup
  obtain ⟨-, ⟨hafter, -⟩, hapart⟩ := hnodup
  have hbefore : m ∉ l := fun h => hapart _ h _ List.mem_cons_self rfl
  unfold Junction.pay
  rw [hsplit, List.foldl_append, List.foldl_cons]
  obtain ⟨a, ⟨n, ha⟩, hpaid⟩ := Junction.payMailbox_one (fun q e => Junction.reply (l.foldl (fun k m => k.payMailbox m pick fun q e => k.reply m q e r b) j) m q e r b) hm
    ((hkeeps l hbefore j).trans hx) howed hpick hlive
  refine ⟨a, ?_, (hkeeps l' hafter _).trans hpaid⟩
  rw [ha]
  exact ⟨rfl, rfl, rfl, rfl, rfl, rfl⟩

theorem Mailbox.settled_owed (x : Mailbox) (m : Nat) (r : Reply) (keep : Bool) : (x.given m r keep).settleSession.owed = x.owed := by
  obtain ⟨y, hy⟩ := (x.given m r keep).settleSession_rest
  rw [hy, Mailbox.given_eq]

theorem Junction.get_of_mbox {j : Junction} {m : Nat} (h : m < j.mail.length) : j.mail[m]? = some (j.mbox m) := by
  rw [Junction.mbox, List.getD_eq_getElem?_getD, List.getElem?_eq_getElem h]
  rfl

/-! ### Relays that time out (R452) -/

/-- The hops and replies that relays have waited 100 ms for (R452). -/
def Junction.relayOld (j : Junction) (t : Nat) : Bool := decide (t + 100000000 * uNs ≤ j.clk.up)

def Junction.relayDue (j : Junction) (o : Owed) : Bool := (match o.waits with | .relay _ => true | _ => false) && j.relayOld o.since

/-- The Junction without the hops that have had no reply for 100 ms (R452). -/
def Junction.hopsKept (j : Junction) : Junction := { j with hops := j.hops.filter (fun h => decide (j.clk.up < h.since + 100000000 * uNs)) }

theorem Junction.hopsKept_mbox (j : Junction) (m : Nat) : j.hopsKept.mbox m = j.mbox m := rfl

theorem relayTimeout_eq (j : Junction) : j.relayTimeout = j.hopsKept.pay j.relayDue (rc 0x18) [] := by
  have hhops : j.hops.filter (fun h => !(j.relayOld h.since)) = j.hops.filter (fun h => decide (j.clk.up < h.since + 100000000 * uNs)) := by
    refine List.filter_congr fun h _ => ?_
    rw [Junction.relayOld, ← decide_not]
    exact decide_eq_decide.mpr Nat.not_le
  rw [Junction.hopsKept, ← hhops]
  rfl

theorem relayDue_relay {j : Junction} {o : Owed} {p : Nat} (hwaits : o.waits = .relay p) (hold : o.since + 100000000 * uNs ≤ j.clk.up) : j.relayDue o = true := by
  unfold Junction.relayDue Junction.relayOld
  rw [hwaits, decide_eq_true hold]
  rfl

theorem relayDue_early {j : Junction} {o : Owed} (h : j.clk.up < o.since + 100000000 * uNs) : j.relayDue o = false := by
  unfold Junction.relayDue Junction.relayOld
  rw [decide_eq_false (Nat.not_le.mpr h), Bool.and_false]

/-- Settles O18, transport by transport: what each event makes of the mailbox it falls on. -/
theorem mailboxTransports : Obligations.MailboxTransports := by
  unfold Obligations.MailboxTransports
  refine ⟨?take, ?wait, ?datagram, ?refused, ?segments, ?request, ?reply, ?hops, ?unreachable, ?expiry, ?early⟩
  case take =>
    intro s m slot q hp htakes hm _ x henable herr hlive hposted hroom hq hknown
    rw [exec_mailboxRequestTake, onJn_next _ _ hp, requestTake_takes htakes hm henable herr hlive hposted hroom hq hknown]
  case wait =>
    intro s m slot x h
    rw [exec_mailboxRequestTake, onJn, requestTake_waits slot h, ite_self]
  case datagram =>
    intro s p an pn src b a tx q hp hphase heth hrun m x hlow hhigh htx hrx hfresh hend hpeer hlive hmagic hkind hcount hindex hlen hnew hq hknown sas j ok k
    rw [exec_mailboxDatagramReceived, onJn_next _ _ hp, datagram_passed hp hphase heth hrun hlow hhigh htx hrx hfresh hend (k := j) rfl,
      segment_whole (j := j) hpeer hlive hmagic hkind hcount hindex hlen hnew hq hknown]
    rfl
  case refused =>
    intro s p an pn src b prot hp hphase heth hrun hlow hhigh hbad
    rw [exec_mailboxDatagramReceived, onJn_next _ _ hp, datagram_refused hp hphase heth hrun hlow hhigh hbad, Junction.dropDatagram]
  case segments =>
    intro s m hp
    exact (exec_mailboxSegmentTimeout m s).trans (onJn_next _ _ hp)
  case request =>
    intro s p g x q hp hbox hq o t j
    rw [exec_relayedRequestReceived, onJn_next _ _ hp]
    refine ⟨fun hhere hknown => ?_, fun h haway hhop => ?_, fun haway hhop => ?_⟩
    · rw [relayedRequest_here hbox hq hhere hknown]
    · rw [relayedRequest_onward hbox hq haway hhop]
    · obtain ⟨r, hresult, htag, hrelayed, hr⟩ := relayedRequest_unreachable hbox hq haway hhop
      exact ⟨r, hresult, htag, hrelayed, by rw [hr]⟩
  case reply =>
    intro s p g x h hp hbox haway hhops horigin htag hseq
    rw [exec_relayedReplyReceived, onJn_next _ _ hp, relayedReply_onward hbox haway hhops horigin htag hseq]
  case hops =>
    intro s hp hearly
    rw [exec_relayTimeout, onJn_next _ _ hp, relayTimeout_eq, Junction.pay_none, Junction.hopsKept]
    exact fun x hx o ho => relayDue_early (hearly x hx o ho)
  case unreachable =>
    intro s m ss o p hp hm hl hss hlive _ howed hwaits hold
    obtain ⟨r, ⟨-, htag, hseq, hexec, hresult, -⟩, hmail⟩ := Junction.pay_one (j := s.jn.hopsKept) (rc 0x18) []
      (Nat.lt_of_lt_of_le hm (by decide)) (Junction.get_of_mbox hl) howed (relayDue_relay hwaits hold)
      (by rw [Junction.hopsKept_mbox, hss]; rintro _ ⟨⟩; exact hlive)
    have hmbox := Junction.mbox_of_get hmail
    refine ⟨_, r, (exec_relayTimeout s).trans ((onJn_next _ _ hp).trans (by rw [relayTimeout_eq])), ?_, ?_, hresult, htag, hseq, hexec⟩
    · rw [hmbox, Mailbox.settled_owed]
    · rw [hmbox, (Mailbox.settled_ring _ r true hm).2, Junction.hopsKept_mbox]
  case expiry =>
    intro s m ss hp _ hss hlive hrun hold hopen x y
    rw [exec_sessionExpiry, onJn_next _ _ hp, sessionExpiry_ends hss hlive hrun hold hopen]
  case early =>
    intro s m ss hss h
    rw [exec_sessionExpiry, onJn, sessionExpiry_early hss h, ite_self]

end Sys2Proof.Machine

/-! # Firmware, mode, TAP and a Lineside's reply: O19 -/

namespace Sys2Proof.Machine

/-! ### Firmware and the mode (R463 to R465, R476, R487) -/

theorem Junction.fwVerifyDone_verifying {j : Junction} (h : j.sec.fw.st = .verifying) :
    j.fwVerifyDone = if fwVerify j.sec.floor (j.sec.fw.slot j.sec.fw.staging) = 0 then (j.setFw { j.sec.fw with st := .verified, result := 0 }).notice 4
      else if fwVerify j.sec.floor (j.sec.fw.slot j.sec.fw.staging) = 0x40
        then j.setFw { j.sec.fw with st := .refused, result := fwVerify j.sec.floor (j.sec.fw.slot j.sec.fw.staging) }
        else (j.setFw { j.sec.fw with st := .refused, result := fwVerify j.sec.floor (j.sec.fw.slot j.sec.fw.staging) }).secEvent 4 (fwVerify j.sec.floor (j.sec.fw.slot j.sec.fw.staging)) := by
  unfold Junction.fwVerifyDone
  exact if_neg (not_not_intro h)

theorem Junction.fwVerifyDone_other {j : Junction} (h : j.sec.fw.st ≠ .verifying) : j.fwVerifyDone = j := by
  unfold Junction.fwVerifyDone
  exact if_pos h

theorem Junction.fwActivation_armed {j : Junction} {m : Nat} (h : j.sec.fw.st = .armed) (hat : j.sec.fw.at_ = some m) :
    j.fwActivation = if j.reached m then
        j.setFw { j.sec.fw with marked := j.sec.fw.staging, running := j.sec.fw.staging, rom := false, st := .none_, at_ := none, got := 0, total := 0, paused := true, pausedAt := j.clk.up, reverting := false, fallback := !j.sec.fw.rom }
      else j := by
  unfold Junction.fwActivation
  dsimp only
  rw [h, hat]
  dsimp only
  cases j.reached m
  · rfl
  · rfl

theorem Junction.fwResume_paused {j : Junction} (h : j.sec.fw.paused = true) {k : Junction}
    (hk : k = ({ j with mail := j.mail.map (fun (x : Mailbox) => { x with session := x.session.map (fun (y : Session) => { y with lastBeat := y.lastBeat + (j.clk.up + 1000000 * uNs - j.sec.fw.pausedAt) }) }) } : Junction).setFw
      { j.sec.fw with paused := false, reverting := false, resumedAt := j.clk.up, last := if j.sec.fw.reverting then 2 else 1 }) :
    j.fwResume = if j.sec.fw.reverting then k
      else k.logE 0x31 [if j.sec.fw.fallback then fwVersion (j.sec.fw.slot j.sec.fw.staging) else 0, fwVersion (j.sec.fw.slot j.sec.fw.running), 0] := by
  subst hk
  unfold Junction.fwResume
  dsimp only
  rw [h]
  rfl

theorem Junction.fwResume_running {j : Junction} (h : j.sec.fw.paused = false) : j.fwResume = j := by
  unfold Junction.fwResume
  dsimp only
  rw [h]
  rfl

theorem Junction.fwRevert_allowed {j : Junction} (hback : j.sec.fw.fallback = true) (hfirst : j.sec.fw.reverting = false)
    (hsoon : j.sec.fw.paused = true ∨ j.clk.up ≤ j.sec.fw.resumedAt + 100000000 * uNs) :
    j.fwRevert = ((j.setFw { j.sec.fw with marked := j.sec.fw.staging, running := j.sec.fw.staging, paused := true, pausedAt := if j.sec.fw.paused then j.sec.fw.pausedAt else j.clk.up, reverting := true, fallback := false }).logE 0x31
      [fwVersion (j.sec.fw.slot j.sec.fw.running), fwVersion (j.sec.fw.slot j.sec.fw.staging), 1]).notice 3 := by
  have hmay : j.mayRevert = true := by
    unfold Junction.mayRevert
    obtain h | h := hsoon <;> simp [hback, hfirst, h]
  unfold Junction.fwRevert
  dsimp only
  rw [hmay]
  rfl

theorem Junction.fwRevert_kept {j : Junction} (h : j.sec.fw.fallback = false) : j.fwRevert = j := by
  have hmay : j.mayRevert = false := by simp [Junction.mayRevert, h]
  unfold Junction.fwRevert
  dsimp only
  rw [hmay]
  rfl

theorem Junction.modeEffect_due {j : Junction} {m : Nat} {o : Bool} (h : j.sec.modeAt = some (m, o)) :
    j.modeEffect = if j.reached m then { j with sec := { j.sec with open_ := o, modeAt := none } } else j := by
  unfold Junction.modeEffect
  rw [h]

/-! ### The TAP's unlock (R479, R481) -/

theorem Junction.dbgChallenge_drawn {j : Junction} (hp : j.boot.porst = false) (h : j.sec.tap.failures < 3) :
    j.dbgChallenge = { j with sec := { j.sec with tap := { j.sec.tap with challenge := some j.sec.tap.drawn, drawn := j.sec.tap.drawn + 1 } } } := by
  unfold Junction.dbgChallenge
  exact if_neg (by simp [hp, h])

theorem Junction.dbgChallenge_locked {j : Junction} (h : 3 ≤ j.sec.tap.failures) : j.dbgChallenge = j := by
  unfold Junction.dbgChallenge
  exact if_pos (by simp [h])

/-- The Junction with the TAP as given (R481). -/
def Junction.setTap (j : Junction) (t : Tap) : Junction := { j with sec := { j.sec with tap := t } }

/-- A response to the challenge n is good: its key may give the level and its signature holds (R479, R481). -/
def Junction.responseOk (j : Junction) (n level key : Nat) (pub sig : Bytes) : Bool :=
  decide (key ≤ 1) && (key == 0 || level == 2) && Config.sha384 pub == (if key = 0 then j.sec.ownerHash else Config.vendorKeyHash)
    && Config.ecdsaVerify pub (ascii "DDBG" ++ le 4 j.id ++ le 1 level ++ Config.nonce n) sig

theorem Junction.dbgResponse_eq {j : Junction} {level n : Nat} (key : Nat) (pub sig : Bytes) (h : j.sec.tap.challenge = some n) (hfail : j.sec.tap.failures < 3)
    (hmin : 1 ≤ level) (hmax : level ≤ 2) :
    j.dbgResponse level key pub sig = if j.responseOk n level key pub sig then
        (if level = 2 then ((j.setTap { j.sec.tap with challenge := none, level := max j.sec.tap.level level }).secEvent 6 level).zeroise
          else (j.setTap { j.sec.tap with challenge := none, level := max j.sec.tap.level level }).secEvent 6 level)
      else (j.setTap { j.sec.tap with challenge := none, failures := j.sec.tap.failures + 1 }).secEvent 5 level := by
  unfold Junction.dbgResponse
  dsimp only
  rw [h]
  dsimp only
  rw [if_neg (Nat.not_le.mpr hfail), decide_eq_true hmin, decide_eq_true hmax, Bool.and_true, Bool.and_true]
  rfl

theorem Junction.dbgResponse_unasked {j : Junction} (level key : Nat) (pub sig : Bytes) (h : j.sec.tap.challenge = none) : j.dbgResponse level key pub sig = j := by
  unfold Junction.dbgResponse
  dsimp only
  rw [h]

theorem Junction.enterService_quiet (j : Junction) (st cause : Nat) :
    (j.enterService st cause).quiet = ({ j with boot := { j.boot with service := st, cause := if st = 3 then cause else 0 } } : Junction).quiet := by
  unfold Junction.enterService
  dsimp only
  split
  · rw [Junction.notice_quiet, Junction.logE_quiet]
  · split
    · rw [Junction.notice_quiet, Junction.logE_quiet]
    · rw [Junction.logE_quiet]

/-- What zeroising says of a Junction k that it makes of j (R472, R481): keys, associations, memory and history gone, sessions ended, relay-only service. -/
structure Junction.Zeroised (j k : Junction) : Prop where
  tap : k.sec.tap = j.sec.tap
  keys : k.sec.keys = []
  sas : k.sec.sas = []
  zeroised : k.sec.zeroised = true
  memKeys : k.sec.memKeys = none
  mem : k.mem = []
  hist : k.hist = []
  mail : k.mail = j.mail.map (fun x => { x with session := none })
  service : k.boot.service = 3
  bundles : k.bundles = j.bundles.map (fun b => { b with plain := [], placing := none })

theorem Junction.zeroise_zeroised (j : Junction) : j.Zeroised j.zeroise := by
  unfold Junction.zeroise
  dsimp only
  split
  · next h => exact ⟨rfl, rfl, rfl, rfl, rfl, rfl, rfl, rfl, h, rfl⟩
  · unfold Junction.toRelay
    have hquiet := Junction.enterService_quiet
    refine ⟨congrArg (·.sec.tap) (hquiet _ 3 0), congrArg (·.sec.keys) (hquiet _ 3 0), congrArg (·.sec.sas) (hquiet _ 3 0), congrArg (·.sec.zeroised) (hquiet _ 3 0),
      congrArg (·.sec.memKeys) (hquiet _ 3 0), congrArg (·.mem) (hquiet _ 3 0), congrArg (·.hist) (hquiet _ 3 0), congrArg (·.mail) (hquiet _ 3 0),
      congrArg (·.boot.service) (hquiet _ 3 0), congrArg (·.bundles) (hquiet _ 3 0)⟩

theorem Junction.setTap_secEvent_tap (j : Junction) (t : Tap) (c d : Nat) : ((j.setTap t).secEvent c d).sec.tap = t :=
  congrArg (·.sec.tap) (Junction.secEvent_quiet (j.setTap t) c d)

theorem Junction.secEvent_mail_bundles (j : Junction) (c d : Nat) : (j.secEvent c d).mail = j.mail ∧ (j.secEvent c d).bundles = j.bundles :=
  ⟨j.secEvent_mail c d, congrArg (·.bundles) (j.secEvent_quiet c d)⟩

/-- Security apart, a change of the TAP and its event leave the Junction as it was. -/
theorem Junction.setTap_secEvent_quiet (j : Junction) (t : Tap) (c d : Nat) :
    ({ (j.setTap t).secEvent c d with sec := j.sec } : Junction).quiet = j.quiet :=
  congrArg (fun k : Junction => { k with sec := j.quiet.sec }) (Junction.secEvent_quiet (j.setTap t) c d)

/-! ### What the writes to a Lineside leave (R63, R499, R519) -/

/-- The Junction without what its own reads and writes of Linesides change: ports, shadow, and its own transactions. -/
def Junction.besideOwn (j : Junction) : Junction :=
  { j with banksRead := 0, ports := [], shadow := [], txns := j.txns.filter (fun t => t.use != .own), nextTxn := 0 }

theorem Junction.noteShadow_besideOwn (j : Junction) (p a : Nat) (v : Word) : (j.noteShadow p a v).besideOwn = j.besideOwn := by
  unfold Junction.noteShadow
  dsimp only
  split
  · rfl
  · rfl

theorem Junction.send_besideOwn (j : Junction) (p vc subch tag : Nat) (b : Bytes) (l : List Txn) (n : Nat) :
    ({ j.send p vc subch tag b with txns := l, nextTxn := n } : Junction).besideOwn = ({ j with txns := l } : Junction).besideOwn := by
  unfold Junction.send
  split
  · rfl
  · rfl

theorem Junction.request_besideOwn (j : Junction) (p : Nat) (ops : List CfgOp) : (j.request p .own ops).besideOwn = j.besideOwn := by
  refine foldl_keeps Junction.besideOwn _ (fun k i => ?_) _ _
  dsimp only
  rw [Junction.send_besideOwn]
  unfold Junction.besideOwn
  simp

theorem Junction.writeLs_besideOwn (j : Junction) (p : Nat) (ws : List (Nat × Nat)) : (j.writeLs p .own ws).besideOwn = j.besideOwn := by
  unfold Junction.writeLs
  split
  · rfl
  · rw [Junction.request_besideOwn]
    exact foldl_keeps Junction.besideOwn _ (fun k w => k.noteShadow_besideOwn _ _ _) _ _

theorem Junction.deriveMaps_besideOwn (j : Junction) (t : TtImage) (k : Nat) : (j.deriveMaps t k).besideOwn = j.besideOwn := by
  unfold Junction.deriveMaps
  split
  · rfl
  · rw [Junction.request_besideOwn, Junction.writeLs_besideOwn]

theorem Junction.banksKnown_besideOwn (j : Junction) (k : Nat) : (j.banksKnown k).besideOwn = j.besideOwn := by
  have hread (r : BitVec 32) : ({ j with banksRead := r } : Junction).besideOwn = j.besideOwn := rfl
  unfold Junction.banksKnown
  dsimp only
  split
  · split
    · rw [Junction.deriveMaps_besideOwn, hread]
    · split
      · rw [Junction.request_besideOwn, Junction.writeLs_besideOwn, hread]
      · split
        · split
          · rw [Junction.request_besideOwn, Junction.writeLs_besideOwn, hread]
          · rw [hread]
        · rw [hread]
  · rw [hread]

/-! ### The reply of a Lineside to an LS_READ or LS_WRITE (R499, R519) -/

/-- The Junction with the one transaction answered: its register's value is known (R519). -/
def Junction.answered (j : Junction) (p : Nat) (x : Port) (a : Nat) (v : Word) : Junction :=
  { j.setPort p x with txns := [], lineCfg := Tbl.put [] (j.setPort p x).lineCfg p (Tbl.put 0 (Tbl.get [] (j.setPort p x).lineCfg p) a v) }

/-- The same, with the banks of the Lineside known where that register tells them (R63). -/
def Junction.banksAnswered (j : Junction) (p : Nat) (x : Port) (a : Nat) (v : Word) : Junction :=
  if a = 0x211 then (j.answered p x a v).banksKnown p else j.answered p x a v

theorem Junction.banksAnswered_besideOwn (j : Junction) (p : Nat) (x : Port) (a : Nat) (v : Word) : (j.banksAnswered p x a v).besideOwn = (j.answered p x a v).besideOwn := by
  unfold Junction.banksAnswered
  split
  · exact Junction.banksKnown_besideOwn _ _
  · rfl

theorem Junction.banksAnswered_noMailbox (j : Junction) (p : Nat) (x : Port) (a : Nat) (v : Word) (k : Nat) :
    (j.banksAnswered p x a v).txns.any (fun y => y.port == p && y.use == TxnUse.mailbox k) = false := by
  rw [List.any_eq_false]
  intro t ht hmine
  have hown : (j.banksAnswered p x a v).txns.filter (fun t => t.use != .own) = [] := congrArg (·.txns) (j.banksAnswered_besideOwn p x a v)
  have huse : t.use = .mailbox k := beq_iff_eq.mp (Bool.and_eq_true_iff.mp hmine).2
  exact absurd (List.filter_eq_nil_iff.mp hown t ht) (by simp [huse])

/-- Whose reply a Lineside's transaction of mailbox commands ends. -/
def linesidePick (p k : Nat) (o : Owed) : Bool := o.waits == Waits.lineside p k

theorem cfgReply_one {j : Junction} {p k : Nat} {g : RxMsg} {x : Port} {w : List (Nat × Word)} (htray : j.tray = true) (hp : p < 32)
    (hbox : (j.port p).takeInbox 3 0 (fun b => rd b 0 2 == 0x11) = (some g, x)) (hone : rd g.bytes 2 2 = 1)
    (htxn : j.txns = [⟨p, rd g.bytes 4 4, .mailbox k, w⟩]) (hkept : inRange (rd g.bytes 10 2) 0x3200 256 = false) {l : Junction}
    (hl : l = j.banksAnswered p x (rd g.bytes 10 2) (BitVec.ofNat 64 (rd g.bytes 16 8))) :
    j.cfgReply p = if w = [] then ({ l with lineParts := Tbl.put [] l.lineParts k [] } : Junction).pay (linesidePick p k) (rc 0) (Tbl.get [] l.lineParts k ++ le 8 (rd g.bytes 16 8))
      else (l.noteShadow p (rd g.bytes 10 2) (BitVec.ofNat 64 (rd g.bytes 16 8))).pay (linesidePick p k) (rc 0) [] := by
  have hport : j.linesidePort p = true := by simp [Junction.linesidePort, htray, hp]
  have htxns : (j.setPort p x).txns = [⟨p, rd g.bytes 4 4, .mailbox k, w⟩] := htxn
  have hlast := j.banksAnswered_noMailbox p x (rd g.bytes 10 2) (BitVec.ofNat 64 (rd g.bytes 16 8)) k
  rw [← hl] at hlast
  have hops : (List.range 1).map (fun i => (rd g.bytes (8 + 24 * i + 2) 2, rd g.bytes (8 + 24 * i + 8) 8)) = [(rd g.bytes 10 2, rd g.bytes 16 8)] := rfl
  have hanswered : (if rd g.bytes 10 2 == 0x211 then (j.answered p x (rd g.bytes 10 2) (BitVec.ofNat 64 (rd g.bytes 16 8))).banksKnown p
      else j.answered p x (rd g.bytes 10 2) (BitVec.ofNat 64 (rd g.bytes 16 8))) = l := by
    rw [hl, Junction.banksAnswered]
    simp only [beq_iff_eq]
  unfold Junction.answered at hanswered
  dsimp only at hanswered
  unfold Junction.cfgReply
  rw [hport, hbox]
  dsimp only
  rw [hone, hops, htxns]
  simp only [List.find?_cons, beq_self_eq_true, Bool.and_self, List.filter_cons, List.filter_nil, Bool.not_true, Bool.false_eq_true, if_false,
    List.foldl_cons, List.foldl_nil, List.any_cons, List.any_nil, Bool.or_false, List.map_cons, List.map_nil, List.flatten_cons, List.flatten_nil, List.append_nil, hkept]
  have hpick : (fun o : Owed => o.waits == Waits.lineside p k) = linesidePick p k := rfl
  rw [hanswered, hlast, hpick]
  cases w with
  | nil => simp
  | cons y w => simp

theorem Junction.noteShadow_txns (j : Junction) (p a : Nat) (v : Word) : (j.noteShadow p a v).txns = j.txns := by
  unfold Junction.noteShadow
  dsimp only
  split
  · rfl
  · rfl

theorem Junction.noteShadow_shadow {j k : Junction} (h : k.shadow = j.shadow) (p a : Nat) (v : Word) : (k.noteShadow p a v).shadow = (j.noteShadow p a v).shadow := by
  unfold Junction.noteShadow
  dsimp only
  split
  · rw [h]
  · exact h

/-- What the Junction l has once the one owed reply of a PCIe mailbox is paid. -/
theorem Junction.pay_paid {l j : Junction} {m : Nat} {x : Mailbox} {o : Owed} {pick : Owed → Bool} {r : Rc} {b : Bytes} (hl : l = j.pay pick r b) (hm : m < 8)
    (hx : j.mail[m]? = some x) (howed : x.owed = [o]) (hpick : pick o = true) (hlive : ∀ ss, x.session = some ss → ss.expired = false) :
    l.still = j.still ∧ ∃ a : Reply, (l.mbox m).owed = [] ∧ (l.mbox m).replies = x.replies ++ [a] ∧ a.result = r.code
      ∧ a.tag = o.item.req.tag ∧ a.seq = o.item.req.seq ∧ a.body = b := by
  obtain ⟨a, ⟨-, htag, hseq, -, hresult, hbody⟩, hmail⟩ := Junction.pay_one r b (Nat.lt_of_lt_of_le hm (by decide)) hx howed hpick hlive
  rw [← hl] at hmail
  have hmbox := Junction.mbox_of_get hmail
  refine ⟨hl ▸ Junction.pay_still _ _ _ _, a, ?_, ?_, hresult, htag, hseq, hbody⟩
  · rw [hmbox, Mailbox.settled_owed]
  · rw [hmbox, (Mailbox.settled_ring _ a true hm).2]

theorem Junction.kept_of_still {l j : Junction} (h : l.still = j.still) :
    l.mem = j.mem ∧ l.sec.keys = j.sec.keys ∧ l.lineCfg = j.lineCfg ∧ l.txns = j.txns ∧ l.shadow = j.shadow :=
  ⟨congrArg (·.mem) h, congrArg (·.sec.keys) h, congrArg (·.lineCfg) h, congrArg (·.txns) h, congrArg (·.shadow) h⟩

theorem Junction.noteShadow_kept (j : Junction) (p a : Nat) (v : Word) :
    (j.noteShadow p a v).mail = j.mail ∧ (j.noteShadow p a v).mem = j.mem ∧ (j.noteShadow p a v).sec = j.sec ∧ (j.noteShadow p a v).lineCfg = j.lineCfg := by
  have h := j.noteShadow_besideOwn p a v
  exact ⟨congrArg (·.mail) h, congrArg (·.mem) h, congrArg (·.sec) h, congrArg (·.lineCfg) h⟩

/-- What the answer of a transaction says of the Junction `l` that it makes of j, the register apart that tells the banks (R63, R519). -/
structure Junction.Answered (j l : Junction) (p a : Nat) (v : Word) : Prop where
  mail : l.mail = j.mail
  mem : l.mem = j.mem
  sec : l.sec = j.sec
  lineParts : l.lineParts = j.lineParts
  lineCfg : l.lineCfg = Tbl.put [] j.lineCfg p (Tbl.put 0 (Tbl.get [] j.lineCfg p) a v)
  txns : a ≠ 0x211 → l.txns = []
  shadow : a ≠ 0x211 → l.shadow = j.shadow

theorem Junction.banksAnswered_answered (j : Junction) (p : Nat) (x : Port) (a : Nat) (v : Word) : j.Answered (j.banksAnswered p x a v) p a v := by
  have h := j.banksAnswered_besideOwn p x a v
  have hplain (ha : a ≠ 0x211) : j.banksAnswered p x a v = j.answered p x a v := if_neg ha
  exact ⟨congrArg (·.mail) h, congrArg (·.mem) h, congrArg (·.sec) h, congrArg (·.lineParts) h, congrArg (·.lineCfg) h,
    fun ha => congrArg (·.txns) (hplain ha), fun ha => congrArg (·.shadow) (hplain ha)⟩

/-- A Lineside's reply to the one transaction outstanding of mailbox m ends its command. -/
theorem cfgReply_ends {j : Junction} {p k m : Nat} {g : RxMsg} {x : Port} {ss : Session} {o : Owed} {w : List (Nat × Word)} (htray : j.tray = true) (hp : p < 32)
    (hbox : (j.port p).takeInbox 3 0 (fun b => rd b 0 2 == 0x11) = (some g, x)) (hone : rd g.bytes 2 2 = 1)
    (htxn : j.txns = [⟨p, rd g.bytes 4 4, .mailbox k, w⟩]) (hparts : Tbl.get [] j.lineParts k = []) (hkept : inRange (rd g.bytes 10 2) 0x3200 256 = false)
    (hm : m < 8) (hin : m < j.mail.length) (hss : (j.mbox m).session = some ss) (hlive : ss.expired = false) (howed : (j.mbox m).owed = [o]) (hwaits : o.waits = .lineside p k)
    {l : Junction} (hl : l = j.cfgReply p) :
    ∃ r, (l.mbox m).owed = [] ∧ (l.mbox m).replies = (j.mbox m).replies ++ [r] ∧ r.result = 0
      ∧ r.tag = o.item.req.tag ∧ r.seq = o.item.req.seq ∧ r.body = (if w = [] then le 8 (rd g.bytes 16 8) else []) ∧ l.mem = j.mem ∧ l.sec.keys = j.sec.keys
      ∧ l.lineCfg = Tbl.put [] j.lineCfg p (Tbl.put 0 (Tbl.get [] j.lineCfg p) (rd g.bytes 10 2) (BitVec.ofNat 64 (rd g.bytes 16 8)))
      ∧ (rd g.bytes 10 2 ≠ 0x211 → l.txns = []
        ∧ l.shadow = if w = [] then j.shadow else (j.noteShadow p (rd g.bytes 10 2) (BitVec.ofNat 64 (rd g.bytes 16 8))).shadow) := by
  have hpick : linesidePick p k o = true := by rw [linesidePick, hwaits, beq_self_eq_true]
  have hnone : ∀ y, (j.mbox m).session = some y → y.expired = false := by
    rw [hss]
    rintro _ ⟨⟩
    exact hlive
  obtain ⟨b, hb⟩ : ∃ b, b = j.banksAnswered p x (rd g.bytes 10 2) (BitVec.ofNat 64 (rd g.bytes 16 8)) := ⟨_, rfl⟩
  have hanswered := hb ▸ j.banksAnswered_answered p x (rd g.bytes 10 2) (BitVec.ofNat 64 (rd g.bytes 16 8))
  have heq := hl.trans (cfgReply_one htray hp hbox hone htxn hkept hb)
  clear hl hb
  by_cases hw : w = []
  · rw [if_pos hw, hanswered.lineParts, hparts, List.nil_append] at heq
    obtain ⟨hstill, r, hnoOwed, hreplies, hresult, htag, hseq, hbody⟩ := Junction.pay_paid heq
      hm ((congrArg (·[m]?) hanswered.mail).trans (Junction.get_of_mbox hin)) howed hpick hnone
    obtain ⟨hmem, hkeys, hcfg, htxns, hshadow⟩ := Junction.kept_of_still hstill
    refine ⟨r, hnoOwed, hreplies, hresult, htag, hseq, by rw [hbody, if_pos hw], hmem.trans hanswered.mem, hkeys.trans (congrArg (·.keys) hanswered.sec),
      hcfg.trans hanswered.lineCfg, fun ha => ⟨htxns.trans (hanswered.txns ha), ?_⟩⟩
    rw [if_pos hw]
    exact hshadow.trans (hanswered.shadow ha)
  · rw [if_neg hw] at heq
    obtain ⟨hmailN, hmemN, hsecN, hcfgN⟩ := b.noteShadow_kept p (rd g.bytes 10 2) (BitVec.ofNat 64 (rd g.bytes 16 8))
    obtain ⟨hstill, r, hnoOwed, hreplies, hresult, htag, hseq, hbody⟩ := Junction.pay_paid heq
      hm ((congrArg (·[m]?) (hmailN.trans hanswered.mail)).trans (Junction.get_of_mbox hin)) howed hpick hnone
    obtain ⟨hmem, hkeys, hcfg, htxns, hshadow⟩ := Junction.kept_of_still hstill
    refine ⟨r, hnoOwed, hreplies, hresult, htag, hseq, by rw [hbody, if_neg hw], hmem.trans (hmemN.trans hanswered.mem),
      hkeys.trans (congrArg (·.keys) (hsecN.trans hanswered.sec)), hcfg.trans (hcfgN.trans hanswered.lineCfg),
      fun ha => ⟨htxns.trans ((Junction.noteShadow_txns _ _ _ _).trans (hanswered.txns ha)), ?_⟩⟩
    rw [if_neg hw]
    exact hshadow.trans (Junction.noteShadow_shadow (hanswered.shadow ha) _ _ _)

theorem cfgReply_elsewhere {j : Junction} {p : Nat} (h : j.tray = false ∨ 32 ≤ p) : j.cfgReply p = j := by
  have hport : j.linesidePort p = false := by
    unfold Junction.linesidePort
    obtain h | h := h
    · rw [h]
      rfl
    · rw [decide_eq_false (Nat.not_lt.mpr h), Bool.and_false]
  unfold Junction.cfgReply
  rw [hport]
  rfl

/-- A good response, at level 1 and at level 2 (R472, R481). -/
theorem dbgResponse_good {j k : Junction} {t : Tap} {level : Nat}
    (hk : k = if level = 2 then ((j.setTap t).secEvent 6 level).zeroise else (j.setTap t).secEvent 6 level) :
    k.sec.tap = t ∧ (level = 1 → ({ k with sec := j.sec } : Junction).quiet = j.quiet)
      ∧ (level = 2 → k.sec.keys = [] ∧ k.sec.sas = [] ∧ k.sec.zeroised = true ∧ k.sec.memKeys = none ∧ k.mem = [] ∧ k.hist = []
        ∧ k.mail = j.mail.map (fun x => { x with session := none }) ∧ k.boot.service = 3
        ∧ k.bundles = j.bundles.map (fun b => { b with plain := [], placing := none })) := by
  have htap := j.setTap_secEvent_tap t 6 level
  by_cases h : level = 2
  · rw [if_pos h] at hk
    obtain ⟨hmail, hbundles⟩ := (j.setTap t).secEvent_mail_bundles 6 level
    have hz := ((j.setTap t).secEvent 6 level).zeroise_zeroised
    rw [← hk] at hz
    exact ⟨hz.tap.trans htap, fun h1 => absurd (h1.symm.trans h) (by decide),
      fun _ => ⟨hz.keys, hz.sas, hz.zeroised, hz.memKeys, hz.mem, hz.hist, hz.mail.trans (by rw [hmail]; rfl), hz.service, hz.bundles.trans (by rw [hbundles]; rfl)⟩⟩
  · rw [if_neg h] at hk
    subst hk
    exact ⟨htap, fun _ => j.setTap_secEvent_quiet t 6 level, fun h2 => absurd h2 h⟩

/-- Settles O19, event by event. -/
theorem firmwareModeAndTap : Obligations.FirmwareModeAndTap := by
  unfold Obligations.FirmwareModeAndTap
  refine ⟨?verify, ?verified, ?activate, ?resume, ?running, ?revert, ?kept, ?mode, ?challenge, ?locked, ?response, ?unasked, ?reply, ?elsewhere⟩
  case verify =>
    intro s hp hst f c bad good
    rw [exec_fwVerifyComplete, onJn_next _ _ hp, Junction.fwVerifyDone_verifying hst]
    rfl
  case verified =>
    intro s hst
    rw [exec_fwVerifyComplete, onJn, Junction.fwVerifyDone_other hst, ite_self]
  case activate =>
    intro s m hp hst hat f g
    rw [exec_fwActivation, onJn_next _ _ hp, Junction.fwActivation_armed hst hat]
    rfl
  case resume =>
    intro s hp hpaused f gap ms g j
    rw [exec_fwResume, onJn_next _ _ hp, Junction.fwResume_paused hpaused (k := j) rfl]
  case running =>
    intro s h
    rw [exec_fwResume, onJn, Junction.fwResume_running h, ite_self]
  case revert =>
    intro s hp hback hfirst hsoon f g j
    rw [exec_fwRevert, onJn_next _ _ hp, Junction.fwRevert_allowed hback hfirst hsoon]
    rfl
  case kept =>
    intro s h
    rw [exec_fwRevert, onJn, Junction.fwRevert_kept h, ite_self]
  case mode =>
    intro s m o hp h
    rw [exec_modeSetEffect, onJn_next _ _ hp, Junction.modeEffect_due h]
  case challenge =>
    intro s hp h
    rw [exec_dbgChallenge, onJn_next _ _ hp, Junction.dbgChallenge_drawn hp h]
  case locked =>
    intro s h
    rw [exec_dbgChallenge, onJn, Junction.dbgChallenge_locked h, ite_self]
  case response =>
    intro s level key pub sig n hp hasked hfail hmin hmax t hash ok
    have heq := Junction.dbgResponse_eq (j := s.jn) key pub sig hasked hfail hmin hmax
    refine ⟨_, (exec_dbgResponse level key pub sig s).trans (onJn_next _ _ hp), fun hok => ?_, fun hbad => ?_⟩
    · rw [if_pos (show s.jn.responseOk n level key pub sig = true from hok)] at heq
      exact dbgResponse_good heq
    · rw [if_neg (show ¬(s.jn.responseOk n level key pub sig = true) from ne_true_of_eq_false hbad)] at heq
      exact ⟨heq ▸ Junction.setTap_secEvent_tap _ _ _ _, heq ▸ Junction.setTap_secEvent_quiet _ _ _ _⟩
  case unasked =>
    intro s level key pub sig h
    rw [exec_dbgResponse, onJn, Junction.dbgResponse_unasked _ _ _ _ h, ite_self]
  case reply =>
    intro s p g x k m ss o w hp htray hp32 hbox hone htxn hparts hkept hm hin hss hlive _ howed hwaits
    obtain ⟨r, h⟩ := cfgReply_ends htray hp32 hbox hone htxn hparts hkept hm hin hss hlive howed hwaits rfl
    exact ⟨_, r, (exec_linesideConfigReplyReceived p s).trans (onJn_next _ _ hp), h⟩
  case elsewhere =>
    intro s p h
    rw [exec_linesideConfigReplyReceived, onJn, cfgReply_elsewhere h, ite_self]

end Sys2Proof.Machine

/-! # Bundles, reference tables and test results: O20 -/

namespace Sys2Proof.Machine

/-! ### The bundles of a Junction with one or two (R341, R345) -/

section
variable {j : Junction} {b o : Bundle}

theorem Junction.bundle?_one (h : j.bundles = [b]) {id : Nat} (hid : b.id = id) : j.bundle? id = some b := by
  unfold Junction.bundle?
  rw [h]
  simp [hid]

theorem Junction.setBundle_one (h : j.bundles = [b]) {y : Bundle} (hid : b.id = y.id) : j.setBundle y = { j with bundles := [y] } := by
  unfold Junction.setBundle
  rw [h]
  simp [hid]

theorem Junction.dropBundle_one (h : j.bundles = [b]) {id : Nat} (hid : b.id = id) : j.dropBundle id = { j with bundles := [] } := by
  unfold Junction.dropBundle
  rw [h]
  simp [hid]

theorem Junction.setBundle_first (h : j.bundles = [o, b]) (hne : o.id ≠ b.id) {y : Bundle} (hid : y.id = o.id) : j.setBundle y = { j with bundles := [y, b] } := by
  unfold Junction.setBundle
  rw [h]
  simp [hid, hne.symm]

theorem Junction.setBundle_second (h : j.bundles = [o, b]) (hne : o.id ≠ b.id) {y : Bundle} (hid : y.id = b.id) : j.setBundle y = { j with bundles := [o, y] } := by
  unfold Junction.setBundle
  rw [h]
  simp [hid, hne]

theorem Junction.forwardChunk_tray (h : j.tray = true) (head : Bytes) (c : Chunk) : j.forwardChunk head c = j := by
  unfold Junction.forwardChunk
  rw [h]
  rfl

/-! ### Chunks (R345) -/

/-- A bundle with its next chunk appended (R345). -/
def Bundle.appended (b : Bundle) (c : Chunk) (up : Nat) : Bundle :=
  { b with got := b.got + 1, lastAt := up, data := b.data ++ c.data, st := if b.got + 1 = b.chunks then .checking else .receiving }

theorem Junction.chunk_continues {c : Chunk} (htray : j.tray = true) (hone : j.bundles = [b]) (hid : b.id = c.id) (hst : b.st = .receiving) (hnext : c.chunk = b.got)
    (hlater : c.chunk ≠ 0) (hcount : c.chunks = b.chunks) (hin : c.chunk < b.chunks) :
    j.chunk c = ({ j with bundles := [b.appended c j.clk.up] }, rc 0) := by
  have hfits : ¬((decide (c.chunk ≠ b.got) || decide (c.chunks ≠ b.chunks) || decide (b.chunks ≤ c.chunk)) = true) := by simp [hnext.symm, hcount, hin]
  have hplace := Junction.setBundle_one (y := b.appended c j.clk.up) hone rfl
  have htray' : ({ j with bundles := [b.appended c j.clk.up] } : Junction).tray = true := htray
  unfold Junction.chunk
  rw [if_neg hlater, Junction.bundle?_one hone hid]
  dsimp only
  rw [if_neg hfits]
  simp only [hst, decide_true, Bool.true_or, if_true]
  exact congrArg (·, rc 0) ((congrArg (·.forwardChunk b.data c) hplace).trans (Junction.forwardChunk_tray htray' _ _))

theorem Junction.chunkReceived_continues {p : Nat} {g : RxMsg} {x : Port} {c : Chunk} (hbox : (j.port p).takeInbox 2 3 (fun b => rd b 0 2 == 5) = (some g, x))
    (hc : Chunk.decode g.bytes = some c) (htray : j.tray = true) (hone : j.bundles = [b]) (hid : b.id = c.id) (hst : b.st = .receiving) (hnext : c.chunk = b.got)
    (hlater : c.chunk ≠ 0) (hcount : c.chunks = b.chunks) (hin : c.chunk < b.chunks) :
    j.chunkReceived p = { j.setPort p x with bundles := [b.appended c j.clk.up] } := by
  have hchunk := Junction.chunk_continues (j := j.setPort p x) htray hone hid hst hnext hlater hcount hin
  unfold Junction.chunkReceived
  rw [hbox]
  dsimp only
  rw [hc]
  dsimp only
  rw [hchunk]
  exact if_pos (show (rc 0).code ≠ 0x16 by decide)

theorem Junction.chunkReceived_none {p : Nat} {x : Port} (hbox : (j.port p).takeInbox 2 3 (fun b => rd b 0 2 == 5) = (none, x)) : j.chunkReceived p = j := by
  unfold Junction.chunkReceived
  rw [hbox]

/-! ### The checks after the last chunk (R341, R343) -/

theorem Junction.bundleVerify_other (h : j.bundles = [b]) (hst : b.st ≠ .checking) : j.bundleVerify b.id = j := by
  unfold Junction.bundleVerify
  rw [Junction.bundle?_one h rfl]
  exact if_pos hst

theorem Junction.bundleVerify_notHere (h : j.bundles = [b]) (hst : b.st = .checking)
    (hnot : bit (rd b.data 0x18 4) j.role.level = false ∨ bundleEntry b.data j.id = none) : j.bundleVerify b.id = { j with bundles := [] } := by
  have helse : (!(j.levelNamed b.data) || (bundleEntry b.data j.id).isNone) = true := by
    unfold Junction.levelNamed
    obtain h | h := hnot <;> simp [h]
  unfold Junction.bundleVerify
  rw [Junction.bundle?_one h rfl]
  dsimp only
  rw [if_neg (not_not_intro hst), if_pos helse, Junction.dropBundle_one h rfl]

/-- What becomes of the bundle b, of which this Junction opened `plain` (R341, R343). -/
def Bundle.opened (b : Bundle) (j : Junction) (plain : Bytes) : Bundle :=
  match bundleDirBad 0 (rd b.data 0x28 4) plain with
  | some o => b.refuse ⟨0x31, 6, o⟩
  | none => if j.ahead b.effective then
      match j.modelCheck { b with plain := plain } with
      | .inl r => b.refuse r
      | .inr p => { b with plain := plain, st := .staged, placing := some p }
    else b.refuse ⟨0x1B, 7, 0x10⟩

theorem Junction.bundleVerify_here (h : j.bundles = [b]) (hst : b.st = .checking) (hlevel : bit (rd b.data 0x18 4) j.role.level = true)
    (hentry : (bundleEntry b.data j.id).isSome = true) (htype : b.type = 0) :
    j.bundleVerify b.id = if bundleSigOk j.sec b.data then
        match bundleOpen j.sec j.id b.data with
        | none => ({ j with bundles := [b.refuse ⟨0x32, 5, 0xFFFFFFFF⟩] } : Junction).secEvent 3 b.id
        | some plain => { j with bundles := [b.opened j plain] }
      else ({ j with bundles := [b.refuse ⟨0x32, 4, 0xFFFFFFFF⟩] } : Junction).secEvent 3 b.id := by
  have hhere : ¬((!(j.levelNamed b.data) || (bundleEntry b.data j.id).isNone) = true) := by
    simp [Junction.levelNamed, hlevel, Option.isSome_iff_ne_none.mp hentry]
  have hset {y : Bundle} (hy : b.id = y.id) := Junction.setBundle_one h hy
  have hnone : j.stagedBundle b.ctx = none := by simp [Junction.stagedBundle, h, hst]
  unfold Junction.bundleVerify
  rw [Junction.bundle?_one h rfl]
  dsimp only
  rw [if_neg (not_not_intro hst), if_neg hhere]
  cases bundleSigOk j.sec b.data
  · exact congrArg (Junction.secEvent · 3 b.id) (hset rfl)
  · rw [if_neg (by decide), if_pos rfl]
    cases bundleOpen j.sec j.id b.data with
    | none => exact congrArg (Junction.secEvent · 3 b.id) (hset rfl)
    | some plain =>
      have hdir : bundleDirBad b.type (rd b.data 0x28 4) plain = bundleDirBad 0 (rd b.data 0x28 4) plain := by rw [htype]
      have hmodel : ¬(b.type = 1) := by simp [htype]
      dsimp only
      unfold Bundle.opened
      rw [hdir]
      cases bundleDirBad 0 (rd b.data 0x28 4) plain with
      | some o => exact hset rfl
      | none =>
        dsimp only
        cases j.ahead b.effective
        · exact hset rfl
        · rw [if_neg (by decide), if_neg hmodel, if_pos rfl]
          cases j.modelCheck { b with plain := plain } with
          | inl r => exact hset rfl
          | inr p =>
            simp only [hnone]
            exact hset rfl

theorem Junction.bundleTimeout_one (h : j.bundles = [b]) (hst : b.st = .receiving) : j.bundleTimeout b.id =
    { j with bundles := [{ b with st := if b.lastAt + 100000000 * uNs ≤ j.clk.up then .incomplete else .receiving }] } := by
  unfold Junction.bundleTimeout
  rw [Junction.bundle?_one h rfl]
  simp only [hst, decide_true, Bool.true_and, decide_eq_true_eq]
  by_cases hold : b.lastAt + 100000000 * uNs ≤ j.clk.up
  · rw [if_pos hold, if_pos hold]
    exact Junction.setBundle_one h rfl
  · rw [if_neg hold, if_neg hold, ← hst, ← h]

end

/-! ### What scoring leaves (R282, R290, R293, R294) -/

/-- The Junction without the works of its ticks and the walks in progress. -/
def Junction.besideScore (j : Junction) : Junction := { j with ticks := [], flights := [] }

theorem Junction.setWork_besideScore (j : Junction) (w : TickWork) : (j.setWork w).besideScore = j.besideScore := rfl

theorem Junction.fixVectors_besideScore (j : Junction) (n c : Nat) (e : Ens) (force : Bool) : (j.fixVectors n c e force).besideScore = j.besideScore := by
  unfold Junction.fixVectors
  split
  · rfl
  · refine foldl_keeps Junction.besideScore _ (fun k x => ?_) _ _
    dsimp only
    split
    · rfl
    · split
      · rfl
      · split
        · rfl
        · rfl

theorem Junction.serve_besideScore (j : Junction) : j.serve.besideScore = j.besideScore := by
  refine foldl_keeps Junction.besideScore _ (fun k c => ?_) _ _
  exact (foldl_keeps Junction.besideScore _ (fun l w => foldl_keeps Junction.besideScore _ (fun i e => i.fixVectors_besideScore _ _ _ _) _ _) _ _)

theorem Junction.issueLookups_besideScore (j : Junction) (n : Nat) : (j.issueLookups n).besideScore = j.besideScore := by
  refine foldl_keeps Junction.besideScore _ (fun k c => ?_) _ _
  dsimp only
  split
  · rfl
  · refine foldl_keeps Junction.besideScore _ (fun l x => ?_) _ _
    split
    · split
      · rfl
      · rfl
    · rfl

theorem Junction.relook_besideScore (j : Junction) (m : Nat) : (j.relook m).besideScore = j.besideScore :=
  foldl_keeps Junction.besideScore _ (fun k _ => (Junction.issueLookups_besideScore _ _).trans (k.setWork_besideScore _)) _ _

/-! ### Activation (R343, R382) -/

section
variable {j : Junction} {b o : Bundle}

/-- The Junction with the bundles, the detector states, the areas and the forecast entries as given. -/
def Junction.withBundles (j : Junction) (l : List Bundle) (det : List (Nat × DetState)) (areas : Tbl Area) (fc : Tbl (Nat × Nat × Nat)) : Junction :=
  { j with bundles := l, det := det, areas := areas, fc := fc }

/-- Scoring apart, a Junction with new bundles is the one before but for what an activation changes. -/
theorem Junction.rest_of_besideScore {k : Junction} {l : List Bundle} {det : List (Nat × DetState)} {areas : Tbl Area} {fc : Tbl (Nat × Nat × Nat)}
    (h : k.besideScore = (j.withBundles l det areas fc).besideScore) :
    k.bundles = l ∧ { k with bundles := j.bundles, det := j.det, areas := j.areas, fc := j.fc, ticks := j.ticks, flights := j.flights } = j :=
  ⟨congrArg (·.bundles) h, congrArg (fun y : Junction => { y with bundles := j.bundles, det := j.det, areas := j.areas, fc := j.fc, ticks := j.ticks, flights := j.flights }) h⟩

theorem Junction.bundleActivate_replaces (h : j.bundles = [o, b]) (hne : o.id ≠ b.id) (hold : o.st = .active) (hnew : b.st = .staged) (hctx : o.ctx = b.ctx) (htypeO : o.type = 0)
    (htype : b.type = 0) (hdue : j.reached b.effective = true) (hfits : j.stillFits b = true) :
    ∃ det areas fc, j.bundleActivate b.ctx 0 = (j.withBundles [{ o with st := .retiring }, { b with st := .active }] det areas fc).relook b.effective := by
  have hstaged : j.stagedBundle b.ctx = some b := by simp [Junction.stagedBundle, h, hold, hnew, htype]
  have hactive : j.activeBundle b.ctx = some o := by simp [Junction.activeBundle, h, hold, hctx, htypeO]
  have hretired := Junction.setBundle_first (y := { o with st := .retiring }) h hne rfl
  have hplaced := Junction.setBundle_second (j := { j with bundles := [{ o with st := .retiring }, b] }) (y := { b with st := .active }) rfl hne rfl
  unfold Junction.bundleActivate
  rw [if_neg (by decide), hstaged]
  dsimp only
  rw [hdue, hfits, if_neg (by decide), if_neg (by decide), hactive]
  dsimp only
  rw [hretired, hplaced]
  exact ⟨_, _, _, rfl⟩

theorem Junction.bundleActivate_outgrown (h : j.bundles = [b]) (hst : b.st = .staged) (htype : b.type = 0) (hdue : j.reached b.effective = true) (hfits : j.stillFits b = false) :
    j.bundleActivate b.ctx 0 = { j with bundles := [b.refuse (rc 0x1A)] } := by
  have hstaged : j.stagedBundle b.ctx = some b := by simp [Junction.stagedBundle, h, hst, htype]
  unfold Junction.bundleActivate
  rw [if_neg (by decide), hstaged]
  dsimp only
  rw [hdue, hfits, if_neg (by decide), if_pos (by decide)]
  exact Junction.setBundle_one h rfl

theorem Junction.packActivate_first {t : TestPack} {c : Nat} (hstaged : j.tests.staged = some t) (hdue : j.reached t.effective = true) (htray : j.tray = false)
    (hnone : j.tests.active = none) (hempty : j.bundles = []) :
    j.bundleActivate c 1 = { j with tests := { j.tests with active := some t, staged := none } } := by
  have hwrite (k : Junction) (hk : k.tray = false) : k.writePack t = k := by
    unfold Junction.writePack
    dsimp only
    rw [hk]
    rfl
  unfold Junction.bundleActivate
  rw [if_pos rfl, hstaged]
  dsimp only
  rw [if_pos hdue, hnone]
  dsimp only
  refine (hwrite _ (by exact htray)).trans ?_
  simp only [hempty, List.map_nil]

theorem Junction.packActivate_early {t : TestPack} {c : Nat} (h : j.tests.staged = none ∨ j.tests.staged = some t ∧ j.reached t.effective = false) :
    j.bundleActivate c 1 = j := by
  unfold Junction.bundleActivate
  rw [if_pos rfl]
  obtain h | ⟨h, hearly⟩ := h
  · rw [h]
  · rw [h]
    exact if_neg (ne_true_of_eq_false hearly)

end

/-! ### Reference tables and test results (R374, R384) -/

theorem Junction.refActivate_staged {j : Junction} {k : Nat} {b : Bytes} (h : (j.refs.getD k ⟨none, none⟩).staged = some b) :
    j.refActivate k = if j.reached (rd b 0x18 8) then { j with refs := j.refs.set k ⟨some b, none⟩ } else j := by
  unfold Junction.refActivate
  rw [h]

theorem Junction.refActivate_none {j : Junction} {k : Nat} (h : (j.refs.getD k ⟨none, none⟩).staged = none) : j.refActivate k = j := by
  unfold Junction.refActivate
  rw [h]

theorem bitsSet_put {k : Nat} (h : k < 32) : bitsSet 32 (BitVec.ofNat 32 (put k 1)).toNat = [k] := by
  have hval : (BitVec.ofNat 32 (put k 1)).toNat = 2 ^ k := by
    rw [BitVec.toNat_ofNat, put, Nat.one_shiftLeft, Nat.mod_eq_of_lt (Nat.pow_lt_pow_right (by decide) h)]
  rw [hval]
  interval_cases k <;> decide

theorem Junction.testCollect_one {j : Junction} {t : TestPack} {k : Nat} (hactive : j.tests.active = some t) (htray : j.tray = true)
    (hdue : j.reached (rd t.section_ 8 8 + rd t.section_ 0x10 4) = true) (hk : k < 32) (hwritten : j.tests.written = BitVec.ofNat 32 (put k 1))
    (hport : (j.port k).st = .active) :
    j.testCollect = j.request k .test ((List.range 8).map (fun i => (⟨1, 0x240 + i, 0, 0⟩ : CfgOp))) := by
  unfold Junction.testCollect
  rw [hactive]
  dsimp only
  rw [htray, hdue, if_pos (by decide), hwritten, bitsSet_put hk]
  exact if_pos hport

theorem Junction.testCollect_idle {j : Junction} (h : j.tests.active = none ∨ j.tray = false) : j.testCollect = j := by
  unfold Junction.testCollect
  split
  · next t ht =>
    obtain h | h := h
    · rw [h] at ht
      cases ht
    · rw [h]
      rfl
  · rfl

theorem onScore_next (f : Junction → Junction) (s : State) (h : s.jn.boot.porst = false) : onScore f s = .next { s with jn := (f s.jn).serve } := onJn_next _ s h

/-- Settles O20, event by event. -/
theorem bundleEvents : Obligations.BundleEvents := by
  unfold Obligations.BundleEvents
  refine ⟨?chunk, ?noChunk, ?verify, ?verified, ?timeout, ?activate, ?outgrown, ?pack, ?packEarly, ?ref, ?noRef, ?collect, ?idle⟩
  case chunk =>
    intro s p g x c b hp htray hbox hc hone hid hst hnext hlater hcount hin b'
    rw [exec_bundleChunkReceived, onJn_next _ _ hp, Junction.chunkReceived_continues hbox hc htray hone hid hst hnext hlater hcount hin]
    rfl
  case noChunk =>
    intro s p x hbox
    rw [exec_bundleChunkReceived, onJn, Junction.chunkReceived_none hbox, ite_self]
  case verify =>
    intro s b hp hone hst
    refine ⟨fun hnot => ?_, ?_⟩
    · rw [exec_bundleVerifyComplete, onJn_next _ _ hp, Junction.bundleVerify_notHere hone hst hnot]
    · intro hlevel hentry htype out refused staged opened j
      rw [exec_bundleVerifyComplete, onJn_next _ _ hp, Junction.bundleVerify_here hone hst hlevel hentry htype]
      have hopened (plain : Bytes) : opened plain = { s.jn with bundles := [b.opened s.jn plain] } := by
        unfold opened staged Bundle.opened
        cases bundleDirBad 0 (rd b.data 0x28 4) plain with
        | some o => rfl
        | none =>
          dsimp only
          cases s.jn.ahead b.effective
          · rfl
          · cases s.jn.modelCheck { b with plain := plain } with
            | inl r => rfl
            | inr p => rfl
      unfold j
      cases bundleSigOk s.jn.sec b.data
      · rfl
      · cases bundleOpen s.jn.sec s.jn.id b.data with
        | none => rfl
        | some plain => exact congrArg (fun k : Junction => Host.Outcome.next { s with jn := k }) (hopened plain).symm
  case verified =>
    intro s b hone hst
    rw [exec_bundleVerifyComplete, onJn, Junction.bundleVerify_other hone hst, ite_self]
  case timeout =>
    intro s b hp hone hst
    rw [exec_bundleIncompleteTimeout, onJn_next _ _ hp, Junction.bundleTimeout_one hone hst]
  case activate =>
    intro s b o hp hbundles hne hold hnew hctx htypeO htype hdue hfits
    obtain ⟨det, areas, fc, hactivate⟩ := Junction.bundleActivate_replaces hbundles hne hold hnew hctx htypeO htype hdue hfits
    refine ⟨_, (exec_bundleActivation b.ctx 0 s).trans (onScore_next _ _ hp), ?_⟩
    have hserved := (Junction.serve_besideScore _).trans ((congrArg Junction.besideScore hactivate).trans (Junction.relook_besideScore _ _))
    exact Junction.rest_of_besideScore hserved
  case outgrown =>
    intro s b hp hone hst htype hdue hfits
    rw [exec_bundleActivation, onScore_next _ _ hp, Junction.bundleActivate_outgrown hone hst htype hdue hfits]
    rfl
  case pack =>
    intro s t c hp hstaged hdue htray hnone hempty
    rw [exec_bundleActivation, onScore_next _ _ hp, Junction.packActivate_first hstaged hdue htray hnone hempty]
  case packEarly =>
    intro s c t hp h
    rw [exec_bundleActivation, onScore_next _ _ hp, Junction.packActivate_early h]
  case ref =>
    intro s k b hp _ hstaged
    rw [exec_refTableActivate, onJn_next _ _ hp, Junction.refActivate_staged hstaged]
  case noRef =>
    intro s k h
    rw [exec_refTableActivate, onJn, Junction.refActivate_none h, ite_self]
  case collect =>
    intro s t k hp htray hactive hdue hk hwritten hport
    rw [exec_testResultCollect, onJn_next _ _ hp, Junction.testCollect_one hactive htray hdue hk hwritten hport]
  case idle =>
    intro s h
    rw [exec_testResultCollect, onJn, Junction.testCollect_idle h, ite_self]

end Sys2Proof.Machine
